-- ==== Sys2Proof/Word.lean ====
section
/-! DEFINITION. The word types of the H24 model: bytes, and the numbers of outlets and ring pairs. -/

namespace Sys2Proof

/-- One byte. -/
abbrev Byte := BitVec 8

/-- A run of bytes, lowest offset first (R4). -/
abbrev Bytes := List Byte

/-- An outlet number, 0 to 23 (00, Names). -/
abbrev ONum := Fin 24

/-- A ring pair number, RP0 to RP15 (00, Names). -/
abbrev PNum := Fin 16

end Sys2Proof
end

