-- ==== Sys2Proof/Config.lean ====
section
/-! DEFINITION. What one part fixes for good, and the values the spec leaves open. None of these has a body: nothing can
be proved about a value of one, so a statement about them holds for every part and every choice. -/

namespace Sys2Proof

/-- The part is an MZH24-1521-IN (HPC_ID1.VARIANT = 1). Log entry 10. -/
opaque Config.variantIN : Bool

/-- The 64-bit device identity in fuses. Log entry 10. -/
opaque Config.uid : BitVec 64

/-- Production lot number. Log entry 10. -/
opaque Config.lot : BitVec 32

/-- Production year and week. Log entry 10. -/
opaque Config.date : BitVec 16

/-- Boot ROM version. Log entry 10. -/
opaque Config.romVersion : BitVec 8

/-- Free values: the value drawn when State.free is `n`. Log entry 8. -/
opaque Config.free : Nat → Nat

/-- SHA-256. Uninterpreted; log entry 6. -/
opaque Config.sha256 : Bytes → Bytes

/-- AES-CMAC of a message under key material. Uninterpreted; log entry 6. -/
opaque Config.cmac : Bytes → Bytes → Bytes

/-- FF1 decryption of decimal digits under key material and a tweak. Uninterpreted; log entry 6. -/
opaque Config.ff1Decrypt : Bytes → Bytes → List Nat → List Nat

/-- Verification of a signature over a message under a public key. Uninterpreted; log entry 6. -/
opaque Config.verify : Bytes → Bytes → Bytes → Bool

/-- SHA-384. Uninterpreted; log entry 6. -/
opaque Config.sha384 : Bytes → Bytes

/-- The factory key of slot 3, held in fuses (R689). Log entry 10. -/
opaque Config.fuseKey : Bytes

/-- AES-KWP unwrapping: key, wrapped key. Uninterpreted; log entry 6. -/
opaque Config.kwp : Bytes → Bytes → Option Bytes

/-- ECDH on P-384: private key, public key; the x-coordinate. Uninterpreted; log entry 6. -/
opaque Config.ecdh : Bytes → Bytes → Bytes

/-- The public key that a DER certificate certifies. Uninterpreted; log entry 6. -/
opaque Config.certKey : Bytes → Bytes

/-- The network identifier that HomePlug Green PHY derives from a network membership key. Uninterpreted; log entry 6. -/
opaque Config.nid : Nat → Nat

/-- AES-128 encryption of one block: key, block. Uninterpreted; log entry 6. -/
opaque Config.aes : Bytes → Bytes → Bytes

/-- The last-state record of the service tag, whose layout the spec does not give: an outlet's 16 bytes from state, cause, session
and energy, the site's from its flags and the time. Log entry 29. -/
opaque Config.tagState : List Nat → Bytes

/-- Ledger records in one erase block of the ledger area, less one. Log entry 10. -/
opaque Config.ledgerBlock : Nat

/-- The 64 payload bytes of ACCOUNT, VOUCHER and BINDING records, by TYPE and content: the spec gives no layout. Log entry 23. -/
opaque Config.creditRecord : Nat → List Int → Bytes

/-- A DLMS response before ciphering and blocks: client, and the result and values of each item. The encoding is that of IEC 62056,
which the spec does not repeat. Uninterpreted; log entry 26. -/
opaque Config.dlmsResponse : Nat → List (Nat × List Int) → Bytes

/-- A DLMS response with a datablock as the bytes that follow its wrapper header: client, last block, block number, data. Log entry 26. -/
opaque Config.dlmsBlock : Nat → Bool → Nat → Bytes → Bytes

/-- The capture objects of a profile by its OBIS code: the spec lists the columns and no OBIS codes of theirs. Log entry 26. -/
opaque Config.captureObjects : Nat → List Int

/-- GMAC of HLS mechanism 5: encryption key, authentication key, challenge. Uninterpreted; log entry 6. -/
opaque Config.gmac : Bytes → Bytes → Bytes → Bytes

/-- AES-CCM with a MIC of 8 bytes: key material, nonce, authenticated header, payload. Uninterpreted; log entry 6. -/
opaque Config.ccm : Bytes → Bytes → Bytes → Bytes → Bytes

/-- The ROM font of the panel: whether a hexadecimal digit lights the pixel at a row below 20 and a column below 16 of its cell. The
spec does not give its shapes. Log entry 8. -/
opaque Config.font : Nat → Nat → Nat → Bool

/-- The public key of a private key: TYPE of R587, material. Uninterpreted; log entry 6. -/
opaque Config.publicOf : Nat → Bytes → Bytes

/-- Bytes of key material that the NAND blob has room for. Log entry 10. -/
opaque Config.keyRoom : Nat

/-- The fractional-delay filter of R307: delay in ns, the samples at its input, newest first. The spec gives the delay and no
coefficients; log entry 21. -/
opaque Config.delayed : Int → List Int → Int

/-- The servo's frequency estimate in 0.001 ppb after a measured offset in ns, from the estimate before (R509). Uninterpreted; log entry
28. -/
opaque Config.servo : Int → Int → Int

/-- TRIM as the H24 learns it from the RTC's rate against PTP, from TRIM before and the measured offset (R391). Uninterpreted; log entry 28. -/
opaque Config.learnTrim : Int → Int → Int

/-- The results of a maintenance activity as bytes: its code and its values (20 R632). The spec gives their order and units, not their sizes:
uninterpreted; log entry 32. -/
opaque Config.maReport : Nat → List Int → Bytes

end Sys2Proof
end

