-- ==== Sys2Proof/Machine/Bytes.lean ====
section
/-! DEFINITION. Bit fields, little-endian fields (R4), two's complement, sparse memory in canonical form, CRC-32C. -/

namespace Sys2Proof.Machine

/-- Bit `i` of `n`. -/
def bit (n i : Nat) : Bool := n.testBit i

/-- 1 for true, 0 for false. -/
def b2n (b : Bool) : Nat := if b then 1 else 0

/-- Bits [lo + w - 1 : lo] of `n`. -/
def field (n lo w : Nat) : Nat := n / 2 ^ lo % 2 ^ w

/-- `n` with bit `i` set to `b`. -/
def putBit (n i : Nat) (b : Bool) : Nat :=
  if n.testBit i = b then n else if b then n + 2 ^ i else n - 2 ^ i

/-- The bits of `n` below `w` that `m` selects, cleared. -/
def clearBits (n m : Nat) : Nat := n - (n &&& m)

/-- `n` as `k` bytes, least significant first (R4). -/
def toLE : Nat → Nat → Bytes
  | 0, _ => []
  | k + 1, n => BitVec.ofNat 8 n :: toLE k (n / 256)

/-- The number whose bytes, least significant first, are given (R4). -/
def ofLE : Bytes → Nat
  | [] => 0
  | b :: t => b.toNat + 256 * ofLE t

/-- The number whose bytes, most significant first, are given. -/
def ofBE (l : Bytes) : Nat := ofLE l.reverse

/-- Field of `k` bytes at offset `off`. -/
def fld (p : Bytes) (off k : Nat) : Nat := ofLE ((p.drop off).take k)

/-- Byte at offset `off`, 0 beyond the end. -/
def u8 (p : Bytes) (off : Nat) : Nat := fld p off 1

/-- 16-bit field. -/
def u16 (p : Bytes) (off : Nat) : Nat := fld p off 2

/-- 32-bit field. -/
def u32 (p : Bytes) (off : Nat) : Nat := fld p off 4

/-- `n` read as a two's complement number of `w` bits. -/
def asSigned (w n : Nat) : Int :=
  if n % 2 ^ w < 2 ^ (w - 1) then ((n % 2 ^ w : Nat) : Int) else ((n % 2 ^ w : Nat) : Int) - (2 : Int) ^ w

/-- The low `w` bits of the two's complement of `i`. -/
def ofSigned (w : Nat) (i : Int) : Nat := (i % ((2 : Int) ^ w)).toNat

/-- Signed field of `k` bytes at offset `off`. -/
def sfld (p : Bytes) (off k : Nat) : Int := asSigned (8 * k) (fld p off k)

/-- A signed number as `k` bytes. -/
def toLEs (k : Nat) (i : Int) : Bytes := toLE k (ofSigned (8 * k) i)

/-- `i` held within `lo` and `hi`. -/
def clampI (lo hi i : Int) : Int := if i < lo then lo else if hi < i then hi else i

/-- Counter `n` of `w` bits after one more count, holding at its top value. -/
def satInc (w n : Nat) : Nat := if n + 1 < 2 ^ w then n + 1 else 2 ^ w - 1

/-- Counter of `w` bits after one more count, wrapping. -/
def wrapInc (w n : Nat) : Nat := (n + 1) % 2 ^ w

/-- `p` with the bytes `v` laid over offset `off`; bytes beyond the end of `p` are dropped. -/
def overlay (p : Bytes) (off : Nat) (v : Bytes) : Bytes :=
  (p.take off ++ v ++ p.drop (off + v.length)).take p.length

/-- `p` cut or filled with zeros to `k` bytes. -/
def padTo (k : Nat) (p : Bytes) : Bytes := (p ++ List.replicate (k - p.length) 0).take k

/-- Reserved bytes. -/
def zeros (k : Nat) : Bytes := List.replicate k 0

/-- Every bit of `n` at or above `w` is 0. -/
def fitsIn (w n : Nat) : Bool := decide (n < 2 ^ w)

/-- The numbers below `k` whose bit is set in `m`. -/
def bitsOf (k m : Nat) : List Nat := (List.range k).filter fun i => m.testBit i

/-- The mask of a list of bit numbers. -/
def maskOf (l : List Nat) : Nat := l.foldl (fun m i => m ||| 2 ^ i) 0

/-- The mask whose bit `i` is entry `i` of the list. -/
def maskOfBools : List Bool → Nat
  | [] => 0
  | b :: t => b2n b + 2 * maskOfBools t

/-- A vector with `f` applied to every entry. -/
def vmap {α β : Type} {n : Nat} (f : α → β) (v : Vector α n) : Vector β n :=
  ⟨⟨v.toList.map f⟩, by simp⟩

/-- A vector with `f` applied to every entry and its number. -/
def vmapi {α β : Type} {n : Nat} (f : Nat → α → β) (v : Vector α n) : Vector β n :=
  ⟨⟨v.toList.mapIdx f⟩, by simp⟩

/-- Entry `i` of a list, replaced. -/
def setAt {α : Type} (l : List α) (i : Nat) (x : α) : List α := l.set i x

/-- Entry `i` of a list, changed. -/
def modAt {α : Type} (l : List α) (i : Nat) (f : α → α) : List α :=
  match l[i]? with
  | some x => l.set i (f x)
  | none => l

/-- Association list lookup. -/
def lookupD {β : Type} (l : List (Nat × β)) (k : Nat) (d : β) : β :=
  match l.find? fun e => e.1 == k with
  | some e => e.2
  | none => d

/-- Association list update: the entry of `k` moves to the front with value `v`. -/
def assocPut {β : Type} (l : List (Nat × β)) (k : Nat) (v : β) : List (Nat × β) :=
  (k, v) :: l.filter fun e => e.1 != k

/-- Association list removal. -/
def assocDel {β : Type} (l : List (Nat × β)) (k : Nat) : List (Nat × β) :=
  l.filter fun e => e.1 != k

/-- The last `k` entries of a list. -/
def lastN {α : Type} (k : Nat) (l : List α) : List α := l.drop (l.length - k)

/-- The largest entry of a list, 0 for an empty one. -/
def maxOf (l : List Nat) : Nat := l.foldl max 0

/-- `x` put before the first entry that it precedes. -/
def insertBy {α : Type} (le : α → α → Bool) (x : α) : List α → List α
  | [] => [x]
  | y :: t => if le x y then x :: y :: t else y :: insertBy le x t

/-- A list sorted; equal entries keep their order. -/
def sortBy {α : Type} (le : α → α → Bool) (l : List α) : List α := l.foldr (insertBy le) []

/-- Three 16-bit fields from `off` on: L1, L2 and L3. -/
def fld3 (p : Bytes) (off : Nat) : List Nat := [u16 p off, u16 p (off + 2), u16 p (off + 4)]

/-- Three 16-bit fields as bytes. -/
def toLE3 (l : List Nat) : Bytes := toLE 2 (l.getD 0 0) ++ toLE 2 (l.getD 1 0) ++ toLE 2 (l.getD 2 0)

/-- Two lists of three added. -/
def add3 (a b : List Nat) : List Nat := (List.range 3).map fun i => a.getD i 0 + b.getD i 0

/-- Two lists of three subtracted, not below 0. -/
def sub3 (a b : List Nat) : List Nat := (List.range 3).map fun i => a.getD i 0 - b.getD i 0

/-- Sum of a list of integers. -/
def sumI (l : List Int) : Int := l.foldl (· + ·) 0

/-- Square root, rounded down, of a number below 2^128. -/
def isqrt (n : Nat) : Nat :=
  (List.range 64).foldr (fun k r => if (r + 2 ^ k) * (r + 2 ^ k) ≤ n then r + 2 ^ k else r) 0

/-- The sum of the squares of some samples. -/
def sqSum (l : List Int) : Nat := l.foldl (fun a x => a + x.natAbs ^ 2) 0

/-- The bytes of an ASCII text. -/
def ascii (t : String) : Bytes := t.toList.map fun c => BitVec.ofNat 8 c.toNat

end Sys2Proof.Machine

namespace Sys2Proof.Machine

/-- Byte-addressed memory: addresses strictly rising, no entry equal to 0, which is what an unlisted address reads as. -/
abbrev Memory := List Host.Cell

/-- The canonical form above address `lo`. -/
def Memory.wfFrom : Nat → Memory → Bool
  | _, [] => true
  | lo, (a, b) :: t => decide (lo ≤ a) && b != 0 && Memory.wfFrom (a + 1) t

/-- The canonical form of a memory. -/
def Memory.wf (m : Memory) : Bool := Memory.wfFrom 0 m

/-- What address `a` reads as; 0 where nothing is listed. -/
def Memory.read : Memory → Nat → Byte
  | [], _ => 0
  | (x, b) :: t, a => if x = a then b else if a < x then 0 else Memory.read t a

/-- Memory with byte `b` written at `a`; writing 0 removes the entry. -/
def Memory.write : Memory → Nat → Byte → Memory
  | [], a, b => if b = 0 then [] else [(a, b)]
  | (x, y) :: t, a, b =>
    if a < x then (if b = 0 then (x, y) :: t else (a, b) :: (x, y) :: t)
    else if a = x then (if b = 0 then t else (a, b) :: t)
    else (x, y) :: Memory.write t a b

/-- `k` bytes from address `a` on. -/
def Memory.readN (m : Memory) (a : Nat) : Nat → Bytes
  | 0 => []
  | k + 1 => Memory.read m a :: Memory.readN m (a + 1) k

/-- Memory with bytes written from address `a` on. -/
def Memory.writeN (m : Memory) (a : Nat) : Bytes → Memory
  | [] => m
  | b :: t => Memory.writeN (Memory.write m a b) (a + 1) t

/-- One bit of the reflected CRC-32C. -/
def crcBit (c : Nat) : Nat := if c % 2 = 1 then (c / 2) ^^^ 0x82F63B78 else c / 2

/-- One byte of the reflected CRC-32C. -/
def crcByte (c : Nat) (b : Byte) : Nat :=
  crcBit (crcBit (crcBit (crcBit (crcBit (crcBit (crcBit (crcBit (c ^^^ b.toNat))))))))

/-- One bit of the reflected CRC-32 of Ethernet. -/
def fcsBit (c : Nat) : Nat := if c % 2 = 1 then (c / 2) ^^^ 0xEDB88320 else c / 2

/-- The FCS of an Ethernet frame (R503). PRESUMED: the CRC-32 of IEEE 802.3; log entry 28. -/
def fcsOf (p : Bytes) : Nat :=
  (p.foldl (fun c b => fcsBit (fcsBit (fcsBit (fcsBit (fcsBit (fcsBit (fcsBit (fcsBit (c ^^^ b.toNat))))))))) 0xFFFFFFFF) ^^^ 0xFFFFFFFF

/-- CRC-32C. PRESUMED: the polynomial, the start value, the reflection and the final inversion of the published CRC-32C; log entry 7. -/
def crc32c (p : Bytes) : Nat := (p.foldl crcByte 0xFFFFFFFF) ^^^ 0xFFFFFFFF

end Sys2Proof.Machine
end

