-- ==== Sys2Proof/Syntax.lean ====
section
/-! DEFINITION. The commands and events of the H24, one constructor per row of the table of operations and events. -/

namespace Sys2Proof

/-- A submission on a ring pair (03, Entries): the tag the host chose, whether it came as a chain of entries (R78), the
payload of all its entries joined, and the bulk descriptor BOFF and BLEN where BULK is set. -/
structure Req where
  tag : Nat
  chain : Bool := false
  payload : Bytes := []
  bulk : Option (Nat × Nat) := none
  deriving DecidableEq, Repr

/-- The preamble of a pilot-line frame as a front end reports it (R153): the outlet, the start time in ticks of 13.3 ns and the level in
0.5 dB. -/
structure Preamble where
  outlet : Nat
  start : Nat
  level : Nat
  deriving DecidableEq, Repr

/-- A sound of a SLAC run on one front end (R161): the outlet, its level in the 58 carrier groups in dBm/Hz, and whether another frame
overlaps it there. -/
structure Sound where
  outlet : Nat
  levels : List Int := []
  mixed : Bool := false
  deriving DecidableEq, Repr

/-- An X.509 certificate that the EV sends, decoded: the bytes its issuer signed, the signature, the public key, whether its key usage
is the one its place in the chain needs, and its validity period in ms TAI. -/
structure Cert where
  tbs : Bytes := []
  sig : Bytes := []
  pub : Bytes := []
  usage : Bool := true
  notBefore : Nat := 0
  notAfter : Nat := 0
  deriving DecidableEq, Repr

/-- A type A card in the field (R530): its UID, whether its SAK has bit 0x20 set, and the highest bit rate it supports, coded as MAXRATE. -/
structure Card where
  uid : Bytes
  part4 : Bool := false
  rate : Nat := 0
  deriving DecidableEq, Repr

/-- An Ethernet frame (R503, R505): destination and source address, the 802.1Q tag as VID and PCP, the EtherType, what follows it, and the
FCS received. -/
structure EthFrame where
  dst : Nat
  src : Nat
  tag : Option (Nat × Nat) := none
  type : Nat
  body : Bytes := []
  fcs : Nat
  deriving DecidableEq, Repr

/-- What a PTP message says (R506, R510): times in ns TAI, the clockIdentity of the requester an answer is for. -/
inductive PtpMsg where
  /-- Announce: priority1, clockClass, clockAccuracy, variance, priority2, grandmaster identity, steps removed, currentUtcOffset, whether
  it is valid, whether a leap second is pending -/
  | announce (prio1 cls acc var prio2 gm steps utc : Nat) (utcValid leap : Bool)
  /-- Sync with its origin timestamp -/
  | sync (origin : Nat) (twoStep : Bool)
  /-- Follow_Up -/
  | followUp (origin : Nat)
  /-- Delay_Req -/
  | delayReq
  /-- Delay_Resp: receive timestamp, requester -/
  | delayResp (receive dest : Nat)
  /-- Pdelay_Req -/
  | pdelayReq
  /-- Pdelay_Resp: request receipt timestamp, requester -/
  | pdelayResp (receive : Nat) (twoStep : Bool) (dest : Nat)
  /-- Pdelay_Resp_Follow_Up: response origin timestamp, requester -/
  | pdelayFollowUp (origin dest : Nat)
  deriving DecidableEq, Repr

/-- A PTP message as port 2 gets it (R506, R507): the port, whether over UDP/IPv4, domain, source clockIdentity, sequenceId,
correctionField in ns, the receive timestamp at the MAC–PHY boundary in ns TAI, and what it says. -/
structure PtpRx where
  port : Nat
  udp : Bool := false
  dom : Nat := 0
  src : Nat
  seq : Nat := 0
  corr : Int := 0
  rx : Nat := 0
  msg : PtpMsg
  deriving DecidableEq, Repr

/-- The cipher suites of R151. -/
inductive Suite where
  /-- TLS_ECDHE_ECDSA_WITH_AES_128_CBC_SHA256 -/
  | ecdheCbc
  /-- TLS_ECDH_ECDSA_WITH_AES_128_CBC_SHA256 -/
  | ecdhCbc
  /-- TLS_AES_256_GCM_SHA384 -/
  | gcm
  deriving DecidableEq, Repr

/-- What the EV offers for a TLS connection (R151): cipher suites, and its certificate chain, leaf first, where it offers PnC. -/
structure Hello where
  suites : List Suite := []
  chain : Option (List Cert) := none
  deriving DecidableEq, Repr

/-- The V2G requests of the EV (R150) that no row of their own carries. -/
inductive V2gMsg where
  /-- SessionSetupReq -/
  | setup
  /-- ServiceDiscoveryReq, AuthorizationSetupReq -/
  | services
  /-- ServiceDetailReq: 0 AC, 1 AC_BPT, 2 certificate service, others value-added services -/
  | detail (service : Nat)
  /-- PaymentServiceSelectionReq: contract or EIM -/
  | payment (contract : Bool)
  /-- PaymentDetailsReq, or AuthorizationReq with PnC: the EMAID and the contract certificate chain, leaf first -/
  | contract (emaid : Bytes) (chain : List Cert)
  /-- AuthorizationReq -/
  | authorization
  /-- ChargeParameterDiscoveryReq (AC): EVMaxCurrent in 0.1 A, EVMaximumChargePower and EVMaximumDischargePower in W -/
  | parameters (current charge discharge : Nat)
  /-- ScheduleExchangeReq -/
  | schedule
  /-- PowerDeliveryReq with Start -/
  | start
  /-- ChargingStatusReq, AC_ChargeLoopReq -/
  | loop
  /-- MeteringReceiptReq, MeteringConfirmationReq -/
  | metering
  /-- a message of the parts that R150 does not support -/
  | unsupported
  deriving DecidableEq, Repr

/-- Selective access to a profile (R416): by clock, or by entry from 1 on with 0 for the last; the columns selected, from 1 on, none for all. -/
inductive DlSel where
  | range (lo hi : Nat) (cols : List Nat)
  | entry (first last : Nat) (cols : List Nat)
  deriving DecidableEq, Repr

/-- One item of a GET (R416). -/
structure DlItem where
  ic : Nat
  obis : Nat
  attr : Nat
  sel : Option DlSel := none
  deriving DecidableEq, Repr

/-- A GET (R416): normal or with-list, or get-next with its block number. -/
inductive DlGet where
  | items (l : List DlItem)
  | next (block : Nat)
  deriving DecidableEq, Repr

/-- One item of a SET (R416), its value whole: the blocks of a SET with-datablock are put together. -/
structure DlWrite where
  ic : Nat
  obis : Nat
  attr : Nat
  val : Bytes
  deriving DecidableEq, Repr

/-- The authentication of an AARQ (R419): its mechanism, the client's answer to the challenge, and with mechanism 7 its certificate chain, leaf
first. -/
structure Hls where
  mech : Nat := 0
  proof : Bytes := []
  chain : List Cert := []
  deriving DecidableEq, Repr

/-- What the steps of a residual current self-test measure (R207): the mean DC estimate of step 1, the AC rms of step 2, 0.1 mA, whether
the apex latch set within 1 µs in step 3, and DC and AC without injection in step 4. -/
structure RcdMeas where
  dc : Int := 100
  ac : Nat := 200
  apex : Bool := true
  offDc : Int := 0
  offAc : Nat := 0
  deriving DecidableEq, Repr

/-- What the work of a maintenance activity measures (20, table of activities). -/
inductive MaMeas where
  /-- MA_RCDTEST: DC level in 0.1 mA, DC_FAST time in ms, AC level in 0.1 mA, whether the apex latch set -/
  | rcd (dc fast ac : Nat) (apex : Bool)
  /-- MA_WELDTEST: presence in the first 100 ms, KHS, KLS and coil current in steps a and b of the pair test, KFB time in ms, presence bitmaps
  50 ms after closing and in the weld window -/
  | weld (before : Nat) (a b : Nat × Nat × Nat) (kfb pres after : Nat)
  /-- MA_SSWTEST: ready time in µs, whether the apex latch set, fall time in ns -/
  | ssw (ready : Nat) (apex : Bool) (fall : Nat)
  /-- MA_METROCAL, mode 0: what each phase integrated -/
  | reference (vals : List (List Int))
  /-- MA_METROCAL, mode 1: DG and DP of each channel after the window -/
  | window (terms : List (Int × Int))
  /-- MA_PILOTCAL: offsets at the six levels, 10 mV -/
  | pilot (offs : List Int)
  /-- MA_LINECAL: whether the loopback ran, gain and offset of each channel -/
  | loop (ok : Bool) (terms : List (Int × Int))
  /-- MA_NANDREFRESH: pages read, pages rewritten -/
  | nand (read rewritten : Nat)
  /-- MA_PANELSCAN: the dead pixels -/
  | panel (dead : List Nat)
  /-- MA_LAMPTEST: current of each lamp channel of the bank, 0.5 mA -/
  | lamp (cur : List Nat)
  deriving DecidableEq, Repr

/-- What the outside world supplies to one start (R649): which primaries and alternatives of the steps fail, which PLLs do
not lock, the crystals, the SVCBOOT strap, the supplies, the offsets measured at ST9 (R316), and what the self-test of each outlet and its
repeat measure (R207), and the GEN of a ledger record that fails for good (`break_`) or at its first read (`reread`, R390). -/
structure StartInput where
  fail : Nat := 0
  altFail : Nat := 0
  pllBad : Nat := 0
  lfxo : Bool := true
  svcboot : Bool := false
  vsup : Nat := 1200
  vkc : Nat := 2400
  vbak : Nat := 3000
  vbnk : List Nat := [2400, 2400, 2400, 2400]
  offs : List Int := []
  afeBad : List Nat := []
  laneBad : List Nat := []
  lineBad : List Nat := []
  phyBad : List Nat := []
  break_ : Nat := 0
  reread : Nat := 0
  rcd : List (RcdMeas × RcdMeas) := []
  deriving DecidableEq, Repr

/-- What one receive channel of the mains modem takes in of a frame (R468, R488): the SNR of its preamble in dB and the weight that the
preamble gives each of the 38 carriers, its samples from the first of the preamble on and the positions of clipped ones, and the SNR of the frame
and of its carriers in each sector. -/
structure LineChan where
  psnr : Nat := 0
  weights : List Nat := []
  samples : List Int := []
  clipped : List Nat := []
  snr : Nat := 0
  carriers : List Nat := []
  deriving DecidableEq, Repr

/-- A mains modem frame as the physical layer delivers it (R474, R475, R488): the fields of its FCH and PSDU, whether FCS,
MIC and first RS block are good, the SNR after combining, the sectors that hold symbols of too low SNR, or in a NACK those of its bitmap, and
those that hold any, the gain that its preamble set, and what channels MC1 to MC3 took in. `carriers` is the SNR in dB of the 38 carriers in each of the 8 sectors. `acks` says of an ACK or NACK that it names the frame last
sent. `fcs` is bits [15:0] of the FCS, `angle` the H24's own sector angle at the instant ANG0 refers to, in 360° / 65,536. -/
structure LineFrame where
  ftype : Nat := 0
  fcsOk : Bool := true
  headOk : Bool := true
  netid : Nat
  dst : Nat
  src : Nat
  seq : Nat := 0
  type : Nat := 0
  sec : Bool := false
  micOk : Bool := true
  fcnt : Nat := 0
  ackreq : Bool := false
  mode : Nat := 0
  mapst : Nat := 0
  ang0 : Nat := 0
  per : Nat := 5000
  snr : Nat := 0
  sectors : Nat := 0
  spans : Nat := 255
  gain : Nat := 0
  chans : List LineChan := []
  acks : Bool := true
  fcs : Nat := 0
  angle : Nat := 0
  carriers : List Nat := []
  body : Bytes := []
  deriving DecidableEq, Repr

/-- The commands and events of the H24: one constructor per row of the table of operations and events. A row of an
event carries what the outside world supplies (a measurement, a frame, which side of a choice comes about); a row of a
mailbox command carries the submission. The mailbox commands come first, because compiled code can build only the
first constructors of so large a type, and consuming a submission builds them; the DLMS requests that a pause holds follow. Each line names its row's rule. -/
inductive Instr where
  /-- R89 -/
  | sysVersion (q : Req)
  /-- R90 -/
  | sysIdentity (q : Req)
  /-- R91 -/
  | sysPowerGet (q : Req)
  /-- R92 -/
  | sysPowerSet (q : Req)
  /-- R94 -/
  | sysDomainSet (q : Req)
  /-- R95 -/
  | sysTimeSnapshot (q : Req)
  /-- R96 -/
  | sysSeqQuery (q : Req)
  /-- R97 -/
  | sysLoopback (q : Req)
  /-- R142 -/
  | outletConfigSet (q : Req)
  /-- R143 -/
  | outletConfigGet (q : Req)
  /-- R144 -/
  | outletStatusGet (q : Req)
  /-- R145 -/
  | outletAuth (q : Req)
  /-- R146 -/
  | outletStop (q : Req)
  /-- R147 -/
  | outletService (q : Req)
  /-- R148 -/
  | outletUnlock (q : Req)
  /-- R177 -/
  | hlcConfigSet (q : Req)
  /-- R177 -/
  | hlcConfigGet (q : Req)
  /-- R178 -/
  | hlcSlacSet (q : Req)
  /-- R179 -/
  | hlcStatusGet (q : Req)
  /-- R180 -/
  | hlcExportSet (q : Req)
  /-- R181 -/
  | hlcCertFetch (q : Req)
  /-- R182 -/
  | hlcCertReply (q : Req)
  /-- R183 -/
  | hlcStatsGet (q : Req)
  /-- R213 -/
  | protConfigSet (q : Req)
  /-- R214 -/
  | protConfigGet (q : Req)
  /-- R215 -/
  | protStatusGet (q : Req)
  /-- R216 -/
  | protSelftest (q : Req)
  /-- R251 -/
  | safeStatusGet (q : Req)
  /-- R252 -/
  | safeConfigRead (q : Req)
  /-- R253 -/
  | safeConfigWrite (q : Req)
  /-- R254 -/
  | safeConfirm (q : Req)
  /-- R255 -/
  | safeModeSet (q : Req)
  /-- R256 -/
  | safePasswordSet (q : Req)
  /-- R257 -/
  | safeLogRead (q : Req)
  /-- R258 -/
  | safeWeldResolve (q : Req)
  /-- R259 -/
  | safeSiteSet (q : Req)
  /-- R285 -/
  | budConfigSet (q : Req)
  /-- R285 -/
  | budConfigGet (q : Req)
  /-- R286 -/
  | budOutletSet (q : Req)
  /-- R286 -/
  | budOutletGet (q : Req)
  /-- R287 -/
  | budStatusGet (q : Req)
  /-- R288 -/
  | budExtload (q : Req)
  /-- R289 -/
  | budStepAt (q : Req)
  /-- R290 -/
  | latConfigSet (q : Req)
  /-- R290 -/
  | latConfigGet (q : Req)
  /-- R291 -/
  | latStatusGet (q : Req)
  /-- R326 -/
  | metroConfigSet (q : Req)
  /-- R326 -/
  | metroConfigGet (q : Req)
  /-- R327 -/
  | metroScaleSet (q : Req)
  /-- R327 -/
  | metroScaleGet (q : Req)
  /-- R328 -/
  | metroCalWrite (q : Req)
  /-- R328 -/
  | metroCalRead (q : Req)
  /-- R329 -/
  | metroTableWrite (q : Req)
  /-- R329 -/
  | metroTableRead (q : Req)
  /-- R330 -/
  | metroCalDigest (q : Req)
  /-- R331 -/
  | metroCalCommit (q : Req)
  /-- R332 -/
  | metroCalRevert (q : Req)
  /-- R333 -/
  | metroChStatus (q : Req)
  /-- R334 -/
  | metroLineGet (q : Req)
  /-- R335 -/
  | metroRaw (q : Req)
  /-- R368 -/
  | energyConfigSet (q : Req)
  /-- R368 -/
  | energyConfigGet (q : Req)
  /-- R369 -/
  | energyRead (q : Req)
  /-- R370 -/
  | energyInstant (q : Req)
  /-- R371 -/
  | energyLatchNow (q : Req)
  /-- R372 -/
  | pqLogRead (q : Req)
  /-- R373 -/
  | waveList (q : Req)
  /-- R374 -/
  | waveExport (q : Req)
  /-- R375 -/
  | waveTrigger (q : Req)
  /-- R376 -/
  | tamperStatus (q : Req)
  /-- R377 -/
  | tamperClear (q : Req)
  /-- R406 -/
  | billConfigSet (q : Req)
  /-- R406 -/
  | billConfigGet (q : Req)
  /-- R407 -/
  | billCalendarWrite (q : Req)
  /-- R407 -/
  | billCalendarRead (q : Req)
  /-- R407 -/
  | billCalendarActivate (q : Req)
  /-- R408 -/
  | billTimeGet (q : Req)
  /-- R409 -/
  | billTimeSet (q : Req)
  /-- R410 -/
  | billRegistersGet (q : Req)
  /-- R411 -/
  | billPeriodGet (q : Req)
  /-- R412 -/
  | billPeriodClose (q : Req)
  /-- R413 -/
  | ledgerRead (q : Req)
  /-- R414 -/
  | ledgerStatus (q : Req)
  /-- R415 -/
  | billCommitNow (q : Req)
  /-- R436 -/
  | dlmsTunnel (q : Req)
  /-- R437 -/
  | dlmsConfigSet (q : Req)
  /-- R437 -/
  | dlmsConfigGet (q : Req)
  /-- R438 -/
  | dlmsAssocList (q : Req)
  /-- R439 -/
  | dlmsAssocAbort (q : Req)
  /-- R459 -/
  | creditAccountSet (q : Req)
  /-- R459 -/
  | creditAccountGet (q : Req)
  /-- R460 -/
  | creditAdjust (q : Req)
  /-- R461 -/
  | creditBind (q : Req)
  /-- R462 -/
  | creditConfigSet (q : Req)
  /-- R462 -/
  | creditConfigGet (q : Req)
  /-- R463 -/
  | voucherEnter (q : Req)
  /-- R464 -/
  | voucherStatus (q : Req)
  /-- R496 -/
  | lineConfigSet (q : Req)
  /-- R496 -/
  | lineConfigGet (q : Req)
  /-- R497 -/
  | lineStatusGet (q : Req)
  /-- R498 -/
  | linePeers (q : Req)
  /-- R499 -/
  | lineSend (q : Req)
  /-- R500 -/
  | lineMapGet (q : Req)
  /-- R500 -/
  | lineMapRequest (q : Req)
  /-- R501 -/
  | lineStatsGet (q : Req)
  /-- R520 -/
  | netConfigSet (q : Req)
  /-- R520 -/
  | netConfigGet (q : Req)
  /-- R521 -/
  | netStatusGet (q : Req)
  /-- R522 -/
  | netToutSet (q : Req)
  /-- R522 -/
  | netToutGet (q : Req)
  /-- R523 -/
  | netTcapSet (q : Req)
  /-- R523 -/
  | netTcapRead (q : Req)
  /-- R524 -/
  | netTimeSet (q : Req)
  /-- R525 -/
  | netStats (q : Req)
  /-- R544 -/
  | nfcConfigSet (q : Req)
  /-- R544 -/
  | nfcConfigGet (q : Req)
  /-- R545 -/
  | nfcTagRead (q : Req)
  /-- R545 -/
  | nfcTagWrite (q : Req)
  /-- R546 -/
  | nfcTagKey (q : Req)
  /-- R547 -/
  | nfcTagStatus (q : Req)
  /-- R564 -/
  | lswChanSet (q : Req)
  /-- R564 -/
  | lswChanGet (q : Req)
  /-- R565 -/
  | lswOut (q : Req)
  /-- R566 -/
  | lswStatusGet (q : Req)
  /-- R567 -/
  | lswBankGet (q : Req)
  /-- R568 -/
  | lswClear (q : Req)
  /-- R579 -/
  | panelConfigSet (q : Req)
  /-- R579 -/
  | panelConfigGet (q : Req)
  /-- R580 -/
  | panelWrite (q : Req)
  /-- R581 -/
  | panelFlip (q : Req)
  /-- R582 -/
  | panelCurveSet (q : Req)
  /-- R582 -/
  | panelCurveGet (q : Req)
  /-- R583 -/
  | panelStatusGet (q : Req)
  /-- R584 -/
  | panelStressRead (q : Req)
  /-- R604 -/
  | keyInfo (q : Req)
  /-- R605 -/
  | keyUpdate (q : Req)
  /-- R606 -/
  | keyDerive (q : Req)
  /-- R607 -/
  | keyRevoke (q : Req)
  /-- R608 -/
  | keyPublicRead (q : Req)
  /-- R609 -/
  | keyStatus (q : Req)
  /-- R629 -/
  | fltClear (q : Req)
  /-- R630 -/
  | fltSeveritySet (q : Req)
  /-- R631 -/
  | fltLogRead (q : Req)
  /-- R632 -/
  | maStart (q : Req)
  /-- R633 -/
  | maAbort (q : Req)
  /-- R634 -/
  | maStatus (q : Req)
  /-- R691 -/
  | fwStatus (q : Req)
  /-- R692 -/
  | fwStageBegin (q : Req)
  /-- R692 -/
  | fwStageData (q : Req)
  /-- R693 -/
  | fwStageVerify (q : Req)
  /-- R679 -/
  | fwActivate (q : Req)
  /-- R693 -/
  | fwStageAbort (q : Req)
  /-- R419 -/
  | dlmsAarq (client : Nat) (server : Nat) (transport : Nat) (channel : Nat) (h : Hls)
  /-- R424 -/
  | dlmsGet (a : Nat) (g : DlGet) (prot : Nat) (ivc : Nat)
  /-- R433 -/
  | dlmsSet (a : Nat) (l : List DlWrite) (prot : Nat) (ivc : Nat)
  /-- R433 -/
  | dlmsAction (a : Nat) (ic : Nat) (obis : Nat) (method : Nat) (val : Bytes) (prot : Nat) (ivc : Nat)
  /-- R416 -/
  | dlmsRlrq (a : Nat)
  /-- R36 -/
  | hostTransaction (cmd : Nat) (addr : List Nat) (wr : List (List Nat)) (nrd : Nat)
  /-- R41 -/
  | hcsRise (cut : Bool)
  /-- R58 -/
  | hrst (low : Bool)
  /-- R6 -/
  | registerWrite (addr : Nat) (v : Nat)
  /-- R8 -/
  | tmrScrub (addr : Nat) (x : List Nat)
  /-- R7 -/
  | bnwOutletWrite (v : Nat)
  /-- R70 -/
  | doorbellWrite (n : PNum) (t : Nat)
  /-- R71 -/
  | cqHeadWrite (n : PNum) (h : Nat)
  /-- R87 -/
  | ringCfgWrite (n : PNum) (base : Bool) (v : Nat)
  /-- R88 -/
  | pairDrainEnd (n : PNum)
  /-- R734 -/
  | submissionFetch (n : PNum) (par : List Nat)
  /-- R83 -/
  | eventQueueDrain (n : PNum)
  /-- R658 -/
  | domainSwitchTimeout (d : Nat)
  /-- R519 -/
  | timeSnapWrite (v : Nat)
  /-- R106 -/
  | pilotPeriod (o : ONum) (pos : List Int) (neg : List Int)
  /-- R107 -/
  | pilotStateAccept (o : ONum)
  /-- R108 -/
  | pilotLevel (o : ONum)
  /-- R109 -/
  | pilotDiode (o : ONum)
  /-- R112 -/
  | ppSample (o : ONum) (ohm : Nat)
  /-- R112 -/
  | ppAccept (o : ONum)
  /-- R115 -/
  | mirrorContactChange (p : Nat) (closed : Bool)
  /-- R115 -/
  | lockFeedbackChange (o : ONum) (locked : Bool)
  /-- R117 -/
  | closingStart (o : ONum)
  /-- R117 -/
  | closingConfirmed (o : ONum)
  /-- R118 -/
  | closingTimeout (o : ONum)
  /-- R119 -/
  | sswReadyCheck (o : ONum) (ready : Bool)
  /-- R119 -/
  | sswEnableRetry (o : ONum)
  /-- R121 -/
  | openingStart (o : ONum) (cause : Nat)
  /-- R121 -/
  | contactorRelease (o : ONum)
  /-- R123 -/
  | weldWindowEnd (o : ONum)
  /-- R124 -/
  | presenceDetect (o : ONum) (phases : Nat)
  /-- R126 -/
  | deferredOpening (o : ONum)
  /-- R128 -/
  | lockPulse (o : ONum)
  /-- R128 -/
  | lockPulseEnd (o : ONum)
  /-- R129 -/
  | lockFeedbackCheck (o : ONum)
  /-- R129 -/
  | lockRetry (o : ONum)
  /-- R135 -/
  | identification (o : ONum) (src : Nat) (id : Bytes)
  /-- R132 -/
  | heldIdentExpiry (o : ONum)
  /-- R131 -/
  | authTimeout (o : ONum)
  /-- R154 -/
  | plcFrameRx (l : List Preamble) (ended : List Nat)
  /-- R156 -/
  | plcTxGrant (ended : List Nat) (clear : List Nat)
  /-- R156 -/
  | plcTxDiscard (o : ONum)
  /-- R157 -/
  | beaconTx (o : ONum)
  /-- R160 -/
  | cmSlacParmReq (o : ONum) (runid : Nat) (mac : Nat)
  /-- R161 -/
  | cmMnbcSoundInd (o : ONum) (runid : Nat) (l : List Sound) (sounds : Nat)
  /-- R162 -/
  | slacDecision (o : ONum)
  /-- R164 -/
  | cmValidateReq (o : ONum) (window : Bool) (n : Nat)
  /-- R164 -/
  | cmSlacMatchReq (o : ONum) (runid : Nat) (mac : Nat)
  /-- R165 -/
  | slacInitExpiry (o : ONum)
  /-- R165 -/
  | sessionSetupTimeout (o : ONum)
  /-- R165 -/
  | v2gSessionLost (o : ONum)
  /-- R152 -/
  | sdpRequest (o : ONum) (tls : Bool)
  /-- R152 -/
  | supportedAppProtocol (o : ONum) (hello : Option Hello) (offers20 : Bool) (offers2 : Bool)
  /-- R168 -/
  | v2gRequest (o : ONum) (m : V2gMsg)
  /-- R172 -/
  | serviceSelectionReq (o : ONum) (service : Nat) (dynamic : Bool)
  /-- R169 -/
  | v2gStopRequest (o : ONum) (kind : Nat)
  /-- R167 -/
  | certReq (o : ONum) (kind : Nat) (exi : Bytes)
  /-- R167 -/
  | certReplyTimeout (o : ONum)
  /-- R186 -/
  | apexTrip (o : ONum) (cur : List Int) (wide : Int)
  /-- R187 -/
  | apexLatchSeen (o : ONum)
  /-- R194 -/
  | dcEstimate (o : ONum) (est : Int) (sat : Bool)
  /-- R202 -/
  | rcFrontend (o : ONum)
  /-- R194 -/
  | dcSlowUpdate (o : ONum) (mean : Int)
  /-- R194 -/
  | dcFastUpdate (o : ONum) (mean : Int)
  /-- R196 -/
  | rcWarn (o : ONum)
  /-- R198 -/
  | acResidualUpdate (o : ONum) (rms : Nat)
  /-- R204 -/
  | sswDesat (o : ONum)
  /-- R206 -/
  | overload (o : ONum) (cur : Nat)
  /-- R207 -/
  | selftestStart (o : ONum) (trigger : Nat)
  /-- R208 -/
  | selftestDone (o : ONum) (m : RcdMeas)
  /-- R220 -/
  | islandSafeState (src : Nat)
  /-- R227 -/
  | sinSample (n : Nat) (a : Bool) (b : Bool)
  /-- R228 -/
  | sinAccept (n : Nat) (chan : Bool) (closed : Bool)
  /-- R229 -/
  | sinDisc (n : Nat)
  /-- R224 -/
  | siteRelease (j : Nat)
  /-- R225 -/
  | siteFbCheck (j : Nat)
  /-- R226 -/
  | weldWatchEnd (o : ONum) (seen : Bool)
  /-- R232 -/
  | pairTestStepEnd (p : Nat) (stepb : Bool) (khs : Nat) (kls : Nat) (coil : Nat)
  /-- R233 -/
  | pullinEnd (p : Nat)
  /-- R233 -/
  | siteCloseCheck (j : Nat)
  /-- R235 -/
  | coilCheck (p : Nat) (coil : Nat)
  /-- R235 -/
  | coilUndercurrent (p : Nat)
  /-- R243 -/
  | passwordLockoutEnd (role : Nat)
  /-- R267 -/
  | budgetRound (reclaim : List Nat)
  /-- R268 -/
  | pauseHoldEnd (o : ONum)
  /-- R278 -/
  | latFrameRx (frame : Bytes)
  /-- R340 -/
  | metroSample (x : List Int) (lfxo : Nat)
  /-- R299 -/
  | gainDecision (ch : Nat)
  /-- R300 -/
  | gainSwitch (ch : Nat)
  /-- R303 -/
  | zeroCrossing (ch : Nat) (rising : Bool) (period : Nat) (since : Nat)
  /-- R309 -/
  | tempUpdate (ntc : List Nat) (die : Int)
  /-- R310 -/
  | ntcRestore (k : Nat)
  /-- R316 -/
  | offsetRemeasure (o : ONum) (offs : List Int)
  /-- R323 -/
  | selfcalVisitEnd (resp : List Int) (delay : List Int)
  /-- R313 -/
  | calCommitDone (ok : Bool)
  /-- R344 -/
  | directionChange (o : ONum)
  /-- R352 -/
  | halfCyclePq (bus : Nat)
  /-- R361 -/
  | reverseCurrent (o : ONum)
  /-- R362 -/
  | bypassDetect (o : ONum)
  /-- R362 -/
  | bypassEnd (o : ONum)
  /-- R364 -/
  | neutralMissing (bus : Nat)
  /-- R364 -/
  | neutralEnd (bus : Nat)
  /-- R367 -/
  | tamperSample (t0 : Bool) (t1 : Bool)
  /-- R382 -/
  | ledgerCommit (ok : Bool) (retried : Bool)
  /-- R392 -/
  | billTimeCorrection (delta : Int) (source : Nat)
  /-- R420 -/
  | dlmsIdleRelease (a : Nat)
  /-- R421 -/
  | dlmsLockoutEnd (client : Nat)
  /-- R447 -/
  | graceExpiry (acct : Nat)
  /-- R457 -/
  | keypadScan (cols : Nat)
  /-- R458 -/
  | keyAccept (key : Nat)
  /-- R476 -/
  | lineFrameRx (f : LineFrame)
  /-- R477 -/
  | lineAckTx (ang : Nat)
  /-- R489 -/
  | lineContentionSlot (pre : Bool) (level : Nat) (draw : Nat)
  /-- R490 -/
  | lineFrameTx (ang : Nat)
  /-- R487 -/
  | mapRequestTimeout (peer : Nat)
  /-- R487 -/
  | robustHoldEnd (peer : Nat)
  /-- R487 -/
  | mapExpiry (peer : Nat) (gone : Bool)
  /-- R503 -/
  | ethFrameRx (port : Nat) (f : EthFrame) (residence : Nat)
  /-- R510 -/
  | ptpMessage (x : PtpRx)
  /-- R513 -/
  | txTimestamp (port : Nat) (ident : Nat) (sec : Nat) (ns : Nat)
  /-- R514 -/
  | launchTime (port : Nat)
  /-- R516 -/
  | toutEdge (k : Nat)
  /-- R517 -/
  | tcapEdge (k : Nat) (rising : Bool) (frac : Nat)
  /-- R502 -/
  | phyLinkChange (port : Nat) (up : Bool) (fast : Bool)
  /-- R503 -/
  | addressAgeing (mac : Nat)
  /-- R529 -/
  | nfcPoll (field : Nat) (typeA : List Card) (typeB : List (List (List Bytes)))
  /-- R535 -/
  | tagFieldOn (h : Nat)
  /-- R535 -/
  | tagReqa (wupa : Bool)
  /-- R535 -/
  | tagAnticollision (nvb : Nat) (bits : Bytes)
  /-- R535 -/
  | tagSelect (uid : Bytes)
  /-- R536 -/
  | pageRead (page : Nat) (off : Nat) (le : Nat) (mac : Bytes)
  /-- R541 -/
  | pageWrite (page : Nat) (off : Nat) (data : Bytes) (mac : Bytes)
  /-- R538 -/
  | tagHello (rndr : Bytes)
  /-- R538 -/
  | tagProve (pr : Bytes)
  /-- R541 -/
  | tagPageCommit (ok : Bool) (retried : Bool)
  /-- R549 -/
  | pwmPeriod (v : List Nat) (cur : List Nat) (temp : List Int) (bcur : List Nat) (btemp : List Int)
  /-- R551 -/
  | lswCurrentLimit (ch : Nat) (ma : Nat)
  /-- R551 -/
  | lswBlankEnd (ch : Nat)
  /-- R551 -/
  | lswOvercurrent (ch : Nat)
  /-- R552 -/
  | lswRetry (ch : Nat)
  /-- R552 -/
  | lswRetryConfirm (ch : Nat)
  /-- R553 -/
  | lswThermalTrip (bank : Bool) (k : Nat) (t : Int)
  /-- R553 -/
  | lswThermalRelease (bank : Bool) (k : Nat) (t : Int)
  /-- R556 -/
  | lswOpenLoad (ch : Nat)
  /-- R557 -/
  | bankUndervoltage (k : Nat) (mv10 : Nat)
  /-- R557 -/
  | bankRecover (k : Nat) (mv10 : Nat)
  /-- R558 -/
  | lockBrakeEnd (o : ONum)
  /-- R560 -/
  | limpHomeInput (low : Bool)
  /-- R561 -/
  | lhinChange (n : Nat) (high : Bool)
  /-- R570 -/
  | vpanLow (v : Nat)
  /-- R570 -/
  | vpanRecover (v : Nat)
  /-- R586 -/
  | trngHealthFail (again : Bool) (test : Nat)
  /-- R615 -/
  | faultOccurrence (src : Nat) (qual : Nat) (data : Nat)
  /-- R619 -/
  | faultRetry (src : Nat) (qual : Nat) (data : Nat) (ok : Bool)
  /-- R50 -/
  | fltUnreadAck (m : Nat) (v : Nat)
  /-- R618 -/
  | fltForce (m : Nat) (v : Nat)
  /-- R614 -/
  | fltSevWrite (m : Nat) (v : Nat)
  /-- R632 -/
  | maActivityEnd (tag : Nat) (m : MaMeas)
  /-- R625 -/
  | maQueueTimeout (tag : Nat)
  /-- R641 -/
  | clkmonWindow (clk : Nat) (count : Nat) (lockLow : Bool)
  /-- R642 -/
  | clockTrip (clk : Nat)
  /-- R643 -/
  | clockSelfcheck (prim : Int) (spare : Int)
  /-- R644 -/
  | rc48StartTimeout (spare : Bool)
  /-- R639 -/
  | clkSelWrite (v : Nat)
  /-- R639 -/
  | clkSwitchDone (i : Nat)
  /-- R639 -/
  | clkSwhang (i : Nat)
  /-- R640 -/
  | clkForceWrite (v : Nat)
  /-- R645 -/
  | clkMeterStart (v : Nat)
  /-- R645 -/
  | clkMeterDone (count : Nat) (stopped : Bool)
  /-- R646 -/
  | clkGateWrite (v : Nat)
  /-- R54 -/
  | gateForceClose (g : Nat)
  /-- R649 -/
  | startSequence (r : StartInput)
  /-- R665 -/
  | powerFail (t : Nat)
  /-- R668 -/
  | vsupMinFall (mv : Nat)
  /-- R659 -/
  | domainPgLoss (d : Nat) (back : Bool)
  /-- R657 -/
  | pilotRail (vpn : Bool) (v : Int)
  /-- R662 -/
  | bakSwitchover (vbak : Bool)
  /-- R662 -/
  | vbakLow (mv : Nat)
  /-- R670 -/
  | pwrPfCfgWrite (v : Nat)
  /-- R680 -/
  | imageCopyDone (copyok : Bool) (loadok : Bool)
  /-- R681 -/
  | handoverAccept (dropped : List Nat)
  /-- R684 -/
  | handoverRollback (step : Nat)
  /-- R687 -/
  | svcFrame (b : Bytes)
  /-- R688 -/
  | svcStageBegin (total : Nat)
  /-- R688 -/
  | svcStageData (offset : Nat) (data : Bytes)
  /-- R690 -/
  | svcActivate (slots : Nat)
  /-- R698 -/
  | bnwRead (off : Nat) (late : Bool) (nth : Nat)
  /-- R701 -/
  | bnwEnergy0Read (late : Bool)
  /-- R699 -/
  | bnwWrite (off : Nat) (v : Nat) (nth : Nat)
  /-- R702 -/
  | bnwSetpointWrite (v : Nat)
  /-- R130 -/
  | faultedPresenceClear (o : ONum)
  /-- R669 -/
  | lpddrEccError (addr : Nat)
  /-- R44 -/
  | islandCrossingDone
  /-- R47 -/
  | stallLimit
  /-- R59 -/
  | strPostComplete
  /-- R652 -/
  | strRecover
  /-- R650 -/
  | strRetryPrimary
  /-- R93 -/
  | dormantEntry
  /-- R190 -/
  | thresholdReload
  /-- R220 -/
  | safeStatePairsOff
  /-- R220 -/
  | safeStateReset
  /-- R235 -/
  | vkcUv
  /-- R249 -/
  | confirmKeypadTimeout
  /-- R249 -/
  | confirmKeypadLockoutEnd
  /-- R270 -/
  | stepInstant
  /-- R262 -/
  | extloadLapse
  /-- R271 -/
  | timebaseToLine
  /-- R272 -/
  | timebaseToPtp
  /-- R279 -/
  | latReportTx
  /-- R281 -/
  | latRoundClose
  /-- R280 -/
  | latShareTx
  /-- R306 -/
  | referenceLost
  /-- R320 -/
  | selfcalVisit
  /-- R347 -/
  | periodicLatch
  /-- R349 -/
  | boundaryLatch
  /-- R349 -/
  | boundaryArm
  /-- R357 -/
  | captureCut
  /-- R359 -/
  | waveChunkSend
  /-- R359 -/
  | waveExportTimeout
  /-- R382 -/
  | periodicCommitTimer
  /-- R402 -/
  | boundarySequence
  /-- R392 -/
  | slewEnd
  /-- R446 -/
  | creditEvaluate
  /-- R448 -/
  | friendlyWindowEnd
  /-- R454 -/
  | creditEpochCheck
  /-- R458 -/
  | keypadEntryTimeout
  /-- R458 -/
  | outletSelectExpiry
  /-- R455 -/
  | keypadLockoutEnd
  /-- R489 -/
  | lineAckWaitExpiry
  /-- R483 -/
  | sectorTimingLost
  /-- R510 -/
  | ptpSyncTimeout
  /-- R510 -/
  | netHoldover
  /-- R526 -/
  | nfcPollResume
  /-- R533 -/
  | tagGuardEnd
  /-- R535 -/
  | tagFieldOff
  /-- R535 -/
  | tagRats
  /-- R535 -/
  | tagHalt
  /-- R539 -/
  | tagAuthLockEnd
  /-- R542 -/
  | tagHostLockTimeout
  /-- R560 -/
  | ccWatchdogExpiry
  /-- R647 -/
  | watchdogReset
  /-- R572 -/
  | panelFrame
  /-- R577 -/
  | stressSave
  /-- R592 -/
  | keyRemask
  /-- R625 -/
  | maActivityStart
  /-- R643 -/
  | rc48Stop
  /-- R664 -/
  | powerfailRecovery
  /-- R664 -/
  | vsupReturn
  /-- R678 -/
  | fwVerifyDone
  /-- R671 -/
  | stagingTimeout
  /-- R680 -/
  | handoverRestart
  /-- R683 -/
  | pauseLimit
  /-- R688 -/
  | svcInfo
  /-- R688 -/
  | svcVerify
  /-- R688 -/
  | svcAbort
  /-- R690 -/
  | svcExit
  /-- R700 -/
  | bnwEnergyRefresh
  /-- R457 -/
  | keypadQuietWake
  /-- R641 -/
  | lfxoLoss
  /-- R28 -/
  | pilotPeriodTrim
  /-- R537 -/
  | lastStateUpdate
  deriving DecidableEq, Repr

end Sys2Proof
end

