-- ==== Sys2Proof/Machine/State.lean ====
section
/-! DEFINITION. The state of the H24 as plain data, its value after reset, faults and refusals. Field docstrings cite the
chapter and the rule of spec/ that names the field; INVENTORY.md gives widths and reset values. -/

namespace Sys2Proof.Machine

/-- A host transaction whose next word waits on another island (R44, R46, R47). -/
structure Xact where
  /-- true for a read (02 R36) -/
  read : Bool := false
  /-- byte address of the word that waits (02 R36) -/
  addr : Nat := 0
  /-- words still to write, the waiting one first (02 R36) -/
  wr : List Nat := []
  /-- words still to read, the waiting one counted (02 R36) -/
  nrd : Nat := 0
  deriving DecidableEq, Repr

/-- The quad-SPI host port and the HPC block (02, AON domain). -/
structure HostPort where
  /-- ST15 has completed, so HRDY is released and transactions are served (02 R52) -/
  ready : Bool := false
  /-- the 10 µs after ST15 in which attention may not pull HRDY low (02 R52) -/
  rdyHold : Bool := false
  /-- HCS# is low: a transaction is open (02 R44) -/
  hcsLow : Bool := false
  /-- the rest of the open transaction is ignored (02 R38) -/
  ignored : Bool := false
  /-- the open transaction writes (02 R36) -/
  write : Bool := false
  /-- lanes of the address and data phases of the open or last transaction: 1, 2 or 4 (02 R36) -/
  lanes : Nat := 1
  /-- address of the next word of the open transaction (02 R40) -/
  nextAddr : Nat := 0
  /-- the word that waits on another island (02 R44, R46) -/
  xact : Option Xact := none
  /-- words driven on HIO in the open or last transaction; `State.hioUnits` gives the lane levels (02 R36) -/
  hio : List Nat := []
  /-- IODRV (02 HPC_CTRL) -/
  iodrv : Nat := 1
  /-- ATTN_EN (02 HPC_CTRL) -/
  attnEn : Bool := true
  /-- FAULT (02 HPC_ATTN_MASK) -/
  maskFault : Bool := true
  /-- RING (02 HPC_ATTN_MASK) -/
  maskRing : Nat := 0xFFFF
  /-- HPC_ZERO_READS.COUNT (02 R53) -/
  zeroReads : Nat := 0
  /-- HPC_ZERO_ADDR (02 R53) -/
  zeroAddr : Nat := 0
  /-- HPC_STALLS.COUNT (02 R47) -/
  stalls : Nat := 0
  /-- HPC_STALL_ADDR (02 R47) -/
  stallAddr : Nat := 0
  /-- HPC_PROTO.COUNT (02 R38) -/
  protoCount : Nat := 0
  /-- HPC_PROTO.CAUSE (02 R38) -/
  protoCause : Nat := 0
  /-- OUTLET (WL) (02 HPC_BNW_OUTLET) -/
  bnwOutlet : Nat := 0
  /-- the WL lock of HPC_BNW_OUTLET (02 R7, R62) -/
  bnwLocked : Bool := false
  /-- COUNT (02 HPC_BNW_LATE) -/
  bnwLate : Nat := 0
  /-- DATA (02 HPC_SCRATCH) -/
  scratch : Nat := 0
  /-- the STR write that is posted: address and value (02 R59) -/
  strPost : Option (Nat × Nat) := none
  deriving DecidableEq, Repr

/-- A command that has started and not completed (R77, R84). -/
structure InFlight where
  /-- its tag (03 R77) -/
  tag : Nat := 0
  /-- its opcode (03 R85) -/
  op : Nat := 0
  /-- the bulk region it carries: BOFF and BLEN (03 R79) -/
  bulk : Option (Nat × Nat) := none
  deriving DecidableEq, Repr

/-- A completion unit (an entry or a chain) waiting for room in its completion ring (R83). -/
structure Held where
  /-- it is an event (03 R83) -/
  event : Bool := false
  /-- it is a final completion, which RINGn_DONE counts once it is written (03 RINGn_DONE) -/
  final : Bool := false
  /-- its entries (03 R78) -/
  entries : List Bytes := []
  deriving DecidableEq, Repr

/-- One ring pair RPn (03). -/
structure Pair where
  /-- STATE: 0 off, 1 on, 2 draining; ENABLE reads 1 exactly when it is 1 (03 RINGn_CFG) -/
  state : Nat := 0
  /-- CQ_LOG2 (03 RINGn_CFG) -/
  cqLog2 : Nat := 6
  /-- SQ_LOG2 (03 RINGn_CFG) -/
  sqLog2 : Nat := 6
  /-- SQBASE, 16n after reset (03 RINGn_BASE) -/
  sqBase : Nat := 0
  /-- CQBASE, 16n + 8 after reset (03 RINGn_BASE) -/
  cqBase : Nat := 8
  /-- HEAD (03 RINGn_SQHEAD) -/
  sqHead : Nat := 0
  /-- SQ_TAIL (03 RINGn_DB) -/
  sqTail : Nat := 0
  /-- tails of the accepted doorbells whose entries are not consumed, oldest first (03 R78) -/
  bells : List Nat := []
  /-- TAIL (03 RINGn_CQTAIL) -/
  cqTail : Nat := 0
  /-- HEAD (03 RINGn_CQHEAD) -/
  cqHead : Nat := 0
  /-- CFGERR (03 RINGn_STATUS) -/
  cfgErr : Bool := false
  /-- DBERR (03 RINGn_STATUS) -/
  dbErr : Bool := false
  /-- HEADERR (03 RINGn_STATUS) -/
  headErr : Bool := false
  /-- PARITY (03 RINGn_STATUS) -/
  parityErr : Bool := false
  /-- EVTLOST (03 RINGn_STATUS) -/
  evtLostFlag : Bool := false
  /-- event sequence (03 R81) -/
  evtSeq : Nat := 0
  /-- COUNT (03 RINGn_EVTLOST) -/
  evtLost : Nat := 0
  /-- COUNT (03 RINGn_DONE) -/
  done : Nat := 0
  /-- commands in flight; BULK_BUSY is read from it (03 R74, R77) -/
  inflight : List InFlight := []
  /-- the holding queue (03 R83) -/
  held : List Held := []
  deriving DecidableEq, Repr

/-- An entry that waits for ring service: an event, or the final completion of a command in flight (R98, R217, R23). -/
structure Deferred where
  /-- its pair (03 R73) -/
  pair : PNum := 0
  /-- its opcode (03 R75) -/
  op : Nat := 0
  /-- its payload (03 Entries) -/
  payload : Bytes := []
  /-- tag and status of a final completion; none for an event (03 R84) -/
  final : Option (Nat × Nat) := none
  /-- the bulk region of a completion (03 R80) -/
  bulk : Option (Nat × Nat) := none
  deriving DecidableEq, Repr

/-- Pair `n` after a reset of AON (R66). -/
def resetPair (n : Nat) : Pair :=
  { state := if n = 0 then 1 else 0, sqBase := 16 * n, cqBase := 16 * n + 8 }

/-- The sixteen pairs after a reset of AON (R66). -/
def resetPairs : Vector Pair 16 := ⟨⟨(List.range 16).map resetPair⟩, rfl⟩

/-- The mailbox (03). -/
structure Rings where
  /-- the sixteen pairs (03 R66) -/
  pairs : Vector Pair 16 := resetPairs
  /-- ring memory, canonical; keys are offsets from 0x0001_0000 (03 Ring memory) -/
  mem : List Host.Cell := []
  /-- bulk window, canonical; keys are offsets from 0x0004_0000 (03 Bulk payloads) -/
  bulk : List Host.Cell := []
  /-- the cores restart for a handover and no firmware runs (02 R48) -/
  pause : Bool := false
  /-- AON has ended the ring service pause of the handover (23 R683) -/
  pauseOver : Bool := false
  /-- events and final completions that wait for ring service (06 R217, 20 R620) -/
  deferred : List Deferred := []
  deriving DecidableEq, Repr

/-- One latched occurrence of a fault source (R615). -/
structure Occ where
  /-- source F000 to F127 (20 R615) -/
  src : Nat := 0
  /-- outlet, input, channel or other number; 0xFFFF none (20 R615) -/
  qual : Nat := 0xFFFF
  /-- raised by a force bit (20 R618) -/
  forced : Bool := false
  deriving DecidableEq, Repr

/-- A fault log entry (R621). -/
structure LogEntry where
  /-- SEQ (20 R621) -/
  seq : Nat := 0
  /-- SOURCE (20 R621) -/
  src : Nat := 0
  /-- FLAGS[1:0] (20 R621) -/
  sev : Nat := 0
  /-- TRANSIENT (20 R621) -/
  trans : Bool := false
  /-- RETRIED (20 R621) -/
  retried : Bool := false
  /-- FORCED (20 R621) -/
  forced : Bool := false
  /-- cleared (20 R621) -/
  cleared : Bool := false
  /-- QUAL (20 R621) -/
  qual : Nat := 0xFFFF
  /-- DATA (20 R621) -/
  data : Nat := 0
  /-- COUNT (20 R621) -/
  count : Nat := 1
  /-- TIME, ms TAI of the RTC (20 R621) -/
  time : Nat := 0
  deriving DecidableEq, Repr

/-- Default severities of the sources F000 to F127, 0 for a reserved one (tables of the chapters; R611 codes). -/
def defaultSev : List Nat :=
  [2, 2, 2, 1, 1, 1, 0, 2, 1, 2, 2, 2, 0, 0, 0, 0,
   0, 1, 1, 0, 2, 1, 1, 1, 0, 0, 0, 0, 0, 0, 0, 0] ++
  [2, 2, 2, 1, 2, 2, 3, 3, 2, 1, 2, 2, 2, 2, 2, 2,
   2, 2, 2, 1, 1, 0, 0, 1, 0, 0, 0, 0, 0, 0, 0, 0] ++
  [1, 1, 1, 2, 0, 1, 2, 1, 1, 1, 2, 2, 1, 0, 0, 1,
   1, 1, 1, 1, 1, 1, 1, 1, 1, 0, 0, 1, 1, 1, 1, 0] ++
  [1, 1, 2, 1, 2, 2, 2, 1, 1, 1, 1, 0, 0, 0, 0, 0,
   3, 3, 2, 3, 3, 3, 2, 3, 2, 2, 2, 2, 0, 0, 0, 0]

/-- Sources that no chapter assigns (R610). -/
def reservedSrc (n : Nat) : Bool :=
  (12 ≤ n && n ≤ 15) || (25 ≤ n && n ≤ 31) || (57 ≤ n && n ≤ 63) || n == 95 || (108 ≤ n && n ≤ 111) || 124 ≤ n

/-- The fault collector and the FLT block (20, AON domain). -/
structure Collector where
  /-- EVT_NOTE (20 FLT_CTRL) -/
  evtNote : Bool := false
  /-- severities, TMR; defaults from the source tables of every chapter (20 FLT_SEVm) -/
  sev : List Nat := defaultSev
  /-- programmable reactions, TMR (20 FLT_REACT) -/
  react : Nat := 0x10
  /-- latched occurrences; FLT_STAT is read from it (20 R615) -/
  occ : List Occ := []
  /-- counts of the sources whose count is not 0 (20 FLT_CNTm) -/
  cnt : List (Nat × Nat) := []
  /-- unread bits (20 FLT_UNREADm) -/
  unread : Nat := 0
  /-- the log, by slot (20 R621, R623) -/
  log : List LogEntry := []
  /-- COUNT (20 FLT_LOG_OVF) -/
  ovf : Nat := 0
  /-- a non-maskable event has been raised to the control complex (20 R612) -/
  nmi : Bool := false
  /-- pairs whose latched EVT_LOST has its reaction and FLT_EVENT still to come (03 R83) -/
  lost : List Nat := []
  deriving DecidableEq, Repr

/-- The three copies of the TMR fields of one register, or of a TMR field without an address, while they differ or after a field has failed (R8, R63, R64). -/
structure TmrCell where
  /-- byte address of the register; 0 the safety configuration, 1 to 24 the ceiling of outlet 0 to 23 (02 R63) -/
  addr : Nat := 0
  /-- the three copies (00 R8) -/
  copies : List Nat := [0, 0, 0]
  /-- bits of the fields that have failed: they read as their reset value until the host writes them (02 R64) -/
  failed : Nat := 0
  /-- bits of the failed fields for which TMR_FAIL has been raised (00 R8) -/
  told : Nat := 0
  deriving DecidableEq, Repr

/-- Clocks and the CLK block (21). -/
structure Clk where
  /-- PRIMARY (per start) (21 CLK_STATUS) -/
  primaryB : Bool := false
  /-- RCONLY (21 CLK_STATUS) -/
  rcOnly : Bool := false
  /-- RC48A_ON (21 CLK_STATUS) -/
  rc48aOn : Bool := true
  /-- RC48B_ON (21 CLK_STATUS) -/
  rc48bOn : Bool := false
  /-- LFXO_OK (21 CLK_STATUS) -/
  lfxoOk : Bool := false
  /-- XTAL_OK (21 CLK_STATUS) -/
  xtalOk : Bool := false
  /-- LOCK (21 CLK_STATUS) -/
  lock : Nat := 0
  /-- reduced frequencies (the ST3 alternative) (21 R638) -/
  reduced : Bool := false
  /-- PLL_META or META runs on an RC48 (01 R28, 09 R298) -/
  metaRc : Bool := false
  /-- SRC (21 CLK_SEL) -/
  sel : Nat := 0x3F
  /-- ACTUAL (21 CLK_SELSTAT) -/
  actual : Nat := 0x3F
  /-- PEND (21 CLK_SELSTAT) -/
  pend : Nat := 0
  /-- uptime in ms from which each island's switch is pending (21 R639) -/
  pendAt : List Nat := [0,0,0,0,0,0]
  /-- EMERG (21 CLK_SELSTAT) -/
  emerg : Nat := 0
  /-- EN, TMR (21 CLK_MON_EN) -/
  monEn : Nat := 0x3F
  /-- TRIP (21 CLK_MON_STATUS) -/
  trip : Nat := 0
  /-- REF (21 CLK_MON_STATUS) -/
  monRef : Nat := 0
  /-- consecutive bad windows of each monitored clock (21 R641) -/
  bad : List Nat := [0,0,0,0,0,0]
  /-- TGT (21 CLK_METER_CTRL) -/
  meterTgt : Nat := 0
  /-- REF (21 CLK_METER_CTRL) -/
  meterRef : Nat := 1
  /-- BUSY (21 CLK_METER_CTRL) -/
  meterBusy : Bool := false
  /-- DONE (21 CLK_METER_CTRL) -/
  meterDone : Bool := false
  /-- STOPPED (21 CLK_METER_CTRL) -/
  meterStopped : Bool := false
  /-- WINDOW (21 CLK_METER_WIN) -/
  meterWin : Nat := 32768
  /-- COUNT (21 CLK_METER_RESULT) -/
  meterResult : Nat := 0
  /-- DEV_PRIMARY (21 CLK_SELFCHK) -/
  devPrimary : Int := 0
  /-- DEV_SPARE (21 CLK_SELFCHK) -/
  devSpare : Int := 0
  /-- EN (21 CLK_GATE0) -/
  gate : Nat := 0x3F
  /-- gates that wait on an access before they close (21 R646) -/
  gateWait : Nat := 0
  /-- a trip in Quiet is starting the primary RC48 (21 R644) -/
  rcStarting : Bool := false
  /-- pilot period trims made against the LFXO (01 R28) -/
  trimRuns : Nat := 0
  deriving DecidableEq, Repr

/-- Pilot generator modes (R99). -/
inductive PilotMode where
  | dcPos
  | pwm
  | hlc
  | dcNeg
  deriving DecidableEq, Repr

/-- Where the switching sequencer of an outlet stands (R117 to R124). -/
inductive SwPhase where
  /-- contactor open and the weld window passed -/
  | off
  /-- coil on, step 2 of R117 not yet reached -/
  | closing
  /-- SSWEN high, SSWFB not yet ready -/
  | enabling
  /-- SSWEN low for the 20 ms of R119 before the repeat -/
  | retryWait
  /-- closed -/
  | on
  /-- step 1 of R121 done: SSWEN low, contactor still on -/
  | opening
  /-- contactor released, weld window not passed -/
  | released
  deriving DecidableEq, Repr

/-- The lock bridge (R128, R558). -/
inductive LockDrive where
  | off
  | lock
  | unlock
  deriving DecidableEq, Repr

/-- Session states (04, codes 0 to 8 in this order). -/
inductive SessState where
  | idle
  | plugged
  | authorising
  | ready
  | energising
  | paused
  | ending
  | faulted
  | outOfService
  deriving DecidableEq, Repr

/-- Power states (R17, R18, 22). -/
inductive PowerState where
  | run
  | quiet
  | dormant
  | off
  deriving DecidableEq, Repr

/-- The pilot generator and sampler of one outlet (04, META). -/
structure Pilot where
  /-- generator mode; IDLE outlets stand in DC_POS (R137) (04 R99) -/
  mode : PilotMode := .dcPos
  /-- duty code in 0.05 %; 2000 in DC_POS (04 R99) -/
  duty : Nat := 2000
  /-- stepped setpoint in 0.1 A, negative in discharge (04 R102, 08 R270) -/
  setpoint : Int := 0
  /-- accepted state 0 A to 5 F; none while no state has been accepted since the start (04 R144) -/
  accepted : Option Nat := none
  /-- classification of the last period; 6 undetermined (04 R107) -/
  cand : Nat := 6
  /-- consecutive periods with that classification (04 R107) -/
  run : Nat := 0
  /-- consecutive undetermined periods (04 R108) -/
  undRun : Nat := 0
  /-- consecutive periods with a bad negative plateau (04 R109) -/
  diodeRun : Nat := 0
  /-- the outlet is treated as in state E until state A is accepted (04 R108, R109) -/
  treatE : Bool := false
  /-- median of the last positive plateau, 10 mV (04 R106, OUT_PILOT) -/
  pos : Int := 0
  /-- median of the last negative plateau, 10 mV (04 R109, OUT_PILOT) -/
  neg : Int := 0
  /-- offset of the rising edges from the whole milliseconds of the step time base, in µs (04 R104) -/
  edge : Int := 0
  deriving DecidableEq, Repr

/-- Proximity sense of one outlet (04, META). -/
structure Prox where
  /-- accepted classification: rating in A, 0 no cable, 255 invalid (04 R112) -/
  acc : Nat := 0
  /-- a classification has been accepted since the start (04 R102, R112) -/
  accepted : Bool := false
  /-- classification of the last sample (04 R112) -/
  cand : Nat := 0
  /-- consecutive samples with that classification (04 R112) -/
  run : Nat := 0
  deriving DecidableEq, Repr

/-- The switching sequencer of one outlet (04, safety island). -/
structure Switch where
  /-- step of the closing or opening sequence (04 R117, R121) -/
  phase : SwPhase := .off
  /-- Onn SSWEN (04 R117) -/
  sswen : Bool := false
  /-- Onn SSWFB: driver ready (06 R204) -/
  sswfb : Bool := false
  /-- ready has been seen since SSWEN rose (06 R204) -/
  readySeen : Bool := false
  /-- the SSW enable has been repeated in this closing (04 R119) -/
  retried : Bool := false
  /-- uptime in ms of the last fall of SSWEN (04 R127) -/
  sswFall : Option Nat := none
  /-- uptime in ms of the last rise of SSWEN (04 R120) -/
  sswRise : Nat := 0
  /-- the mirror contact on KFB shows open (04 R117) -/
  mirrorOpen : Bool := false
  /-- presence comparators PCV1 to PCV3 (04 R116) -/
  presence : Nat := 0
  /-- uptime in ms since which presence has been reported without a break (04 R124) -/
  presFrom : Option Nat := none
  /-- uptime in ms at which presence was last reported (04 R117, R124) -/
  presAt : Option Nat := none
  /-- uptime in ms of the last contactor release (04 R124) -/
  releasedAt : Nat := 0
  /-- cause code of the opening under way (04 R135) -/
  openCause : Nat := 0
  /-- the opening under way ends a closing that failed at step 2 (04 R118, R123) -/
  faultEnd : Bool := false
  /-- an opening for a setpoint below 6.0 A is pending (04 R126) -/
  deferred : Bool := false
  /-- uptime in ms since which it is pending (04 R126) -/
  deferAt : Nat := 0
  /-- uptime in ms of the last change of the mirror contact (04 R123) -/
  mirrorAt : Nat := 0
  /-- presence has been seen within the weld window (04 R123, R124) -/
  windowSeen : Bool := false
  /-- load breaks counted in the contactor's operation record (04 R122) -/
  loadBreaks : Nat := 0
  deriving DecidableEq, Repr

/-- The lock of one outlet (04, 17). -/
structure Lock where
  /-- bridge on Onn LKA and LKB (04 R128, 17 R558) -/
  drive : LockDrive := .off
  /-- Onn LKFB shows locked (04 R128) -/
  locked : Bool := false
  /-- position asked for: true locked (04 R128) -/
  target : Option Bool := none
  /-- failed attempts of the present request (04 R129) -/
  tries : Nat := 0
  /-- a pulse waits for its bank (17 R548) -/
  waiting : Bool := false
  /-- both low sides hold the motor after a pulse (17 R558) -/
  braking : Bool := false
  /-- tags of the OUTLET_UNLOCK commands that wait (04 R148) -/
  unlockTags : List Nat := []
  /-- position to drive to once the pulse in progress has ended: true locked (04 R130) -/
  after : Option Bool := none
  /-- the last unlock failed twice: an outlet in ENDING waits for an OUTLET_UNLOCK that succeeds (04 R129) -/
  openFailed : Bool := false
  /-- a pulse has ended and LKFB has not shown the position asked for yet (04 R128) -/
  due : Bool := false
  deriving DecidableEq, Repr

/-- An identification (04 R131, R132). -/
structure Ident where
  /-- 0 card, 1 PIN, 2 contract ID, 3 host (04 OUT_IDENT) -/
  src : Nat := 0
  /-- identification bytes (04 OUT_IDENT) -/
  id : Bytes := []
  deriving DecidableEq, Repr

/-- The session state machine of one outlet (04, control complex). -/
structure Session where
  /-- session state (04 R134, R140) -/
  st : SessState := .idle
  /-- cause of the last transition (04 R144) -/
  cause : Nat := 0
  /-- session number; 0 if none (04 R144) -/
  num : Nat := 0
  /-- account; 0xFFFF if none (04 R144) -/
  account : Nat := 0xFFFF
  /-- ms TAI of the acceptance (04 R149) -/
  start : Nat := 0
  /-- HREASON of the first OUTLET_STOP (04 R146) -/
  hreason : Nat := 0
  /-- first cause that ended the session (04 R138) -/
  endCause : Option Nat := none
  /-- ms TAI of the end of the session (04 R149) -/
  endTime : Nat := 0
  /-- import register at the start of the session, 2^-16 µWh (04 R149, 10) -/
  imp0 : Nat := 0
  /-- export register at the start of the session, 2^-16 µWh (04 R149, 10) -/
  exp0 : Nat := 0
  /-- identification that waits for a decision (04 R131) -/
  pend : Option Ident := none
  /-- its IDENT_SEQ (04 R145) -/
  pendSeq : Nat := 0
  /-- IDENT_SEQ of the next identification (04 OUT_IDENT) -/
  nextSeq : Nat := 0
  /-- identification held in IDLE; does not survive a restart (R140) (04 R132) -/
  held : Option Ident := none
  /-- the session completes ENDING and then goes OUT_OF_SERVICE with this cause (04 R135) -/
  toOos : Option Nat := none
  /-- accepted, waiting for the lock before READY (04 R135) -/
  lockWait : Bool := false
  /-- the weld window of the last opening has passed (04 R135, R148) -/
  windowPassed : Bool := true
  /-- the session record is committed (04 R149) -/
  committed : Bool := false
  /-- the session record waits for its commit (11 R382) -/
  queued : Bool := false
  /-- amount already debited for the session, milli-units (13 R444) -/
  debited : Int := 0
  /-- committed import energy of the session under T1 to T8, µWh (13 R444) -/
  impT : List Nat := [0,0,0,0,0,0,0,0]
  /-- committed export energy of the session under T1 to T8, µWh (13 R444) -/
  expT : List Nat := [0,0,0,0,0,0,0,0]
  /-- cause of READY once the lock has completed (04 R135) -/
  readyCause : Nat := 5
  /-- cause of the next move to ENERGISING: what last satisfied its guards (04 R135) -/
  closeCause : Nat := 0
  /-- state B was accepted directly after state A (04 R135) -/
  aToB : Bool := false
  /-- uptime in ms of the entry into the session state (08 R265) -/
  since : Nat := 0
  /-- energy of the last session, Wh (16 R536) -/
  lastWh : Nat := 0
  /-- account of the last session (12 Objects) -/
  lastAccount : Nat := 0xFFFF
  deriving DecidableEq, Repr

/-- Apex trip and residual protection of one outlet (06). -/
structure Protect where
  /-- trip latch inputs recorded; the latch is set while it is not 0 (06 R186, PROT_STATUS) -/
  latch : Nat := 0
  /-- latch inputs active now (06 R189) -/
  active : Nat := 0
  /-- the safety island has seen the latch (06 R187) -/
  seen : Bool := true
  /-- VALUE of each latch input when it was recorded (06 PROT_TRIP) -/
  latchVals : List Int := [0,0,0,0,0,0]
  /-- wideband residual signal, 0.1 mA (06 R185) -/
  wide : Int := 0
  /-- threshold DAC, A peak (06 R190) -/
  ocThr : Nat := 50
  /-- threshold DAC, mA peak (06 R190) -/
  rcApex : Nat := 300
  /-- DC estimate, 0.1 mA (06 R194) -/
  est : Int := 0
  /-- DC_SLOW, 0.1 mA (06 R194) -/
  dcSlow : Int := 0
  /-- DC_FAST, 0.1 mA (06 R194) -/
  dcFast : Int := 0
  /-- DC_SLOW may trigger (06 R194) -/
  slowArmed : Bool := true
  /-- DC_FAST may trigger (06 R194) -/
  fastArmed : Bool := true
  /-- uptime in ms since which DC_SLOW is at or above 2.5 mA (06 R196) -/
  warnSince : Option Nat := none
  /-- PROT_RC_WARN is armed (06 R196) -/
  warnArmed : Bool := true
  /-- DC warning active (06 PROT_STATUS) -/
  warnActive : Bool := false
  /-- AC residual, 0.1 mA (06 R198) -/
  ac : Nat := 0
  /-- the AC path may trigger (06 R198) -/
  acArmed : Bool := true
  /-- consecutive excitation periods without saturation (06 R202) -/
  satRun : Nat := 0
  /-- the front end passes its check (06 PROT_STATUS) -/
  frontGood : Bool := true
  /-- uptime in ms of the last reduction of IOL (06 R206) -/
  iolCut : Nat := 0
  /-- a self-test is running (06 R207) -/
  stRun : Bool := false
  /-- uptime in ms at which it started (06 R207) -/
  stFrom : Nat := 0
  /-- offset found by step 1, DC, 0.1 mA (06 R207) -/
  offDc : Int := 0
  /-- offset found by step 1, AC, 0.1 mA (06 R207) -/
  offAc : Nat := 0
  /-- its trigger (06 PROT_SELFTEST_DONE) -/
  stTrig : Nat := 0
  /-- tag of the PROT_SELFTEST that waits (06 R216) -/
  stTag : Option Nat := none
  /-- the repeat is running (06 R208) -/
  stRetry : Bool := false
  /-- last self-test passed (06 PROT_STATUS) -/
  stPass : Bool := false
  /-- a self-test has passed since the last trip (06 R210) -/
  stSince : Bool := false
  /-- protection trips since the reset of AON (06 PROT_STATUS) -/
  trips : Nat := 0
  /-- trip instant of the last trip, ms TAI (06 PROT_STATUS) -/
  last : Nat := 0
  /-- first cause code of the open trip record (06 R205) -/
  tripFirst : Option Nat := none
  /-- cause codes recorded (06 R205) -/
  tripAll : Nat := 0
  /-- VALUE of the first cause (06 PROT_TRIP) -/
  tripVal : Int := 0
  /-- trip instant (06 PROT_TRIP) -/
  tripTime : Nat := 0
  /-- session state at the trip (06 PROT_TRIP) -/
  tripState : Nat := 0
  deriving DecidableEq, Repr

/-- One safety output pair: 0 to 23 the outlet contactors, 24 and 25 the site main contactors (07). -/
structure OutPair where
  /-- both switches are commanded on (07 R233) -/
  on : Bool := false
  /-- pull-in runs; the economiser has not taken over (07 R233) -/
  pullin : Bool := false
  /-- step a of the pair test passed (07 R232) -/
  testA : Bool := false
  /-- both steps of the pair test passed (07 R232) -/
  tested : Bool := false
  /-- uptime in ms at which the test ended (07 R232) -/
  testedAt : Nat := 0
  /-- step a of the pair test runs or is due (07 R232) -/
  testDue : Bool := false
  /-- consecutive checks with the coil current below half of HOLD (07 R235) -/
  lowRun : Nat := 0
  deriving DecidableEq, Repr

/-- A SAFE_WELD_RESOLVE that waits (R226, R258). -/
structure Resolve where
  /-- outlet whose weld it is to resolve (07 R258) -/
  outlet : Nat := 0
  /-- its tag (07 R258) -/
  tag : Nat := 0
  /-- its role (07 R226) -/
  role : Nat := 0
  deriving DecidableEq, Repr

/-- One site main contactor and its bus (07). -/
structure Site where
  /-- the mirror contact on SITEFBn shows open (07 R233, SITEFB) -/
  mirrorOpen : Bool := false
  /-- a closing waits for its mirror contact (07 R233) -/
  closing : Bool := false
  /-- steps 1 to 3 of R224 are running (07 R224) -/
  opening : Bool := false
  /-- an automatic closing after a start is due (07 R236) -/
  auto : Bool := false
  /-- SAFE_WELD_RESOLVE commands that wait, in order (07 R226, R258) -/
  resolves : List Resolve := []
  /-- the 100 ms watch of the presence comparators runs (07 R226) -/
  watch : Bool := false
  /-- tags of the SAFE_SITE_SET commands that wait for a closing (07 R259) -/
  closeTags : List Nat := []
  /-- tags of the SAFE_SITE_SET commands that wait for an opening (07 R259) -/
  openTags : List Nat := []
  /-- cause code of the release under way (07 R224) -/
  releaseCause : Nat := 16
  deriving DecidableEq, Repr

/-- One channel of a dual-channel input (07). -/
structure SinChan where
  /-- sampled level, true closed (07 SAFE_STATUS.RAW) -/
  raw : Bool := true
  /-- consecutive samples at that level (0.25 ms each) (07 R228) -/
  run : Nat := 0
  /-- accepted level, true closed (07 R228) -/
  acc : Bool := true
  /-- a level has been accepted since the start (07 R228) -/
  known : Bool := false
  deriving DecidableEq, Repr

/-- One dual-channel safety input (07). -/
structure Sin where
  /-- channel A (07 R227) -/
  a : SinChan := {}
  /-- channel B (07 R227) -/
  b : SinChan := {}
  /-- the input is in demand (07 R228) -/
  demand : Bool := false
  /-- uptime in ms at which the discrepancy timer started (07 R229) -/
  disc : Option Nat := none
  /-- cycle after SIN_DISC: 0 not begun, 1 both went to demand in time, 2 complete (07 R231) -/
  cycle : Nat := 0
  deriving DecidableEq, Repr

/-- The record of one outlet in the factory image (R240): not fitted, RC_AC 30, RATED 160, OC_THR 0, RC_APEX 300, PULLIN 8, HOLD 25. -/
def factoryOutlet : Bytes :=
  [0, 30] ++ toLE 2 160 ++ toLE 2 0 ++ toLE 2 300 ++ [8, 25] ++ zeros 6

/-- The factory image without its CHECK (R240). -/
def factoryBody : Bytes :=
  [1, 0] ++ zeros 14 ++ (List.replicate 24 factoryOutlet).flatten
    ++ (List.replicate 2 ([8, 25] ++ zeros 6)).flatten
    ++ (List.replicate 8 ([0, 0, 3, 0] ++ toLE 2 100 ++ zeros 5)).flatten ++ zeros 4

/-- The factory safety image (R240). -/
def factoryImage : Bytes := factoryBody ++ toLE 4 (crc32c factoryBody)

/-- The output pairs after reset. -/
def resetOutPairs : Vector OutPair 26 := ⟨⟨List.replicate 26 {}⟩, rfl⟩

/-- The site main contactors after reset. -/
def resetSites : Vector Site 2 := ⟨⟨List.replicate 2 {}⟩, rfl⟩

/-- The safety inputs after reset. -/
def resetSins : Vector Sin 8 := ⟨⟨List.replicate 8 {}⟩, rfl⟩

/-- The safety island (07, SAFE domain). -/
structure Island where
  /-- configuration image in force, TMR (07 R240) -/
  img : Bytes := factoryImage
  /-- island safe state (07 R220) -/
  safeState : Bool := false
  /-- the 20 ms timer has switched the output pairs off (07 R220) -/
  pairsOff : Bool := false
  /-- TMR_FAIL on a configuration field (07 R247 reason 4) -/
  cfgFail : Bool := false
  /-- the buses close once the confirmation pending at the start has been given (07 R236) -/
  autoDue : Bool := false
  /-- bits 3, 5, 6 and 7: pending confirmation reasons of this start (07 R247) -/
  reasons : Nat := 0
  /-- confirmation digits entered (07 R249) -/
  kpDigits : List Nat := []
  /-- wrong confirmation entries (07 R249) -/
  kpWrong : Nat := 0
  /-- keypad confirmation is refused (07 R249) -/
  kpLock : Bool := false
  /-- output pairs (07 R232) -/
  pairs : Vector OutPair 26 := resetOutPairs
  /-- site main contactors (07 R224) -/
  sites : Vector Site 2 := resetSites
  /-- safety inputs (07 R227) -/
  sins : Vector Sin 8 := resetSins
  /-- SF2, SF3 and SF5 demands that have not ended: function and outlet (07 R737) -/
  sfOpen : List (Nat × Nat) := []
  deriving DecidableEq, Repr

/-- An entry of the safety change log (R250). -/
structure ChangeEntry where
  /-- SEQ (07 R250) -/
  seq : Nat := 0
  /-- TIME, ms TAI (07 R250) -/
  time : Nat := 0
  /-- ROLE (07 R250) -/
  role : Nat := 0
  /-- KIND (07 R250) -/
  kind : Nat := 0
  /-- check value before (07 R250) -/
  old : Nat := 0
  /-- check value after (07 R250) -/
  new : Nat := 0
  deriving DecidableEq, Repr

/-- A SYS_DOMAIN_SET that waits for supply-good (R94, R658). -/
structure DomWait where
  /-- its tag (03 R94) -/
  tag : Nat := 0
  /-- domain mask before it (03 R94) -/
  old : Nat := 0
  /-- domains it switches (03 R94) -/
  sel : Nat := 0
  deriving DecidableEq, Repr

/-- Supplies, domains and power states (22, AON). -/
structure Power where
  /-- power state; Run after reset (22 PWR_STATE) -/
  state : PowerState := .run
  /-- domains switched on; per start (22 PWR_DOMAIN) -/
  on : Nat := 0x003
  /-- supply-good of the domains; per start (22 PWR_DOMAIN) -/
  pgood : Nat := 0x003
  /-- domains that were on before Quiet (22 R660) -/
  before : Nat := 0
  /-- NETQ of the command that entered Quiet: NET stays on (03 R92) -/
  netq : Bool := false
  /-- Dormant was commanded and is entered after 5 ms (03 R93) -/
  dormantDue : Bool := false
  /-- a domain change that waits for supply-good (03 R94) -/
  wait : Option DomWait := none
  /-- domains that have failed (22 R659) -/
  lost : Nat := 0
  /-- power-fail sequence running or its hold (22 PWR_STATE) -/
  hold : Bool := false
  /-- shedding and last-gasp work runs or a reset is held (21 R736) -/
  shed : Bool := false
  /-- last step of the power-fail sequence completed (22 R665, R668) -/
  gasp : Nat := 0
  /-- in Dormant: VSUP has fallen below the supply minimum (03 R93) -/
  fell : Bool := false
  /-- REJ (22 PWR_PF_CFG) -/
  rej : Bool := false
  /-- 10 mV (22 PWR_VSUP) -/
  vsup : Nat := 0
  /-- 10 mV (22 PWR_VSUP) -/
  vkc : Nat := 0
  /-- 1 mV (22 PWR_VBAK) -/
  vbak : Nat := 0
  /-- SRC (22 PWR_VBAK) -/
  src : Nat := 0
  /-- 10 mV (22 PWR_VBNKm) -/
  vbnk : List Nat := [0,0,0,0]
  /-- 10 mV (22 PWR_PILOT) -/
  vpp12 : Nat := 0
  /-- 10 mV (22 PWR_PILOT) -/
  vpn12 : Int := 0
  /-- GOOD (22 PWR_RAIL) -/
  railGood : Nat := 0
  /-- 0.1 °C (22 PWR_TEMP) -/
  temp : Int := 0
  /-- HRST# is low (02 R57, R58) -/
  hrstLow : Bool := false
  /-- the cause of a reset whose start has not run; POR first (21 R647) -/
  awaiting : Option Nat := some 1
  /-- APP is reduced to one core (22 R665) -/
  oneCore : Bool := false
  deriving DecidableEq, Repr

/-- A TLS connection (R151): the cipher suite, the slot of the SECC certificate, and whether the client was authenticated. -/
structure TlsConn where
  suite : Suite
  cert : Nat
  client : Bool
  deriving DecidableEq, Repr

/-- A response to the EV (R150, R152, R158, R167 to R171). -/
inductive V2gRes where
  /-- none was sent -/
  | silent
  /-- SDP response: link-local address, TCP port, TLS -/
  | sdp (addr port : Nat) (tls : Bool)
  /-- SupportedAppProtocolRes: PROTOCOL -/
  | protocol (p : Nat)
  /-- response code OK -/
  | ok
  /-- a failure response code -/
  | failed
  /-- OK, and the authorisation goes on -/
  | ongoing
  /-- the services offered: EIM, contract payment, AC_BPT -/
  | services (eim contract bpt : Bool)
  /-- one PMaxSchedule entry in W -/
  | pmax (watts : Int)
  /-- EVSEMaxCurrent in 0.1 A -/
  | current (amps : Int)
  /-- EVSETargetActivePower in W -/
  | power (watts : Int)
  /-- one schedule entry: its length in s and its limit in W -/
  | schedule (seconds : Nat) (watts : Int)
  /-- AC_ChargeLoopRes in Scheduled mode: EVSENotification requests a renegotiation -/
  | loop (renegotiate : Bool)
  /-- import in Wh, and export in a BPT session -/
  | meter (imp : Nat) (exp : Option Nat)
  /-- the host's EXI response -/
  | relayed (exi : Bytes)
  deriving DecidableEq, Repr

/-- What a frame of the pilot line carries (R157, R160, R162, R164). -/
inductive PlcBody where
  /-- beacon with the short network identifier -/
  | beacon (snid : Nat)
  /-- CM_SLAC_PARM.CNF -/
  | parmCnf (runid : Nat)
  /-- CM_ATTEN_CHAR.IND: sounds detected and the attenuation of each group -/
  | attenChar (runid sounds : Nat) (groups : List Int)
  /-- CM_VALIDATE.CNF: not required -/
  | notRequired
  /-- CM_VALIDATE.CNF: toggle counting, and at its end whether it succeeded -/
  | toggles (success : Option Bool)
  /-- CM_SLAC_MATCH.CNF: network identifier and network membership key -/
  | matchCnf (runid nid nmk : Nat)
  /-- a V2G response -/
  | v2g (r : V2gRes)
  deriving DecidableEq, Repr

/-- A frame that waits for a transmit lane or holds one (R156): outlet, source MAC, priority 4 beacon, 3 CA3 to 0 CA0, uptime in ms of the request, content. -/
structure PlcFrame where
  outlet : Nat
  src : Nat
  prio : Nat
  at_ : Nat
  body : PlcBody
  deriving DecidableEq, Repr

/-- What a front end measured in a SLAC run (R161): sounds detected, sounds in the average, and the sum of their attenuation in each group. -/
structure Heard where
  detected : Nat := 0
  n : Nat := 0
  sums : List Int := []
  deriving DecidableEq, Repr

/-- A SLAC run of a candidate outlet (R160 to R164). -/
structure SlacRun where
  /-- RUNID (05 R160) -/
  runid : Nat := 0
  /-- EV_MAC (05 HLC_SLAC) -/
  mac : Nat := 0
  /-- sounds announced in CM_START_ATTEN_CHAR.IND (05 R162) -/
  announced : Nat := 0
  /-- what each front end measured (05 R161) -/
  heard : List Heard := []
  /-- XT_MARGIN of the run (05 R163) -/
  xt : Nat := 10
  /-- ATTEN_MAX of the run (05 R163) -/
  amax : Nat := 60
  /-- the decision (05 R162) -/
  decided : Option Bool := none
  deriving DecidableEq, Repr

/-- High-level communication of one outlet (05). -/
structure Hlc where
  /-- fallback flag (05 R165) -/
  fallback : Bool := false
  /-- the SLAC run in which the outlet is candidate (05 R160) -/
  run : Option SlacRun := none
  /-- its front end was switched off, and state A has not been accepted since (05 R175) -/
  waitA : Bool := false
  /-- SLAC_INIT runs (05 R165) -/
  initOpen : Bool := false
  /-- the 20 s for SessionSetupReq run (05 R165) -/
  setupOpen : Bool := false
  /-- a match holds (05 R159) -/
  assoc : Bool := false
  /-- a V2G session is open (05 R159) -/
  v2g : Bool := false
  /-- the V2G session is paused (05 R169) -/
  pausedV : Bool := false
  /-- the EV has been told that it is authorised (05 HLC_SESSION) -/
  authSeen : Bool := false
  /-- Dynamic control mode (05 R168) -/
  dynamic : Bool := false
  /-- target of the last schedule sent, 0.1 A (05 R168) -/
  schedTarget : Int := 0
  /-- EVMaxCurrent of ISO 15118-2, 0.1 A (08 R264) -/
  evMax : Option Nat := none
  /-- EVMaximumChargePower of ISO 15118-20, W (08 R264) -/
  evCharge : Option Nat := none
  /-- EVMaximumDischargePower of ISO 15118-20, W (08 R264) -/
  evDischarge : Option Nat := none
  /-- PROTOCOL: 0 none, 1 ISO 15118-2, 2 ISO 15118-20 (05 R179) -/
  proto : Nat := 0
  /-- TLS (05 R179) -/
  tls : Bool := false
  /-- the TLS connection (05 R151) -/
  conn : Option TlsConn := none
  /-- PnC (05 R179) -/
  pnc : Bool := false
  /-- the session is bidirectional (05 R172) -/
  bidir : Bool := false
  /-- HLC_EXPORT_SET in force (05 R180) -/
  expSet : Option Bool := none
  /-- export permission of the session (05 R171) -/
  expOk : Bool := false
  /-- EV_MAC (05 R179) -/
  evMac : Nat := 0
  /-- AAG at match (05 R179) -/
  atten : Nat := 0
  /-- smallest difference at match (05 R179) -/
  margin : Nat := 0xFF
  /-- network membership key; a free value at each match (05 R164) -/
  nmk : Nat := 0
  /-- network identifier (05 R164) -/
  nid : Nat := 0
  /-- B to C toggles counted (05 R164) -/
  toggles : Nat := 0
  /-- the toggle window is open (05 R164) -/
  toggleWin : Bool := false
  /-- the CM_VALIDATE exchange succeeded (05 R162) -/
  validOk : Bool := false
  /-- pending certificate request: KIND and EXI request (05 R167) -/
  cert : Option (Nat × Bytes) := none
  /-- no reply came within 4 s, and the EV was answered with a failure (05 R167) -/
  certLate : Bool := false
  /-- the last response to the EV (05 R152, R167, R168, R170) -/
  resp : V2gRes := .silent
  /-- RXDROP (05 R183) -/
  rxdrop : Nat := 0
  /-- TXDROP (05 R183) -/
  txdrop : Nat := 0
  /-- FRAMES_RX (05 R183) -/
  framesRx : Nat := 0
  /-- FRAMES_TX (05 R183) -/
  framesTx : Nat := 0
  /-- SLAC_OK (05 R183) -/
  slacOk : Nat := 0
  /-- SLAC_REJ (05 R183) -/
  slacRej : Nat := 0
  deriving DecidableEq, Repr

/-- The pilot-line engine (05, PIL). -/
structure Plc where
  /-- demodulation lanes that pass their self-check (05 R154, R176) -/
  rxLanes : Nat := 8
  /-- outlets whose frames hold a demodulation lane (05 R154) -/
  rxOn : List Nat := []
  /-- transmit lanes that pass their self-check (05 R156, R176) -/
  txLanes : Nat := 8
  /-- waiting frames, oldest first (05 R156) -/
  txWait : List PlcFrame := []
  /-- frames that hold a transmit lane (05 R156) -/
  txOn : List PlcFrame := []
  /-- hearing list of the last decoded frame (05 R154) -/
  heardLast : List Preamble := []
  /-- XT_MARGIN (05 R163) -/
  xt : Nat := 10
  /-- ATTEN_MAX (05 R163) -/
  amax : Nat := 60
  /-- front ends that failed their calibration (05 R176) -/
  afe : Nat := 0
  deriving DecidableEq, Repr

/-- The default HLC_CONFIG of outlet `n` (R177). -/
def defHlcCfg (n : Nat) : Bytes := [BitVec.ofNat 8 n, 6, 3, 0, 0, 50, 0, 0]

/-- What the last local round found for one outlet (R286). -/
structure BudLast where
  /-- CAP (08 R286) -/
  cap : Nat := 0
  /-- GRANT (08 R286) -/
  grant : Int := 0
  /-- LIMIT_BY (08 R286) -/
  limit : Nat := 11
  deriving DecidableEq, Repr

/-- Default BUD_CONFIG (R285). -/
def defBudCfg : Bytes := zeros 12 ++ List.replicate 12 255 ++ zeros 8 ++ [30, 1, 0, 0]

/-- Default bytes 0 to 11 of BUD_OUTLET of outlet `n` (R286; DISCHARGE 0). -/
def defBudOutlet (n : Nat) : Bytes := [BitVec.ofNat 8 n, 3, 255, 255, 255, 0, 0, 0, 0, 0, 0, 0]

/-- Default LAT_CONFIG (R290; MEMBERS 2, LATTICE_ID 1, KEYSLOT and the floors DESIGN CHOICE, log entry 2). -/
def defLatCfg : Bytes := [0, 2, 0, 6, 1, 0, 0, 0, 0, 0, 0, 3] ++ zeros 12


/-- The result of a local round (R270). -/
structure RoundRes where
  /-- uptime in ms at which it completed (08 R270) -/
  at_ : Nat := 0
  /-- setpoints (08 R267) -/
  grants : List Int := []
  /-- outlets that held 6.0 A and got 0 for lack of room (08 R268) -/
  noRoom : List Nat := []
  deriving DecidableEq, Repr

/-- The budget engine (08, APP). -/
structure Budget where
  /-- BUD_CONFIG in force; loaded from the configuration area at a start (08 R285) -/
  cfg : Bytes := defBudCfg
  /-- EXT given with BUD_EXTLOAD and not lapsed (08 R262) -/
  ext : Option (List Nat) := none
  /-- eligible outlets, earliest first (08 R267) -/
  elig : List Nat := []
  /-- outlets in a hold of PAUSE_HOLD (08 R268) -/
  hold : List Nat := []
  /-- outlets that held 6.0 A and got 0 for lack of room, in the round that the step register holds (08 R268) -/
  noRoom : List Nat := []
  /-- reclaim caps: outlet and cap (08 R265) -/
  reclaim : List (Nat × Nat) := []
  /-- results of the last round, by outlet (08 R286) -/
  last : List BudLast := []
  /-- step register: setpoints for the next step instant (08 R270) -/
  reg : List Int := []
  /-- results of the local rounds that no step instant has taken, newest first (08 R270, 01 R22) -/
  rounds : List RoundRes := []
  /-- the source has changed since the last step instant (08 R272) -/
  moved : Bool := false
  /-- a valid SHARE has been taken since the last handover (01 R22) -/
  shareSeen : Bool := false
  /-- DEM_IMP of the last round (08 R279) -/
  demI : List Nat := [0,0,0]
  /-- DEM_EXP of the last round (08 R279) -/
  demE : List Nat := [0,0,0]
  /-- SOURCE is LINE (08 R271) -/
  line : Bool := true
  /-- commanded step instant, ms TAI (08 R274) -/
  stepAt : Option Nat := none
  /-- uptime in ms of the last step instant (08 R272) -/
  lastStep : Option Nat := none
  /-- the reduced set of a handover is in force (01 R22) -/
  reduced : Bool := false
  deriving DecidableEq, Repr

/-- A member of the lattice as this one sees it (R276, R281). -/
structure Member where
  /-- identity (08 R276) -/
  id : Nat := 0
  /-- ROUND of its last accepted REPORT (08 R278) -/
  lastR : Option Nat := none
  /-- ROUND of its last accepted SHARE (08 R278) -/
  lastS : Option Nat := none
  /-- its REPORT of the round has arrived (08 R281) -/
  fresh : Bool := false
  /-- it counts as heard (08 R276) -/
  heard : Bool := false
  /-- consecutive missed REPORTs (08 R281) -/
  missed : Nat := 3
  /-- consecutive rounds in which it was heard (08 R276) -/
  run : Nat := 0
  /-- STATE of its last REPORT (08 R279) -/
  st : Nat := 0
  /-- FLOOR_IMP (08 R279) -/
  floorI : List Nat := [0,0,0]
  /-- FLOOR_EXP (08 R279) -/
  floorE : List Nat := [0,0,0]
  /-- DEM_IMP (08 R279) -/
  demI : List Nat := [0,0,0]
  /-- DEM_EXP (08 R279) -/
  demE : List Nat := [0,0,0]
  /-- EXT of its REPORT of the round (08 R281) -/
  ext : Option (List Nat) := none
  /-- import grants of the last two rounds, newest first (08 R281) -/
  gI : List (List Nat) := []
  /-- export grants of the last two rounds, newest first (08 R281) -/
  gE : List (List Nat) := []
  deriving DecidableEq, Repr

/-- A SHARE that this member will apply (R283). -/
structure Share where
  /-- its ROUND (08 R280) -/
  round : Nat := 0
  /-- its STEP, ms TAI (08 R280) -/
  step : Nat := 0
  /-- own import grant (08 R280) -/
  gI : List Nat := [0,0,0]
  /-- own export grant (08 R280) -/
  gE : List Nat := [0,0,0]
  deriving DecidableEq, Repr

/-- The lattice protocol (08, APP). -/
structure Lattice where
  /-- the other members (08 R276) -/
  members : List Member := []
  /-- round last started or received (08 R276) -/
  round : Nat := 0
  /-- last lattice round applied (08 R287) -/
  applied : Nat := 0
  /-- this member leads (08 R276) -/
  leading : Bool := false
  /-- LEADER, present leader (08 R291) -/
  leader : Nat := 0
  /-- consecutive rounds with a SHARE received (08 R276) -/
  shareRun : Nat := 0
  /-- consecutive rounds without a SHARE (08 R276) -/
  noShare : Nat := 0
  /-- a SHARE has arrived in this round (08 R276) -/
  got : Bool := false
  /-- the SHARE that waits for its step instant (08 R283) -/
  share : Option Share := none
  /-- as leader: round and STEP of the grants computed and not yet sent (08 R281) -/
  computed : Option (Nat × Nat) := none
  /-- as leader: own import grants of the last two rounds (08 R281) -/
  ownI : List (List Nat) := []
  /-- as leader: own export grants of the last two rounds (08 R281) -/
  ownE : List (List Nat) := []
  /-- as leader: floors only (08 R282) -/
  floorsOnly : Bool := false
  /-- import grant in force (08 R284) -/
  gI : List Nat := [0,0,0]
  /-- export grant in force (08 R284) -/
  gE : List Nat := [0,0,0]
  /-- consecutive missed SHAREs (08 R284) -/
  misses : Nat := 0
  /-- the member runs on its floor (08 R284) -/
  floor : Bool := true
  /-- DISCARDS (08 R291) -/
  discards : Nat := 0
  /-- ROUND of the own last REPORT (08 R278) -/
  sent : Nat := 0
  deriving DecidableEq, Repr

/-- The group record of a calibration set (R327). -/
structure GroupCal where
  /-- TSRC: 0 to 3 NTC0 to NTC3, 4 die sensor (09 R327) -/
  tsrc : Nat := 4
  /-- RATIO; the recommended value when no copy is valid (09 R296, R315) -/
  ratio : Nat := 2500
  /-- BURDEN, 0.01 ohm (09 R296, R315) -/
  burden : Nat := 1250
  deriving DecidableEq, Repr

/-- The record of one channel and gain of a calibration set (R328, R329). -/
structure ChanCal where
  /-- G0, Q2.30 (09 R307, R315) -/
  g0 : Nat := 0x40000000
  /-- OFFSET (09 R307, R315) -/
  offset : Int := 0
  /-- PH0 (09 R307, R315) -/
  ph0 : Int := 0
  /-- temperature table (09 R308, R315) -/
  table : Bytes := zeros 64
  deriving DecidableEq, Repr

/-- Group records with the recommended values (R296, R315). -/
def resetGroups : List GroupCal :=
  List.replicate 24 ({} : GroupCal) ++ List.replicate 2 { ratio := 1001, burden := 0 }

/-- One calibration set (09): 26 groups and 200 channel-and-gain records in the order of R330. -/
structure CalSet where
  /-- group records (09 R330) -/
  groups : List GroupCal := resetGroups
  /-- channel-and-gain records; an absent one has its R315 value (09 R330) -/
  chans : List ChanCal := []
  deriving DecidableEq, Repr

/-- A copy of the calibration set in NAND (R313, R315). -/
structure CalCopy where
  /-- the set (09 R313) -/
  set : CalSet := {}
  /-- its generation (09 R313) -/
  gen : Nat := 0
  /-- its CRC-32C is correct (09 R315) -/
  valid : Bool := false
  deriving DecidableEq, Repr

/-- One metrology channel at work (09). -/
structure ChanRun where
  /-- gain in use: true x16 (09 R299) -/
  hiGain : Bool := false
  /-- gain decided and not yet switched (09 R300) -/
  pending : Option Bool := none
  /-- consecutive half-cycles below 5 % (09 R299) -/
  lowRun : Nat := 0
  /-- the next clip latches METRO_CLIP (09 R302) -/
  clipArmed : Bool := true
  /-- a sample of the half-cycle under way is clipped (09 R302) -/
  clipNow : Bool := false
  /-- uptime of the last clipped sample, ms (09 R333) -/
  clipUp : Option Nat := none
  /-- largest corrected sample magnitude of the half-cycle under way (09 R299) -/
  peak : Nat := 0
  /-- CLIPS (09 R333) -/
  clips : Nat := 0
  /-- SWITCHES (09 R333) -/
  switches : Nat := 0
  /-- OVERLOADS (09 R333) -/
  overloads : Nat := 0
  /-- DG of each gain (09 R307) -/
  dg : List Int := [0, 0]
  /-- DP of each gain (09 R307) -/
  dp : List Int := [0, 0]
  /-- self-calibration baseline of each gain: response and delay in ns (09 R320) -/
  base : List (Option (Int × Int)) := [none, none]
  /-- VISIT of each gain (09 R328) -/
  visit : List Nat := [0, 0]
  /-- terms held until a commit (09 R323) -/
  heldT : Bool := false
  /-- the visit under way is the repeat (09 R323) -/
  repeated : Bool := false
  /-- measured offset of each gain (09 R316) -/
  afe : List Int := [0, 0]
  /-- last corrected and aligned sample (09 R307) -/
  last : Int := 0
  /-- the last corrected samples at the input of the fractional-delay filter, newest first (09 R307) -/
  hist : List Int := []
  /-- sum of the squared corrected samples of the half-cycle under way (04 R116, 09 R299) -/
  sq : Nat := 0
  /-- samples in that sum (04 R116, 09 R299) -/
  sqN : Nat := 0
  /-- the same sum over the last whole half-cycle, whose RMS is the half-cycle RMS (04 R116, 09 R299) -/
  halfSq : Nat := 0
  /-- samples in it; 0 while no half-cycle has ended (04 R116, 09 R299) -/
  halfN : Nat := 0
  /-- delay in force of the fractional-delay filter, ns (09 R307) -/
  delay : Int := 0
  deriving DecidableEq, Repr

/-- An NTC input (R310). -/
structure Ntc where
  /-- consecutive readings out of range (09 R310) -/
  bad : Nat := 0
  /-- seconds of valid readings during the fallback (09 R310) -/
  good : Nat := 0
  /-- the groups use the die sensor (09 R310) -/
  fallback : Bool := false
  /-- last valid temperature, 0.001 °C (09 R310) -/
  reading : Int := 0
  deriving DecidableEq, Repr

/-- A METRO_RAW that waits for the next rising crossing (R335). -/
structure RawWait where
  /-- its tag (09 R335) -/
  tag : Nat := 0
  /-- CH (09 R335) -/
  ch : Nat := 0
  /-- samples still to capture (09 R335) -/
  left : Nat := 0
  /-- the crossing has come (09 R335) -/
  started : Bool := false
  /-- next offset in the bulk slot (09 R335) -/
  off : Nat := 0
  /-- BOFF (09 R335) -/
  boff : Nat := 0
  /-- BLEN (09 R335) -/
  blen : Nat := 0
  deriving DecidableEq, Repr

/-- The channels after reset. -/
def resetChanRun : Vector ChanRun 104 := ⟨⟨List.replicate 104 {}⟩, by simp⟩

/-- Group temperatures after reset. -/
def resetTemps : List Int := List.replicate 26 0

/-- The metrology front end (09, META). -/
structure Metro where
  /-- active set (09 R311) -/
  active : CalSet := {}
  /-- set that becomes active at the next latch (09 R313) -/
  next : Option CalSet := none
  /-- working set; equals the active set after a start (09 R311) -/
  working : CalSet := {}
  /-- active generation (09 R330) -/
  gen : Nat := 0
  /-- both copies were invalid (09 R315) -/
  uncal : Bool := false
  /-- the working set is unchanged since the last METRO_CAL_DIGEST (09 R331) -/
  digested : Bool := false
  /-- tag of the METRO_CAL_COMMIT in progress (09 R314) -/
  commit : Option Nat := none
  /-- channels (09 R299) -/
  chans : Vector ChanRun 104 := resetChanRun
  /-- group temperatures, 0.001 °C inside the smoothing filter (09 R309) -/
  temps : List Int := resetTemps
  /-- NTC inputs (09 R310) -/
  ntcs : List Ntc := [{}, {}, {}, {}]
  /-- line-cycle counter; 0 at the power-up of META (15 R518) -/
  cycles : Nat := 0
  /-- line frequency, mHz (09 R304) -/
  freq : Nat := 0
  /-- last rising periods of the reference phase, µs (09 R304) -/
  periods : List Nat := []
  /-- FREQB (09 R334) -/
  freqB : Nat := 0
  /-- crossings are synthesised (09 R306) -/
  synth : Bool := false
  /-- uptime at which they began to be, ms (09 R306) -/
  synthAt : Nat := 0
  /-- last measured period of the 8 voltage channels, µs; 0 while none is (10 R338) -/
  vper : List Nat := [0, 0, 0, 0, 0, 0, 0, 0]
  /-- the counter holds (09 R306) -/
  hold : Bool := false
  /-- time since the last crossing of the reference phase, 5 µs (09 R95) -/
  sinceZc : Nat := 0
  /-- reference phase in use (09 R305) -/
  refph : Nat := 1
  /-- changed REFPH that waits for its first valid crossing (09 R305) -/
  refNext : Option Nat := none
  /-- group of the self-calibration visit under way (09 R320) -/
  visitG : Option Nat := none
  /-- next group to visit (09 R320) -/
  visitNext : Nat := 0
  /-- restarts of the visit (09 R322) -/
  restarts : Nat := 0
  /-- the METRO_RAW that waits (09 R335) -/
  raw : Option RawWait := none
  deriving DecidableEq, Repr

/-- Default METRO_CONFIG (R326). -/
def defMetroCfg : Bytes := toLE 2 230 ++ [50, 1] ++ toLE 2 1000 ++ toLE 2 3435 ++ [1] ++ zeros 7

/-- The latch registers (R348). -/
structure Latch where
  /-- latch sequence (10 R348) -/
  seq : Nat := 0
  /-- SAMPLE of the split (10 R346) -/
  sample : Nat := 0
  /-- line-cycle counter (10 R348) -/
  cycles : Nat := 0
  /-- RTC time of the split, ms TAI (10 R348, 11 R386) -/
  time : Nat := 0
  /-- PTP time of the split, ms; 0 while NET is off (10 R348) -/
  ptp : Nat := 0
  /-- bit 0 periodic, 1 boundary, 2 command (10 R350) -/
  kind : Nat := 0
  /-- latch flags (10 R350) -/
  flags : Nat := 0
  /-- the accumulators of every outlet, in 2^-16 of a unit (10 R348) -/
  acc : List (List Nat) := []
  deriving DecidableEq, Repr

/-- Present power values of one outlet (R338). -/
structure Inst where
  /-- active power of each metered phase, mW (10 R338) -/
  p : List Int := [0,0,0]
  /-- reactive power, mvar (10 R338) -/
  q : List Int := [0,0,0]
  /-- apparent power, mVA (10 R338) -/
  sa : List Nat := [0,0,0]
  /-- I rms of L1 to L3, mA (10 R370) -/
  i : List Nat := [0,0,0]
  /-- I rms of N, mA (10 R363) -/
  n : Nat := 0
  /-- direction state (10 R344) -/
  expo : Bool := false
  /-- samples for which the opposite sign has been kept (10 R344) -/
  dirRun : Nat := 0
  /-- SAMPLE of the first sample of the new sign (10 R344) -/
  dirFirst : Nat := 0
  /-- its time, ms TAI (10 R344) -/
  dirTime : Nat := 0
  /-- latch sequence of the interval holding it (10 ENERGY_DIRECTION) -/
  dirSeq : Nat := 0
  /-- bypass condition present (10 R362) -/
  bypass : Bool := false
  /-- rms of the instantaneous current sum over the cycle window, mA (10 R362) -/
  sum : Nat := 0
  /-- samples for which it has exceeded BYP_THR (10 R362) -/
  bypRun : Nat := 0
  /-- samples for which it has not (10 R362) -/
  bypOff : Nat := 0
  /-- energy comes from the N current (10 R363) -/
  fb : Bool := false
  /-- samples for which P_out has stayed below -REV_P outside a bidirectional session (10 R361) -/
  revRun : Nat := 0
  /-- reversed current present (10 R361) -/
  reverse : Bool := false
  deriving DecidableEq, Repr

/-- A power-quality record (R353). -/
structure PqRec where
  /-- SEQ (10 R353) -/
  seq : Nat := 0
  /-- TYPE (10 R353) -/
  type : Nat := 0
  /-- BUS (10 R353) -/
  bus : Nat := 0
  /-- PHASES (10 R353) -/
  phases : Nat := 0
  /-- WORST (10 R353) -/
  worst : Nat := 0
  /-- START, ms TAI (10 R353) -/
  start : Nat := 0
  /-- HALFCYC (10 R353) -/
  half : Nat := 0
  /-- DUR_MS (10 R353) -/
  dur : Nat := 0
  /-- EXTREME (10 R353) -/
  extreme : Nat := 0
  /-- FLAGS (10 R353) -/
  flags : Nat := 0
  /-- CAPTURE (10 R353) -/
  capture : Nat := 0
  deriving DecidableEq, Repr

/-- A waveform capture (R356 to R358). -/
structure Capture where
  /-- CAPTURE (10 R358) -/
  id : Nat := 0
  /-- TRIGGER (10 R358) -/
  trigger : Nat := 0
  /-- OUTLET (10 R358) -/
  outlet : Nat := 0
  /-- TIME (10 R358) -/
  time : Nat := 0
  /-- SAMPLE of the trigger (10 R358) -/
  sample : Nat := 0
  /-- FLAGS (10 R358) -/
  flags : Nat := 0
  /-- the frames; cut from the waveform ring (10 R358) -/
  frames : Bytes := []
  deriving DecidableEq, Repr

/-- A waveform export in progress (R359). -/
structure Export where
  /-- CAPTURE (10 R359) -/
  id : Nat := 0
  /-- tag of the WAVE_EXPORT (10 R359) -/
  tag : Nat := 0
  /-- next chunk (10 R359) -/
  next : Nat := 0
  /-- RP14 completion tail past the last chunk (10 R359) -/
  head : Nat := 0
  /-- uptime at which the host last moved the head, or the export began, ms (10 R359) -/
  headAt : Nat := 0
  deriving DecidableEq, Repr

/-- Accumulators at 0. -/
def resetAcc : Vector (List Nat) 24 := ⟨⟨List.replicate 24 (List.replicate 28 0)⟩, rfl⟩

/-- Present values at 0. -/
def resetInst : Vector Inst 24 := ⟨⟨List.replicate 24 {}⟩, rfl⟩

/-- Energy registers, power quality and tamper (10, META). -/
structure Energy where
  /-- accumulators with their remainder, in 2^-16 of a unit; phases L1 to L3 and then the outlet, each +A, -A, Q1 to Q4, S (10 R340, R342) -/
  acc : Vector (List Nat) 24 := resetAcc
  /-- ST11 has loaded the accumulators and the commit base, so latches are made (10 R345) -/
  loaded : Bool := false
  /-- SAMPLE; from the power-up of META (10 R346) -/
  sample : Nat := 0
  /-- waveform ring: the corrected samples of the 104 channels, one list a sample, newest first (10 R355) -/
  wave : List (List Int) := []
  /-- latch registers (10 R348) -/
  latch : Latch := {}
  /-- rising crossings since the previous periodic latch (10 R347) -/
  sinceN : Nat := 0
  /-- samples since the previous periodic latch (10 R347) -/
  sinceS : Nat := 0
  /-- LATCH_N in use (10 R347) -/
  latchN : Nat := 10
  /-- armed boundary, a SAMPLE value (10 R349) -/
  armed : Option Nat := none
  /-- the armed value was at or below SAMPLE when written (10 R349) -/
  armedLate : Bool := false
  /-- present values (10 R338) -/
  inst : Vector Inst 24 := resetInst
  /-- half-cycle rms of the 8 voltage channels over the last 1 s with the uptime of each, newest first (08 R264) -/
  vLog : List (List (Nat × Nat)) := [[], [], [], [], [], [], [], []]
  /-- last half-cycle rms of the 8 voltage channels, 0.01 V (10 R351, R364) -/
  vrms : List Nat := [0,0,0,0,0,0,0,0]
  /-- events in progress, at most a sag and a swell per bus (10 R352) -/
  pqOpen : List PqRec := []
  /-- missing neutral present on the bus (10 R364) -/
  neutral : List Bool := [false, false]
  /-- samples for which its conditions have held on the bus (10 R364) -/
  neRun : List Nat := [0, 0]
  /-- samples for which they have not (10 R364) -/
  neOff : List Nat := [0, 0]
  /-- ENERGY_LATCH_NOW commands whose latch falls at the next sample (10 R371) -/
  latchTags : List Nat := []
  /-- captures that wait to be cut (10 R357) -/
  capWait : List Capture := []
  /-- LOST (10 R373) -/
  lost : Nat := 0
  /-- the export that runs (10 R359) -/
  exporting : Option Export := none
  /-- completion index of RP14 one past the last chunk written, whose bulk region belongs to the host until the head passes it (03 R80) -/
  chunkEnd : Option Nat := none
  /-- TAMP0 and TAMP1 accepted open (10 R367) -/
  tampLevel : List Bool := [false, false]
  /-- agreeing samples of the other level (10 R367) -/
  tampCand : List Nat := [0, 0]
  deriving DecidableEq, Repr

/-- Default ENERGY_CONFIG (R351, R368). -/
def defEnergyCfg : Bytes :=
  toLE 2 10 ++ [90, 110, 5, 2] ++ toLE 2 50 ++ [2, 5, 50, 20, 3, 3, 255, 0, 0, 0, 0, 0]

/-- A ledger record (R378); its LINK and CRC follow from the chain. -/
structure LRec where
  /-- TYPE (11 R378) -/
  type : Nat := 0
  /-- FLAGS (11 R378) -/
  flags : Nat := 0
  /-- OUTLET (11 R378) -/
  outlet : Nat := 0xFF
  /-- TARIFF (11 R378) -/
  tariff : Nat := 0
  /-- GEN (11 R378) -/
  gen : Nat := 0
  /-- TIME (11 R378) -/
  time : Nat := 0
  /-- LSEQ (11 R378) -/
  lseq : Nat := 0
  /-- PERIOD (11 R378) -/
  period : Nat := 0
  /-- PAYLOAD (11 R378) -/
  payload : Bytes := []
  /-- LINK (11 R378) -/
  link : Bytes := []
  /-- AUX (11 R378) -/
  aux : Nat := 0
  /-- the record fails its CRC or LINK in NAND (11 R390) -/
  bad : Bool := false
  deriving DecidableEq, Repr

/-- A session record that waits for its commit (R149, R380). -/
structure SessRec where
  /-- OUTLET (11 R380) -/
  outlet : Nat := 0
  /-- SESSION (11 R380) -/
  num : Nat := 0
  /-- ACCOUNT (11 R380) -/
  account : Nat := 0
  /-- CAUSE (11 R380) -/
  cause : Nat := 0
  /-- HREASON (11 R380) -/
  hreason : Nat := 0
  /-- START (11 R380) -/
  start : Nat := 0
  /-- end of the session (11 R149) -/
  fin : Nat := 0
  /-- import register at its start, 2^-16 µWh (11 R380) -/
  imp0 : Nat := 0
  /-- export register at its start (11 R380) -/
  exp0 : Nat := 0
  /-- COST (11 R380, 13) -/
  cost : Int := 0
  /-- FLAGS bit 0 (11 R380) -/
  bidir : Bool := false
  /-- FLAGS bit 1 (11 R380) -/
  replay : Bool := false
  /-- amount already debited, milli-units (13 R444) -/
  debited : Int := 0
  /-- committed import energy under T1 to T8, µWh (13 R444) -/
  impT : List Nat := [0,0,0,0,0,0,0,0]
  /-- committed export energy under T1 to T8, µWh (13 R444) -/
  expT : List Nat := [0,0,0,0,0,0,0,0]
  deriving DecidableEq, Repr

/-- A retention bank (R386). -/
structure Bank where
  /-- LSEQ (11 R386) -/
  lseq : Nat := 0
  /-- BASE_SEQ (11 R386) -/
  baseSeq : Nat := 0
  /-- SAMPLE (11 R386) -/
  sample : Nat := 0
  /-- TIME (11 R386) -/
  time : Nat := 0
  /-- CYCLES (11 R386) -/
  cycles : Nat := 0
  /-- TARIFF (11 R386) -/
  tariff : Nat := 0
  /-- KIND (11 R386) -/
  kind : Nat := 0
  /-- FLAGS (11 R386) -/
  flags : Nat := 0
  /-- IMP of each outlet, µWh (11 R386) -/
  imp : List Nat := []
  /-- EXP of each outlet, µWh (11 R386) -/
  exp : List Nat := []
  /-- CRC good; invalid after POR (R662) (11 R386) -/
  ok : Bool := false
  deriving DecidableEq, Repr

/-- What the BAK domain keeps through every reset but POR (01, 21, 22). -/
structure Bak where
  /-- the RTC, ms TAI (11 R391) -/
  rtc : Nat := 0
  /-- CAUSE (21 STR_CAUSE) -/
  cause : Nat := 0
  /-- mirror of MIN_SVN (23 R677) -/
  minSvn : Nat := 0
  /-- PREV (21 STR_CAUSE) -/
  prev : Nat := 0
  /-- start records, the current start first; not run after POR (21 STR_RECk) -/
  recs : List Nat := [0,0,0,0]
  /-- starts since POR (21 STR_COUNT) -/
  count : Nat := 0
  /-- MFAIL (21 STR_NEXT) -/
  mfail : Nat := 0
  /-- RECOVER (21 STR_NEXT) -/
  recover : Bool := false
  /-- RETRY_PRIMARY written for the next start (21 STR_CTRL) -/
  retry : Bool := false
  /-- SVCBOOT sampled at this reset (21 STR_NEXT) -/
  svcboot : Bool := false
  /-- ROM recovery was entered and no firmware has started since (07 R247) -/
  romMode : Bool := false
  /-- THRESH, 48 after POR (22 PWR_PF_CFG) -/
  thresh : Nat := 48
  /-- COUNT (22 PWR_PFSTAT) -/
  pfCount : Nat := 0
  /-- PENDING (22 PWR_PFSTAT) -/
  pfPending : Bool := false
  /-- COMMITTED (22 PWR_PFSTAT) -/
  pfCommitted : Bool := false
  /-- COMPLETE (22 PWR_PFSTAT) -/
  pfComplete : Bool := false
  /-- last step completed before a shortfall (22 R668) -/
  pfShort : Option Nat := none
  /-- a power-fail happened that the next start has to latch (22 F006) -/
  pfSeen : Bool := false
  /-- outlet faults found at the releases of step 4: source and outlet (22 R665) -/
  pfFaults : List (Nat × Nat) := []
  /-- the bus was last opened by SAFE_SITE_SET (07 R236) -/
  siteHeld : List Bool := [false, false]
  /-- consecutive wrong passwords of each role (07 R243) -/
  pwWrong : List Nat := [0,0]
  /-- the role is locked out (07 R243) -/
  pwLock : List Bool := [false, false]
  /-- last confirmed check value (07 R241) -/
  confirmed : Nat := 0
  /-- RTC at the start that followed an island safe state (07 R220) -/
  safeStart : Option Nat := none
  /-- per tamper input: openings, RTC seconds of the first and of the last since the last clear (10 R367) -/
  cover : List (Nat × Nat × Nat) := [(0, 0, 0), (0, 0, 0)]
  /-- openings that firmware has taken (10 R367) -/
  coverSeen : List Nat := [0, 0]
  /-- TAMP_POL as firmware last mirrored it (10 R367) -/
  tampPol : Nat := 3
  /-- bank 0: even sequences (11 R386) -/
  bank0 : Bank := {}
  /-- bank 1: odd sequences (11 R386) -/
  bank1 : Bank := {}
  /-- bank 2: latest boundary latch (11 R386) -/
  bank2 : Bank := {}
  /-- HORIZON (11 R386) -/
  horizon : Nat := 0
  /-- PERIOD (11 R386, R400) -/
  period : Nat := 1
  /-- ARM_KINDS (11 R386) -/
  armKinds : Nat := 0
  /-- ARM_TNEW (11 R386) -/
  armTnew : Nat := 1
  /-- PENDING (11 R386) -/
  bPending : Bool := false
  /-- ARM_TIME (11 R386) -/
  armTime : Nat := 0
  /-- LG_SEQ; 0 if none since the last start (11 R386) -/
  lgSeq : Nat := 0
  /-- TRIM, 0.001 ppm (11 R386) -/
  trim : Int := 0
  /-- CUT (11 R386) -/
  cut : Nat := 0
  /-- billing time was verified and the device has not been in Dormant or Off since (11 R394) -/
  timeValid : Bool := false
  /-- consecutive failed HLS authentications of each client (12 R421) -/
  dlFails : List Nat := [0,0,0,0,0]
  /-- the client is locked out (12 R421) -/
  dlLock : List Bool := [false, false, false, false, false]
  /-- consecutive invalid keypad entries (13 R455) -/
  kpFails : Nat := 0
  /-- the keypad refuses entries (13 R455) -/
  kpLock : Bool := false
  /-- end of the lockout, ms TAI (13 R455) -/
  kpUntil : Nat := 0
  /-- mirror of the class counters (19 R593) -/
  keyCtr : List Nat := [0,0,0,0,0,0,0,0]
  deriving DecidableEq, Repr

/-- A subinterval of a demand interval that has ended (R398, R399). -/
structure DemSub where
  /-- its start, billing time (11 R398) -/
  start : Nat := 0
  /-- billing time from its start to its end, s (11 R399) -/
  elapsed : Nat := 0
  /-- a step, a start, a cut or a catch-up fell within it (11 R399) -/
  irregular : Bool := false
  /-- import energy of each outlet, µWh (11 R399) -/
  imp : List Nat := []
  /-- export energy (11 R399) -/
  exp : List Nat := []
  deriving DecidableEq, Repr

/-- The open demand interval and running maxima (R398, R399). -/
structure Demand where
  /-- start of the open (sub)interval, billing time (11 R398) -/
  start : Nat := 0
  /-- a step, a start, a cut or a catch-up falls within the interval (11 R399) -/
  irregular : Bool := true
  /-- import registers at its start, µWh (11 R399) -/
  imp0 : List Nat := []
  /-- export registers at its start, µWh (11 R399) -/
  exp0 : List Nat := []
  /-- earlier subintervals, oldest first (11 R398) -/
  subs : List DemSub := []
  /-- running demand of each outlet and of the site, W (11 R410) -/
  run : List (Nat × Nat) := []
  /-- maximum demand of the open period: MAX_IMP, T_IMP, MAX_EXP, T_EXP (11 R399) -/
  max : List (Nat × Nat × Nat × Nat) := []
  deriving DecidableEq, Repr

/-- A closed billing period (R411). -/
structure PeriodRec where
  /-- index (11 R411) -/
  period : Nat := 0
  /-- START (11 R411) -/
  start : Nat := 0
  /-- END (11 R411) -/
  fin : Nat := 0
  /-- TREG_IMP of each outlet and of the site (11 R411) -/
  tregI : List (List Nat) := []
  /-- TREG_EXP (11 R411) -/
  tregE : List (List Nat) := []
  /-- MAXDEM (11 R411) -/
  max : List (Nat × Nat × Nat × Nat) := []
  deriving DecidableEq, Repr

/-- A boundary instant worked out by the boundary sequence and not yet committed (R402). -/
structure BPlan where
  /-- latch sequence of the boundary (11 R402) -/
  lseq : Nat := 0
  /-- its billing time (11 R402) -/
  time : Nat := 0
  /-- KINDS (11 R401) -/
  kinds : Nat := 0
  /-- its latch carried LATE (11 R405) -/
  late : Bool := false
  /-- +A, -A, Q1 to Q4 of each outlet at the latch, in whole units (11 R402) -/
  vals : List (List Nat) := []
  /-- tariff register in force after it (11 R402) -/
  dst : Nat := 1
  /-- its DEMAND, PERIOD, MAXDEM, checkpoint and TARIFF records (11 R402) -/
  recs : List LRec := []
  /-- the demand interval that it opens (11 R399) -/
  dem : Demand := {}
  /-- the period that it closes (11 R400) -/
  closed : Option PeriodRec := none
  /-- CAUSE of the period close (11 R380) -/
  cause : Nat := 0
  deriving DecidableEq, Repr

/-- Billing firmware (11, APP). -/
structure Billing where
  /-- committed +A, -A, Q1 to Q4 of each outlet, in whole units (11 R380) -/
  regs : List (List Nat) := []
  /-- committed import tariff registers (11 R380) -/
  tregI : List (List Nat) := []
  /-- committed export tariff registers (11 R380) -/
  tregE : List (List Nat) := []
  /-- latch sequence of the commit base in force in META (11 R384) -/
  baseSeq : Nat := 0
  /-- commit base in force in META, µWh (11 R384) -/
  base : List (Nat × Nat) := []
  /-- commit base, BASE_SEQ and tariff index that take effect at the next latch (11 R384) -/
  newBase : Option (Nat × List (Nat × Nat) × Nat) := none
  /-- tariff index in META (11 R384) -/
  latchTariff : Nat := 1
  /-- tariff register in force (11 R396) -/
  tariff : Nat := 1
  /-- CAUSE codes of the pending commit triggers, oldest first (11 R382) -/
  trig : List Nat := []
  /-- session records to commit (11 R382) -/
  sess : List SessRec := []
  /-- tamper, calibration, time, account and voucher records to commit (11 R382) -/
  recs : List LRec := []
  /-- pair and tag of the commands that wait for a commit (11 R415) -/
  cmds : List (Nat × Nat) := []
  /-- records since the last checkpoint (11 R383) -/
  sinceCp : Nat := 0
  /-- records since the last SEAL (11 R381) -/
  sinceSeal : Nat := 0
  /-- a boundary sequence is in progress (11 R387) -/
  running : Bool := false
  /-- KINDS of the boundary sequence in progress (11 R402) -/
  kinds : Nat := 0
  /-- latch sequence of the boundary in progress (11 R402) -/
  bLseq : Nat := 0
  /-- its latch carried LATE (11 R402) -/
  bLate : Bool := false
  /-- BILL_PERIOD_CLOSE that waits (11 R412) -/
  closeTag : Option Nat := none
  /-- billing time of the commanded close (11 R412) -/
  closeAt : Option Nat := none
  /-- cause of the period close that is armed (11 R380) -/
  closeCause : Nat := 0
  /-- billing time, ms TAI (11 R391) -/
  time : Nat := 0
  /-- correction still to be slewed, ms (11 R392) -/
  slew : Int := 0
  /-- ticks towards the next 1 ms of slew (11 R392) -/
  slewAcc : Nat := 0
  /-- correction held back during a boundary sequence, and its source (11 R392) -/
  corr : Option (Int × Nat) := none
  /-- billing time unverified (11 R394) -/
  unver : Bool := true
  /-- the commit of a step runs (11 R409) -/
  stepBusy : Bool := false
  /-- demand (11 R398) -/
  dem : Demand := {}
  /-- the active calendar failed its CRC (11 F079) -/
  calBad : Bool := false
  /-- LEDGER_CHAIN found a break (11 R414) -/
  chainBad : Bool := false
  /-- DEM_MODE, DEM_LEN and DEM_SUB in force (11 R406) -/
  demCfg : List Nat := [0, 15, 1]
  /-- billing time of the last commit (11 R414) -/
  lastCommit : Nat := 0
  /-- latch sequence of the last commit (11 R414) -/
  lastLseq : Nat := 0
  /-- start of the open period (11 R380) -/
  periodStart : Nat := 0
  /-- the boundary worked out and not yet committed (11 R402) -/
  plan : Option BPlan := none
  /-- billing time up to which every boundary has been armed (11 R401) -/
  armFrom : Nat := 0
  /-- a forward step has happened since the last arming (11 R404) -/
  stepFwd : Bool := false
  deriving DecidableEq, Repr

/-- Default BILL_CONFIG (R406; DST_START and DST_END DESIGN CHOICE 0, log entry 2). -/
def defBillCfg : Bytes := [0, 15, 1, 1, 0, 0, 255, 37] ++ toLE 2 0 ++ zeros 14

/-- An open DLMS association (R419, R420). -/
structure Assoc where
  /-- client SAP (12 R419) -/
  client : Nat := 0
  /-- server SAP (12 R418) -/
  server : Nat := 0
  /-- 0 mains, 1 tunnel (12 R420) -/
  transport : Nat := 0
  /-- channel (12 R420) -/
  channel : Nat := 0
  /-- uptime in ms of its last APDU (12 R420) -/
  last : Nat := 0
  /-- encryption key slot in use (12 R437) -/
  ek : Nat := 0
  /-- authentication key slot in use (12 R437) -/
  ak : Nat := 0
  /-- its draft of the passive calendar (12 R427) -/
  draft : Option Bytes := none
  /-- a key it uses has been revoked (12 R423) -/
  dead : Bool := false
  /-- blocks of a long response still to be fetched (12 R416) -/
  blocks : List Bytes := []
  /-- number of the block last sent (12 R416) -/
  blockNo : Nat := 0
  deriving DecidableEq, Repr

/-- A DLMS_TUNNEL that waits for the response (R436). -/
structure Tunnel where
  /-- its tag (12 R436) -/
  tag : Nat := 0
  /-- CHANNEL (12 R436) -/
  channel : Nat := 0
  /-- BOFF (12 R436) -/
  boff : Nat := 0
  /-- BLEN (12 R436) -/
  blen : Nat := 0
  deriving DecidableEq, Repr

/-- The DLMS/COSEM server (12, APP). -/
structure Dlms where
  /-- open associations (12 R420) -/
  assocs : List Assoc := []
  /-- the tunnelled APDU that is being answered (12 R436) -/
  tunnel : Option Tunnel := none
  /-- the last response: the result and the values of each item (12 R433) -/
  resp : List (Nat × List Int) := []
  /-- requests that a transport holds during a handover pause, oldest first (12 R433) -/
  wait : List Instr := []
  /-- last invocation counter accepted under each key slot (12 R422) -/
  ivc : List (Nat × Nat) := []
  /-- own transmit counter (12 R422) -/
  tx : Nat := 0
  /-- alarm register (12 Objects) -/
  alarm : Nat := 0
  deriving DecidableEq, Repr

/-- The default DLMS_CONFIG (R437; EKSLOT and AKSLOT DESIGN CHOICE 0, log entry 2). -/
def defDlmsCfg : Bytes := [7] ++ zeros 19


/-- A credit account (R440). -/
structure Account where
  /-- FLAGS: bit 0 enabled, 1 export, 2 emergency automatic, 3 emergency active (13 R440) -/
  flags : Nat := 0
  /-- BALANCE, milli-units (13 R440) -/
  balance : Int := 0
  /-- EC_LIMIT (13 R440) -/
  ecLimit : Nat := 0
  /-- MINSTART (13 R440) -/
  minStart : Nat := 0
  /-- LWM, voucher low-water mark (13 R440) -/
  lwm : Nat := 0
  /-- USED, last accepted issue-hours (13 R440) -/
  used : List Nat := []
  /-- USEDMAX, highest HOUR accepted (13 R459) -/
  usedMax : Nat := 0
  deriving DecidableEq, Repr

/-- An entry of the binding table (R443). -/
structure Binding where
  /-- TYPE: 0 card UID, 1 PIN, 2 contract ID (13 R443) -/
  type : Nat := 0
  /-- ID, LEN bytes (13 R443) -/
  id : Bytes := []
  /-- ACCOUNT (13 R443) -/
  account : Nat := 0
  deriving DecidableEq, Repr

/-- A change of an account or of the binding table that the next ledger commit makes (R440, R445, R452). -/
inductive CreditOp where
  /-- CREDIT_ACCOUNT_SET: account, FLAGS, EC_LIMIT, MINSTART (R459) -/
  | set (a flags ec min : Nat)
  /-- CREDIT_ADJUST: account, AMOUNT, REF (R460) -/
  | adjust (a : Nat) (amount : Int) (ref : Nat)
  /-- CREDIT_BIND add (R461) -/
  | bind (type : Nat) (id : Bytes) (a : Nat)
  /-- CREDIT_BIND remove (R461) -/
  | unbind (type : Nat) (id : Bytes)
  /-- an accepted voucher: class, account, VALUE, HOUR, route (R452) -/
  | voucher (cls a value hour route : Nat)
  /-- emergency credit requested at the keypad (R441) -/
  | emergency (a : Nat)
  /-- EC_LIMIT written over DLMS (R456) -/
  | limit (a ec : Nat)
  deriving DecidableEq, Repr


/-- A DLMS response that waits for the commit of what its request changed (13 R452, R456). -/
structure DlReply where
  /-- client SAP (12 R419) -/
  client : Nat := 0
  /-- server SAP (12 R418) -/
  server : Nat := 0
  /-- transport (12 R434) -/
  transport : Nat := 0
  /-- channel (12 R434) -/
  channel : Nat := 0
  /-- result and values of each item (12 R416) -/
  results : List (Nat × List Int) := []
  deriving DecidableEq, Repr

/-- A pending change and the command that waits for it. -/
structure CreditWait where
  /-- the change (13 R445) -/
  op : CreditOp := .emergency 0
  /-- pair and tag of the command whose completion follows the commit (13) -/
  cmd : Option (Nat × Nat) := none
  /-- DLMS response that follows the commit (13 R452) -/
  reply : Option DlReply := none
  deriving DecidableEq, Repr

/-- Accounts at work and the keypad (13). -/
structure Credit where
  /-- changes that the next commit makes, in order of arrival (13 R445) -/
  ops : List CreditWait := []
  /-- credit state last found of each account; 2 EXHAUSTED where absent (13 R441) -/
  seen : List (Nat × Nat) := []
  /-- accounts in grace and its end, ms TAI (13 R447) -/
  grace : List (Nat × Nat) := []
  /-- accounts whose grace has run out (13 R447) -/
  ranOut : List Nat := []
  /-- a friendly window is open (13 R448) -/
  friendly : Bool := false
  /-- day of the last CREDIT_EPOCH of this start (13 R454) -/
  epochDay : Option Nat := none
  /-- CREDIT_EPOCH with state 1 was emitted (13 R454) -/
  epochDone : Bool := false
  /-- keypad row driven next (13 R457) -/
  row : Nat := 0
  /-- columns last read on each row (13 R457) -/
  cols : List Nat := [0,0,0,0]
  /-- the one key that is down (13 R457) -/
  cand : Option Nat := none
  /-- agreeing scans of that key (13 R457) -/
  run : Nat := 0
  /-- two or more keys were down and not all have been released (13 R457) -/
  multi : Bool := false
  /-- the key that is down has been accepted, or was discarded at a wake (13 R457) -/
  taken : Bool := false
  /-- entry in progress: 0 none, 1 OUT, 2 V, 3 PIN, 4 EC (13 R458) -/
  mode : Nat := 0
  /-- digits of the entry (13 R458) -/
  digits : List Nat := []
  /-- outlet selected for 60 s (13 R458) -/
  sel : Option ONum := none
  /-- ms since start of that selection (13 R458) -/
  selAt : Nat := 0
  /-- ms since start of the last accepted key (13 R458) -/
  keyAt : Nat := 0
  /-- EC was pressed: the next card or PIN requests emergency credit (13 R458) -/
  ecReq : Bool := false
  /-- account whose balance INFO shows (13 R458) -/
  shown : Option Nat := none
  deriving DecidableEq, Repr

/-- The default CREDIT_CONFIG (R447: GRACE 60; windows unused; the rest DESIGN CHOICE, log entry 2). -/
def defCreditCfg : Bytes :=
  zeros 64 ++ toLE 2 60 ++ [0, 0, 0, 0, 0, 0] ++ zeros 4
    ++ (List.replicate 4 ([255, 255, 255, 255, 0, 0, 0, 0] : Bytes)).flatten


/-- A frame queued for the mains modem (R489, R490, R499). -/
structure LineTx where
  /-- TYPE: 0 data, 1 tone map request, 2 tone map response (14 R475) -/
  type : Nat := 0
  /-- PROTO: 1 DLMS, 2 host datagram (14 R475) -/
  proto : Nat := 2
  /-- DST (14 R475) -/
  dst : Nat := 0
  /-- PRIO (14 R474) -/
  prio : Nat := 0
  /-- ACKREQ (14 R475) -/
  ackreq : Bool := false
  /-- protected (14 R491) -/
  protect : Bool := false
  /-- payload after PROTO (14 R475) -/
  body : Bytes := []
  /-- tag of the LINE_SEND (14 R499) -/
  tag : Option Nat := none
  /-- SEQ (14 R475) -/
  seq : Nat := 0
  /-- its FCNT, once it has been sent protected (14 R491) -/
  fcnt : Option Nat := none
  /-- transmissions made (14 R490) -/
  tries : Nat := 0
  /-- retries counted (14 R489) -/
  retries : Nat := 0
  /-- BE (14 R489) -/
  be : Nat := 0
  /-- backoff being counted down (14 R489) -/
  backoff : Option Nat := none
  /-- it has won the medium (14 R489) -/
  ready : Bool := false
  /-- its ACK wait runs (14 R489) -/
  waitAck : Bool := false
  /-- MODE of the last transmission (14 R474) -/
  mode : Nat := 0
  deriving DecidableEq, Repr

/-- A frame as the DSP last sent it (R470 to R475, R480). -/
structure LineAir where
  /-- its FCH (14 R474) -/
  fch : Nat := 0
  /-- its PSDU; empty for an ACK or a NACK (14 R475) -/
  psdu : Bytes := []
  /-- phase increments of its FCH and payload symbols, per carrier from 23 on, 45° (14 R470) -/
  incs : List (List Nat) := []
  /-- sectors that hold a payload symbol of it (14 R479, R490) -/
  spans : Nat := 0
  /-- attenuation of each payload symbol from maximum output, 0.5 dB (14 R484, R496) -/
  atten : List Nat := []
  /-- channels, 0 MC1 to 2 MC3, that send it (14 R467) -/
  chans : List Nat := []
  /-- rise of their LTXEN, µs after the first sample (14 R467) -/
  enRise : Int := 0
  /-- fall of their LTXEN, µs after the first sample (14 R467) -/
  enFall : Int := 0
  deriving DecidableEq, Repr

/-- The reception of the last frame (R467, R468, R488). -/
structure LineRx where
  /-- receive gain, frozen from the preamble to the end of the frame (14 R488) -/
  gain : Nat := 0
  /-- the channel selected; none where channels are combined (14 R468) -/
  source : Option Nat := none
  /-- weights of the carriers of each channel combined (14 R468) -/
  weights : List (List Nat) := []
  /-- payload symbols erased (14 R488) -/
  erased : List Nat := []
  /-- payload symbols whose phase differences enter the decoder as erasures (14 R488) -/
  lost : List Nat := []
  deriving DecidableEq, Repr

/-- A tone map set (R484, R486). -/
structure MapSet where
  /-- SETNO (14 R486) -/
  setno : Nat := 0
  /-- LIFE, s (14 R486) -/
  life : Nat := 0
  /-- uptime in ms at which it expires (14 R487) -/
  expiry : Nat := 0
  /-- its eight maps (14 R484) -/
  maps : Bytes := []
  deriving DecidableEq, Repr

/-- A peer on the mains network (R481, R487, R492, R498). -/
structure LinePeer where
  /-- short address (14 R498) -/
  short : Nat := 0
  /-- set held for sending (14 R487) -/
  held : Option MapSet := none
  /-- the last two sets issued, newest first (14 R486) -/
  issued : List MapSet := []
  /-- last values of Δ, 360° / 65,536 (14 R481) -/
  deltas : List Nat := []
  /-- OFFSET: 0 0°, 1 120°, 2 240°, 3 unaligned (14 R481) -/
  offset : Nat := 3
  /-- mean SNR, dB (14 R498) -/
  snr : Nat := 0
  /-- uptime in ms and SNR per sector and carrier, dB, of the frames of the last 60 s (14 R485) -/
  snrs : List (Nat × List Nat) := []
  /-- failures of each sector as sender (14 R490) -/
  fails : List Nat := [0,0,0,0,0,0,0,0]
  /-- failed receptions of each sector as owner (14 R490) -/
  rxFails : List Nat := [0,0,0,0,0,0,0,0]
  /-- HEARD, ms TAI (14 R498) -/
  heardAt : Nat := 0
  /-- map requests made in this round (14 R487) -/
  reqs : Nat := 0
  /-- tag of the LINE_MAP_REQUEST that waits (14 R500) -/
  reqTag : Option Nat := none
  /-- the sender stays in robust mode for 60 s (14 R487) -/
  hold : Bool := false
  deriving DecidableEq, Repr

/-- The mains modem (14, LINE). -/
structure Line where
  /-- peers, heard most recently first (14 R492, R498) -/
  peers : List LinePeer := []
  /-- frames that wait, in order (14 R489) -/
  queue : List LineTx := []
  /-- the ACK (1) or NACK (2) that is due, and its INFO (14 R477) -/
  ack : Option (Nat × Nat) := none
  /-- the reception of the last frame (14 R468, R488) -/
  rx : LineRx := {}
  /-- the frame last sent (14 R470 to R475, R480) -/
  air : LineAir := {}
  /-- source, last FCNT accepted and protected frames accepted since the last save, heard most recently first (14 R492) -/
  seen : List (Nat × Nat × Nat) := []
  /-- source, SEQ and uptime in ms of the frames accepted in the last 2 s (14 R476) -/
  recent : List (Nat × Nat × Nat) := []
  /-- source and uptime in ms of the MIC and counter failures of the last 60 s (14 R493) -/
  bad : List (Nat × Nat) := []
  /-- 1 running, 2 angle free-running, 3 no sector timing (14 R483, R497) -/
  timing : Nat := 1
  /-- SEQ of the next frame (14 R475) -/
  seq : Nat := 0
  /-- next counter to send (14 R492) -/
  fcnt : Nat := 0
  /-- BLANKED (14 R497) -/
  blanked : Nat := 0
  /-- ERASED (14 R497) -/
  erased : Nat := 0
  /-- FRAMES_TX, FRAMES_RX, RETRIES, DROPS, TRANSIENT, NACKS, MIC_FAIL, DUPLICATES (14 R501) -/
  stats : List Nat := [0,0,0,0,0,0,0,0]
  /-- the AFE is calibrated (14 R494) -/
  cal : Bool := false
  /-- LINE_SEC with kind 2 has been emitted for LKEY (14 R493) -/
  revoked : Bool := false
  /-- the frame counter is exhausted (14 R492) -/
  exhausted : Bool := false
  deriving DecidableEq, Repr

/-- The default LINE_CONFIG (R496; NETID and SHORT 1, LKEY 0 DESIGN CHOICE, log entry 2). -/
def defLineCfg : Bytes := [0, 1, 1, 12] ++ toLE 2 1 ++ toLE 2 1 ++ [6, 3, 2, 0] ++ toLE 2 600 ++ [10, 0]


/-- An entry of a TX timestamp queue (R513). -/
structure TsEntry where
  /-- identifier (15 R513) -/
  ident : Nat := 0
  /-- seconds (15 R513) -/
  sec : Nat := 0
  /-- nanoseconds (15 R513) -/
  ns : Nat := 0
  deriving DecidableEq, Repr

/-- A frame in a launch queue (R514). -/
structure Launch where
  /-- launch time, seconds (15 R514) -/
  sec : Nat := 0
  /-- launch time, nanoseconds (15 R514) -/
  ns : Nat := 0
  /-- the frame from its destination address on (08 R278, 15 R514) -/
  body : Bytes := []
  deriving DecidableEq, Repr

/-- A clock heard by its Announce messages (R506). -/
structure Foreign where
  /-- clockIdentity of the sender (15 R506) -/
  src : Nat := 0
  /-- priority1, class, accuracy, variance, priority2, grandmaster, steps removed (15 R506) -/
  ds : List Nat := []
  /-- uptime in ms of its last Announce (15 R506) -/
  heard : Nat := 0
  /-- currentUtcOffset (15 R521) -/
  utc : Nat := 0
  /-- currentUtcOffset valid (15 R521) -/
  utcValid : Bool := false
  /-- leap pending (15 R521) -/
  leap : Bool := false
  deriving DecidableEq, Repr

/-- A time output (R516, R522). -/
structure Tout where
  /-- NET_TOUT_SET of the output (15 R522) -/
  cfg : Bytes := zeros 24
  /-- the one-shot has fired (15 R516) -/
  fired : Bool := false
  /-- active level driven (15 R516) -/
  level : Bool := false
  /-- k of the next edge of a periodic output (15 R516) -/
  nextK : Nat := 0
  deriving DecidableEq, Repr

/-- An entry of a capture queue (R517, R523). -/
structure CapEntry where
  /-- SECONDS (15 R523) -/
  sec : Nat := 0
  /-- EDGE: 1 rising, 2 falling (15 R523) -/
  edge : Nat := 0
  /-- EPOCH (15 R523) -/
  epoch : Nat := 0
  /-- NANOS (15 R523) -/
  ns : Nat := 0
  /-- SEQ (15 R523) -/
  seq : Nat := 0
  deriving DecidableEq, Repr

/-- A time capture input (R517). -/
structure Tcap where
  /-- EDGE selected: 0 off, 1 rising, 2 falling, 3 both (15 R523) -/
  edge : Nat := 0
  /-- EVT (15 R523) -/
  evt : Bool := false
  /-- captures, oldest first (15 R517) -/
  queue : List CapEntry := []
  /-- edges discarded since the last read (15 R523) -/
  lost : Nat := 0
  /-- next capture sequence (15 R517) -/
  seq : Nat := 0
  deriving DecidableEq, Repr

/-- Ethernet, precision time and the TIME block (15, NET). -/
structure Net where
  /-- link up on port 0 and 1 (15 R521) -/
  link : List Bool := [false, false]
  /-- 100 Mbit/s on port 0 and 1 (15 R521) -/
  fast : List Bool := [false, false]
  /-- 0 free-running, 1 locking, 2 locked, 3 holdover, 4 master (15 R521) -/
  sync : Nat := 0
  /-- the clock is not locked, nor was it in the last 10 s (15 R510, R271) -/
  holdLong : Bool := true
  /-- clock EPOCH (15 R509) -/
  epoch : Nat := 0
  /-- OFFSET, ns (15 R521) -/
  offset : Int := 0
  /-- PATHDELAY, ns (15 R521) -/
  delay : Nat := 0
  /-- PARENT; 0 if none (15 R521) -/
  parent : Nat := 0
  /-- uptime in ms since which every offset lies within 1 µs (15 R510) -/
  goodSince : Option Nat := none
  /-- uptime in ms of the loss of lock (15 R521) -/
  lostAt : Nat := 0
  /-- uptime in ms of the last lock (08 R272) -/
  lockedAt : Nat := 0
  /-- FREQ, 0.001 ppb (15 R521) -/
  freqAdj : Int := 0
  /-- UTCOFF (15 R521) -/
  utcOff : Nat := 0
  /-- UTCOFF valid (15 R521) -/
  utcValid : Bool := false
  /-- leap pending (15 R521) -/
  leap : Bool := false
  /-- local clock, seconds (15 R509) -/
  sec : Nat := 0
  /-- local clock, nanoseconds (15 R509) -/
  ns : Nat := 0
  /-- offset still to be slewed, ns (15 R509) -/
  slewNs : Int := 0
  /-- clocks heard (15 R506) -/
  foreign : List Foreign := []
  /-- uptime in ms of the parent's last valid Sync (15 R510) -/
  syncAt : Nat := 0
  /-- sequenceId and corrected receive time of a two-step Sync that waits for its Follow_Up (15 R506) -/
  twoStep : Option (Nat × Int) := none
  /-- receive less origin time of the last valid Sync, ns (15 R506) -/
  syncDiff : Int := 0
  /-- identifier and sequenceId of the last delay request (15 R513) -/
  reqId : Nat := 0
  /-- that request is not yet answered (15 R513) -/
  reqOut : Bool := false
  /-- transmit timestamp of that request, ns TAI (15 R507) -/
  reqAt : Option Nat := none
  /-- sequenceId and round trip of a two-step Pdelay_Resp that waits for its follow-up (15 R506) -/
  turn : Option (Nat × Int) := none
  /-- identifiers of two-step answers whose Follow_Up waits for a timestamp (15 R513) -/
  answers : List Nat := []
  /-- last Follow_Up of each port: identifier and timestamp in ns TAI (15 R513) -/
  followed : List (Nat × Nat) := []
  /-- identifier that firmware gave its last event message (15 R513) -/
  txId : Nat := 0
  /-- TX timestamp queues (15 R513) -/
  txq : List (List TsEntry) := [[], []]
  /-- launch queues (15 R514) -/
  launch : List (List Launch) := [[], []]
  /-- time outputs (15 R516) -/
  touts : List Tout := [{}, {}, {}, {}]
  /-- time captures (15 R517) -/
  tcaps : List Tcap := [{}, {}]
  /-- learning table: address, port, uptime in ms when last seen (15 R503) -/
  macs : List (Nat × Nat × Nat) := []
  /-- uptime in ms of the last activity of each port (15 R502) -/
  actAt : List (Option Nat) := [none, none]
  /-- TSQ_OVF0, TSQ_OVF1, LATE_SENT, LATE_DROPPED, LAUNCH_FULL, FCS_DROP, TCAP_LOST (15 R525) -/
  stats : List Nat := [0,0,0,0,0,0,0]
  /-- frame last launched on each port (15 R514) -/
  sent : List (Option Bytes) := [none, none]
  /-- frames delivered to port 2 (15 R503, R505) -/
  delivered : Nat := 0
  /-- frames forwarded between ports 0 and 1, by egress queue (15 R503, R505) -/
  forwarded : List Nat := [0,0,0,0]
  /-- correctionField of the PTP event message forwarded last, units of 2^-16 ns (15 R508) -/
  resid : Option Int := none
  /-- SEC_LO (15 TIME_SEC_LO) -/
  snapLo : Nat := 0
  /-- SEC_HI (15 TIME_SEC_HI) -/
  snapHi : Nat := 0
  /-- EPOCH (15 TIME_SEC_HI) -/
  snapEpoch : Nat := 0
  /-- NANOS (15 TIME_NS) -/
  snapNs : Nat := 0
  /-- CYCLES (15 TIME_CYCLES) -/
  snapCycles : Nat := 0
  /-- FLAGS (15 TIME_ZC) -/
  snapFlags : Nat := 0
  /-- REFPH (15 TIME_ZC) -/
  snapRef : Nat := 0
  /-- SINCE_ZC (15 TIME_ZC) -/
  snapZc : Nat := 0
  /-- SEQ (15 TIME_SEQ) -/
  snapSeq : Nat := 0
  deriving DecidableEq, Repr

/-- Default NET_CONFIG (R520). -/
def defNetCfg : Bytes := [3, 0, 0, 1, 0, 0, 0, 0, 128, 128, 0, 1] ++ zeros 2 ++ [7] ++ zeros 17

/-- A write of a tag page that waits for its commit (R541, R542). -/
structure TagWrite where
  /-- tag of the NFC_TAG_WRITE; none for a field write (16 R542) -/
  host : Option Nat := none
  /-- page (16 R541) -/
  page : Nat := 0
  /-- OFFSET (16 R545) -/
  off : Nat := 0
  /-- data (16 R541) -/
  data : Bytes := []
  deriving DecidableEq, Repr

/-- The service tag but for its non-volatile memory (R533 to R542, FIELD). -/
structure Tag where
  /-- 0 off, 1 IDLE, 2 HALT, 3 ACTIVE, 4 OPEN, 5 SECURED (16 R535, R547) -/
  st : Nat := 0
  /-- the field is strong enough to power the tag alone (16 R527) -/
  harvest : Bool := false
  /-- the 5.0 ms guard of compatibility mode runs (16 R533) -/
  guard : Bool := false
  /-- it has answered REQA or WUPA and waits for its SELECT (16 R535) -/
  ready : Bool := false
  /-- UID of this field session (16 R534) -/
  uid : Bytes := []
  /-- RndR and RndT of a TAG_HELLO that came last (16 R538) -/
  hello : Option (Bytes × Bytes) := none
  /-- KMAC and KENC (16 R538) -/
  keys : Bytes × Bytes := ([], [])
  /-- command counter (16 R538) -/
  cnt : Nat := 0
  /-- wrong PR in a row in this field session (16 R539) -/
  wrong : Nat := 0
  /-- TAG_HELLO is answered 6982 until the field has been off for 1 s (16 R539) -/
  locked : Bool := false
  /-- status word and data answered last; status 0 for an answer without one (16 R537, R538) -/
  resp : Option (Nat × Bytes) := none
  /-- writes in order; the first one is being programmed (16 R541, R542) -/
  writes : List TagWrite := []
  deriving DecidableEq, Repr

/-- The NFC reader and the service tag (16). -/
structure Nfc where
  /-- polling is suspended by an external field (16 R526) -/
  suspended : Bool := false
  /-- UID of the previous identification (16 R532) -/
  lastId : Bytes := []
  /-- uptime in ms of it (16 R532) -/
  lastAt : Nat := 0
  /-- bit rate of the last card that supports ISO/IEC 14443-4, coded as MAXRATE (16 R529) -/
  rate : Option Nat := none
  /-- uptime in ms at which the external field went (16 R526) -/
  goneAt : Nat := 0
  /-- service tag (16) -/
  tag : Tag := {}
  deriving DecidableEq, Repr

/-- The default NFC_CONFIG (R544). -/
def defNfcCfg : Bytes := [1, 25] ++ toLE 2 250 ++ [4, 3, 0xFF, 1]


/-- A protected channel (17 R551 to R556). -/
structure LswCh where
  /-- configuration in force since its last switch-on (17 R564) -/
  run : Bytes := []
  /-- commanded on (17 R565) -/
  on : Bool := false
  /-- duty commanded, 0.1 % (17 R565) -/
  duty : Nat := 0
  /-- applied duty, 0.1 % (17 R549) -/
  appl : Nat := 0
  /-- applied duty clamped (17 R549) -/
  clamp : Bool := false
  /-- the switch is on, PWM included (17 LSW_ONm) -/
  driven : Bool := false
  /-- its blanking window runs (17 R551) -/
  blank : Bool := false
  /-- in current limit (17 R551) -/
  limit : Bool := false
  /-- retries used (17 R552) -/
  tries : Nat := 0
  /-- a retry is pending (17 R552) -/
  wait : Bool := false
  /-- overcurrent stop (17 R552) -/
  stop : Bool := false
  /-- a retry has switched it on, and 1 s of operation is awaited (17 R552) -/
  confirm : Bool := false
  /-- thermal latch (17 R553) -/
  latch : Bool := false
  /-- its sensor has tripped and not released (17 R553) -/
  trip : Bool := false
  /-- open-load flag (17 R556) -/
  open_ : Bool := false
  /-- current, 0.5 mA (17 R566) -/
  cur : Nat := 0
  /-- temperature, 0.1 °C (17 R566) -/
  temp : Int := 0
  /-- uptime in ms of its last switch-on (17 R551) -/
  onAt : Nat := 0
  /-- uptime in ms at which it entered or left limit last (17 R551) -/
  limAt : Nat := 0
  /-- uptime in ms from which the backoff of its pending retry counts (17 R552, R554) -/
  waitAt : Nat := 0
  /-- PWM periods in a row whose current lies on the other side of OL_THR than the flag says, at most 40 (17 R556) -/
  olRun : Nat := 0
  deriving DecidableEq, Repr

/-- A bank (17 R549, R550, R553, R557). -/
structure LswBank where
  /-- voltage averaged over 2 ms, 10 mV (17 R549, R567) -/
  v : Nat := 0
  /-- voltage held while compensation is frozen, 10 mV (17 R550) -/
  held : Nat := 0
  /-- compensation frozen (17 R550) -/
  frozen : Bool := false
  /-- uptime in ms of the last limit sample (17 R550) -/
  limAt : Nat := 0
  /-- undervoltage (17 R557) -/
  uv : Bool := false
  /-- current, 10 mA (17 R567) -/
  cur : Nat := 0
  /-- temperature, 0.1 °C (17 R567) -/
  temp : Int := 0
  /-- its sensor has tripped and not released (17 R553) -/
  trip : Bool := false
  deriving DecidableEq, Repr

/-- The channels as they start. -/
def resetLsw : Vector LswCh 80 := ⟨⟨List.replicate 80 {}⟩, rfl⟩

/-- The default LSW_CHAN of channel `c` (R564). -/
def defLswCfg (c : Nat) : Bytes :=
  (if c < 24 then [BitVec.ofNat 8 c, 1, 20, 3, 0, 0] else [BitVec.ofNat 8 c, 0, 5, 3, 0, 0]) ++ toLE 2 120


/-- Protected load switches and limp-home (17, AON). -/
structure Lsw where
  /-- channels (17) -/
  chans : Vector LswCh 80 := resetLsw
  /-- banks (17) -/
  banks : List LswBank := [{}, {}, {}, {}]
  /-- limp-home map, inputs 0 to 3 (TMR) (17 LSW_LIMP_MAP0) -/
  map0 : Nat := 0
  /-- limp-home map, inputs 4 to 7 (TMR) (17 LSW_LIMP_MAP1) -/
  map1 : Nat := 0
  /-- the WL lock of LSW_LIMP_MAP0 (00 R7) -/
  lock0 : Bool := false
  /-- the WL lock of LSW_LIMP_MAP1 (00 R7) -/
  lock1 : Bool := false
  /-- LH# low after filtering (17 LSW_LIMP_STATUS) -/
  lhpin : Bool := false
  /-- LHIN high after filtering (17 LSW_LIMP_STATUS) -/
  lhin : Nat := 0
  /-- watchdog expired (17 LSW_LIMP_STATUS) -/
  wdg : Bool := false
  /-- millisecond of the watchdog expiry (21 R647; 17 R560) -/
  wdgAt : Nat := 0
  /-- channels shown on SNS0 to SNS3 (17 LSW_SNS_SEL) -/
  snsSel : Nat := 0x7F7F7F7F
  deriving DecidableEq, Repr

/-- The decay curve before the host sets one (R576): no decay (DESIGN CHOICE, log entry 2). -/
def defCurve : Bytes := ((List.range 16).map fun i => toLE 4 (1000 * i) ++ toLE 2 0x8000).flatten


/-- A saved set of stress records (R577). -/
structure StressSlot where
  /-- hour stamp, ms TAI (18 R577) -/
  stamp : Nat := 0
  /-- records of the pixels with stress (18 R577) -/
  recs : List (Nat × Nat) := []
  deriving DecidableEq, Repr

/-- The emissive panel driver (18, PANEL). -/
structure Panel where
  /-- frame memory: buffer b from 3,840 b on (18 R571) -/
  mem : Memory := []
  /-- buffer on display (18 R571, R583) -/
  front : Nat := 0
  /-- tag of the PANEL_FLIP that is pending (18 R572) -/
  flip : Option Nat := none
  /-- rows blanked (18 R570) -/
  blanked : Bool := false
  /-- refresh resumes at the next frame boundary (18 R570) -/
  resume : Bool := false
  /-- VPAN, 0.1 V (18 R583) -/
  vpan : Nat := 0
  /-- stress records of the pixels with stress: 2^32 HOURS + FRAC (18 R575) -/
  stress : List (Nat × Nat) := []
  /-- compensation map; 128 where it is not loaded (18 R574) -/
  map : List Nat := []
  /-- ms TAI of the last save (18 R583) -/
  saved : Nat := 0
  /-- uptime in ms of the last save of this start (18 R577) -/
  stressAt : Nat := 0
  deriving DecidableEq, Repr

/-- A slot of the key store (R587). Its material is held as bytes that no command delivers (R589). -/
structure Slot where
  /-- TYPE (19 R587) -/
  type : Nat := 0
  /-- STATE: 0 empty, 1 valid, 2 revoked (19 R587) -/
  state : Nat := 0
  /-- ENGINES (19 R587) -/
  engines : Nat := 0
  /-- USES (19 R587) -/
  uses : Nat := 0
  /-- PARENT (19 R587) -/
  parent : Nat := 0xFF
  /-- CLASS (19 R587) -/
  cls : Nat := 0
  /-- GEN (19 R587) -/
  gen : Nat := 0
  /-- key material, public key or certificate (19 R587) -/
  mat : Bytes := []
  deriving DecidableEq, Repr

/-- The slots that a new part holds (R590 table): the device key, the key authority's public key and the image
verification key of Merpioz; slot 2 is drawn at the first start, slot 4 is the customer's. Attributes DESIGN CHOICE, log entry 19. -/
def factoryKeys : List (Nat × Slot) :=
  [(0, { type := 2, state := 1 }),
   (1, { type := 8, state := 1, engines := 32, uses := 32 }),
   (3, { type := 8, state := 1, engines := 256, uses := 32 })]


/-- Key store and engines at work (19, APP). -/
structure Keys where
  /-- TRNG healthy (19 R609) -/
  trngOk : Bool := true
  /-- the source has restarted once (19 R586) -/
  trngRestart : Bool := false
  /-- BAK mirror rebuilt at the last start (19 R609) -/
  rebuilt : Bool := false
  /-- copy repaired at the last start (19 R609) -/
  repaired : Bool := false
  /-- mask of each slot that holds a key (19 R592) -/
  masks : List (Nat × Nat) := []
  deriving DecidableEq, Repr

/-- A maintenance activity, queued or running (R625). -/
structure MaAct where
  /-- XTAG (20 R634) -/
  tag : Nat := 0
  /-- ACTIVITY (20 R634) -/
  act : Nat := 0
  /-- INDEX (20 R634) -/
  index : Nat := 0
  /-- MODE (20 R632) -/
  mode : Nat := 0
  /-- PARAM (20 R632) -/
  param : Nat := 0
  /-- bulk region (20 R632) -/
  bulk : Option (Nat × Nat) := none
  /-- STATE (20 R634) -/
  running : Bool := false
  /-- PROGRESS (20 R634) -/
  progress : Nat := 0
  /-- uptime in ms of its MA_START (20 R625) -/
  since : Nat := 0
  /-- CAUSE of an early end that is due (20 R628) -/
  abort : Option Nat := none
  deriving DecidableEq, Repr

/-- What the H24 reads from a Bexxel image that has been verified (R673, R674). -/
structure FwImg where
  /-- VERSION: FW_MAJOR, FW_MINOR, PROTO_MAJOR, PROTO_MINOR from the low byte up (23 R673) -/
  ver : Nat := 0x02030203
  /-- BUILD (23 R673) -/
  build : Nat := 0
  /-- SVN (23 R673) -/
  svn : Nat := 0
  /-- FLAGS bit 1, SVN_COMMIT (23 R673) -/
  commit : Bool := false
  /-- a customer co-signature that counts (23 R675, R676) -/
  co : Bool := false
  /-- HREC_MIN (23 R673) -/
  hmin : Nat := 1
  /-- HREC_MAX (23 R673) -/
  hmax : Nat := 1
  /-- digests of the microcode segments of types 3 and 4 (23 R674, R681) -/
  micro : List Bytes := [[], []]
  deriving DecidableEq, Repr

/-- A staging that is open (R671, R672). -/
structure FwRx where
  /-- route that holds the region: 1 RP12, 2 service port (23 R691) -/
  route : Nat := 1
  /-- TOTAL (23 R692) -/
  total : Nat := 0
  /-- bytes staged (23 R692) -/
  data : Bytes := []
  /-- verification runs (23 R693) -/
  verify : Bool := false
  /-- tag of the FW_STAGE_VERIFY that waits (23 R693) -/
  tag : Option Nat := none
  /-- uptime in ms of the last data frame or command (23 R671) -/
  at_ : Nat := 0
  deriving DecidableEq, Repr

/-- An activation that has been accepted (R680). -/
structure Handover where
  /-- route that holds the region (23 R691) -/
  route : Nat := 1
  /-- 1 accepted, 3 cores stopped, 5 new slot loaded (23 R680) -/
  step : Nat := 1
  /-- uptime in ms of r (23 R680) -/
  since : Nat := 0
  /-- failed step, once the previous slot restarts (23 R684) -/
  roll : Option Nat := none
  /-- the rollback firmware has failed to accept too (23 R684) -/
  dead : Bool := false
  deriving DecidableEq, Repr

/-- Firmware update and recovery (23, APP). -/
structure Fw where
  /-- the staging that is open (23 R671) -/
  rx : Option FwRx := none
  /-- LAST_HO (23 R691) -/
  lastHo : Nat := 0
  /-- the handover under way (23 R680) -/
  ho : Option Handover := none
  /-- slot in force (23 R691) -/
  run : Nat := 0
  /-- ROM recovery mode (23 R689) -/
  rom : Bool := false
  /-- the ROM could not unseal the key store (23 R689) -/
  noSeal : Bool := false
  deriving DecidableEq, Repr

/-- The service port (R686 to R688). -/
structure Svc where
  /-- the command frame that is to be executed: CMD, SEQ, PAYLOAD (23 R686) -/
  pend : Option (Nat × Nat × Bytes) := none
  /-- SEQ of the last executed frame (23 R687) -/
  last : Option Nat := none
  /-- the response frame (23 R686) -/
  resp : Bytes := []
  /-- SRDY (23 R686) -/
  srdy : Bool := true
  deriving DecidableEq, Repr

/-- The Base-Note Window (24). -/
structure Bnw where
  /-- latest copy of the energy value, 0.1 Wh (24 R700) -/
  copy : Nat := 0
  /-- snapshot of its bits [31:8] (24 R701) -/
  snap : Nat := 0
  /-- last value accepted, 0.5 A (24 SETPOINT) -/
  setp : Nat := 0
  /-- rising crossings since the last refresh (24 R700) -/
  crossings : Nat := 0
  deriving DecidableEq, Repr

/-- The effect record of one pair (R85), persistent. -/
structure Effects where
  /-- commands that changed persistent state (03 R85) -/
  count : Nat := 0
  /-- tags and opcodes of the last 8, most recent first (03 R85) -/
  last : List (Nat × Nat) := []
  deriving DecidableEq, Repr

/-- Effect records of a new part. -/
def resetEffects : Vector Effects 16 := ⟨⟨List.replicate 16 {}⟩, rfl⟩

/-- The default OUTLET_CONFIG of outlet `n` (R142: LOCK_PULSE 20, LOCK_STALL 10, AUTH_TIMEOUT 30; the rest DESIGN CHOICE, log entry 2). -/
def defOutletCfg (n : Nat) : Bytes :=
  [BitVec.ofNat 8 n, 3, 0, 0, 0, 0, 20, 10, 0, 0, 30, 0, 0, 0, 0, 0]

/-- A table with one default record for each outlet. -/
def perOutlet (f : Nat → Bytes) : Vector Bytes 24 := ⟨⟨(List.range 24).map f⟩, by simp⟩

/-- The configuration area: settings that commands store there (R29). -/
structure Cfg where
  /-- OUTLET_CONFIG of each outlet (04 R142) -/
  outlet : Vector Bytes 24 := perOutlet defOutletCfg
  /-- HLC_CONFIG of each outlet (05 R177) -/
  hlc : Vector Bytes 24 := perOutlet defHlcCfg
  /-- BUD_CONFIG (08 R285) -/
  bud : Bytes := defBudCfg
  /-- BUD_OUTLET of each outlet (08 R286) -/
  budOut : Vector Bytes 24 := perOutlet defBudOutlet
  /-- LAT_CONFIG (08 R290) -/
  lat : Bytes := defLatCfg
  /-- METRO_CONFIG (09 R326) -/
  metro : Bytes := defMetroCfg
  /-- ENERGY_CONFIG (10 R368) -/
  energy : Bytes := defEnergyCfg
  /-- BILL_CONFIG (11 R406) -/
  bill : Bytes := defBillCfg
  /-- active calendar image; empty while none is valid (11 R396) -/
  calActive : Bytes := []
  /-- passive calendar image (11 R396) -/
  calPassive : Bytes := []
  /-- THRESH stored in the configuration area (22 R670) -/
  pfThresh : Nat := 48
  /-- DLMS_CONFIG (12 R437) -/
  dlms : Bytes := defDlmsCfg
  /-- CREDIT_CONFIG (13 R462) -/
  credit : Bytes := defCreditCfg
  /-- LINE_CONFIG (14 R496) -/
  line : Bytes := defLineCfg
  /-- NET_CONFIG (15 R520) -/
  net : Bytes := defNetCfg
  /-- NFC_CONFIG (16 R544) -/
  nfc : Bytes := defNfcCfg
  /-- LSW_CHAN by channel (17 R564) -/
  lsw : List Bytes := (List.range 80).map defLswCfg
  /-- PANEL_CONFIG (18 R579) -/
  panel : Bytes := [160, 1, 85, 0]
  /-- decay curve (18 R576, R582) -/
  curve : Bytes := defCurve
  deriving DecidableEq, Repr

/-- Persistent state in NAND beside the configuration area (R29). -/
structure Store where
  /-- effect records (03 R85) -/
  eff : Vector Effects 16 := resetEffects
  /-- safety configuration image in NAND (07 R240) -/
  safeImg : Bytes := factoryImage
  /-- last confirmed check value, beside the image (07 R241) -/
  safeConfirmed : Nat := 0
  /-- mode of the safety island: 0 NORMAL, 1 COMMISSIONING, 2 TEST; persists across resets (07 R242) -/
  safeMode : Nat := 1
  /-- role that entered the mode (07 R245) -/
  safeRole : Nat := 0
  /-- the role's password has been set (07 R242) -/
  pwSet : List Bool := [false, false]
  /-- salt of each stored password; a free value (07 R242) -/
  pwSalt : List Nat := [0, 0]
  /-- salted SHA-256 of the role's password (07 R242) -/
  pwHash : List Bytes := [[], []]
  /-- change log, newest first (07 R250) -/
  safeLog : List ChangeEntry := []
  /-- sequence of the next change log entry (07 R250) -/
  safeSeq : Nat := 1
  /-- archived fault log, newest first (20 R623) -/
  fltLog : List LogEntry := []
  /-- one above the newest archived sequence (20 R623) -/
  fltNext : Nat := 0
  /-- next session number (04 R135) -/
  sessNext : Nat := 1
  /-- the lattice share: the last SHARE applied, which survives a reset (01 R29) -/
  latShare : Option Share := none
  /-- primary calibration copy (09 R313) -/
  calP : CalCopy := {}
  /-- secondary calibration copy (09 R313) -/
  calS : CalCopy := {}
  /-- power-quality archive, newest first (10 R353) -/
  pqLog : List PqRec := []
  /-- next record sequence (10 R353) -/
  pqNext : Nat := 0
  /-- capture archive, newest first (10 R357) -/
  captures : List Capture := []
  /-- next capture identifier (10 R358) -/
  capNext : Nat := 1
  /-- tamper flags that are set: kind and index (10 R360) -/
  tamper : List (Nat × Nat) := []
  /-- committed records, newest first; a new part has an empty ledger (11 R378, R382) -/
  ledger : List LRec := []
  /-- GEN of the newest record; the first record carries 1 (11 R379) -/
  gen : Nat := 0
  /-- the last closed periods, newest first (11 R400) -/
  periods : List PeriodRec := []
  /-- sessions open now, closed at replay after a cut (11 R140) -/
  openSess : List SessRec := []
  /-- pending calendar activation (11 R407) -/
  activateAt : Option Nat := none
  /-- DEM_MODE, DEM_LEN and DEM_SUB in force, which a start takes up again (11 R406) -/
  demCfg : List Nat := [0, 15, 1]
  /-- invocation counters committed with the writes they came with (12 R422) -/
  ivc : List (Nat × Nat) := []
  /-- end of the reserved block of transmit counters (12 R422) -/
  txBlock : Nat := 0
  /-- control_state of each outlet: 0 disconnected, 1 connected, 2 ready_for_reconnection (12 R430) -/
  disc : List Nat := List.replicate 24 1
  /-- thresholds of the register monitor, W; 0 unused (12 Objects) -/
  thrs : List Nat := [0, 0, 0, 0]
  /-- accounts; an absent one has every field 0 (13 R440) -/
  accts : List (Nat × Account) := []
  /-- binding table (13 R443) -/
  binds : List Binding := []
  /-- site memory of class 2 vouchers: its LWM, USED and USEDMAX (13 R451) -/
  siteMem : Account := {}
  /-- highest HOUR ever accepted (13 R451) -/
  hourMax : Nat := 0
  /-- EPOCH, ms TAI (13 R451) -/
  epoch : Nat := 0
  /-- end of the reserved block of frame counters (14 R492) -/
  lineFcnt : Nat := 0
  /-- saved counters of the sources (14 R492) -/
  lineSeen : List (Nat × Nat) := []
  /-- committed copies of the tag pages (16 R536, R541) -/
  tagMem : Memory := []
  /-- tag seed (16 R534, R536) -/
  tagSeed : Bytes := zeros 16
  /-- slot and copy of the tag key (16 R536, R540) -/
  tagKey : Option (Nat × Bytes) := none
  /-- session counter (16 R534, R547) -/
  tagSessions : Nat := 0
  /-- AUTHFAIL (16 R539, R547) -/
  tagFails : Nat := 0
  /-- AUTHFAIL as the firmware last read it (16 R539) -/
  tagRead : Nat := 0
  /-- SEQ of the next log entry that the fault history has not taken yet (16 R537) -/
  tagSeq : Nat := 0
  /-- next entry of the fault history ring (16 R536) -/
  tagNext : Nat := 0
  /-- the two save slots; none while not valid (18 R577) -/
  stress : List (Option StressSlot) := [none, none]
  /-- slot of the next save (18 R577) -/
  stressNext : Nat := 0
  /-- slots; an absent one is empty (19 R587) -/
  keys : List (Nat × Slot) := factoryKeys
  /-- store generation of the blob (19 R593) -/
  keyGen : Nat := 0
  /-- update counter of each class (19 R593) -/
  keyCtr : List Nat := [0,0,0,0,0,0,0,0]
  /-- slots A and B; none while invalid (23 R681, R691) -/
  slots : List (Option FwImg) := [some {}, none]
  /-- slot marker (23 R681) -/
  marker : Nat := 0
  /-- MIN_SVN with the slot marker (23 R677) -/
  minSvn : Nat := 0
  /-- the verified image in staging (23 R678) -/
  staged : Option FwImg := none
  /-- its length (23 R691) -/
  stagedLen : Nat := 0
  deriving DecidableEq, Repr

/-- One outlet slice. -/
structure Outlet where
  /-- pilot generator and sampler (04) -/
  pilot : Pilot := {}
  /-- proximity (04) -/
  pp : Prox := {}
  /-- switching sequencer (04) -/
  sw : Switch := {}
  /-- lock (04) -/
  lock : Lock := {}
  /-- session (04) -/
  ses : Session := {}
  /-- protection (06) -/
  prot : Protect := {}
  /-- high-level communication (05) -/
  hlc : Hlc := {}
  deriving DecidableEq, Repr

/-- The outlets after reset. -/
def resetOutlets : Vector Outlet 24 := ⟨⟨List.replicate 24 {}⟩, rfl⟩

/-- A command that was consumed from a submission ring and has not run yet (R73, R74). -/
structure Started where
  /-- its pair, whose completion ring keeps a slot for it (03 R74) -/
  pair : PNum
  /-- the command (03 R73) -/
  cmd : Instr
  /-- its tag (03 R77) -/
  tag : Nat
  /-- the bulk region it carries: BOFF and BLEN (03 R80) -/
  bulk : Option (Nat × Nat)
  deriving DecidableEq, Repr

/-- A session transition that firmware has to take after a handover (R139). -/
structure FwAct where
  /-- outlet (04 R139) -/
  outlet : ONum := 0
  /-- state the hardware opening implies (04 R139) -/
  goal : SessState := .faulted
  /-- its cause (04 R139) -/
  cause : Nat := 0
  deriving DecidableEq, Repr

/-- The state of the H24 and of its model. -/
structure State where
  /-- commands and events that wait, first in first out (model (log entry 3)) -/
  pending : List Instr := []
  /-- commands consumed from the rings that have not run yet (03 R73) -/
  started : List Started := []
  /-- counter of free values (model (log entry 8)) -/
  free : Nat := 0
  /-- uptime in ms since the reset (model (log entry 4)) -/
  up : Nat := 0
  /-- session transitions that wait for the new firmware (04 R139) -/
  fwAct : List FwAct := []
  /-- host port (02) -/
  host : HostPort := {}
  /-- mailbox (03) -/
  rings : Rings := {}
  /-- fault collector (20) -/
  flt : Collector := {}
  /-- copies of TMR fields that differ, and failed TMR fields; every other TMR field has three equal copies (00 R8) -/
  tmr : List TmrCell := []
  /-- clocks (21) -/
  clk : Clk := {}
  /-- supplies and domains (22) -/
  pwr : Power := {}
  /-- outlets (04) -/
  out : Vector Outlet 24 := resetOutlets
  /-- safety island (07) -/
  isl : Island := {}
  /-- BAK domain (01 R29) -/
  bak : Bak := {}
  /-- configuration area (01 R29) -/
  cfg : Cfg := {}
  /-- other persistent state (01 R29) -/
  store : Store := {}
  /-- pilot-line engine (05) -/
  plc : Plc := {}
  /-- budget engine (08) -/
  bud : Budget := {}
  /-- lattice (08) -/
  lat : Lattice := {}
  /-- metrology front end (09) -/
  met : Metro := {}
  /-- energy registers, power quality and tamper (10) -/
  en : Energy := {}
  /-- billing (11) -/
  bill : Billing := {}
  /-- DLMS server (12) -/
  dl : Dlms := {}
  /-- accounts at work and keypad (13) -/
  cr : Credit := {}
  /-- mains modem (14) -/
  line : Line := {}
  /-- network and time (15) -/
  net : Net := {}
  /-- NFC reader and service tag (16) -/
  nfc : Nfc := {}
  /-- load switches (17) -/
  lsw : Lsw := {}
  /-- emissive panel (18) -/
  panel : Panel := {}
  /-- key store and engines (19) -/
  key : Keys := {}
  /-- maintenance activities, in arrival order (20 R625) -/
  maint : List MaAct := []
  /-- firmware update (23) -/
  fw : Fw := {}
  /-- service port (23) -/
  svc : Svc := {}
  /-- Base-Note Window (24) -/
  bnw : Bnw := {}
  deriving DecidableEq, Repr

/-- Where the spec calls the behaviour undefined. -/
inductive Fault where
  /-- Raised by HOST_TRANSACTION, REGISTER_WRITE and the rows that go on with a transaction (ISLAND_CROSSING_DONE, STALL_LIMIT,
  GATE_FORCE_CLOSE) when the host writes a ring slot or a bulk region that belongs to the H24 (R72, R80): outside the rules placed on the user, where R34 leaves the behaviour undefined. Safe: the model stops where the hardware goes on. -/
  | environment
  deriving DecidableEq, Repr

/-- Why a command has no meaning. -/
inductive Refusal where
  /-- Raised by the dispatch for a command without a meaning yet. Safe: the model stops. -/
  | notModelled (mnemonic : String)
  deriving DecidableEq, Repr

/-- Right after the first reset of a new part (POR), before the start sequence: every field at the value the spec states
or the value its log entry names. -/
def State.reset : State := {}

end Sys2Proof.Machine
end

