-- ==== Sys2Proof/Machine/CalSet.lean ====
section
/-! DEFINITION. Calibration sets: their records by number, their canonical image, and the temperature tables (09, Correction
model and Calibration data). -/

namespace Sys2Proof.Machine

/-- The number of the record of channel `c` at gain `g` in the order of R330: channel order, ×1 before ×16; a voltage
channel has ×1 only (R294). -/
def calIdx (c g : Nat) : Nat := if c < 96 then 2 * c + g else 192 + (c - 96)

/-- The channel group of channel `c` (09, Channels). -/
def groupOf (c : Nat) : Nat := if c < 96 then c / 4 else if c < 100 then 24 else 25

/-- The channels of group `g`. -/
def chansOf (g : Nat) : List Nat := (List.range 4).map fun k => if g < 24 then 4 * g + k else 96 + 4 * (g - 24) + k

/-- The record of channel `c` at gain `g`; an absent one has its R315 value. -/
def CalSet.chan (x : CalSet) (c g : Nat) : ChanCal := x.chans.getD (calIdx c g) {}

/-- The set with one channel record replaced. -/
def CalSet.setChan (x : CalSet) (c g : Nat) (r : ChanCal) : CalSet :=
  { x with chans := (x.chans ++ List.replicate (200 - x.chans.length) ({} : ChanCal)).set (calIdx c g) r }

/-- The record of group `g`. -/
def CalSet.group (x : CalSet) (g : Nat) : GroupCal := x.groups.getD g {}

/-- A group record as bytes (R327). -/
def groupBytes (x : CalSet) (g : Nat) : Bytes :=
  toLE 1 g ++ toLE 1 (x.group g).tsrc ++ toLE 2 (x.group g).ratio ++ toLE 2 (x.group g).burden ++ zeros 2

/-- A channel record as bytes (R328, bytes 0 to 15). -/
def chanBytes (x : CalSet) (c g : Nat) : Bytes :=
  toLE 1 c ++ toLE 1 g ++ zeros 2 ++ toLE 4 (x.chan c g).g0 ++ toLEs 4 (x.chan c g).offset ++ toLEs 2 (x.chan c g).ph0 ++ zeros 2

/-- Every channel and gain in the order of R330. -/
def calOrder : List (Nat × Nat) :=
  ((List.range 96).map fun c => [(c, 0), (c, 1)]).flatten ++ (List.range 8).map fun k => (96 + k, 0)

/-- The canonical image of a set (R330). -/
def CalSet.image (x : CalSet) : Bytes :=
  ((List.range 26).map fun g => groupBytes x g).flatten ++ (calOrder.map fun e => chanBytes x e.1 e.2).flatten
    ++ (calOrder.map fun e => (x.chan e.1 e.2).table).flatten

/-- The digest of a set (R330). -/
def CalSet.digest (x : CalSet) : Bytes := Config.sha256 x.image

/-- A temperature table read at `t10` in 0.1 °C: gain in ppm, phase in 0.0001° (R308): linear between its 16 points, the end
points beyond them. The interpolated value is rounded to the nearest unit, halves up (log entry 20). -/
def tableAt (table : Bytes) (t10 : Int) : Int × Int :=
  let t := (clampI (-400) 1100 t10 + 400).toNat
  let i := min 14 (t / 100)
  let k : Int := ((t - 100 * i : Nat) : Int)
  let at_ (off : Nat) : Int :=
    let a := sfld table (4 * i + off) 2
    (100 * a + (sfld table (4 * i + 4 + off) 2 - a) * k + 50) / 100
  (at_ 0, at_ 2)

end Sys2Proof.Machine
end

