-- ==== Sys2Proof/Machine/Tmr.lean ====
section
/-! DEFINITION. The three copies of TMR fields: the vote, what an upset does to the copies, and what the scrub finds (00 R8,
02 R63, R64). The State field of a register holds the word that its copies vote to; `State.tmr` holds the copies while they
differ. -/

namespace Sys2Proof.Machine

/-- A field stored in triplicate: its lowest bit, its width and its reset value. -/
structure TmrField where
  low : Nat
  width : Nat
  reset : Nat
  deriving DecidableEq, Repr

/-- The TMR fields of the register at a byte address (17, 20, 21, 22). -/
def tmrFields (addr : Nat) : List TmrField :=
  if 0x2040 ≤ addr && addr < 0x2060 && addr % 4 == 0 then
    (List.range 16).map fun i => { low := 2 * i, width := 2, reset := defaultSev.getD (4 * (addr - 0x2040) + i) 0 }
  else if addr = 0x2060 then (List.range 5).map fun i => { low := i, width := 1, reset := b2n (i == 4) }
  else if addr = 0x3010 then [{ low := 0, width := 6, reset := 0x3F }]
  else if addr = 0x4008 then [{ low := 0, width := 9, reset := 48 }]
  else if addr = 0x6000 || addr = 0x6004 then (List.range 4).map fun i => { low := 8 * i, width := 8, reset := 0 }
  else []

/-- The bytes of the safety configuration image as TMR fields (07); the factory image is what they read after a reset of a new
part (log entry 11). -/
def imageFields : List TmrField :=
  (List.range 512).map fun i => { low := 8 * i, width := 8, reset := u8 factoryImage i }

/-- The hard ceiling of an outlet as a TMR field (R15). -/
def ceilingFields : List TmrField := [{ low := 0, width := 16, reset := 0 }]

/-- The vote on three copies: none where all three differ (R8). -/
def vote (a b c : Nat) : Option Nat := if a = b || a = c then some a else if b = c then some b else none

/-- The vote on one field of three copies of a word. -/
def TmrField.vote (f : TmrField) (w : List Nat) : Option Nat :=
  Machine.vote (field (w.getD 0 0) f.low f.width) (field (w.getD 1 0) f.low f.width) (field (w.getD 2 0) f.low f.width)

/-- Some copy of the field differs from another. -/
def TmrField.split (f : TmrField) (w : List Nat) : Bool :=
  w.any fun x => field x f.low f.width != field (w.getD 0 0) f.low f.width

/-- The field has failed: all three copies differ, or it failed before (R64). -/
def TmrField.failedIn (f : TmrField) (c : TmrCell) : Bool := bit c.failed f.low || (f.vote c.copies).isNone

/-- What the field reads as: its reset value once it has failed, else the vote (R8, R64). -/
def TmrField.read (f : TmrField) (c : TmrCell) : Nat :=
  if f.failedIn c then f.reset else (f.vote c.copies).getD f.reset

/-- The word that the copies read as. -/
def TmrCell.word (c : TmrCell) (l : List TmrField) : Nat := (l.map fun f => f.read c * 2 ^ f.low).foldl (· + ·) 0

/-- One bit for each failed field, its lowest. -/
def TmrCell.failing (c : TmrCell) (l : List TmrField) : Nat :=
  ((l.filter fun f => f.failedIn c).map fun f => 2 ^ f.low).foldl (· + ·) 0

/-- Upsets strike the three copies: `x` holds the bits that flip in each. -/
def TmrCell.strike (c : TmrCell) (l : List TmrField) (x : List Nat) : TmrCell :=
  let c := { c with copies := (List.range 3).map fun i => c.copies.getD i 0 ^^^ x.getD i 0 }
  { c with failed := c.failing l }

/-- The fields that a scrub corrects: two copies agree, one does not. -/
def TmrCell.corrected (c : TmrCell) (l : List TmrField) : List TmrField :=
  l.filter fun f => !f.failedIn c && f.split c.copies

/-- The failed fields for which TMR_FAIL has not been raised. -/
def TmrCell.untold (c : TmrCell) (l : List TmrField) : List TmrField :=
  l.filter fun f => f.failedIn c && !bit c.told f.low

/-- The copies after a scrub: corrected, every failure told. -/
def TmrCell.scrubbed (c : TmrCell) (l : List TmrField) : TmrCell :=
  let w := c.word l
  { c with copies := [w, w, w], failed := c.failing l, told := c.failing l }

/-- The copies of the TMR fields at `addr`, three times `base` while no upset is held. -/
def State.tmrCell (s : State) (addr base : Nat) : TmrCell :=
  (s.tmr.find? fun c => c.addr == addr).getD { addr := addr, copies := [base, base, base] }

/-- The copies at an address put back; three equal copies of good fields need no entry. -/
def State.putCell (s : State) (c : TmrCell) : State :=
  let rest := s.tmr.filter fun d => d.addr != c.addr
  { s with tmr := if c.failed = 0 && c.copies.all (fun x => x == c.copies.getD 0 0) then rest else rest ++ [c] }

/-- A write of every TMR field at `addr` makes its three copies equal (R63, R64). -/
def State.tmrWritten (s : State) (addr : Nat) : State := { s with tmr := s.tmr.filter fun d => d.addr != addr }

/-- A write of the TMR fields under `mask` at `addr` with the word `v`: their three copies take it, and they have not failed any
more (R63, R64). -/
def State.tmrWrite (s : State) (addr mask v : Nat) : State :=
  match s.tmr.find? fun c => c.addr == addr with
  | none => s
  | some c => s.putCell { c with
      copies := c.copies.map fun x => clearBits x mask ||| (v &&& mask)
      failed := clearBits c.failed mask, told := clearBits c.told mask }

end Sys2Proof.Machine
end

