-- ==== Sys2Proof/Machine/Ops.lean ====
section
/-! DEFINITION. The operations that every family shares: outlets and configuration, free values, ring delivery, the metrology
latch, the fault collector with its reactions, opening an outlet, session transitions, and the frame of a mailbox command. -/

namespace Sys2Proof.Machine

/-- The outcome of a command. -/
abbrev Out := Host.Outcome State Fault Refusal

/-! ### Outlets and configuration -/

/-- Outlet `o`. -/
def State.o (s : State) (o : ONum) : Outlet := s.out.get o

/-- The state with outlet `o` replaced. -/
def State.setO (s : State) (o : ONum) (x : Outlet) : State := { s with out := s.out.set o.val x o.isLt }

/-- The state with the pilot of outlet `o` changed. -/
def State.modPilot (s : State) (o : ONum) (f : Pilot → Pilot) : State :=
  s.setO o { s.o o with pilot := f (s.o o).pilot }

/-- The state with the proximity sense of outlet `o` changed. -/
def State.modPp (s : State) (o : ONum) (f : Prox → Prox) : State :=
  s.setO o { s.o o with pp := f (s.o o).pp }

/-- The state with the sequencer of outlet `o` changed. -/
def State.modSw (s : State) (o : ONum) (f : Switch → Switch) : State :=
  s.setO o { s.o o with sw := f (s.o o).sw }

/-- The state with the lock of outlet `o` changed. -/
def State.modLock (s : State) (o : ONum) (f : Lock → Lock) : State :=
  s.setO o { s.o o with lock := f (s.o o).lock }

/-- The state with the session of outlet `o` changed. -/
def State.modSes (s : State) (o : ONum) (f : Session → Session) : State :=
  s.setO o { s.o o with ses := f (s.o o).ses }

/-- The state with the protection of outlet `o` changed. -/
def State.modProt (s : State) (o : ONum) (f : Protect → Protect) : State :=
  s.setO o { s.o o with prot := f (s.o o).prot }

/-- The state with the high-level communication of outlet `o` changed. -/
def State.modHlc (s : State) (o : ONum) (f : Hlc → Hlc) : State :=
  s.setO o { s.o o with hlc := f (s.o o).hlc }

/-- Every outlet number. -/
def outlets : List ONum := List.finRange 24

/-- A field of OUTLET_CONFIG of outlet `o` (R142). -/
def State.oc (s : State) (o : ONum) (off : Nat) : Nat := u8 (s.cfg.outlet.get o) off

/-- PHASES (R142). -/
def State.phases (s : State) (o : ONum) : Nat := s.oc o 1

/-- LPHASE (R142). -/
def State.lphase (s : State) (o : ONum) : Nat := s.oc o 2

/-- BUS (R142). -/
def State.bus (s : State) (o : ONum) : Nat := s.oc o 3

/-- CABLE (R142). -/
def State.cable (s : State) (o : ONum) : Nat := s.oc o 4

/-- The outlet has a lock (R142). -/
def State.hasLock (s : State) (o : ONum) : Bool := s.oc o 5 == 1

/-- HLC counts as 1: the field is 1 and the fallback flag is clear (R137, R142). -/
def State.hlcOn (s : State) (o : ONum) : Bool := s.oc o 8 == 1 && !(s.o o).hlc.fallback

/-- AUTH_MODE: 0 LOCAL, 1 HOST, 2 FREE (R142). -/
def State.authMode (s : State) (o : ONum) : Nat := s.oc o 9

/-- The phases of the outlet that the presence comparators watch, as a mask of PCV1 to PCV3 (R116). -/
def State.phaseMask (s : State) (o : ONum) : Nat := if s.phases o = 1 then 1 else 7

/-- Byte `off` of the record of outlet `o` in the safety image in force (R240). -/
def State.sc (s : State) (o : ONum) (off k : Nat) : Nat := fld s.isl.img (16 + 16 * o.val + off) k

/-- FITTED (R240). -/
def State.fitted (s : State) (o : ONum) : Bool := s.sc o 0 1 == 1

/-- RATED, 0.1 A (R240). -/
def State.rated (s : State) (o : ONum) : Nat := s.sc o 2 2

/-- RC_AC in force, mA rms (R192). -/
def State.rcAc (s : State) (o : ONum) : Nat := s.sc o 1 1

/-- OC_THR for a stored value and a rating: 0 selects max(50 A, 2.5 × rating), rounded up (R192). -/
def ocThrOf (stored rated : Nat) : Nat := if stored = 0 then max 50 ((rated * 25 + 99) / 100) else stored

/-- OC_THR in force, A peak (R192). -/
def State.ocThr (s : State) (o : ONum) : Nat := ocThrOf (s.sc o 4 2) (s.rated o)

/-- RC_APEX in force, mA peak (R192). -/
def State.rcApex (s : State) (o : ONum) : Nat := s.sc o 6 2

/-- BUSES of the safety image: bus `b` is in use (R240). -/
def State.busUsed (s : State) (b : Nat) : Bool := bit (u8 s.isl.img 1) b

/-- The ceiling that the safety island works out, in 0.1 A: the smaller of the rated current and the cable rating (R102). -/
def State.ceilingOf (s : State) (o : ONum) : Nat :=
  let pp := (s.o o).pp
  let cable := if s.cable o ≠ 0 then 10 * s.cable o
    else if !pp.accepted || pp.acc == 0 || pp.acc == 255 then 0 else 10 * pp.acc
  min (s.rated o) cable

/-- The applied ceiling: what the three copies of the island's ceiling read as (R15, R8). -/
def State.ceiling (s : State) (o : ONum) : Nat :=
  match s.tmr.find? fun c => c.addr == o.val + 1 with
  | none => s.ceilingOf o
  | some c => c.word ceilingFields

/-- Output pair `p`: 0 to 23 outlets, 24 and 25 sites. -/
def State.pair (s : State) (p : Nat) : OutPair := s.isl.pairs.toList.getD p {}

/-- The state with output pair `p` changed. -/
def State.modPairOut (s : State) (p : Nat) (f : OutPair → OutPair) : State :=
  { s with isl := { s.isl with pairs := vmapi (fun i x => if i = p then f x else x) s.isl.pairs } }

/-- The contactor of the outlet is commanded closed (R115). -/
def State.coil (s : State) (o : ONum) : Bool := (s.isl.pairs.toList.getD o.val {}).on

/-- The outlet is energised: its contactor is commanded closed or its SSWEN is high (R10, R115). -/
def State.energised (s : State) (o : ONum) : Bool := s.coil o || (s.o o).sw.sswen

/-- Some outlet is energised. -/
def State.anyEnergised (s : State) : Bool := outlets.any s.energised

/-- The pilot state the outlet acts on: 0 A to 4 E, 5 F, 6 undetermined (R144). -/
def State.pilotState (s : State) (o : ONum) : Nat :=
  if (s.o o).pilot.treatE then 4 else (s.o o).pilot.accepted.getD 6

/-- State C, or D where VENT permits it (R111). -/
def State.wantsEnergy (s : State) (o : ONum) : Bool :=
  s.pilotState o == 2 || (s.pilotState o == 3 && s.oc o 12 == 1)

/-- Domain `d` is on and supplied (R91 order). -/
def State.domOn (s : State) (d : Nat) : Bool := bit s.pwr.on d

/-- NET is on. -/
def State.netOn (s : State) : Bool := s.domOn 8

/-- Time of the step instants in ms: network time, billing time while NET is off (R271). -/
def State.stepMs (s : State) : Nat := if s.netOn then s.net.sec * 1000 + s.net.ns / 1000000 else s.bill.time

/-- The firmware runs: ST15 reached, APP on, no handover restart, Run or Quiet (R20, R52). -/
def State.fwRuns (s : State) : Bool :=
  s.host.ready && !s.rings.pause && (s.pwr.state == .run || s.pwr.state == .quiet) && !s.pwr.shed && s.domOn 6

/-- Powered: Run or Quiet, the reset of a start included. -/
def State.powered (s : State) : Bool := s.pwr.state == .run || s.pwr.state == .quiet

/-- The host port serves transactions (R52). -/
def State.portServes (s : State) : Bool := s.host.ready && s.powered

/-- A free value, and the state in which the next one is drawn (log entry 8). -/
def State.draw (s : State) : Nat × State := (Config.free s.free, { s with free := s.free + 1 })

/-! ### Half-cycle currents -/

/-- IFS of outlet `o`, the full scale of its current channels, in mA peak (09 R296). -/
def State.ifsMa (s : State) (o : ONum) : Nat :=
  let g := s.met.active.group o.val
  if g.burden = 0 then 0 else 50000 * g.ratio / g.burden

/-- The half-cycle RMS of a channel lies below `x` mA: corrected samples are in units of the full scale over 2^23 (10 R358). Before the
first whole half-cycle no current has been measured. -/
def ChanRun.rmsBelow (r : ChanRun) (ifs x : Nat) : Bool :=
  r.halfN == 0 || decide (r.halfSq * ifs ^ 2 < x ^ 2 * r.halfN * 2 ^ 46)

/-- The half-cycle RMS current of phase `k` (0 to 2 L1 to L3, 3 N) of outlet `o` lies below `x` mA. -/
def State.halfBelow (s : State) (o : ONum) (k x : Nat) : Bool :=
  (s.met.chans.toList.getD (4 * o.val + k) {}).rmsBelow (s.ifsMa o) x

/-- The zero-current condition (R116). -/
def State.zeroCurrent (s : State) (o : ONum) : Bool := (List.range 4).all fun k => s.halfBelow o k 500

/-! ### Effect records -/

/-- R85: the command with this tag and opcode changed persistent state. -/
def State.effect (s : State) (n : PNum) (tag op : Nat) : State :=
  let e := s.store.eff.get n
  let e' : Effects := { count := wrapInc 32 e.count, last := ((tag, op) :: e.last).take 8 }
  { s with store := { s.store with eff := s.store.eff.set n.val e' n.isLt } }

/-! ### Rings -/

/-- Ring pair `n`. -/
def State.pr (s : State) (n : PNum) : Pair := s.rings.pairs.get n

/-- The state with ring pair `n` replaced. -/
def State.setPr (s : State) (n : PNum) (p : Pair) : State :=
  { s with rings := { s.rings with pairs := s.rings.pairs.set n.val p n.isLt } }

/-- The state with ring pair `n` changed. -/
def State.modPr (s : State) (n : PNum) (f : Pair → Pair) : State := s.setPr n (f (s.pr n))

/-- The number of entries in a ring (R69). -/
def ringCount (head tail : Nat) : Nat := (tail + 65536 - head % 65536) % 65536

/-- Depth of the completion ring. -/
def Pair.cqDepth (p : Pair) : Nat := 2 ^ p.cqLog2

/-- Depth of the submission ring. -/
def Pair.sqDepth (p : Pair) : Nat := 2 ^ p.sqLog2

/-- Offset in ring memory of slot `i` of a ring (R67). -/
def slotOff (base depth i : Nat) : Nat := base * 512 + i % depth * 64

/-- Started commands of pair `n` that have not run. -/
def State.startedOn (s : State) (n : PNum) : Nat := (s.started.filter fun c => c.pair == n).length

/-- Tags of the commands of pair `n` that have started or are about to run (R77). -/
def State.tagBusy (s : State) (n : PNum) (tag : Nat) : Bool :=
  ((s.pr n).inflight.any fun x => x.tag == tag) || s.started.any fun c => c.pair == n && c.tag == tag

/-- A command with BULK is in flight on pair `n` (R79, RINGn_STATUS.BULK_BUSY). -/
def State.bulkBusy (s : State) (n : PNum) : Bool :=
  ((s.pr n).inflight.any fun x => x.bulk.isSome) || s.started.any fun c => c.pair == n && c.bulk.isSome

/-- Completion slots that commands in flight have reserved on pair `n` (R74). -/
def State.reserved (s : State) (n : PNum) : Nat := (s.pr n).inflight.length + s.startedOn n

/-- Free completion slots of pair `n`. -/
def State.cqFree (s : State) (n : PNum) : Nat :=
  (s.pr n).cqDepth - ringCount (s.pr n).cqHead (s.pr n).cqTail

/-- One entry of 64 bytes (03, Entries). -/
def entryBytes (op tag flags status : Nat) (payload : Bytes) (bulk : Option (Nat × Nat)) : Bytes :=
  toLE 2 op ++ toLE 2 tag ++ toLE 1 flags ++ toLE 1 status ++ toLE 2 payload.length ++
    match bulk with
    | none => padTo 56 payload
    | some (boff, blen) => padTo 52 payload ++ toLE 2 boff ++ toLE 2 blen

/-- The entries of a unit: one entry, or a chain of at most 8 with MORE set in all but the last (R78). -/
def unitEntries (op tag evt status : Nat) (bulk : Option (Nat × Nat)) : Nat → Bytes → List Bytes
  | 0, p => [entryBytes op tag (evt + if bulk.isSome then 2 else 0) status p bulk]
  | k + 1, p =>
    if p.length ≤ (if bulk.isSome then 52 else 56) then
      [entryBytes op tag (evt + if bulk.isSome then 2 else 0) status p bulk]
    else entryBytes op tag (evt + 4) status (p.take 56) none ::
      unitEntries op tag evt status bulk k (p.drop 56)

/-- The entries laid into the completion ring from its tail on, and the tail moved past them. -/
def State.putEntries (s : State) (n : PNum) : List Bytes → State
  | [] => s
  | e :: t =>
    let p := s.pr n
    State.putEntries
      (({ s with rings := { s.rings with
            mem := Memory.writeN s.rings.mem (slotOff p.cqBase p.cqDepth p.cqTail) e } }).setPr n
        { p with cqTail := wrapInc 16 p.cqTail }) n t

/-- Occurrence bookkeeping, which every latching uses: see `State.latchRec` below. Index of the log slot that a new
entry takes when all 64 are in use (R622). -/
def logVictim (log : List LogEntry) : Nat :=
  let idx := log.zipIdx
  let oldest (l : List (LogEntry × Nat)) : Option Nat :=
    match l with
    | [] => none
    | e :: t => some (t.foldl (fun b x =>
        if (x.1.seq + 2 ^ 32 - b.1.seq) % 2 ^ 32 < 2 ^ 31 then b else x) e).2
  let pick (f : LogEntry → Bool) : Option Nat := oldest (idx.filter fun e => f e.1)
  ((pick fun e => e.sev == 0) <|> (pick fun e => e.cleared && e.sev == 1) <|> (pick fun e => e.cleared && e.sev == 2) <|>
    (pick fun e => e.cleared && e.sev == 3) <|> (pick fun e => e.sev == 1) <|> (pick fun e => e.sev == 2) <|>
    (pick fun _ => true)).getD 0

/-- A log entry as 32 bytes (R621). -/
def LogEntry.bytes (e : LogEntry) : Bytes :=
  toLE 4 e.seq ++ toLE 1 e.src ++
    toLE 1 (e.sev + 4 * b2n e.trans + 8 * b2n e.retried + 16 * b2n e.forced + 32 * b2n e.cleared) ++
    toLE 2 e.qual ++ toLE 4 e.data ++ toLE 1 e.count ++ zeros 3 ++ toLE 8 e.time ++ zeros 8

/-- The fault history of the service tag takes up the MAJOR and CRITICAL entries of the archive that it lacks, while FIELD is on
(16 R536, R537): 192 entries of 32 bytes from page 8 on, a ring. -/
def State.tagHistory (s : State) : State :=
  if Config.variantIN || !s.domOn 10 then s
  else
    let new := (s.store.fltLog.filter fun e => 2 ≤ e.sev && s.store.tagSeq ≤ e.seq).reverse
    let put (x : Memory × Nat) (e : LogEntry) : Memory × Nat :=
      (Memory.writeN x.1 (2048 + 32 * x.2) e.bytes, (x.2 + 1) % 192)
    let y := new.foldl put (s.store.tagMem, s.store.tagNext)
    { s with store := { s.store with tagMem := y.1, tagNext := y.2, tagSeq := s.store.fltNext } }

/-- The log with a new entry (R621, R622), and its archive copy (R623). -/
def State.logPut (s : State) (e : LogEntry) : State :=
  let e := { e with seq := s.store.fltNext }
  let full := decide (64 ≤ s.flt.log.length)
  let s := { s with
    flt := { s.flt with
      log := if full then s.flt.log.set (logVictim s.flt.log) e else s.flt.log ++ [e]
      ovf := if full then satInc 16 s.flt.ovf else s.flt.ovf }
    store := { s.store with fltLog := e :: s.store.fltLog, fltNext := wrapInc 32 s.store.fltNext } }
  if 2 ≤ e.sev then s.tagHistory else s

/-- Severity in force of source `src`. -/
def State.sev (s : State) (src : Nat) : Nat := s.flt.sev.getD src 0

/-- The source is latched. -/
def State.latched (s : State) (src : Nat) : Bool := s.flt.occ.any fun x => x.src == src

/-- The occurrence of `src` with number `qual` is latched. -/
def State.latchedQ (s : State) (src qual : Nat) : Bool :=
  s.flt.occ.any fun x => x.src == src && x.qual == qual

/-- Some uncleared source is MAJOR or CRITICAL: FAULT# is low (R55). -/
def State.faultLow (s : State) : Bool := s.flt.occ.any fun x => 2 ≤ s.sev x.src

/-- Count one more for `src` (8 bits, saturating). -/
def State.countUp (s : State) (src : Nat) : State :=
  { s with flt := { s.flt with cnt := assocPut s.flt.cnt src (min 255 (lookupD s.flt.cnt src 0 + 1)) } }

/-- The collector takes an occurrence (R615): latch, count, log entry, unread bit, non-maskable event. A further
occurrence of the same source and number only counts. Reactions on outlets follow in `State.raise`. -/
def State.latchRec (s : State) (src qual data : Nat) (forced retried : Bool) : State :=
  if reservedSrc src || 128 ≤ src then s
  else if s.latchedQ src qual then
    let s := s.countUp src
    { s with flt := { s.flt with log := s.flt.log.map fun e =>
        if e.src == src && e.qual == qual && !e.cleared then { e with count := min 255 (e.count + 1) } else e } }
  else
    let sev := s.sev src
    let first := !s.latched src
    let s := { s with flt := { s.flt with
      occ := s.flt.occ ++ [({ src := src, qual := qual, forced := forced } : Occ)]
      cnt := if first then assocPut s.flt.cnt src 1 else s.flt.cnt
      unread := if 1 ≤ sev then s.flt.unread ||| 2 ^ src else s.flt.unread
      nmi := s.flt.nmi || (sev == 1 && bit s.flt.react 0) || (sev == 2 && bit s.flt.react 2)
        || (sev == 3 && bit s.flt.react 4) } }
    let s := if first then s else s.countUp src
    s.logPut {
      src := src, sev := sev, forced := forced, retried := retried, qual := qual, data := data, time := s.bak.rtc }

/-- A unit written into the completion ring; RINGn_DONE counts a final completion (R78). -/
def State.putUnit (s : State) (n : PNum) (h : Held) : State :=
  (if h.final then s.modPr n fun p => { p with done := wrapInc 32 p.done } else s).putEntries n h.entries

/-- Entries of events in a holding queue (R83). -/
def heldEntries (l : List Held) : Nat := ((l.filter fun x => x.event).map fun x => x.entries.length).foldl (· + ·) 0

/-- The event with sequence `seq` of pair `n` is lost (R83): counted, flagged, EVT_LOST latched. The reaction and the FLT_EVENT of
a new occurrence follow at the next millisecond (log entry 62). -/
def State.loseEvent (s : State) (n : PNum) (seq : Nat) : State :=
  let first := !s.latchedQ 24 n.val
  let s := (s.modPr n fun p => { p with evtLost := satInc 16 p.evtLost, evtLostFlag := true }).latchRec 24 n.val seq false false
  if first then { s with flt := { s.flt with lost := s.flt.lost ++ [n.val] } } else s

/-- Deliver a unit to pair `n`: discarded while the pair is off or draining (R88), into the ring when nothing is held
and it has room, else into the holding queue of 32 entries; an event that does not fit there is lost (R83). Events leave the slots
that commands have reserved (R74). -/
def State.deliver (s : State) (n : PNum) (h : Held) (seq : Nat) : State :=
  let p := s.pr n
  if p.state ≠ 1 then s
  else if p.held.isEmpty && h.entries.length + (if h.event then s.reserved n else 0) ≤ s.cqFree n then s.putUnit n h
  else if h.event && 32 < heldEntries p.held + h.entries.length then s.loseEvent n seq
  else s.setPr n { p with held := p.held ++ [h] }

/-- Write an event on pair `n` (R81): its tag is the event sequence, which advances. An event for a pair that is not on
is discarded (log entry 14). -/
def State.emitNow (s : State) (n : PNum) (op : Nat) (payload : Bytes) (bulk : Option (Nat × Nat)) : State :=
  let p := s.pr n
  if p.state ≠ 1 then s
  else
    (s.setPr n { p with evtSeq := wrapInc 16 p.evtSeq }).deliver n
      { event := true, entries := unitEntries op p.evtSeq 1 0 bulk 7 payload } p.evtSeq

/-- Emit an event: at once while the firmware runs, else after ring service resumes or after SYS_STARTED (R98, R217, R620). -/
def State.emit (s : State) (n : PNum) (op : Nat) (payload : Bytes) : State :=
  if s.fwRuns then s.emitNow n op payload none
  else { s with rings := { s.rings with deferred := s.rings.deferred ++ [{ pair := n, op := op, payload := payload }] } }

/-- Write a completion (R73, R84); every status but QUEUED is final. -/
def State.complete (s : State) (n : PNum) (op tag status : Nat) (payload : Bytes) (bulk : Option (Nat × Nat)) : State :=
  s.deliver n { final := status != 1, entries := unitEntries op tag 0 status bulk 7 payload } 0

/-- The final completion of the command in flight with this tag is written, and the tag is free again (R77, R84). -/
def State.release (s : State) (n : PNum) (op tag status : Nat) (payload : Bytes) (bulk : Option (Nat × Nat)) : State :=
  (s.modPr n fun p => { p with inflight := p.inflight.filter fun x => x.tag != tag }).complete n op tag status payload bulk

/-- Write what waited for ring service, in order. -/
def State.emitAll (s : State) : List Deferred → State
  | [] => s
  | d :: t => State.emitAll (match d.final with
      | none => s.emitNow d.pair d.op d.payload none
      | some (tag, status) => s.release d.pair d.op tag status d.payload d.bulk) t

/-- Write everything that waited for ring service, oldest first. -/
def State.flushDeferred (s : State) : State :=
  State.emitAll { s with rings := { s.rings with deferred := [] } } s.rings.deferred

/-- A final completion for this tag already waits for ring service. -/
def State.endsLater (s : State) (n : PNum) (tag : Nat) : Bool :=
  s.rings.deferred.any fun d => d.pair == n && (d.final.any fun f => f.1 == tag)

/-- The final completion of the command in flight with this tag, with a bulk region: at once while the firmware runs, else when
ring service resumes (R23). None if no such command is in flight, or its completion waits already. -/
def State.finishWith (s : State) (n : PNum) (tag status : Nat) (payload : Bytes) (bulk : Option (Nat × Nat)) : State :=
  match (s.pr n).inflight.find? fun x => x.tag == tag with
  | none => s
  | some x =>
    if s.fwRuns then s.release n x.op tag status payload bulk
    else if s.endsLater n tag then s
    else { s with rings := { s.rings with deferred := s.rings.deferred ++ [{
      pair := n, op := x.op, payload := payload, final := some (tag, status), bulk := bulk }] } }

/-- The final completion of the command in flight with this tag (R84). -/
def State.finish (s : State) (n : PNum) (tag status : Nat) (payload : Bytes) : State := s.finishWith n tag status payload none

/-- The bytes of a bulk region of pair `n` (R79). -/
def State.bulkGet (s : State) (n : PNum) (r : Nat × Nat) : Bytes :=
  Memory.readN s.rings.bulk (n.val * 4096 + r.1) r.2

/-- The bytes laid into a bulk region of pair `n`; never beyond BLEN (R733). -/
def State.bulkPut (s : State) (n : PNum) (r : Nat × Nat) (b : Bytes) : State :=
  { s with rings := { s.rings with bulk := Memory.writeN s.rings.bulk (n.val * 4096 + r.1) (b.take r.2) } }

/-! ### The metrology latch -/

/-- Whole units of an accumulator kept at 2^-16 of a unit (R342). -/
def units (a : Nat) : Nat := a / 65536

/-- Accumulator `k` of outlet `o`: 7 per phase, then the outlet's from 21 on (R340). -/
def State.accOf (s : State) (o : Nat) (k : Nat) : Nat := (s.en.acc.toList.getD o []).getD k 0

/-- Accumulator `k` of outlet `o` in the latch registers. -/
def State.latOf (s : State) (o : Nat) (k : Nat) : Nat := (s.en.latch.acc.getD o []).getD k 0

/-- Latch flags (R350). -/
def State.latchFlags (s : State) (late : Bool) : Nat :=
  b2n late + 2 * b2n (s.en.neutral.any id)
    + 4 * b2n (outlets.any fun o => s.phases o == 1 && (s.en.inst.get o).bypass)
    + 8 * b2n (s.met.synth || s.met.hold) + 16 * b2n (!(s.netOn && s.net.sync == 2))
    + 32 * b2n (s.clk.metaRc && !s.clk.lfxoOk)

/-- A new calibration set becomes active (R313, R317): the drift terms go to 0, the baselines are renewed, the generation
advances; METRO_CAL_COMMITTED, and a CALIB record for the ledger. -/
def State.activateCal (s : State) (c : CalSet) : State :=
  let gen := wrapInc 32 s.met.gen
  let f (x : ChanRun) : ChanRun :=
    { x with dg := [0, 0], dp := [0, 0], base := [none, none], heldT := false, repeated := false }
  let digest := c.digest.take 8
  let s := { s with met := { s.met with
    active := c, next := none, gen := gen, uncal := false, chans := vmap f s.met.chans } }
  let s := s.emit 4 0x0781 (toLE 4 gen ++ padTo 8 digest ++ zeros 4 ++ toLE 8 s.bak.rtc)
  let r : LRec := { type := 0x0D, payload := padTo 64 (toLE 4 gen ++ padTo 8 digest), time := s.bill.time }
  { s with bill := { s.bill with recs := s.bill.recs ++ [r], trig := s.bill.trig ++ [6] } }

/-- A latch of the given kinds (R348, R350, R386): the registers, the sequence, the retention bank of its parity, bank 2
for a boundary, and the commit base, tariff index and calibration that take effect at it. None before ST11 has loaded the
accumulators (R345). -/
def State.latchNow (s : State) (kind : Nat) (late : Bool) : State :=
  if !s.en.loaded then s else
  let seq := wrapInc 32 s.en.latch.seq
  let flags := s.latchFlags late
  let bill := match s.bill.newBase with
    | some (b, base, t) => { s.bill with baseSeq := b, base := base, latchTariff := t, newBase := none }
    | none => s.bill
  let l : Latch := {
    seq := seq, sample := s.en.sample, cycles := s.met.cycles, time := s.bak.rtc,
    ptp := if s.netOn then s.net.sec * 1000 + s.net.ns / 1000000 else 0, kind := kind, flags := flags,
    acc := s.en.acc.toList }
  let delta (f : Nat × Nat → Nat) (k : Nat) : List Nat :=
    (List.range 24).map fun o => units (s.accOf o k) - f (bill.base.getD o (0, 0))
  let b : Bank := {
    lseq := seq, baseSeq := bill.baseSeq, sample := s.en.sample, time := s.bak.rtc, cycles := s.met.cycles,
    tariff := bill.latchTariff, kind := kind, flags := flags, imp := delta (·.1) 21, exp := delta (·.2) 22, ok := true }
  let s := { s with
    en := { s.en with latch := l }
    bill := bill
    bak := { s.bak with
      bank0 := if seq % 2 = 0 then b else s.bak.bank0
      bank1 := if seq % 2 = 1 then b else s.bak.bank1
      bank2 := if bit kind 1 then b else s.bak.bank2 } }
  match s.met.next with
  | some c => s.activateCal c
  | none => s

/-- A pending commit trigger with this CAUSE (R382). -/
def State.trigger (s : State) (cause : Nat) : State :=
  { s with bill := { s.bill with trig := s.bill.trig ++ [cause] } }

/-! ### Pilot and sessions -/

/-- Duty code of a setpoint in 0.1 A (R100). -/
def dutyOf (i : Nat) : Nat := i * 10 / 3

/-- The setpoint the generator applies: the smaller of the stepped setpoint and the ceiling (R102); 0 in discharge. -/
def State.applied (s : State) (o : ONum) : Nat := min (s.o o).pilot.setpoint.toNat (s.ceiling o)

/-- Pilot mode and duty code of the session state (R99 to R101, R137). ENDING, which R137 leaves out, keeps the mode and duty before it
(log entry 68). -/
def State.pilotFor (s : State) (o : ONum) : PilotMode × Nat :=
  match (s.o o).ses.st with
  | .ready | .energising | .paused =>
    if s.hlcOn o then (.hlc, 100)
    else if 60 ≤ s.applied o then (.pwm, dutyOf (s.applied o)) else (.dcPos, 2000)
  | .plugged | .authorising => if s.hlcOn o then (.hlc, 100) else (.dcPos, 2000)
  | .idle | .faulted => (.dcPos, 2000)
  | .outOfService => (.dcNeg, 0)
  | .ending => ((s.o o).pilot.mode, (s.o o).pilot.duty)

/-- The magnitude of the setpoint in force, within the ceiling, 0.1 A. -/
def State.usable (s : State) (o : ONum) : Nat := min (s.o o).pilot.setpoint.natAbs (s.ceiling o)

/-- The signalled limit IOL in 0.01 A (06, Overload). -/
def State.iol (s : State) (o : ONum) : Nat :=
  match (s.o o).pilot.mode with
  | .pwm => 3 * (s.o o).pilot.duty
  | .hlc => 10 * s.usable o
  | _ => 0

/-- IOL was `was`: the instant of its reduction is kept (R206). -/
def State.iolFrom (s : State) (o : ONum) (was : Nat) : State :=
  if s.iol o < was then s.modProt o fun p => { p with iolCut := s.up } else s

/-- The pilot of outlet `o` put into the mode and duty of its session state. -/
def State.setPilot (s : State) (o : ONum) : State :=
  (s.modPilot o fun p => { p with mode := (s.pilotFor o).1, duty := (s.pilotFor o).2 }).iolFrom o (s.iol o)

/-- The pilot follows a change of the ceiling at once (R15, R102); with no firmware the generator keeps its mode and duty (R105),
but for a duty above the ceiling. IOL before the change was `was` (R206). -/
def State.capPilot (s : State) (o : ONum) (was : Nat) : State :=
  (if s.fwRuns then s.setPilot o
  else s.modPilot o fun p =>
    if p.mode != .pwm then p
    else if 60 ≤ s.applied o then { p with duty := min p.duty (dutyOf (s.applied o)) }
    else { p with mode := .dcPos, duty := 2000 }).iolFrom o was

/-- The outlets of a list whose ceiling differs from that of a former state follow it, with its three copies (R15, R63, R102, R206). -/
def State.ceilingsFollow (s : State) (was : State) : List ONum → State
  | [] => s
  | o :: t => State.ceilingsFollow
      (if s.ceilingOf o = was.ceilingOf o then s else (s.tmrWritten (o.val + 1)).capPilot o (was.iol o)) was t

/-- Codes of the session states (04). -/
def SessState.code : SessState → Nat
  | .idle => 0
  | .plugged => 1
  | .authorising => 2
  | .ready => 3
  | .energising => 4
  | .paused => 5
  | .ending => 6
  | .faulted => 7
  | .outOfService => 8

/-- Codes of the pilot modes (R144). -/
def PilotMode.code : PilotMode → Nat
  | .dcPos => 0
  | .pwm => 1
  | .hlc => 2
  | .dcNeg => 3

/-- OUT_SWITCH with its STEP (04). -/
def State.outSwitch (s : State) (o : ONum) (step : Nat) : State :=
  s.emit 1 0x0283 (toLE 1 o.val ++ toLE 1 step ++ zeros 6 ++ toLE 8 s.bak.rtc)

/-- The last-state pages of the service tag written (16 R536, R537), while FIELD is on. -/
def State.lastState (s : State) : State :=
  if Config.variantIN || !s.domOn 10 then s
  else
    let out (o : ONum) : Bytes :=
      let x := (s.o o).ses
      padTo 16 (Config.tagState [x.st.code, x.cause, x.num, x.lastWh])
    let site := padTo 128 (Config.tagState [s.pwr.on, s.bak.rtc])
    (({ s with store := { s.store with
      tagMem := Memory.writeN s.store.tagMem 512 ((outlets.map out).flatten ++ site) } })).tagHistory

/-- A change of session state: OUT_STATE, the cause in force and the pilot mode of the new state (R134, R137). -/
def State.setSess (s : State) (o : ONum) (st : SessState) (cause : Nat) : State :=
  let x := (s.o o).ses
  let s := s.modSes o fun x => { x with st := st, cause := cause, since := s.up }
  let s := s.emit 1 0x0280 (toLE 1 o.val ++ toLE 1 x.st.code ++ toLE 1 st.code ++ toLE 1 cause ++ toLE 4 x.num
    ++ toLE 8 s.bak.rtc)
  let s := s.setPilot o
  if st == .faulted || st == .outOfService then s.lastState else s

/-- What lasts to the end of a session is over (R172, R180): bidirectional, and the export permission. -/
def Hlc.ended (h : Hlc) : Hlc := { h with bidir := false, expOk := false, expSet := none }

/-- The link of an outlet ends: no match, no run, no V2G session, and nothing of the EV that it told (R179). -/
def Hlc.down (h : Hlc) : Hlc := { h with
  v2g := false, assoc := false, pausedV := false, initOpen := false, setupOpen := false, run := none, toggleWin := false
  cert := none, nmk := 0, nid := 0, evMac := 0, proto := 0, tls := false, conn := none, pnc := false, atten := 0, margin := 0xFF
  authSeen := false, dynamic := false, evMax := none, evCharge := none, evDischarge := none }

/-- The session ends with a cause: the first cause and instant stand (R138, R149). -/
def State.markEnd (s : State) (o : ONum) (cause : Nat) : State :=
  let x := (s.o o).ses
  if x.num = 0 || x.endCause.isSome then s
  else (s.modSes o fun x => { x with endCause := some cause, endTime := s.bak.rtc }).modHlc o Hlc.ended

/-- Once the contactor is open, the record of an ended session waits for its commit, with a command latch (R382). -/
def State.queueSess (s : State) (o : ONum) : State :=
  let x := (s.o o).ses
  match x.endCause with
  | some c =>
    if x.queued || s.coil o then s else
      let s := (s.latchNow 4 false).modSes o fun x => { x with queued := true }
      let r : SessRec := {
        outlet := o.val, num := x.num, account := x.account, cause := c, hreason := x.hreason, start := x.start,
        fin := x.endTime, imp0 := x.imp0, exp0 := x.exp0, bidir := s.store.openSess.any fun r => r.num == x.num && r.bidir
        debited := x.debited, impT := x.impT, expT := x.expT }
      ({ s with bill := { s.bill with sess := s.bill.sess ++ [r] } }).trigger 1
  | none => s

/-- The sum of the outlet's phase voltages, each averaged over 1 s, in 0.01 V (R264). -/
def State.phaseVolts (s : State) (o : ONum) : Nat :=
  let mean (k : Nat) : Nat :=
    let l := s.en.vLog.getD (4 * s.bus o + k) []
    if l.isEmpty then 0 else (l.map fun x => x.1).foldl (· + ·) 0 / l.length
  if s.phases o = 1 then mean (s.lphase o - 1) else mean 0 + mean 1 + mean 2

/-- A session number is open on the outlet. -/
def State.hasSession (s : State) (o : ONum) : Bool :=
  (s.o o).ses.num != 0 && ((s.o o).ses.st == .ready || (s.o o).ses.st == .energising || (s.o o).ses.st == .paused)

/-- Drop a session that drew no energy, and its pending decision (R135, AUTHORISING rows). -/
def State.dropSession (s : State) (o : ONum) : State :=
  s.modSes o fun x => { x with
    num := 0, account := 0xFFFF, pend := none, lockWait := false, endCause := none,
    hreason := 0, queued := false, committed := false }

/-- The lock bridge asked to move to a position (R128). -/
def State.askLock (s : State) (o : ONum) (locked : Bool) : State :=
  if s.hasLock o then
    s.modLock o fun l => if l.drive == .off then { l with target := some locked, tries := 0, waiting := true, due := false }
      else { l with after := some locked }
  else s

/-- Start the opening sequence of R121 on an outlet. A second trigger does not restart it (R205); an opening that meets a
closing before SSWEN releases the contactor at once (R120). -/
def State.startOpening (s : State) (o : ONum) (cause : Nat) : State :=
  let w := (s.o o).sw
  match w.phase with
  | .off | .opening | .released => s
  | .closing =>
    let s := (s.modPairOut o.val fun p => { p with on := false, pullin := false }).modSw o fun w =>
      { w with
        phase := .released, openCause := cause, releasedAt := s.up, deferred := false, faultEnd := false, windowSeen := false }
    (s.modSes o fun x => { x with windowPassed := false }).outSwitch o 4
  | .retryWait =>
    (s.modSw o fun w => { w with phase := .opening, openCause := cause, deferred := false, faultEnd := false }).modSes o
      fun x => { x with windowPassed := false }
  | .enabling | .on =>
    let s := (s.modSw o fun w => { w with
      phase := .opening, sswen := false, sswfb := false, sswFall := some s.up, openCause := cause,
      deferred := false, faultEnd := false }).modSes o fun x => { x with windowPassed := false }
    s.outSwitch o 3

/-- ENDING: the first cause, the opening if needed, HLC torn down, the lock opened once the weld window has passed (R135). -/
def State.toEnding (s : State) (o : ONum) (cause : Nat) : State :=
  let s := (s.markEnd o cause).setSess o .ending cause
  let s := if s.energised o then s.startOpening o cause else s
  let s := s.modHlc o Hlc.down
  let s := if s.energised o || !(s.o o).ses.windowPassed then s else s.askLock o false
  s.queueSess o

/-- The transition that an event implies, taken by the firmware (R135): FAULTED, OUT_OF_SERVICE after ENDING of an active
session, ENDING. -/
def State.sessTo (s : State) (o : ONum) (goal : SessState) (cause : Nat) : State :=
  let st := (s.o o).ses.st
  match goal with
  | .faulted =>
    if st == .outOfService || st == .faulted then s
    else if (s.o o).ses.toOos.isSome then s
    else
      let s := (s.markEnd o cause).setSess o .faulted cause
      let s := s.modSes o fun x => { x with pend := none, lockWait := false }
      s.queueSess o
  | .outOfService =>
    if st == .outOfService then s
    else if s.hasSession o then (s.toEnding o cause).modSes o fun x => { x with toOos := some cause }
    else if st == .ending then s.modSes o fun x => { x with toOos := some cause }
    else if st == .authorising && (s.o o).ses.num != 0 then
      let s := (s.markEnd o cause).setSess o .outOfService cause
      (s.modSes o fun x => { x with pend := none, lockWait := false }).queueSess o
    else (if st == .authorising then s.dropSession o else s).setSess o .outOfService cause
  | .ending => if s.hasSession o then s.toEnding o cause else s
  | .paused => if st == .energising then s.setSess o .paused cause else s
  | _ => s

/-- The transition is taken now, or by the new firmware after a handover (R138, R139). -/
def State.fwTo (s : State) (o : ONum) (goal : SessState) (cause : Nat) : State :=
  if s.rings.pause then { s with fwAct := s.fwAct ++ [{ outlet := o, goal := goal, cause := cause }] }
  else s.sessTo o goal cause

/-! ### Power states -/

/-- SYS_POWER_STATE (03). -/
def State.evtPower (s : State) (new cause : Nat) : State :=
  s.emit 0 0x0181 (toLE 1 new ++ toLE 1 cause ++ toLE 2 s.pwr.on)

/-- SYS_DOMAIN (03). -/
def State.evtDomain (s : State) (old cause : Nat) : State :=
  s.emit 0 0x0182 (toLE 2 s.pwr.on ++ toLE 2 (s.pwr.on ^^^ old) ++ toLE 1 cause)

/-- Leave Quiet for Run, restoring the domains that were on before (R17, R660). -/
def State.wake (s : State) (cause : Nat) : State :=
  if s.pwr.state == .quiet then
    let old := s.pwr.on
    let s := { s with pwr := { s.pwr with state := .run, on := s.pwr.before, pgood := s.pwr.before } }
    let s := s.evtPower 0 cause
    if s.pwr.on = old then s else s.evtDomain old 2
  else s

/-! ### Faults -/

/-- The log entries of these sources carry an outlet number in QUAL (tables of the chapters). -/
def outletSource (src : Nat) : Bool :=
  (32 ≤ src && src ≤ 50) || src == 70 || src == 71 || src == 76 || src == 80 || (116 ≤ src && src ≤ 118) || src == 122

/-- The causes of an opening by a fault (R135 codes): weld 13, else outlet fault 12. -/
def faultCause (src : Nat) : Nat := if src = 38 then 13 else 12

/-- The outlet faults of R135 and R136, whatever their severity: pilot, proximity, switching, lock, protection, the outlet's output
pair, EARTH_LOSS (log entry 68). -/
def outletFaultSource (src : Nat) : Bool := (32 ≤ src && src ≤ 50) || (116 ≤ src && src ≤ 118) || src == 122

/-- Faults whose row of R135 leads to OUT_OF_SERVICE: WELD, SSW_FAIL, SOUT_HS, SOUT_LS. -/
def oosSource (src : Nat) : Bool := src == 38 || src == 39 || src == 116 || src == 117

/-- Start the opening of every outlet that is commanded closed (R612 open all, R657, R235, R221). -/
def State.openList (s : State) (cause : Nat) : List ONum → State
  | [] => s
  | o :: t => State.openList (if s.energised o then s.startOpening o cause else s) cause t

/-- Open all is the reaction of severity `sev` (R612). -/
def State.opensAll (s : State) (sev : Nat) : Bool :=
  (sev == 2 && bit s.flt.react 1) || (sev == 3 && bit s.flt.react 3)

/-- The opening of an outlet by a fault with its number (R613), and the session row it implies (R135). -/
def State.outletFault (s : State) (src qual : Nat) : State :=
  if h : qual < 24 then
    let o : ONum := ⟨qual, h⟩
    let s := if s.energised o then s.startOpening o (faultCause src) else s
    s.fwTo o (if oosSource src then .outOfService else .faulted) (faultCause src)
  else s

/-- The gates of a list of engines opened, as firmware does whenever it needs them (21 R646): 0 PKA, 1 AES group, 2 SHA, 4 NFC reader. -/
def State.openGates (s : State) (l : List Nat) : State :=
  { s with clk := { s.clk with gate := l.foldl (fun g k => putBit g k true) s.clk.gate, gateWait := l.foldl (fun g k => putBit g k false) s.clk.gateWait } }

/-- Running maintenance activities that satisfy a test end early with a cause (R628). -/
def State.maintEnd (s : State) (cause : Nat) (p : MaAct → Bool) : State :=
  { s with maint := s.maint.map fun a => if a.running && p a && a.abort.isNone then { a with abort := some cause } else a }

/-- Running maintenance activities that claim an outlet end early on its MAJOR or CRITICAL fault (R628 cause 3). -/
def State.maintFault (s : State) (qual : Nat) : State :=
  s.maintEnd 3 fun a => a.index == qual && (a.act == 1 || a.act == 2 || a.act == 3 || a.act == 5 || (a.act == 4 && a.mode == 0))

/-- The reaction of severity `sev` of an occurrence (R612, R613, R17). -/
def State.react (s : State) (src qual sev : Nat) : State :=
  let s := if 2 ≤ sev && outletSource src then (s.outletFault src qual).maintFault qual else s
  let s := if s.opensAll sev then s.openList 21 outlets else s
  if 2 ≤ sev then s.wake 1 else s

/-- The reaction of severity `sev` of a forced occurrence: nothing specific to its source (R618). -/
def State.reactForced (s : State) (sev : Nat) : State :=
  let s := if s.opensAll sev then s.openList 21 outlets else s
  if 2 ≤ sev then s.wake 1 else s

/-- An occurrence of a fault source (R615): the collector's record, the reaction of its severity on the first one, and
FLT_EVENT on RP0. -/
def State.raiseWith (s : State) (src qual data : Nat) (forced retried : Bool) : State :=
  if reservedSrc src || 128 ≤ src then s
  else
    let first := !s.latchedQ src qual
    let sev := s.sev src
    let s := s.latchRec src qual data forced retried
    if !first then s
    else
      let s := if forced then s.reactForced sev else s.react src qual sev
      if 1 ≤ sev || s.flt.evtNote then s.emit 0 0x1180 ((s.store.fltLog.headD {}).bytes.take 24) else s

/-- An occurrence found by the hardware or the firmware. -/
def State.raise (s : State) (src qual data : Nat) : State := s.raiseWith src qual data false false

/-- An occurrence after a failed retry (R619). -/
def State.raiseRetried (s : State) (src qual data : Nat) : State := s.raiseWith src qual data false true

/-- The session row of R135 for a fault that its rule sends to FAULTED or OUT_OF_SERVICE whatever its severity: a weld, SSW_FAIL, a
failed mirror contact, a protection trip (R122, R123, R125, R135). -/
def State.rowOf (s : State) (src : Nat) (o : ONum) : State := if 2 ≤ s.sev src then s else s.outletFault src o.val

/-- An occurrence of such a fault of outlet `o`. -/
def State.raiseFor (s : State) (src : Nat) (o : ONum) (data : Nat) : State := (s.raise src o.val data).rowOf src o

/-- A transient fault (R619): a NOTE entry with TRANSIENT, and the count; no status and no unread bit. -/
def State.transient (s : State) (src qual data : Nat) : State :=
  let s := (s.countUp src).logPut { src := src, sev := 0, trans := true, qual := qual, data := data, time := s.bak.rtc }
  if s.flt.evtNote then s.emit 0 0x1180 ((s.store.fltLog.headD {}).bytes.take 24) else s

/-- The occurrence of `src` with number `qual` cleared (R616): with the last one, status, count and unread bit go. -/
def State.clearOcc (s : State) (src qual : Nat) : State :=
  let occ := s.flt.occ.filter fun x => !(x.src == src && x.qual == qual)
  let gone := !(occ.any fun x => x.src == src)
  { s with flt := { s.flt with
      occ := occ
      cnt := if gone then assocDel s.flt.cnt src else s.flt.cnt
      unread := if gone then putBit s.flt.unread src false else s.flt.unread
      log := s.flt.log.map fun e => if e.src == src && e.qual == qual then { e with cleared := true } else e } }

/-- The sources of the uncleared, unforced outlet faults of outlet `o` (R135): those that are outlet faults whatever their severity, and
any other that carries its number at MAJOR or CRITICAL (R613). -/
def State.outletFaults (s : State) (o : ONum) : List Nat :=
  (s.flt.occ.filter fun x => x.qual == o.val && !x.forced
    && (outletFaultSource x.src || (outletSource x.src && decide (2 ≤ s.sev x.src)))).map fun x => x.src

/-- An outlet fault of MAJOR or CRITICAL is uncleared. -/
def State.outletFaulted (s : State) (o : ONum) : Bool :=
  (s.outletFaults o).any fun src => 2 ≤ s.sev src

/-! ### The frame of a mailbox command -/

/-- What a mailbox command is: its opcode, its pair, the least and largest payload, whether it accepts a chain, and
whether it takes a bulk region: 0 never, 1 always, 2 either. -/
structure Cmd where
  op : Nat
  pair : PNum
  lo : Nat := 0
  hi : Nat := 0
  chain : Bool := false
  bulk : Nat := 0
  deriving DecidableEq, Repr

/-- The answer of a command's meaning. -/
structure Ans where
  st : State
  status : Nat := 0
  payload : Bytes := []
  bulk : Option (Nat × Nat) := none

/-- A bulk descriptor that R79 admits. -/
def bulkOk (r : Nat × Nat) : Bool := r.1 % 4 == 0 && 1 ≤ r.2 && r.1 + r.2 ≤ 4096

/-- LEN, chain and bulk descriptor fit the command (R76, R78, R79). -/
def Cmd.layoutOk (c : Cmd) (q : Req) : Bool :=
  decide (c.lo ≤ q.payload.length) && decide (q.payload.length ≤ c.hi) && (c.chain || !q.chain) &&
    match q.bulk with
    | none => c.bulk != 1
    | some r => c.bulk != 0 && bulkOk r

/-- The first test of R734 that fails, by its status. -/
def State.screen (s : State) (c : Cmd) (q : Req) (fits : Bool) : Option Nat :=
  if c.op / 256 = 13 && Config.variantIN then some 0x0A
  else if !(c.layoutOk q && fits) then some 0x05
  else if s.tagBusy c.pair q.tag then some 0x03
  else if q.bulk.isSome && s.bulkBusy c.pair then some 0x02
  else none

/-- What follows the meaning of a mailbox command: a command that answers QUEUED stays in flight (R84), and so does one whose
completion follows later without QUEUED: status 256 here, which writes no completion yet. -/
def answered (c : Cmd) (q : Req) (a : Ans) : State :=
  let st := if a.status = 1 || a.status = 256 then
      a.st.modPr c.pair fun p => { p with
        inflight := p.inflight ++ [{ tag := q.tag, op := c.op, bulk := q.bulk }] }
    else a.st
  if a.status = 256 then st else st.complete c.pair c.op q.tag a.status a.payload a.bulk

/-- Run a mailbox command: the tests of R734, its meaning, its completion. While no firmware serves the rings nothing
happens (log entry 1). -/
def mail (c : Cmd) (q : Req) (s : State) (fits : Bool) (body : State → Ans) : Out :=
  .next (
    if !s.fwRuns then s
    else match s.screen c q fits with
      | some st => s.complete c.pair c.op q.tag st [] none
      | none => answered c q (body s))

/-- A refusal of a command by its chapter: nothing changes (R84). -/
def State.no (s : State) (status : Nat) : Ans := { st := s, status := status }

/-- OK with a payload. -/
def State.ok (s : State) (payload : Bytes := []) : Ans := { st := s, payload := payload }

/-- A command whose bulk region must hold `n` bytes: BADARG where it is shorter, a test of its chapter (R733, R734). -/
def State.sized (s : State) (r : Nat × Nat) (n : Nat) (a : Ans) : Ans := if r.2 < n then s.no 0x05 else a

/-- The command stays in flight; its completion follows. -/
def State.wait (s : State) : Ans := { st := s, status := 256 }

/-- QUEUED. -/
def State.queued (s : State) : Ans := { st := s, status := 1 }

/-- The outlet that byte `off` of a payload names; outlet 0 where it is above 23. -/
def outletArg (p : Bytes) (off : Nat) : ONum := if h : u8 p off < 24 then ⟨u8 p off, h⟩ else 0

/-- Byte `off` of a payload names an outlet. -/
def outletFits (p : Bytes) (off : Nat) : Bool := decide (u8 p off < 24)

end Sys2Proof.Machine
end

