-- ==== Sys2Proof/Machine/Accounts.lean ====
section
/-! DEFINITION. Credit accounts and bindings as authorisation reads them (13, Accounts). -/

namespace Sys2Proof.Machine

/-- Account `a` (R440). -/
def State.acct (s : State) (a : Nat) : Account := lookupD s.store.accts a {}

/-- The state with account `a` replaced. -/
def State.setAcct (s : State) (a : Nat) (x : Account) : State :=
  { s with store := { s.store with accts := assocPut s.store.accts a x } }

/-- The account is enabled. -/
def Account.enabled (x : Account) : Bool := bit x.flags 0

/-- Emergency credit follows the balance: it deactivates when the balance exceeds 0 and activates at once where FLAGS
bit 2 is set (R441). -/
def Account.settle (x : Account) : Account :=
  if 0 < x.balance then { x with flags := putBit x.flags 3 false }
  else if bit x.flags 2 then { x with flags := putBit x.flags 3 true }
  else x

/-- The credit state of account `a` at a balance: 0 CREDIT, 1 EMERGENCY, 2 EXHAUSTED (R441). Account 0 is never
EXHAUSTED (R442); DESIGN CHOICE, log entry 15: it is CREDIT instead. -/
def creditCode (a : Nat) (x : Account) (balance : Int) : Nat :=
  if 0 < balance then 0
  else if bit x.flags 3 && decide (-(x.ecLimit : Int) < balance) then 1
  else if a = 0 then 0 else 2

/-- The credit state of account `a` at its committed balance. -/
def State.creditState (s : State) (a : Nat) : Nat := creditCode a (s.acct a) (s.acct a).balance

/-- The binding of an identification (R443). -/
def State.bindingOf (s : State) (type : Nat) (id : Bytes) : Option Nat :=
  (s.store.binds.find? fun b => b.type == type && b.id == id).map fun b => b.account

/-- In LOCAL mode: the account of an accepted identification (R443). -/
def State.localAccept (s : State) (type : Nat) (id : Bytes) : Option Nat :=
  match s.bindingOf type id with
  | none => none
  | some a =>
    let x := s.acct a
    let c := s.creditState a
    if x.enabled && ((c == 0 && decide ((x.minStart : Int) ≤ x.balance)) || c == 1) then some a else none

/-- Emergency credit requested on an account at the keypad (R441, R458): the next commit activates it. -/
def State.askEmergency (s : State) (a : Nat) : State :=
  ({ s with cr := { s.cr with ops := s.cr.ops ++ [({ op := .emergency a } : CreditWait)], ecReq := false, mode := 0, digits := [] } }).trigger 8

end Sys2Proof.Machine
end

