-- ==== Sys2Proof/Machine/Civil.lean ====
section
/-! DEFINITION. Billing time as civil time, the tariff calendar, and the boundaries that follow from both (11, Billing time and
civil time; Tariff calendar; Demand and billing periods). -/

namespace Sys2Proof.Machine

/-! ### Dates -/

/-- Year, month and day of a day count from 1970-01-01. PRESUMED: times in ms TAI count from 1970-01-01, log entry 24. -/
def civilDate (days : Nat) : Nat × Nat × Nat :=
  let z := days + 719468
  let era := z / 146097
  let doe := z % 146097
  let yoe := (doe - doe / 1460 + doe / 36524 - doe / 146096) / 365
  let doy := doe - (365 * yoe + yoe / 4 - yoe / 100)
  let mp := (5 * doy + 2) / 153
  let m := if mp < 10 then mp + 3 else mp - 9
  (yoe + era * 400 + (if m ≤ 2 then 1 else 0), m, doy - (153 * mp + 2) / 5 + 1)

/-- The day count of a date. -/
def dayCount (y m d : Nat) : Nat :=
  let y := if m ≤ 2 then y - 1 else y
  let yoe := y % 400
  let mp := if 2 < m then m - 3 else m + 9
  let doy := (153 * mp + 2) / 5 + d - 1
  y / 400 * 146097 + yoe * 365 + yoe / 4 - yoe / 100 + doy - 719468

/-- Day of the week of a day count, 1 Monday to 7 Sunday. -/
def weekdayOf (days : Nat) : Nat := (days + 3) % 7 + 1

/-- Milliseconds of a day. -/
def dayMs : Nat := 86400000

/-! ### Local time -/

/-- TAI − UTC in use: the one that a locked PTP clock reports as valid, else LEAP (R395). -/
def State.leap (s : State) : Nat :=
  if s.netOn && s.net.sync == 2 && s.net.utcValid then s.net.utcOff else u8 s.cfg.bill 7

/-- Local standard time in ms at billing time `t` (R395). -/
def State.stdTime (s : State) (t : Nat) : Nat :=
  (((t : Int) - 1000 * (s.leap : Int)) + 60000 * sfld s.cfg.bill 8 2).toNat

/-- The instant, in local standard time, of a DST rule MONTH, WEEK, WEEKDAY, HOUR in a year (R395). -/
def dstInstant (year : Nat) (rule : Bytes) : Nat :=
  let m := u8 rule 0
  let week := u8 rule 1
  let first := dayCount year m 1
  let d0 := first + (u8 rule 2 + 7 - weekdayOf first) % 7
  let next := if m = 12 then dayCount (year + 1) 1 1 else dayCount year (m + 1) 1
  let d := if week ≤ 4 then d0 + 7 * (week - 1) else if d0 + 28 < next then d0 + 28 else d0 + 21
  d * dayMs + u8 rule 3 * 3600000

/-- DST_SHIFT in ms (R406). -/
def State.dstShift (s : State) : Nat := u8 s.cfg.bill 10 * 60000

/-- The start and the end of daylight saving in the year of a local standard time. -/
def State.dstSpan (s : State) (std : Nat) : Nat × Nat :=
  let y := (civilDate (std / dayMs)).1
  (dstInstant y ((s.cfg.bill.drop 12).take 4), dstInstant y ((s.cfg.bill.drop 16).take 4))

/-- Daylight saving is in force at a local standard time (R395). -/
def State.inDst (s : State) (std : Nat) : Bool :=
  let x := s.dstSpan std
  s.dstShift != 0 &&
    if x.1 < x.2 then decide (x.1 ≤ std) && decide (std < x.2) else decide (x.1 ≤ std) || decide (std < x.2)

/-- Local time at billing time `t` (R395). -/
def State.localTime (s : State) (t : Nat) : Nat :=
  let std := s.stdTime t
  if s.inDst std then std + s.dstShift else std

/-- The local time that actions have reached: local time, and in the hour that an autumn change repeats the end of its first
pass, so that each action takes effect once (R397). -/
def State.reached (s : State) (t : Nat) : Nat :=
  let std := s.stdTime t
  let e := (s.dstSpan std).2
  if s.dstShift != 0 && decide (e ≤ std) && decide (std < e + s.dstShift) then e + s.dstShift - 1 else s.localTime t

/-! ### Calendar -/

/-- A calendar image keeps every rule of R396. -/
def calendarOk (c : Bytes) : Bool :=
  let nS := u8 c 1
  let nW := u8 c 2
  let nD := u8 c 3
  let nX := u8 c 4
  let date (off : Nat) : Bool := 1 ≤ u8 c off && u8 c off ≤ 12 && 1 ≤ u8 c (off + 1) && u8 c (off + 1) ≤ 31
  let md (k : Nat) : Nat := 32 * u8 c (16 + 8 * k) + u8 c (17 + 8 * k)
  let act (d a : Nat) : Nat := u16 c (144 + 64 * d + 4 * a)
  let day (d : Nat) : Bool := act d 0 == 0 && (List.range 16).all fun a =>
    if act d a = 0xFFFF then a == 15 || act d (a + 1) == 0xFFFF
    else decide (act d a ≤ 1439) && decide (1 ≤ u8 c (146 + 64 * d + 4 * a)) && decide (u8 c (146 + 64 * d + 4 * a) ≤ 8)
      && (a == 0 || decide (act d (a - 1) < act d a))
  c.length == 2704 && u8 c 0 == 1 && 1 ≤ nS && nS ≤ 8 && 1 ≤ nW && nW ≤ 8 && 1 ≤ nD && nD ≤ 32 && nX ≤ 64
    && u32 c 12 == crc32c (c.take 12 ++ c.drop 16)
    && ((List.range nS).all fun k => date (16 + 8 * k) && u8 c (18 + 8 * k) < nW && (k == 0 || md (k - 1) < md k))
    && ((List.range nW).all fun k => (List.range 7).all fun w => u8 c (80 + 8 * k + w) < nD)
    && ((List.range nD).all day)
    && ((List.range nX).all fun k => date (2194 + 8 * k) && u8 c (2196 + 8 * k) < nD)

/-- The special day of a date: its day profile (R396). -/
def specialDay (c : Bytes) (y m d : Nat) : Option Nat :=
  ((List.range (u8 c 4)).find? fun k =>
    let off := 2192 + 8 * k
    (u16 c off == 0 || u16 c off == y) && u8 c (off + 2) == m && u8 c (off + 3) == d).map fun k => u8 c (2196 + 8 * k)

/-- The season of a date (R396): the last whose start has come in the year, else the last of all. -/
def seasonOf (c : Bytes) (m d : Nat) : Nat :=
  let n := u8 c 1
  let l := (List.range n).filter fun k => 32 * u8 c (16 + 8 * k) + u8 c (17 + 8 * k) ≤ 32 * m + d
  l.getLast?.getD (n - 1)

/-- The day profile in force at a local time, and whether a special day gives it (R396). -/
def dayProfile (c : Bytes) (loc : Nat) : Nat × Bool :=
  let days := loc / dayMs
  let (y, m, d) := civilDate days
  match specialDay c y m d with
  | some p => (p, true)
  | none => (u8 c (80 + 8 * u8 c (18 + 8 * seasonOf c m d) + (weekdayOf days - 1)), false)

/-- The tariff register that a calendar names at a local time (R396); T1 without a valid calendar (F079). -/
def tariffOf (c : Bytes) (loc : Nat) : Nat :=
  if c.isEmpty then 1
  else
    let p := (dayProfile c loc).1
    let minute := loc % dayMs / 60000
    let l := (List.range 16).filter fun a =>
      let m := u16 c (144 + 64 * p + 4 * a)
      m != 0xFFFF && decide (m ≤ minute)
    u8 c (146 + 64 * p + 4 * (l.getLast?.getD 0))

/-- The calendar in force at billing time `t`: the passive one from a pending activation on (R407). -/
def State.calAt (s : State) (t : Nat) : Bytes :=
  match s.store.activateAt with
  | some a => if a ≤ t then s.cfg.calPassive else s.cfg.calActive
  | none => s.cfg.calActive

/-- The tariff register in force at billing time `t` (R396). -/
def State.tariffAt (s : State) (t : Nat) : Nat := tariffOf (s.calAt t) (s.reached t)

/-! ### Boundaries -/

/-- A number that advances at every calendar period close: PHOUR:00 on day PDAY of each month (R400). -/
def State.periodKey (s : State) (t : Nat) : Nat :=
  let loc := s.reached t
  let (y, m, d) := civilDate (loc / dayMs)
  let h := loc % dayMs / 3600000
  12 * y + m - (if u8 s.cfg.bill 3 < d || (u8 s.cfg.bill 3 = d && u8 s.cfg.bill 4 ≤ h) then 0 else 1)

/-- Length of a demand interval in ms (R398). -/
def State.demLen (s : State) : Nat := s.bill.demCfg.getD 1 15 * 60000

/-- The number of subintervals of a demand interval: 1 in block mode (R398). -/
def State.demSubs (s : State) : Nat := if s.bill.demCfg.getD 0 0 = 1 then max 1 (s.bill.demCfg.getD 2 1) else 1

/-- Spacing of demand boundaries in ms (R398). -/
def State.demStep (s : State) : Nat := max 60000 (s.demLen / s.demSubs)

/-- The first demand boundary after billing time `t`: whole multiples from midnight of local standard time (R398). -/
def State.nextDemand (s : State) (t : Nat) : Nat :=
  let l := s.demStep
  t + (l - s.stdTime t % l)

/-- The kinds of boundary that fall exactly at billing time `t`, coming from `t0` (R401). -/
def State.kindsAt (s : State) (t0 t : Nat) : Nat :=
  b2n (s.stdTime t % s.demStep == 0) + 2 * b2n (s.tariffAt t != s.bill.tariff)
    + 4 * b2n (s.periodKey t0 < s.periodKey t || s.bill.closeAt == some t) + 8 * b2n (s.store.activateAt == some t)

/-- The next boundary after billing time `t`, and its kinds (R401). A demand boundary comes within the hour, so the instants
up to it are examined: every whole minute of local time, a pending activation and a commanded close. -/
def State.nextBoundary (s : State) (t : Nat) : Nat × Nat :=
  let dem := s.nextDemand t
  let min0 := t + (60000 - s.stdTime t % 60000)
  let mins := ((List.range 61).map fun k => min0 + 60000 * k).filter fun x => x < dem
  let extra := (s.store.activateAt.toList ++ s.bill.closeAt.toList).filter fun x => t < x && x < dem
  let cands := sortBy (fun a b => decide (a ≤ b)) (mins ++ extra ++ [dem])
  match cands.find? fun x => s.kindsAt t x != 0 with
  | some x => (x, s.kindsAt t x)
  | none => (dem, 1)

/-- The kinds of boundary that lie after `t0` and up to `t` (R404, R405). -/
def State.crossed (s : State) (t0 t : Nat) : Nat :=
  let within (x : Option Nat) : Bool := match x with
    | some x => decide (t0 < x) && decide (x ≤ t)
    | none => false
  b2n (s.stdTime t0 / s.demStep < s.stdTime t / s.demStep) + 2 * b2n (s.tariffAt t != s.bill.tariff)
    + 4 * b2n (s.periodKey t0 < s.periodKey t || within s.bill.closeAt) + 8 * b2n (within s.store.activateAt)

end Sys2Proof.Machine
end

