-- ==== Sys2Proof/Machine/Wave.lean ====
section
/-! DEFINITION. Waveform triggers, tamper flags and what raises them (10, Waveform ring and captures; Tamper). -/

namespace Sys2Proof.Machine

/-- The state with the energy block changed. -/
def State.modEn (s : State) (f : Energy → Energy) : State := { s with en := f s.en }

/-- A field of one byte of ENERGY_CONFIG (R368). -/
def State.ec (s : State) (off : Nat) : Nat := u8 s.cfg.energy off

/-- A capture is triggered (R356, R357): none on an outlet whose capture still has its post window ahead, which is flagged
retriggered; none while 4 wait. -/
def State.waveTrigger (s : State) (trig outlet : Nat) : State :=
  let again (c : Capture) : Bool := c.outlet == outlet && decide (s.en.sample ≤ c.sample + 2047)
  if s.en.capWait.any again then
    let f (c : Capture) : Capture := if again c then { c with flags := putBit c.flags 2 true } else c
    s.modEn fun e => { e with capWait := e.capWait.map f }
  else if 4 ≤ s.en.capWait.length then s.modEn fun e => { e with lost := wrapInc 32 e.lost }
  else
    let c : Capture := {
      id := s.store.capNext, trigger := trig, outlet := outlet, time := s.bak.rtc, sample := s.en.sample
      flags := b2n (s.netOn && s.net.sync == 2) + 2 * b2n (s.en.neutral.any id) }
    { s with
      en := { s.en with capWait := s.en.capWait ++ [c] }
      store := { s.store with capNext := wrapInc 32 s.store.capNext } }

/-- The trigger is enabled by WAVE_TRIG (R356). -/
def State.waveIf (s : State) (trig outlet : Nat) : State :=
  if bit (s.ec 13) trig then s.waveTrigger trig outlet else s

/-- The largest phase current of outlet `o` now, mA. -/
def State.maxCurrent (s : State) (o : ONum) : Nat := maxOf (s.en.inst.get o).i

/-- The outlet whose capture a trigger of a bus takes: PQ_OUTLET, or the outlet of the bus with the largest current (R356). -/
def State.busOutlet (s : State) (bus : Nat) : Nat :=
  if s.ec 14 < 24 then s.ec 14
  else
    let os := outlets.filter fun o => s.bus o == bus
    match os with
    | [] => 0
    | o :: t => (t.foldl (fun b x => if s.maxCurrent b < s.maxCurrent x then x else b) o).val

/-- A tamper flag is set: kind 0 REVERSE, 1 BYPASS, 2 NEUTRAL, 3 COVER0, 4 COVER1 (R360). -/
def State.tamperSet (s : State) (kind idx : Nat) : Bool := s.store.tamper.contains (kind, idx)

/-- A TAMPER record waits for its commit (R360, R380). -/
def State.tamperRec (s : State) (kind st idx src : Nat) : State :=
  let r : LRec := {
    type := 0x0C, time := s.bill.time, outlet := if kind ≤ 1 then idx else 0xFF
    payload := padTo 64 (toLE 1 kind ++ toLE 1 st ++ toLE 1 idx ++ toLE 1 src) }
  { s with bill := { s.bill with recs := s.bill.recs ++ [r], trig := s.bill.trig ++ [5] } }

/-- TAMPER (10). -/
def State.evtTamper (s : State) (kind st idx src : Nat) (value : Int) : State :=
  s.emit 4 0x0786 (toLE 1 kind ++ toLE 1 st ++ toLE 1 idx ++ toLE 1 src ++ toLEs 4 value ++ toLE 8 s.bak.rtc)

/-- A tamper is detected: its persistent flag with its record, and the event (R360). -/
def State.tamperFound (s : State) (kind idx : Nat) (value : Int) : State :=
  let s := if s.tamperSet kind idx then s
    else ({ s with store := { s.store with tamper := s.store.tamper ++ [(kind, idx)] } }).tamperRec kind 0 idx 0
  s.evtTamper kind 0 idx 0 value

/-- The condition of a tamper flag persists (R366). -/
def State.tamperActive (s : State) (kind idx : Nat) : Bool :=
  match kind with
  | 0 => (s.en.inst.toList.getD idx {}).reverse
  | 1 => (s.en.inst.toList.getD idx {}).bypass
  | 2 => s.en.neutral.getD idx false
  | _ => s.en.tampLevel.getD (kind - 3) false

/-- A tamper flag is cleared with its record and event; a COVER clear resets the input's BAK record (R366, R377). -/
def State.tamperClear (s : State) (src : Nat) (k : Nat × Nat) : State :=
  let s := { s with store := { s.store with tamper := s.store.tamper.filter fun x => x != k } }
  let s := if 3 ≤ k.1 then
      { s with bak := { s.bak with cover := s.bak.cover.set (k.1 - 3) (0, 0, 0), coverSeen := s.bak.coverSeen.set (k.1 - 3) 0 } }
    else s
  (s.tamperRec k.1 2 k.2 src).evtTamper k.1 2 k.2 src 0

/-- New cover openings that BAK has recorded, taken by the firmware (R367). -/
def State.takeCovers (s : State) : State :=
  (List.range 2).foldl (fun s n =>
    let c := (s.bak.cover.getD n (0, 0, 0)).1
    if c = s.bak.coverSeen.getD n 0 then s
    else
      let s := { s with bak := { s.bak with coverSeen := s.bak.coverSeen.set n c } }
      (s.raise 73 n c).tamperFound (3 + n) n c) s

end Sys2Proof.Machine
end

