-- ==== Sys2Proof/Machine/CreditOps.lean ====
section
/-! DEFINITION. What a ledger commit does to accounts and bindings, and how the credit state of an account is followed (13,
Charging; Exhaustion, grace and friendly hours; Vouchers). -/

namespace Sys2Proof.Machine

/-- Price field `k` of CREDIT_CONFIG: 0 to 7 PIMP, 8 to 15 PEXP (R462). -/
def State.price (s : State) (k : Nat) : Nat := u32 s.cfg.credit (4 * k)

/-- The cost of a session so far in milli-units, rounded down (R444): export counts only where the account's flag is set. -/
def State.sessionCost (s : State) (a : Nat) (impT expT : List Nat) : Int :=
  let exp := bit (s.acct a).flags 1
  let term (t : Nat) : Int :=
    (impT.getD t 0 * s.price t : Int) - (if exp then ((expT.getD t 0 * s.price (8 + t) : Nat) : Int) else 0)
  sumI ((List.range 8).map term) / 1000000000

/-- A record of TYPE 0x20 ACCOUNT, 0x21 VOUCHER or 0x22 BINDING; its layout is uninterpreted (log entry 23). -/
def State.creditRec (s : State) (type : Nat) (content : List Int) : LRec :=
  { type := type, time := s.bill.time, payload := padTo 64 (Config.creditRecord type content) }

/-- The balance of an account moved by an amount; emergency credit follows it (R440, R441). -/
def State.credit (s : State) (a : Nat) (amount : Int) : State :=
  let x := s.acct a
  s.setAcct a ({ x with balance := x.balance + amount }).settle

/-- An HOUR noted as used in a memory of the form of R440 (R452): of 64 entries the smallest goes, and LWM becomes it plus 1. -/
def Account.useHour (x : Account) (hour : Nat) : Account :=
  let x := { x with usedMax := max x.usedMax hour }
  if x.used.length < 64 then { x with used := hour :: x.used }
  else
    let low := x.used.foldl min (x.used.headD 0)
    { x with used := hour :: x.used.erase low, lwm := low + 1 }

/-- The digits of a number, most significant first, in ASCII. -/
def asciiDigits (k n : Nat) : Bytes := (List.range k).map fun i => BitVec.ofNat 8 (48 + n / 10 ^ (k - 1 - i) % 10)

/-- The tamper flags that the VALUE of a class 2 voucher names: scope digit, two index digits, two digits of KINDS (R449). -/
def voucherTampers (value : Nat) : Option (List (Nat × Nat)) :=
  let idx := value / 100 % 100
  let kinds := value % 100
  match value / 10000 with
  | 0 => if idx < 24 && kinds < 4 then some ((bitsOf 2 kinds).map fun k => (k, idx)) else none
  | 1 => if idx < 2 && (kinds == 0 || kinds == 4) then some ((bitsOf 5 kinds).map fun k => (k, idx)) else none
  | 2 => if kinds % 8 = 0 && kinds < 32 then some ((bitsOf 5 kinds).map fun k => (k, k - 3)) else none
  | _ => none

/-- Signed bytes of an identification, for the content of a record. -/
def idContent (id : Bytes) : List Int := id.map fun b => (b.toNat : Int)

/-- One change of an account or of the binding table made by a commit (R445, R452): the state, the records, and the payload of
the command's completion. -/
def State.applyCredit (s : State) (op : CreditOp) : State × List LRec × Bytes :=
  match op with
  | .set a flags ec min =>
    let s := s.setAcct a ({ s.acct a with flags := flags, ecLimit := ec, minStart := min } : Account).settle
    (s, [s.creditRec 0x20 [a, flags, ec, min]], [])
  | .adjust a amount ref =>
    let s := s.credit a amount
    (s, [s.creditRec 0x20 [a, amount, ref]], toLEs 8 (s.acct a).balance)
  | .bind type id a =>
    let b : Binding := { type := type, id := id, account := a }
    ({ s with store := { s.store with binds := s.store.binds.filter (fun x => !(x.type == type && x.id == id)) ++ [b] } },
      [s.creditRec 0x22 ([0, (type : Int), a] ++ idContent id)], [])
  | .unbind type id =>
    ({ s with store := { s.store with binds := s.store.binds.filter fun x => !(x.type == type && x.id == id) } },
      [s.creditRec 0x22 ([1, (type : Int)] ++ idContent id)], [])
  | .voucher cls a value hour route =>
    let s := { s with store := { s.store with hourMax := max s.store.hourMax hour } }
    let s := if cls = 2 then { s with store := { s.store with siteMem := s.store.siteMem.useHour hour } }
      else s.setAcct a ((s.acct a).useHour hour)
    let s := if cls = 0 then s.credit a (100 * value)
      else if cls = 1 then
        let b : Binding := { type := 1, id := asciiDigits 5 value, account := a }
        { s with store := { s.store with
          binds := s.store.binds.filter (fun x => !(x.type == 1 && x.id == asciiDigits 5 value)) ++ [b] } }
      else ((voucherTampers value).getD []).foldl (fun s k => if s.tamperSet k.1 k.2 then s.tamperClear 2 k else s) s
    let s := if route = 0 then { s with bak := { s.bak with kpFails := 0, kpLock := false } } else s
    let recs := (if cls = 0 then [s.creditRec 0x20 [a, 100 * (value : Int)]] else [])
      ++ (if cls = 1 then [s.creditRec 0x22 [0, 1, (a : Int), value]] else [])
      ++ [s.creditRec 0x21 [(cls : Int), a, value, hour, route]]
    let s := s.emit 6 0x0A81 ([0] ++ toLE 1 route ++ toLE 2 a ++ toLE 1 cls ++ zeros 3 ++ toLE 4 hour
      ++ toLE 4 (if cls = 0 then 100 * value else 0))
    (s, recs, [0] ++ toLE 1 cls ++ toLE 2 a ++ toLEs 8 (s.acct a).balance)
  | .emergency a =>
    let x := s.acct a
    let s := s.setAcct a (if 0 < x.balance then x else { x with flags := putBit x.flags 3 true })
    (s, [s.creditRec 0x20 [a, (s.acct a).flags]], [])
  | .limit a ec =>
    let s := s.setAcct a { s.acct a with ecLimit := ec }
    (s, [s.creditRec 0x20 [a, ec]], [])

/-! ### Credit states, grace and friendly hours -/

/-- A friendly window is open at billing time now (R448). -/
def State.inFriendly (s : State) : Bool :=
  let loc := s.localTime s.bill.time
  let minute := loc % dayMs / 60000
  let (y, m, d) := civilDate (loc / dayMs)
  let special := !s.cfg.calActive.isEmpty && (specialDay s.cfg.calActive y m d).isSome
  (List.range 4).any fun w =>
    let a := u16 s.cfg.credit (76 + 8 * w)
    let b := u16 s.cfg.credit (78 + 8 * w)
    let day := bit (u8 s.cfg.credit (80 + 8 * w)) (weekdayOf (loc / dayMs) - 1) || (bit (u8 s.cfg.credit (81 + 8 * w)) 0 && special)
    b != 0xFFFF && day && if a ≤ b then a ≤ minute && minute < b else a ≤ minute || minute < b

/-- CREDIT_STATE (13). -/
def State.evtCredit (s : State) (a old new : Nat) (balance : Int) : State :=
  s.emit 6 0x0A80 (toLE 2 a ++ toLE 1 old ++ toLE 1 new ++ toLEs 8 balance ++ toLE 8 (lookupD s.cr.grace a 0))

/-- The credit state of account `a` at a balance, followed (R441, R447, R448): on EXHAUSTED a grace starts, unless a friendly
window is open and the balance is within its allowance; leaving EXHAUSTED cancels the grace, or lifts the cap. -/
def State.followCredit (s : State) (a : Nat) (balance : Int) : State :=
  let old := lookupD s.cr.seen a 2
  let new := creditCode a (s.acct a) balance
  let busy := outlets.any fun o => (s.o o).ses.num != 0 && (s.o o).ses.account == a
  let s := { s with cr := { s.cr with seen := assocPut s.cr.seen a new } }
  let s :=
    if new = 2 then
      let within := s.cr.friendly && decide (-((s.acct a).ecLimit : Int) - (u32 s.cfg.credit 72 : Int) ≤ balance)
      let has := s.cr.grace.any fun g => g.1 == a
      if busy && !has && !s.cr.ranOut.contains a && !within then
        { s with cr := { s.cr with grace := s.cr.grace ++ [(a, s.bak.rtc + 1000 * u16 s.cfg.credit 64)] } }
      else s
    else { s with cr := { s.cr with
      grace := s.cr.grace.filter fun g => g.1 != a, ranOut := s.cr.ranOut.filter fun x => x != a } }
  if old = new then s else s.evtCredit a old new balance

/-- Every account that has a session or whose state has been followed. -/
def State.followed (s : State) : List Nat :=
  let l := (outlets.filter fun o => (s.o o).ses.num != 0 && (s.o o).ses.account < 1024).map fun o => (s.o o).ses.account
  (s.cr.seen.map fun x => x.1) ++ l.eraseDups.filter fun a => !s.cr.seen.any fun x => x.1 == a

/-- Every followed account at its committed balance (R441). -/
def State.followAll (s : State) : State := s.followed.foldl (fun s a => s.followCredit a (s.acct a).balance) s

/-- The cost that the sessions of account `a` have run up since the last commit, at the register in force (R446). -/
def State.pendingCost (s : State) (a : Nat) : Int :=
  let t := s.bill.tariff - 1
  sumI (outlets.map fun o =>
    let x := (s.o o).ses
    if x.num = 0 || x.account != a then 0
    else
      let imp := units (s.latOf o.val 21) - units x.imp0
      let exp := units (s.latOf o.val 22) - units x.exp0
      let impT := modAt x.impT t fun v => v + (imp - x.impT.foldl (· + ·) 0)
      let expT := modAt x.expT t fun v => v + (exp - x.expT.foldl (· + ·) 0)
      s.sessionCost a impT expT - x.debited)

end Sys2Proof.Machine
end

