-- ==== Sys2Proof/Machine/LineOps.lean ====
section
/-! DEFINITION. The frame queue of the mains modem (14). -/

namespace Sys2Proof.Machine

/-- The state with the mains modem changed. -/
def State.modLine (s : State) (f : Line → Line) : State := { s with line := f s.line }

/-- LINE is on and ENABLE is 1 (R494). -/
def State.lineOn (s : State) : Bool := s.domOn 9 && u8 s.cfg.line 0 == 1

/-- A frame queued, with the next SEQ (R475). -/
def State.lineEnq (s : State) (f : LineTx) : State :=
  s.modLine fun l => { l with queue := l.queue ++ [{ f with seq := l.seq }], seq := wrapInc 8 l.seq }

/-- A DLMS response on its way to a peer: PROTO 1, PRIO 0 (R434, R489). -/
def State.lineDlms (s : State) (peer : Nat) (apdu : Bytes) : State :=
  if s.lineOn then
    s.lineEnq { proto := 1, dst := peer, ackreq := true, protect := u8 s.cfg.line 10 != 0, body := apdu }
  else s

end Sys2Proof.Machine
end

