-- ==== Sys2Proof/Machine/DlmsOps.lean ====
section
/-! DEFINITION. How a DLMS response leaves (12, Transports): over the mains, to a tunnel, or after the commit it waits for. -/

namespace Sys2Proof.Machine

/-- The state with the DLMS server changed. -/
def State.modDl (s : State) (f : Dlms → Dlms) : State := { s with dl := f s.dl }

/-- Two bytes, most significant first (R434). -/
def be2 (n : Nat) : Bytes := (toLE 2 n).reverse

/-- A response with its wrapper header (R434). -/
def wrapped (server client : Nat) (apdu : Bytes) : Bytes := be2 1 ++ be2 server ++ be2 client ++ be2 apdu.length ++ apdu

/-- A tunnelled request ends with some bytes in its region; LEN is 0 when no response is due (R436). -/
def State.tunnelEnd (s : State) (channel : Nat) (b : Bytes) : State :=
  match s.dl.tunnel with
  | some t =>
    if t.channel = channel then
      let b := b.take t.blen
      ((s.modDl fun d => { d with tunnel := none }).bulkPut 5 (t.boff, t.blen) b).finishWith 5 t.tag 0 [] (some (t.boff, b.length))
    else s
  | none => s

/-- An APDU leaves with its wrapper header: over the mains it is queued for the modem, in a tunnel it completes DLMS_TUNNEL (R434, R436). -/
def State.carry (s : State) (client server transport channel : Nat) (apdu : Bytes) : State :=
  let b := wrapped server client apdu
  if transport = 0 then s.lineDlms channel b else s.tunnelEnd channel b

/-- An APDU of an association leaves. A ciphered one advances the server's own counter, whose next block of 4,096 is reserved before the present one runs out (R422). -/
def State.sendApdu (s : State) (client server transport channel : Nat) (apdu : Bytes) : State :=
  let s := if client = 16 then s else
    let s := s.modDl fun d => { d with tx := wrapInc 32 d.tx }
    if s.store.txBlock ≤ s.dl.tx + 1 then { s with store := { s.store with txBlock := s.store.txBlock + 4096 } } else s
  s.carry client server transport channel apdu

/-- The response to a request outside a block transfer: the result and the values of each item. -/
def State.respondAll (s : State) (client server transport channel : Nat) (l : List (Nat × List Int)) : State :=
  (s.modDl fun d => { d with resp := l }).sendApdu client server transport channel (Config.dlmsResponse client l)

/-- The response to a request of one item. -/
def State.respond (s : State) (client server transport channel result : Nat) (vals : List Int) : State :=
  s.respondAll client server transport channel [(result, vals)]

/-- A response that a commit has let go (13 R452, R456). -/
def State.sendReply (s : State) (r : DlReply) : State := s.respondAll r.client r.server r.transport r.channel r.results

/-- The last change queued carries the response `r`, which its commit sends (13 R452); where nothing waits it leaves at once. -/
def State.replyAfter (s : State) (n : Nat) (r : DlReply) : State :=
  if s.cr.ops.length ≤ n then s.sendReply r
  else
    let f (w : CreditWait) : CreditWait := { w with reply := some r }
    { s with cr := { s.cr with ops := modAt s.cr.ops (s.cr.ops.length - 1) f } }

end Sys2Proof.Machine
end

