-- ==== Sys2Proof/Machine/KeyOps.lean ====
section
/-! DEFINITION. The key store as the engines use it (19, Slots and attributes). -/

namespace Sys2Proof.Machine

/-- Slot `n` of the key store. -/
def State.slot (s : State) (n : Nat) : Slot := lookupD s.store.keys n {}

/-- The state with slot `n` replaced. -/
def State.setSlot (s : State) (n : Nat) (x : Slot) : State :=
  { s with store := { s.store with keys := assocPut s.store.keys n x } }

/-- ENGINES of slot `n` has engine `e` (R587). -/
def State.slotHas (s : State) (n e : Nat) : Bool := bit (s.slot n).engines e

/-- Slot `n` is valid. -/
def State.slotValid (s : State) (n : Nat) : Bool := (s.slot n).state == 1

/-- The answer to a request of engine `e` for operation `u` on slot `n`: none where it may run, else its status (R588). -/
def State.slotRefuses (s : State) (n e u : Nat) : Option Nat :=
  let x := s.slot n
  if x.state = 2 then some 0x07
  else if x.state = 1 && bit x.engines e && bit x.uses u then none
  else some 0x04

/-- The KDF of SP 800-108 in CMAC counter mode (19, Engines; R538, R597, R601): block i is the CMAC of [i]32 ‖ LABEL ‖ 0x00 ‖ CONTEXT ‖ [L]32, with L
the length in bits. PRESUMED: both words most significant byte first; log entry 6. -/
def kdf (key label ctx : Bytes) (n : Nat) : Bytes :=
  let be4 (k : Nat) : Bytes := (toLE 4 k).reverse
  ((List.range ((n + 15) / 16)).flatMap fun i =>
    padTo 16 (Config.cmac key (be4 (i + 1) ++ label ++ [0] ++ ctx ++ be4 (8 * n)))).take n

/-- A chain, leaf first, is signed up to the key of a trust anchor (05 R166). -/
def chainSigned (root : Bytes) : List Cert → Bool
  | [] => false
  | [c] => Config.verify root c.tbs c.sig
  | c :: d :: t => Config.verify d.pub c.tbs c.sig && chainSigned root (d :: t)

/-- A certificate chain is valid under a trust anchor of the key store that engine `e` may use for `use` (05 R151, R166; 12 R419): every signature, the
key usage, and the validity periods against civil time, which must have been set. -/
def State.chainValid (s : State) (e use : Nat) (l : List Cert) : Bool :=
  !s.bill.unver
    && (l.all fun c => c.usage && decide (c.notBefore ≤ s.bak.rtc) && decide (s.bak.rtc ≤ c.notAfter))
    && ((List.range 256).any fun n =>
      (s.slotRefuses n e use).isNone && (s.slot n).parent == 0xFF && chainSigned (Config.certKey (s.slot n).mat) l)

/-- The command in flight, its QUEUED completion written (R84). -/
def flown (c : Cmd) (q : Req) (s : State) : State :=
  (s.modPr c.pair fun p => { p with
    inflight := p.inflight ++ [{ tag := q.tag, op := c.op, bulk := q.bulk }] }).complete c.pair c.op q.tag 1 [] none

/-- What follows the meaning of a command that has completed QUEUED: its final status, or nothing yet for status 256. -/
def ended (c : Cmd) (q : Req) (a : Ans) : State :=
  if a.status = 256 then a.st else a.st.release c.pair c.op q.tag a.status a.payload a.bulk

/-- A mailbox command that completes QUEUED and then, in the same step, with its final status (R605 and alike). -/
def mailQ (c : Cmd) (q : Req) (s : State) (fits : Bool) (body : State → Ans) : Out :=
  .next (
    if !s.fwRuns then s
    else match s.screen c q fits with
      | some st => s.complete c.pair c.op q.tag st [] none
      | none => ended c q (body (flown c q s)))

end Sys2Proof.Machine
end

