-- ==== Sys2Proof/Machine/Sequencer.lean ====
section
/-! DEFINITION. Pilot and proximity classification, safety function demands, opening a bus, and the switching sequencer with
its closing guards (04 Hybrid switching; 07 SF3 and the site main contactors). -/

namespace Sys2Proof.Machine

/-! ### Shared -/

/-- An event: the state it leads to where its condition holds, the same state otherwise (log entry 1). -/
def onlyIf (c : Bool) (s : State) (f : State → State) : Out := .next (if c then f s else s)

/-- The lowest pending confirmation reason, 0 for none (R247). -/
def State.confirmReason (s : State) : Nat :=
  if s.store.safeMode = 1 then 1
  else if s.store.safeMode = 2 then 2
  else if bit s.isl.reasons 3 then 3
  else if s.isl.cfgFail then 4
  else if bit s.isl.reasons 5 then 5
  else if bit s.isl.reasons 6 then 6
  else if bit s.isl.reasons 7 then 7
  else 0

/-- A confirmation is pending: every outlet is in the commissioning-safe state (R247, R248). -/
def State.confirmPending (s : State) : Bool := s.confirmReason != 0

/-- Field of input `n` in the safety image in force (R240). -/
def State.sinCfg (s : State) (n off k : Nat) : Nat := fld s.isl.img (416 + 11 * n + off) k

/-- Input `n`. -/
def State.sin (s : State) (n : Nat) : Sin := s.isl.sins.toList.getD n {}

/-- The state with input `n` changed. -/
def State.modSin (s : State) (n : Nat) (f : Sin → Sin) : State :=
  { s with isl := { s.isl with sins := vmapi (fun i x => if i = n then f x else x) s.isl.sins } }

/-- Site main contactor `j`. -/
def State.site (s : State) (j : Nat) : Site := s.isl.sites.toList.getD j {}

/-- The state with site main contactor `j` changed. -/
def State.modSite (s : State) (j : Nat) (f : Site → Site) : State :=
  { s with isl := { s.isl with sites := vmapi (fun i x => if i = j then f x else x) s.isl.sites } }

/-- The outlets of bus `j`. -/
def State.busOutlets (s : State) (j : Nat) : List ONum := outlets.filter fun o => s.bus o == j

/-- The mask of the energised outlets of a list. -/
def State.onMask (s : State) (l : List ONum) : Nat :=
  maskOf ((l.filter s.energised).map fun o => o.val)

/-- A maintenance activity claims O(n) while it runs (20, claims). -/
def MaAct.claims (a : MaAct) (o : Nat) : Bool :=
  a.index == o && (a.act == 1 || a.act == 2 || a.act == 3 || a.act == 5 || (a.act == 4 && a.mode == 0))

/-- The domains that a maintenance activity needs, as its row of the table of activities names them or its work uses them (20; R10, R628 cause 5): the
safety island's test port SAFE, the pilot sampler and the metrology META, the modem LINE, STOR, PANEL. -/
def MaAct.domains (a : MaAct) : List Nat :=
  match a.act with
  | 1 => [2, 3]
  | 2 => [2, 3]
  | 3 => [2]
  | 4 => [3]
  | 5 => [3]
  | 6 => [9]
  | 7 => [7]
  | 8 => [11]
  | _ => []

/-- SF1 or SF4 refuses the closing of the outlet: its demand is active or its fault is uncleared (R222). -/
def State.sfRefuses (s : State) (o : ONum) : Bool :=
  (List.range 8).any fun n =>
    (s.sinCfg n 0 1 == 1 && ((s.sin n).demand || s.latchedQ 120 n))
      || (s.sinCfg n 0 1 == 2 && bit (s.sinCfg n 6 3) o.val && ((s.sin n).demand || s.latchedQ 121 n))

/-- The sequencer refuses every closing of the outlet while this holds: island safe state, commissioning-safe state (R248),
SF1 and SF4 (R222), SITE_FB on its bus (R225), open all (R612), a maintenance claim (R627), PILOT_RAIL (R657). -/
def State.refusesClose (s : State) (o : ONum) : Bool :=
  !s.domOn 2 || s.isl.safeState || s.confirmPending || s.sfRefuses o || s.latchedQ 119 (s.bus o)
    || (s.flt.occ.any fun x => s.opensAll (s.sev x.src))
    || (s.maint.any fun a => a.running && a.claims o.val)
    || s.latched 10

/-! ### Safety function demands -/

/-- SAFE_FUNCTION (07). -/
def State.evtSafe (s : State) (fn src st outs : Nat) : State :=
  s.emit 2 0x0580 (toLE 1 fn ++ toLE 1 src ++ toLE 1 st ++ zeros 1 ++ toLE 4 outs ++ toLE 8 s.bak.rtc)

/-- A demand of SF2, SF3 or SF5 (R737): SAFE_FUNCTION with STATE 0; it ends later. -/
def State.sfDemand (s : State) (fn src outs : Nat) : State :=
  ({ s with isl := { s.isl with sfOpen := (s.isl.sfOpen.filter fun x => x != (fn, src)) ++ [(fn, src)] } }).evtSafe fn src 0 outs

/-- The end of a demand of SF2, SF3 or SF5 (R737). -/
def State.sfEnd (s : State) (fn src : Nat) : State :=
  if s.isl.sfOpen.contains (fn, src) then
    ({ s with isl := { s.isl with sfOpen := s.isl.sfOpen.filter fun x => x != (fn, src) } }).evtSafe fn src 1 0
  else s

/-- Sessions of a list of outlets end with a cause (R125). -/
def State.endSessions (s : State) (cause : Nat) : List ONum → State
  | [] => s
  | o :: t => State.endSessions (if s.hasSession o then s.fwTo o .ending cause else s) cause t

/-- Steps 1 to 3 of R224 start on bus `j`: every outlet of the bus starts its opening, the site main contactor follows 20 ms
later; the other outlets' sessions end with cause 16 where `ends` holds (R125, R235, R259). -/
def State.openBus (s : State) (j : Nat) (ends : Bool) : State :=
  let s := s.openList 16 (s.busOutlets j)
  let s := s.modSite j fun x => { x with opening := true, closing := false, auto := false, watch := false, releaseCause := 16 }
  if ends then s.endSessions 16 (s.busOutlets j) else s

/-- Commands of RP2 complete with a status, in order. -/
def State.finishTags (s : State) (status : Nat) : List Nat → State
  | [] => s
  | t :: ts => State.finishTags (s.finish 2 t status []) status ts

/-- The closings that commands asked for on bus `j` are cut off by its opening: CONFLICT (log entry 69). -/
def State.cutOff (s : State) (j : Nat) : State :=
  let x := s.site j
  (s.modSite j fun x => { x with closeTags := [], resolves := [] }).finishTags 3 (x.closeTags ++ x.resolves.map fun r => r.tag)

/-- WELD on an outlet, and SF3 (R124, R125, R224). -/
def State.weld (s : State) (o : ONum) (phases : Nat) : State :=
  let outs := s.onMask (s.busOutlets (s.bus o))
  let s := (s.raiseFor 38 o phases).outSwitch o 6
  ((s.openBus (s.bus o) true).sfDemand 3 o.val outs).cutOff (s.bus o)

/-! ### Classification -/

/-- The median of 8 samples: the mean of the two in the middle, towards minus infinity (DESIGN CHOICE, log entry 16). -/
def median (l : List Int) : Int :=
  let m := sortBy (fun a b => decide (a ≤ b)) l
  (m.getD ((m.length - 1) / 2) 0 + m.getD (m.length / 2) 0) / 2

/-- The state of a plateau in 10 mV: 0 A to 5 F, 6 undetermined (R106). -/
def pilotClass (mv : Int) : Nat :=
  if 1100 ≤ mv && mv ≤ 1300 then 0
  else if 800 ≤ mv && mv ≤ 1000 then 1
  else if 500 ≤ mv && mv ≤ 700 then 2
  else if 200 ≤ mv && mv ≤ 400 then 3
  else if -100 ≤ mv && mv ≤ 100 then 4
  else if -1300 ≤ mv && mv ≤ -1100 then 5
  else 6

/-- The cable rating of a resistance in ohm: A, 0 no cable, 255 invalid (R112). -/
def cableClass (r : Nat) : Nat :=
  if 4500 < r then 0
  else if 1100 ≤ r && r ≤ 2460 then 13
  else if 400 ≤ r && r ≤ 936 then 20
  else if 164 ≤ r && r ≤ 308 then 32
  else if 80 ≤ r && r ≤ 140 then 63
  else 255

/-- The pilot state asks for energy to stop: A, B, E, F, or D where VENT is 0 (R115). -/
def State.pilotOpens (s : State) (o : ONum) : Bool :=
  let p := s.pilotState o
  p == 0 || p == 1 || p == 4 || p == 5 || (p == 3 && s.oc o 12 != 1)

/-- The accepted proximity classification forbids energy: no cable or invalid, on a socket (R113 to R115). -/
def State.ppOpens (s : State) (o : ONum) : Bool :=
  s.cable o == 0 && ((s.o o).pp.acc == 0 || (s.o o).pp.acc == 255)

/-- The mirror contact reports closed on an outlet whose contactor is past step 2 of R117 and commanded closed. -/
def State.mirrorShut (s : State) (o : ONum) : Bool :=
  let w := (s.o o).sw
  (w.phase == .on || w.phase == .enabling || w.phase == .retryWait) && !w.mirrorOpen

/-- A trigger of R115 holds on the outlet; its cause (R135 codes). -/
def State.trigger115 (s : State) (o : ONum) : Option Nat :=
  if s.pilotOpens o then some 0
  else if s.ppOpens o then some 18
  else if s.hasLock o && !(s.o o).lock.locked then some 12
  else if s.mirrorShut o then some 12
  else none

/-- The opening that a trigger of R115 starts on an energised outlet. -/
def State.actOn115 (s : State) (o : ONum) : State :=
  match s.trigger115 o with
  | some c => if s.energised o then s.startOpening o c else s
  | none => s

/-! ### Closing -/

/-- Pull-in has not more than 3 pairs under way (R655). -/
def State.pullinRoom (s : State) : Bool := decide ((s.isl.pairs.toList.filter fun p => p.pullin).length < 4)

/-- 2 s have passed since the last fall of SSWEN, and 40 ms since the last presence; where neither is known since the start, since the
start (R117, R127). -/
def State.openLong (s : State) (o : ONum) : Bool :=
  let w := (s.o o).sw
  decide (w.sswFall.getD 0 + 2000 ≤ s.up) && w.presence == 0 && decide (w.presAt.getD 0 + 40 ≤ s.up)

/-- The guards of R135 for the move to ENERGISING, the refusals, step 0 of R117, and room in pull-in (R655). -/
def State.mayClose (s : State) (o : ONum) : Bool :=
  let x := s.o o
  let w := x.sw
  (x.ses.st == .ready || x.ses.st == .paused) && s.wantsEnergy o && decide (60 ≤ s.usable o)
    && s.fitted o && (s.outletFaults o).isEmpty
    && !s.refusesClose o && x.prot.latch == 0 && !x.prot.stRun
    && w.phase == .off && !w.sswen && s.openLong o && s.pullinRoom
    && (s.pair o.val).tested && decide (s.up ≤ (s.pair o.val).testedAt + 10)

/-- Step 1 of R117: the pair on with pull-in, the session in ENERGISING. -/
def State.close (s : State) (o : ONum) : State :=
  let s := s.modPairOut o.val fun p => { p with on := true, pullin := true, tested := false, lowRun := 0 }
  let s := s.modSw o fun w => { w with phase := .closing, retried := false, readySeen := false, faultEnd := false, deferred := false }
  let s := (s.outSwitch o 0).setSess o .energising (s.o o).ses.closeCause
  if s.hasLock o && !(s.o o).lock.locked then s.startOpening o 12 else s

/-- Both switches of pair `p` off (R234). -/
def State.pairOff (s : State) (p : Nat) : State :=
  s.modPairOut p fun x => { x with on := false, pullin := false, lowRun := 0 }

/-- Presence covers every phase of the outlet. -/
def State.presentAll (s : State) (o : ONum) : Bool :=
  (s.o o).sw.presence &&& s.phaseMask o == s.phaseMask o

/-- SSWEN driven high; a set apex latch holds it low (R187). -/
def State.sswUp (s : State) (o : ONum) : State :=
  s.modSw o fun w => { w with
    phase := .enabling, sswen := (s.o o).prot.latch == 0, sswfb := false, readySeen := false, sswRise := s.up }

/-- The cause code added to the trip record of the outlet (R205): the first one opens the record. -/
def State.tripAdd (s : State) (o : ONum) (code : Nat) (value : Int) : State :=
  s.modProt o fun p =>
    match p.tripFirst with
    | some _ => { p with tripAll := p.tripAll ||| 2 ^ code }
    | none => { p with
        tripFirst := some code, tripAll := 2 ^ code, tripVal := value, tripTime := s.bak.rtc,
        tripState := (s.o o).ses.st.code, trips := wrapInc 32 p.trips, last := s.bak.rtc, stSince := false
        warnSince := none }

/-- PROT_TRIP once the opening of a trip is complete (06, example of R194). -/
def State.tripReport (s : State) (o : ONum) : State :=
  let p := (s.o o).prot
  match p.tripFirst with
  | none => s
  | some c =>
    (s.modProt o fun p => { p with tripFirst := none, tripAll := 0, tripVal := 0 }).emit 2 0x0480
      (toLE 1 o.val ++ toLE 1 c ++ toLE 2 p.tripAll ++ toLEs 4 p.tripVal ++ toLE 8 p.tripTime ++ toLE 1 p.tripState ++ zeros 3)

/-- A protection trip of an outlet: the record, the opening with its t0, the fault, and SF2 for codes 4, 6, 7 and 8 (R201,
R205, R209). -/
def State.trip (s : State) (o : ONum) (src code : Nat) (value : Int) : State :=
  let outs := s.onMask [o]
  let known := bit (s.o o).prot.tripAll code && (s.o o).prot.tripFirst.isSome
  let s := if (s.o o).prot.tripFirst.isSome then s else s.waveIf 1 o.val
  let s := (s.tripAdd o code value).startOpening o 12
  let s := s.raiseFor src o (ofSigned 32 value)
  let s := if !known && (code == 4 || code == 6 || code == 7 || code == 8) then s.sfDemand 2 o.val outs else s
  if (s.o o).sw.phase == .off then s.tripReport o else s

/-! ### Meanings -/

/-- PILOT_PERIOD (R104, R106 to R109): the medians of the plateaus classify the period; the edges are steered by at most 1 µs. -/
def execPilotPeriod (o : ONum) (pos neg : List Int) (s : State) : Out :=
  onlyIf (s.domOn 3) s fun s =>
    let p := (s.o o).pilot
    let c := pilotClass (median pos)
    let ac := p.mode == .pwm || p.mode == .hlc
    let bad := ac && (s.pilotState o == 1 || s.pilotState o == 2 || s.pilotState o == 3)
      && !(decide (-1300 ≤ median neg) && decide (median neg ≤ -1100))
    s.modPilot o fun p => { p with
      pos := median pos, neg := median neg, edge := p.edge - clampI (-1) 1 p.edge, cand := c, run := if c = p.cand then p.run + 1 else 1,
      undRun := if c = 6 then p.undRun + 1 else 0, diodeRun := if bad then p.diodeRun + 1 else 0 }

/-- PILOT_LEVEL (R108, R115). -/
def execPilotLevel (o : ONum) (s : State) : Out :=
  onlyIf (decide (100 ≤ (s.o o).pilot.undRun) && !s.latchedQ 33 o.val) s fun s =>
    ((s.modPilot o fun p => { p with treatE := true }).actOn115 o).raise 33 o.val (ofSigned 32 (s.o o).pilot.pos)

/-- PILOT_DIODE (R109, R115). -/
def execPilotDiode (o : ONum) (s : State) : Out :=
  onlyIf (decide (3 ≤ (s.o o).pilot.diodeRun) && !s.latchedQ 32 o.val) s fun s =>
    ((s.modPilot o fun p => { p with treatE := true }).actOn115 o).raise 32 o.val (ofSigned 32 (s.o o).pilot.neg)

/-- PP_SAMPLE (R112): not evaluated on a tethered outlet (R114). -/
def execPpSample (o : ONum) (ohm : Nat) (s : State) : Out :=
  onlyIf (s.domOn 3 && s.cable o == 0) s fun s =>
    s.modPp o fun p => { p with cand := cableClass ohm, run := if cableClass ohm = p.cand && p.run ≠ 0 then p.run + 1 else 1 }

/-- MIRROR_CONTACT_CHANGE (R115, R117, R120): a mirror contact that has shown open in a closing and reports closed aborts it; pairs 0 to 23 are the outlets, 24 and 25 the site main contactors. -/
def execMirrorContactChange (p : Nat) (closed : Bool) (s : State) : Out :=
  .next (
    if h : p < 24 then
      let o : ONum := ⟨p, h⟩
      let shut := closed && (s.o o).sw.mirrorOpen && (s.o o).sw.phase == .closing
      let s := s.modSw o fun w => { w with mirrorOpen := !closed, mirrorAt := s.up }
      (if shut then s.startOpening o 12 else s).actOn115 o
    else s.modSite (p - 24) fun x => { x with mirrorOpen := !closed })

/-- CLOSING_START (R117, R135). -/
def execClosingStart (o : ONum) (s : State) : Out := onlyIf (s.fwRuns && s.mayClose o) s fun s => s.close o

/-- CLOSING_CONFIRMED (R117 steps 2 and 3). -/
def execClosingConfirmed (o : ONum) (s : State) : Out :=
  onlyIf ((s.o o).sw.phase == .closing && (s.o o).sw.mirrorOpen && s.presentAll o) s fun s => (s.outSwitch o 1).sswUp o

/-- CLOSING_TIMEOUT (R118): the contactor released at once, KFB_MISMATCH or PCV_MISMATCH latched. -/
def execClosingTimeout (o : ONum) (s : State) : Out :=
  onlyIf ((s.o o).sw.phase == .closing && !((s.o o).sw.mirrorOpen && s.presentAll o)) s fun s =>
    let src := if (s.o o).sw.mirrorOpen then 37 else 36
    let s := ((s.startOpening o 12).modSw o fun w => { w with faultEnd := true })
    s.raise src o.val (s.o o).sw.presence

/-- SSW_READY_CHECK (R119, R204). STEP 2 is reported when SSWFB is (log entry 68). -/
def execSswReadyCheck (o : ONum) (ready : Bool) (s : State) : Out :=
  onlyIf ((s.o o).sw.phase == .enabling) s fun s =>
    let w := (s.o o).sw
    if ready then
      let s := (s.modSw o fun w => { w with sswfb := true, readySeen := true, phase := .on }).outSwitch o 2
      (if w.retried then s.transient 47 o.val 0 else s).actOn115 o
    else if !w.retried then
      s.modSw o fun w => { w with sswen := false, sswFall := some s.up, phase := .retryWait }
    else (((s.tripAdd o 9 0).startOpening o 12).raiseRetried 47 o.val 0).rowOf 47 o

/-- SSW_ENABLE_RETRY (R119). -/
def execSswEnableRetry (o : ONum) (s : State) : Out :=
  onlyIf ((s.o o).sw.phase == .retryWait && !(s.o o).prot.stRun) s fun s =>
    ((s.sswUp o).modSw o fun w => { w with retried := true }).outSwitch o 7

/-- OPENING_START (R121): an energised outlet whose session is not in ENERGISING, or on which a trigger holds, or whose
closing the sequencer would refuse. -/
def execOpeningStart (o : ONum) (cause : Nat) (s : State) : Out :=
  onlyIf (s.energised o && ((s.o o).ses.st != .energising || (s.trigger115 o).isSome || s.refusesClose o)) s fun s =>
    s.startOpening o cause

/-- Step 2 of R121: the contactor released; without the zero-current condition, a load break and SSW_FAIL (R116, R122). -/
def State.releaseContactor (s : State) (o : ONum) : State :=
  let zero := s.zeroCurrent o
  let s := ((s.pairOff o.val).modSw o fun w => { w with
    phase := .released, releasedAt := s.up, windowSeen := false
    loadBreaks := if zero then w.loadBreaks else w.loadBreaks + 1 }).outSwitch o 4
  let s := s.queueSess o
  if zero then s else s.raiseFor 39 o 0

/-- CONTACTOR_RELEASE (R121 step 2, R122). -/
def execContactorRelease (o : ONum) (s : State) : Out :=
  onlyIf ((s.o o).sw.phase == .opening) s fun s => s.releaseContactor o

/-- Presence stands within the weld window of the outlet. -/
def State.inWindow (s : State) (o : ONum) : Bool :=
  let w := (s.o o).sw
  w.phase == .released && decide (w.releasedAt + 50 ≤ s.up) && w.presence != 0

/-- The presence that stands on the outlet shows a weld (R124): within the weld window, or for 40 ms on a contactor that has been open for
more than 50 ms. -/
def State.weldShown (s : State) (o : ONum) : Bool :=
  let w := (s.o o).sw
  w.presence != 0 && !s.coil o && !w.sswen &&
    (s.inWindow o
      || (w.phase == .off && decide (w.releasedAt + 50 < s.up) && decide (w.presFrom.getD s.up + 40 ≤ s.up)))

/-- The presence comparators judged as they stand: what the weld window has seen, and WELD (R123, R124). -/
def State.judgeWeld (s : State) (o : ONum) : State :=
  let s := if s.inWindow o then s.modSw o fun w => { w with windowSeen := true } else s
  if s.weldShown o && !s.latchedQ 38 o.val then s.weld o (s.o o).sw.presence else s

/-- What the presence comparators report (R116, R124): the levels kept with the instants of the last presence, then judged. -/
def State.presenceSeen (s : State) (o : ONum) (phases : Nat) : State :=
  let m := phases &&& s.phaseMask o
  (s.modSw o fun w => { w with
    presence := m, presAt := if m = 0 && w.presence = 0 then w.presAt else some s.up
    presFrom := if m = 0 then none else some (w.presFrom.getD s.up) }).judgeWeld o

/-- The outlets of a list judged at a millisecond (R124). -/
def State.weldTick (s : State) : List ONum → State
  | [] => s
  | o :: t => State.weldTick (if (s.o o).sw.presence = 0 then s else s.judgeWeld o) t

/-- PRESENCE_DETECT (R116, R124). -/
def execPresenceDetect (o : ONum) (phases : Nat) (s : State) : Out := .next (s.presenceSeen o phases)

/-- DEFERRED_OPENING (R126): the zero-current condition holds, or 6 s have passed, on a pending opening. -/
def execDeferredOpening (o : ONum) (s : State) : Out :=
  onlyIf ((s.o o).sw.deferred && s.energised o && (s.zeroCurrent o || decide ((s.o o).sw.deferAt + 6000 ≤ s.up))) s fun s =>
    s.startOpening o 6

end Sys2Proof.Machine
end

