-- ==== Sys2Proof/Machine/Metro.lean ====
section
/-! DEFINITION. The metrology front end (09): gain switching, zero crossings and the line-cycle counter, the correction model,
temperatures, self-calibration, calibration data, and the commands of the chapter. -/

namespace Sys2Proof.Machine

/-! ### Channels -/

/-- Channel `c`; channel 0 where there is no such channel. -/
def State.ch (s : State) (c : Nat) : ChanRun := s.met.chans.toList.getD c {}

/-- The state with channel `c` changed. -/
def State.modCh (s : State) (c : Nat) (f : ChanRun → ChanRun) : State :=
  { s with met := { s.met with chans := vmapi (fun i x => if i = c then f x else x) s.met.chans } }

/-- The state with the metrology front end changed. -/
def State.modMet (s : State) (f : Metro → Metro) : State := { s with met := f s.met }

/-- The gain in use as an index: 0 ×1, 1 ×16; voltage channels have ×1 only (R294). -/
def State.gainOf (s : State) (c : Nat) : Nat := if c < 96 then b2n (s.ch c).hiGain else 0

/-- UNOM in V (R326). -/
def State.unom (s : State) : Nat := u16 s.cfg.metro 0

/-- Smoothed temperature of group `g` in 0.1 °C (R309). -/
def State.temp10 (s : State) (g : Nat) : Int := s.met.temps.getD g 0 / 100

/-- META is on. -/
def State.metaOn (s : State) : Bool := s.domOn 3

/-- R307: the corrected sample of channel `c` from the decimated sample `x`. -/
def State.correct (s : State) (c : Nat) (x : Int) : Int :=
  let g := s.gainOf c
  let r := s.met.active.chan c g
  let t := tableAt r.table (s.temp10 (groupOf c))
  let y := s.ch c
  (x - r.offset - y.afe.getD g 0) * (r.g0 : Int) * (1000000 + t.1 + y.dg.getD g 0) / (2 ^ 30 * 1000000)

/-- The line frequency in mHz; the nominal one while none has been measured (R304). -/
def State.lineFreq (s : State) : Nat := if s.met.freq = 0 then 1000 * u8 s.cfg.metro 2 else s.met.freq

/-- R307: the delay of channel `c` in ns, within ±125 µs; the nominal frequency serves while none has been measured. -/
def State.delayOf (s : State) (c : Nat) : Int :=
  let g := s.gainOf c
  let r := s.met.active.chan c g
  let t := tableAt r.table (s.temp10 (groupOf c))
  let f := s.lineFreq
  if f = 0 then 0
  else clampI (-125000) 125000 ((r.ph0 + t.2 + (s.ch c).dp.getD g 0) * 100000000 / (360 * (f : Int)))

/-- A channel takes a corrected sample `y` through the fractional-delay filter at a delay of `d` ns: the aligned sample, the peak and the
sums of the half-cycle under way, and whether the decimated sample is clipped at ×1 (R299, R302, R307; 04 R116). -/
def ChanRun.take (r : ChanRun) (y d : Int) (clip : Bool) (up : Nat) : ChanRun :=
  let hist := (y :: r.hist).take 16
  let v := if d = 0 then y else Config.delayed d hist
  { r with
    hist := hist, delay := d, last := v, peak := max r.peak y.natAbs, sq := r.sq + v.natAbs ^ 2, sqN := r.sqN + 1
    clipNow := r.clipNow || clip, clipUp := if clip then some up else r.clipUp }

/-- RMS of channel `c` over the last 1 s, µA for a current and mV for a voltage (R333): samples are in units of the ×1 full scale over 2^23
(10 R358), which is 0.5 V × RATIO / BURDEN or 0.5 V × RATIO (R296). -/
def State.rms1s (s : State) (c : Nat) : Nat :=
  let ys := (s.en.wave.take 8000).map fun y => y.getD c 0
  let g := s.met.active.group (groupOf c)
  let n := max 1 ys.length
  if 96 ≤ c then isqrt (sqSum ys * (1000 * g.ratio) ^ 2 / (n * 2 ^ 48))
  else isqrt (sqSum ys * (50000000 * g.ratio) ^ 2 / (n * max 1 g.burden ^ 2 * 2 ^ 46))

/-! ### Gain -/

/-- A clipped sample of channel `c`: the first one since a reset of META or a read of the counter latches METRO_CLIP (R302). -/
def State.clip (s : State) (c : Nat) : State :=
  if (s.ch c).clipArmed then (s.modCh c fun x => { x with clipArmed := false }).raise 68 c 0 else s

/-- A self-calibration visit restarts because a channel of its group switched gain; after 3 restarts it is abandoned (R322). -/
def State.visitRestart (s : State) : State :=
  match s.met.visitG with
  | none => s
  | some g =>
    if s.met.restarts < 3 then s.modMet fun m => { m with restarts := m.restarts + 1 }
    else
      (s.modMet fun m => { m with visitG := none, restarts := 0 }).emit 4 0x0780
        (toLE 1 g ++ [1] ++ toLE 1 ((chansOf g).headD 0) ++ zeros 5 ++ toLE 8 s.bak.rtc)

/-- Channel `c` switches to a gain: gain, scale and calibration set together (R301). -/
def State.switchGain (s : State) (c : Nat) (hi : Bool) : State :=
  let s := s.modCh c fun x => { x with hiGain := hi, pending := none, lowRun := 0, switches := wrapInc 32 x.switches }
  if s.met.visitG == some (groupOf c) then s.visitRestart else s

/-- The ×16 full scale in samples, which are in units of the ×1 full scale over 2^23 (10 R358). -/
def fs16 : Nat := 524288

/-- An instantaneous input above 90 % of the ×16 full scale (R299, third row). -/
def State.overloaded (s : State) (c : Nat) (y : Int) : Bool := (s.ch c).hiGain && decide (90 * fs16 < 100 * y.natAbs)

/-- The immediate switch to ×1 of the third row of R299, which counts as an overload (R300). -/
def State.overload (s : State) (c : Nat) : State :=
  (s.modCh c fun x => { x with overloads := satInc 16 x.overloads }).switchGain c false

/-- A channel at the end of its half-cycle: its RMS stands from now on (04 R116), a clipped half-cycle counts (R302), and the next one
begins. -/
def ChanRun.halfEnd (r : ChanRun) : ChanRun :=
  { r with
    halfSq := r.sq, halfN := r.sqN, sq := 0, sqN := 0, peak := 0, clipNow := false
    clips := if r.clipNow then satInc 16 r.clips else r.clips }

/-- GAIN_DECISION (R299, R302): the end of a half-cycle of channel `c`; its peak decides a change of gain. -/
def execGainDecision (c : Nat) (s : State) : Out :=
  onlyIf (s.metaOn && decide (c < 104)) s fun s =>
    let x := s.ch c
    let s := s.modCh c ChanRun.halfEnd
    if 96 ≤ c then s
    else if x.hiGain then
      if 50 * fs16 < 100 * x.peak then s.modCh c fun x => { x with pending := some false } else s
    else
      let low := if 100 * x.peak < 5 * fs16 then x.lowRun + 1 else 0
      s.modCh c fun x => { x with lowRun := low, pending := if 4 ≤ low then some true else none }

/-- GAIN_SWITCH (R300, R301). -/
def execGainSwitch (c : Nat) (s : State) : Out :=
  onlyIf (s.metaOn && decide (c < 96)) s fun s =>
    match (s.ch c).pending with
    | some hi => s.switchGain c hi
    | none => s

/-! ### Zero crossings -/

/-- The voltage channel of a REFPH code (R304): 1 to 3 bus A, 5 to 7 bus B. -/
def refChan (ref : Nat) : Nat := 95 + ref

/-- Last half-cycle rms of voltage channel `c`, 0.01 V. -/
def State.vrmsOf (s : State) (c : Nat) : Nat := s.en.vrms.getD (c - 96) 0

/-- Frequency in mHz of a period in µs. -/
def freqOf (period : Nat) : Nat := if period = 0 then 0 else 1000000000 / period

/-- The crossing is valid: the rms is at least 5 % of UNOM and the frequency lies within 45 Hz to 66 Hz (R306). -/
def State.zcValid (s : State) (c period : Nat) : Bool :=
  decide (5 * s.unom ≤ s.vrmsOf c) && decide (45000 ≤ freqOf period) && decide (freqOf period ≤ 66000)

/-- METRO_LINE (09). -/
def State.evtLine (s : State) (ev : Nat) : State :=
  s.emit 4 0x0782 (toLE 1 ev ++ toLE 1 s.met.refph ++ zeros 2 ++ toLE 4 s.met.cycles ++ toLE 8 s.bak.rtc)

/-- A rising crossing of the reference phase: the line-cycle counter, the cadence of the periodic latches and the capture of
METRO_RAW (R304, R335, R347); the Base-Note Window counts it too (R700). -/
def State.refCrossing (s : State) : State :=
  let s := s.modMet fun m => { m with
    cycles := wrapInc 32 m.cycles, sinceZc := 0
    raw := m.raw.map fun r => { r with started := true } }
  { s with en := { s.en with sinceN := s.en.sinceN + 1 }, bnw := { s.bnw with crossings := s.bnw.crossings + 1 } }

/-- A valid rising crossing of the reference phase in use (R304, R306). -/
def State.refValid (s : State) (period : Nat) : State :=
  let held := s.met.hold
  let s := s.modMet fun m =>
    let ps := (period :: m.periods).take 10
    { m with periods := ps, freq := freqOf (ps.foldl (· + ·) 0 / ps.length), synth := false, hold := false }
  let s := if held then { s with en := { s.en with sinceN := 0, sinceS := 0 } } else s
  let s := s.refCrossing
  if held then s.evtLine 1 else s

/-- A crossing that the detector synthesises at the last measured period, for up to 1 s (R306). -/
def State.synthCross (s : State) : State :=
  let start := if s.met.synth then s.met.synthAt else s.up
  let s := s.modMet fun m => { m with synth := true, synthAt := start }
  if s.up < start + 1000 then s.refCrossing else s

/-- A crossing of voltage channel `c` with its period in µs (R303 to R306; 10 R338). A rising one of the reference phase that is not valid
stands for the crossing the detector synthesises at the last measured period. -/
def State.zeroCross (s : State) (c period : Nat) : State :=
  let ok := s.zcValid c period
  let s := if 45000 ≤ freqOf period ∧ freqOf period ≤ 66000 then
      s.modMet fun m => { m with vper := m.vper.set (c - 96) period } else s
  let s := if c = (if s.met.refph < 5 then 100 else 96) then
      s.modMet fun m => { m with freqB := if ok then freqOf period else 0 } else s
  match s.met.refNext with
  | some r =>
    if ok && c = refChan r then
      let s := (s.modMet fun m => { m with refph := r, refNext := none, periods := [] }).refValid period
      s.evtLine 4
    else if c = refChan s.met.refph && !s.met.hold then
      if ok then s.refValid period else s.synthCross
    else s
  | none =>
    if c = refChan s.met.refph then
      if ok then s.refValid period
      else if s.met.hold then s
      else s.synthCross
    else s

/-- REFERENCE_LOST (R306): after 1 s of synthesised crossings the counter holds. -/
def execReferenceLost (s : State) : Out :=
  onlyIf (s.metaOn && s.met.synth && !s.met.hold && decide (s.met.synthAt + 1000 ≤ s.up)) s fun s =>
    let s := (s.modMet fun m => { m with synth := false, hold := true }).evtLine 0
    s.raise 69 (refChan s.met.refph) 0

/-! ### Temperatures -/

/-- Natural logarithm of `num` / `den` in units of 10^-15, from the series of the inverse hyperbolic tangent on a mantissa in
[1, 2). -/
def lnQ (num den : Nat) : Int :=
  if num = 0 || den = 0 then 0
  else
    let scale : Nat := 10 ^ 15
    let k : Int := (Nat.log2 num : Int) - (Nat.log2 den : Int)
    let m : Nat := if 0 ≤ k then num * scale / (den * 2 ^ k.toNat) else num * scale * 2 ^ (-k).toNat / den
    let z : Int := ((m : Int) - scale) * scale / ((m : Int) + scale)
    let z2 : Int := z * z / scale
    let term (acc : Int × Int) (n : Nat) : Int × Int := (acc.1 + acc.2 / (2 * (n : Int) + 1), acc.2 * z2 / scale)
    k * 693147180559945 + 2 * ((List.range 20).foldl term (0, z)).1

/-- R310: the temperature in 0.001 °C of an NTC of resistance `r` in Ω; none where no temperature follows. -/
def State.ntcTemp (s : State) (r : Nat) : Option Int :=
  let b := u16 s.cfg.metro 6
  if r = 0 || b = 0 then none
  else
    let inv : Int := 10 ^ 17 / 29815 + lnQ r (10 * u16 s.cfg.metro 4) / (b : Int)
    if inv ≤ 0 then none else some (10 ^ 18 / inv - 273150)

/-- A temperature is within the range of an NTC (R310). -/
def ntcOk (t : Option Int) : Option Int :=
  match t with
  | some x => if -45000 ≤ x && x ≤ 130000 then some x else none
  | none => none

/-- METRO_TEMP (09). -/
def State.evtTemp (s : State) (k st : Nat) : State :=
  s.emit 4 0x0783 (toLE 1 k ++ toLE 1 st ++ zeros 2 ++ toLE 8 s.bak.rtc)

/-- The groups that the active set assigns to NTC `k`. -/
def State.ntcGroups (s : State) (k : Nat) : List Nat := (List.range 26).filter fun g => (s.met.active.group g).tsrc == k

/-- The filters of some groups restarted from a reading (R310). -/
def State.setTemps (s : State) (gs : List Nat) (t : Int) : State :=
  s.modMet fun m => { m with temps := m.temps.mapIdx fun g x => if gs.contains g then t else x }

/-- The state with NTC `k` replaced. -/
def State.setNtc (s : State) (k : Nat) (x : Ntc) : State := s.modMet fun m => { m with ntcs := m.ntcs.set k x }

/-- NTC `k` read (R310). -/
def State.readNtc (s : State) (k r : Nat) (die : Int) : State :=
  let n := s.met.ntcs.getD k {}
  match ntcOk (s.ntcTemp r) with
  | some t => s.setNtc k { n with bad := 0, good := if n.fallback then n.good + 1 else 0, reading := t }
  | none =>
    let bad := n.bad + 1
    if n.fallback then s.setNtc k { n with good := 0 }
    else if bad < 5 then s.setNtc k { n with bad := bad }
    else
      let s := (s.setNtc k { n with bad := bad, good := 0, fallback := true }).setTemps (s.ntcGroups k) die
      (s.raise 66 k 0).evtTemp k 0

/-- TEMP_UPDATE (R308, R309): the resistances of NTC0 to NTC3 in Ω and the die temperature in 0.1 °C. -/
def execTempUpdate (ntc : List Nat) (die10 : Int) (s : State) : Out :=
  onlyIf s.metaOn s fun s =>
    let die := die10 * 100
    let s := (List.range 4).foldl (fun s k => s.readNtc k (ntc.getD k 0) die) s
    let src (g : Nat) : Int :=
      let n := s.met.ntcs.getD (s.met.active.group g).tsrc { fallback := true }
      if n.fallback then die else n.reading
    s.modMet fun m => { m with temps := m.temps.mapIdx fun g t => t + (src g - t) / 60 }

/-- NTC_RESTORE (R310): after 60 s of valid readings the groups return to the NTC. -/
def execNtcRestore (k : Nat) (s : State) : Out :=
  let n := s.met.ntcs.getD k {}
  onlyIf (s.metaOn && n.fallback && decide (60 ≤ n.good) && decide (k < 4)) s fun s =>
    ((s.setNtc k { n with fallback := false, bad := 0, good := 0 }).setTemps (s.ntcGroups k) n.reading).evtTemp k 1

/-! ### Offsets and self-calibration -/

/-- The offset of channel `c` at gain `g` measured, with a repeat where the first exceeds ±2^18 (R316). -/
def State.measureOffset (s : State) (c g : Nat) (first second : Int) : State :=
  let ok (x : Int) : Bool := -262144 ≤ x && x ≤ 262144
  let put (s : State) (v : Int) : State := s.modCh c fun x => { x with afe := x.afe.set g v }
  if ok first then put s first
  else if ok second then (put s second).transient 64 c 0
  else (put s 0).raiseRetried 64 c 0

/-- OFFSET_REMEASURE (R316): `offs` holds the offsets of channels L1, L2, L3 and N at ×1 and ×16, then those of the repeats. -/
def execOffsetRemeasure (o : ONum) (offs : List Int) (s : State) : Out :=
  let low := match (s.o o).sw.sswFall with
    | some t => decide (t + 2000 ≤ s.up)
    | none => decide (2000 ≤ s.up)
  onlyIf (s.metaOn && !s.energised o && low) s fun s =>
    (List.range 8).foldl (fun s i =>
      s.measureOffset (4 * o.val + i / 2) (i % 2) (offs.getD i 0) (offs.getD (8 + i) 0)) s

/-- MA_METROCAL in reference mode runs on group `g`. -/
def State.refCal (s : State) (g : Nat) : Bool :=
  s.maint.any fun a => a.running && a.act == 4 && a.mode == 0 && a.index == g

/-- MA_METROCAL in reference mode runs on some group. -/
def State.anyRefCal (s : State) : Bool := s.maint.any fun a => a.running && a.act == 4 && a.mode == 0

/-- SELFCAL_VISIT (R320, R322): the visit of the next group starts; a group that MA_METROCAL holds is passed over. -/
def execSelfcalVisit (s : State) : Out :=
  onlyIf (s.metaOn && s.fwRuns && u8 s.cfg.metro 8 == 1 && s.met.visitG.isNone) s fun s =>
    let g := s.met.visitNext
    s.modMet fun m => { m with
      visitNext := (g + 1) % 26, restarts := 0
      visitG := if s.refCal g then none else some g
      chans := vmap (fun x => ({ x with repeated := false } : ChanRun)) m.chans }

/-- What a visit finds for one channel (R320, R323): the new terms; or none where they would leave their limits. -/
def visitTerms (x : ChanRun) (g : Nat) (dg dp : Int) : Option (Int × Int) :=
  let ndg := x.dg.getD g 0 + clampI (-100) 100 (dg - x.dg.getD g 0)
  let ndp := x.dp.getD g 0 + clampI (-10) 10 (dp - x.dp.getD g 0)
  if -2000 ≤ ndg && ndg ≤ 2000 && -200 ≤ ndp && ndp ≤ 200 then some (ndg, ndp) else none

/-- DG in ppm and DP in 0.0001° that a visit gives against the baseline (R320): the response, from which the correlator has removed the
fused die-temperature coefficient, and the delay in ns. -/
def State.drift (s : State) (base : Int × Int) (resp delay : Int) : Int × Int :=
  (if base.1 = 0 then 0 else Int.tdiv ((resp - base.1) * 1000000) base.1,
    Int.tdiv ((delay - base.2) * 360 * (s.lineFreq : Int)) 100000000)

/-- The terms of channel `c` at the gain in use after a visit; none where they would leave their limits, and no change at a first visit
(R320, R323). -/
def State.visitFind (s : State) (c : Nat) (resp delay : Int) : Option (Int × Int) :=
  let g := s.gainOf c
  let x := s.ch c
  match x.base.getD g none with
  | some b => visitTerms x g (s.drift b resp delay).1 (s.drift b resp delay).2
  | none => some (x.dg.getD g 0, x.dp.getD g 0)

/-- One channel at the end of a visit: its terms, its baseline or its hold (R320, R323). -/
def State.visitChan (s : State) (c : Nat) (resp delay : Int) : State :=
  let g := s.gainOf c
  let x := s.ch c
  let stamp (y : ChanRun) : ChanRun := { y with visit := y.visit.set g s.bak.rtc, repeated := false }
  if x.heldT then s
  else if (x.base.getD g none).isNone then s.modCh c fun y => stamp { y with base := y.base.set g (some (resp, delay)) }
  else match s.visitFind c resp delay with
    | some (ndg, ndp) =>
      let s := s.modCh c fun y => stamp { y with dg := y.dg.set g ndg, dp := y.dp.set g ndp }
      if x.repeated then s.transient 65 c 0 else s
    | none =>
      if !x.repeated then s
      else (s.modCh c fun y => stamp { y with heldT := true }).raiseRetried 65 c 0

/-- METRO_SELFCAL (09). -/
def State.evtSelfcal (s : State) (g result c : Nat) : State :=
  let k := s.gainOf c
  s.emit 4 0x0780 (toLE 1 g ++ toLE 1 result ++ toLE 1 c ++ zeros 1 ++ toLEs 2 ((s.ch c).dg.getD k 0)
    ++ toLEs 2 ((s.ch c).dp.getD k 0) ++ toLE 8 s.bak.rtc)

/-- The end of a self-calibration visit (R320 to R323). -/
def State.visitEnded (s : State) (resp delay : List Int) : State :=
  match s.met.visitG with
  | none => s
  | some g =>
    let cs := chansOf g
    let again := cs.zipIdx.filter fun e =>
      let x := s.ch e.1
      !x.heldT && !x.repeated && (s.visitFind e.1 (resp.getD e.2 0) (delay.getD e.2 0)).isNone
    if !again.isEmpty then
      let mark (i : Nat) (x : ChanRun) : ChanRun := if again.any fun e => e.1 == i then { x with repeated := true } else x
      s.modMet fun m => { m with chans := vmapi mark m.chans }
    else
      let was := cs.filter fun c => (s.ch c).heldT
      let s := cs.zipIdx.foldl (fun s e => s.visitChan e.1 (resp.getD e.2 0) (delay.getD e.2 0)) s
      let held := cs.filter fun c => (s.ch c).heldT && !was.contains c
      let s := s.modMet fun m => { m with visitG := none, restarts := 0 }
      match held with
      | c :: _ => s.evtSelfcal g 2 c
      | [] => s.evtSelfcal g 0 (cs.headD 0)

/-- SELFCAL_VISIT_END (R320 to R323): the response and the delay in ns that the correlation over 20 s gives for each of the four channels of
the group. -/
def execSelfcalVisitEnd (resp delay : List Int) (s : State) : Out :=
  onlyIf (s.metaOn && s.fwRuns) s fun s => s.visitEnded resp delay

/-- A self-calibration visit is abandoned with its terms unchanged (R322). -/
def State.abandonVisit (s : State) : State :=
  match s.met.visitG with
  | none => s
  | some g => (s.modMet fun m => { m with visitG := none, restarts := 0 }).emit 4 0x0780
      (toLE 1 g ++ [1] ++ toLE 1 ((chansOf g).headD 0) ++ zeros 5 ++ toLE 8 s.bak.rtc)

/-! ### Calibration data -/

/-- CAL_COMMIT_DONE (R313, R317, R331). -/
def execCalCommitDone (ok : Bool) (s : State) : Out :=
  match s.met.commit with
  | none => .next s
  | some tag =>
    .next (
      let s := s.modMet fun m => { m with commit := none }
      if ok then
        let gen := wrapInc 32 s.met.gen
        let copy : CalCopy := { set := s.met.working, gen := gen, valid := true }
        let s := { s with store := { s.store with calP := copy, calS := copy } }
        let s := (s.modMet fun m => { m with next := some m.working }).effect 4 tag 0x070A
        s.finish 4 tag 0 (toLE 4 gen)
      else s.finish 4 tag 9 [])

/-- A command that writes the working set: BUSY while a commit is in progress (R314). -/
def State.writeCal (s : State) (f : CalSet → CalSet) : Ans :=
  if s.met.commit.isSome then s.no 2
  else (s.modMet fun m => { m with working := f m.working, digested := false }).ok

/-- METRO_CONFIG_SET fields in range (R326). -/
def metroCfgOk (p : Bytes) : Bool :=
  100 ≤ u16 p 0 && u16 p 0 ≤ 300 && (u8 p 2 == 50 || u8 p 2 == 60)
    && ((1 ≤ u8 p 3 && u8 p 3 ≤ 3) || (5 ≤ u8 p 3 && u8 p 3 ≤ 7))
    && 100 ≤ u16 p 4 && u16 p 4 ≤ 10000 && 2000 ≤ u16 p 6 && u16 p 6 ≤ 5000 && u8 p 8 ≤ 1

/-- METRO_CONFIG_SET (R305, R326). -/
def execMetroConfigSet (q : Req) (s : State) : Out :=
  let p := q.payload
  mail { op := 0x0701, pair := 4, lo := 16, hi := 16 } q s (metroCfgOk p) fun s =>
    let s := { s with cfg := { s.cfg with metro := p.take 9 ++ zeros 7 } }
    let s := s.modMet fun m => { m with refNext := if u8 p 3 = m.refph then none else some (u8 p 3) }
    let s := if u8 p 8 = 0 then s.abandonVisit else s
    (s.effect 4 q.tag 0x0701).ok

/-- METRO_CONFIG_GET (R326). -/
def execMetroConfigGet (q : Req) (s : State) : Out :=
  mail { op := 0x0702, pair := 4 } q s true fun s => s.ok s.cfg.metro

/-- METRO_SCALE_SET fields in range (R296, R327): an outlet's IFS lies within 60 A to 120 A. -/
def scaleOk (p : Bytes) : Bool :=
  let g := u8 p 0
  let r := u16 p 2
  let b := u16 p 4
  decide (g ≤ 25) && decide (u8 p 1 ≤ 4)
    && if g < 24 then 500 ≤ r && r ≤ 5000 && 100 ≤ b && b ≤ 5000 && 60 * b ≤ 50 * r && 50 * r ≤ 120 * b
      else 500 ≤ r && r ≤ 2000

/-- METRO_SCALE_SET (R327). -/
def execMetroScaleSet (q : Req) (s : State) : Out :=
  let p := q.payload
  mail { op := 0x0703, pair := 4, lo := 8, hi := 8 } q s (scaleOk p) fun s =>
    s.writeCal fun c => { c with
      groups := c.groups.set (u8 p 0) { tsrc := u8 p 1, ratio := u16 p 2, burden := if u8 p 0 < 24 then u16 p 4 else 0 } }

/-- The active or the working set (R327 to R329). -/
def State.calSet (s : State) (which : Nat) : CalSet := if which = 0 then s.met.active else s.met.working

/-- METRO_SCALE_GET (R327). -/
def execMetroScaleGet (q : Req) (s : State) : Out :=
  let p := q.payload
  mail { op := 0x0704, pair := 4, lo := 2, hi := 2 } q s (u8 p 0 ≤ 25 && u8 p 1 ≤ 1) fun s =>
    s.ok (groupBytes (s.calSet (u8 p 1)) (u8 p 0))

/-- CH and GAIN name a record: no ×16 on a voltage channel. -/
def chOk (p : Bytes) : Bool := u8 p 0 ≤ 103 && u8 p 1 ≤ 1 && (u8 p 0 < 96 || u8 p 1 == 0)

/-- METRO_CAL_WRITE fields in range (R307, R328). -/
def calWriteOk (p : Bytes) : Bool :=
  chOk p && 0x20000000 ≤ u32 p 4 && u32 p 4 ≤ 0x60000000 && -1048576 ≤ sfld p 8 4 && sfld p 8 4 ≤ 1048576
    && -20000 ≤ sfld p 12 2 && sfld p 12 2 ≤ 20000

/-- METRO_CAL_WRITE (R328). -/
def execMetroCalWrite (q : Req) (s : State) : Out :=
  let p := q.payload
  mail { op := 0x0705, pair := 4, lo := 16, hi := 16 } q s (calWriteOk p) fun s =>
    s.writeCal fun c => c.setChan (u8 p 0) (u8 p 1) { c.chan (u8 p 0) (u8 p 1) with
      g0 := u32 p 4, offset := sfld p 8 4, ph0 := sfld p 12 2 }

/-- METRO_CAL_READ (R328). -/
def execMetroCalRead (q : Req) (s : State) : Out :=
  let p := q.payload
  let c := u8 p 0
  let g := u8 p 1
  mail { op := 0x0706, pair := 4, lo := 3, hi := 3 } q s (chOk p && u8 p 2 ≤ 1) fun s =>
    let x := s.ch c
    s.ok (chanBytes (s.calSet (u8 p 2)) c g ++ toLEs 2 (x.dg.getD g 0) ++ toLEs 2 (x.dp.getD g 0)
      ++ toLE 8 (x.visit.getD g 0))

/-- A temperature table within the limits of R307. -/
def tableOk (t : Bytes) : Bool :=
  (List.range 32).all fun i => -20000 ≤ sfld t (2 * i) 2 && sfld t (2 * i) 2 ≤ 20000

/-- METRO_TABLE_WRITE (R329). -/
def execMetroTableWrite (q : Req) (s : State) : Out :=
  let p := q.payload
  let r := q.bulk.getD (0, 0)
  mail { op := 0x0707, pair := 4, lo := 2, hi := 2, bulk := 1 } q s
    (chOk p) fun s => s.sized r 64 <|
    let t := s.bulkGet 4 (r.1, 64)
    if !tableOk t then s.no 5
    else s.writeCal fun c => c.setChan (u8 p 0) (u8 p 1) { c.chan (u8 p 0) (u8 p 1) with table := t }

/-- METRO_TABLE_READ (R329). -/
def execMetroTableRead (q : Req) (s : State) : Out :=
  let p := q.payload
  let r := q.bulk.getD (0, 0)
  mail { op := 0x0708, pair := 4, lo := 3, hi := 3, bulk := 1 } q s (chOk p && u8 p 2 ≤ 1) fun s => s.sized r 64
    { st := s.bulkPut 4 r ((s.calSet (u8 p 2)).chan (u8 p 0) (u8 p 1)).table, bulk := some r }

/-- METRO_CAL_DIGEST (R330). -/
def execMetroCalDigest (q : Req) (s : State) : Out :=
  mail { op := 0x0709, pair := 4 } q s true fun s =>
    (s.modMet fun m => { m with digested := true }).ok
      (toLE 4 s.met.gen ++ toLE 4 (s.met.gen + 1) ++ padTo 32 s.met.working.digest)

/-- The 44 bytes that the MAC of a commit covers (R312). -/
def State.calMacInput (s : State) : Bytes :=
  toLE 8 Config.uid.toNat ++ toLE 4 (s.met.gen + 1) ++ padTo 32 s.met.working.digest

/-- METRO_CAL_COMMIT (R312 to R314, R331): QUEUED, and then its final status at CAL_COMMIT_DONE. -/
def execMetroCalCommit (q : Req) (s : State) : Out :=
  let p := q.payload
  mail { op := 0x070A, pair := 4, lo := 12, hi := 12 } q s true fun s =>
    match s.slotRefuses (u8 p 0) 3 3 with
    | some st => s.no st
    | none =>
    if (p.drop 4).take 8 ≠ (padTo 16 (Config.cmac (s.slot (u8 p 0)).mat s.calMacInput)).take 8 then s.no 4
    else if s.met.commit.isSome then s.no 2
    else if s.anyRefCal then s.no 3
    else if !s.met.digested then s.no 0x0B
    else (s.modMet fun m => { m with commit := some q.tag }).queued

/-- METRO_CAL_REVERT (R332). -/
def execMetroCalRevert (q : Req) (s : State) : Out :=
  mail { op := 0x070B, pair := 4 } q s true fun s => s.writeCal fun _ => s.met.active

/-- METRO_CH_STATUS (R302, R333): the read clears CLIPS, and the next clip latches METRO_CLIP. -/
def execMetroChStatus (q : Req) (s : State) : Out :=
  let c := u8 q.payload 0
  mail { op := 0x070C, pair := 4, lo := 1, hi := 1 } q s (c ≤ 103) fun s =>
    let x := s.ch c
    let src := (s.met.active.group (groupOf c)).tsrc
    let clipped := match x.clipUp with
      | some t => decide (s.up < t + 1000)
      | none => false
    let flags := b2n clipped + 2 * b2n (s.met.ntcs.getD src {}).fallback + 4 * b2n x.heldT + 8 * b2n s.met.uncal
    (s.modCh c fun x => { x with clips := 0, clipArmed := true }).ok
      (toLE 1 c ++ toLE 1 (s.gainOf c) ++ toLE 1 flags ++ zeros 1 ++ toLE 4 (s.rms1s c) ++ toLEs 2 (s.temp10 (groupOf c)) ++ zeros 2
        ++ toLE 4 x.switches ++ toLE 2 x.overloads ++ toLE 2 x.clips)

/-- METRO_LINE_GET (R334). -/
def execMetroLineGet (q : Req) (s : State) : Out :=
  mail { op := 0x070D, pair := 4 } q s true fun s =>
    s.ok (toLE 1 s.met.refph ++ toLE 1 (b2n s.met.synth + 2 * b2n s.met.hold) ++ zeros 2 ++ toLE 4 s.met.freq
      ++ toLE 4 s.met.cycles ++ toLE 4 s.met.freqB)

/-- METRO_RAW (R335): it completes once its samples are captured. -/
def execMetroRaw (q : Req) (s : State) : Out :=
  let p := q.payload
  let r := q.bulk.getD (0, 0)
  mail { op := 0x070E, pair := 4, lo := 3, hi := 3, bulk := 1 } q s
    (u8 p 0 ≤ 103 && 1 ≤ u16 p 1 && u16 p 1 ≤ 1024) fun s => s.sized r (4 * u16 p 1) <|
    (s.modMet fun m => { m with raw := some {
      tag := q.tag, ch := u8 p 0, left := u16 p 1, off := r.1, boff := r.1, blen := r.2 } }).wait

end Sys2Proof.Machine
end

