-- ==== Sys2Proof/Machine/Energy.lean ====
section
/-! DEFINITION. Energy accumulation, latches, power quality, waveform captures and tamper detection (10). -/

namespace Sys2Proof.Machine

/-! ### Accumulation -/

/-- Samples in the cycle window of voltage channel `c`: the last measured period of its voltage, the nominal one before (R338). -/
def State.window (s : State) (c : Nat) : Nat :=
  let p := s.met.vper.getD (c - 96) 0
  if p = 0 then 8000 / max 1 (u8 s.cfg.metro 2) else (p + 62) / 125

/-- The voltage of phase `k` of a bus at one sample (R295); during a missing neutral the reconstructed one of R365. -/
def State.phaseV (s : State) (bus k : Nat) (y : List Int) : Int :=
  let b := 96 + 4 * bus
  if s.en.neutral.getD bus false then y.getD (b + k) 0 - (y.getD b 0 + y.getD (b + 1) 0 + y.getD (b + 2) 0) / 3
  else y.getD (b + k) 0 - y.getD (b + 3) 0

/-- The mean of the products of two runs of samples over a window of `w`, each with the scale `num` / `den`. -/
def meanProd (v i : List Int) (num den w : Nat) : Int :=
  Int.tdiv (sumI (List.zipWith (fun a b => a * b) v i) * (num : Int)) ((den * max 1 w : Nat) : Int)

/-- RMS of some samples over a window of `w` at the scale `num` / `den`. -/
def rmsOf (l : List Int) (num den w : Nat) : Nat := isqrt (sqSum l * num ^ 2 / (den ^ 2 * max 1 w))

/-- What the DSP forms of one metered phase at a sample (R338): P_k in mW, Q_k in mvar, S_k in mVA, I rms in mA. -/
structure PhaseMeas where
  p : Int
  q : Int
  sa : Int
  i : Nat

/-- The quantities of a phase of outlet `o` from phase `k` of its bus and the samples `cur` of its current (R338). Samples are in units of
the full scale over 2^23; v′ is v a quarter of the period earlier. -/
def State.phaseMeas (s : State) (o : ONum) (k : Nat) (cur : List Int → Int) : PhaseMeas :=
  let w := s.window (96 + 4 * s.bus o + k)
  let v := (s.en.wave.take (w + w / 4)).map (s.phaseV (s.bus o) k)
  let i := (s.en.wave.take w).map cur
  let g := s.met.active.group o.val
  let num := (s.met.active.group (24 + s.bus o)).ratio * (50000 * g.ratio)
  let den := max 1 g.burden * 2 ^ 47
  { p := meanProd (v.take w) i num den w
    q := meanProd (v.drop (w / 4)) i num den w
    sa := ((isqrt (sqSum (v.take w) * sqSum i) * num / (den * max 1 w) : Nat) : Int)
    i := rmsOf i (50000 * g.ratio) (max 1 g.burden * 2 ^ 23) w }

/-- The phase of its bus that current channel `k` of outlet `o` meets (R337). -/
def State.wired (s : State) (o : ONum) (k : Nat) : Nat := if s.phases o = 1 then s.lphase o - 1 else k

/-- The measurements of outlet `o` at a sample: 0 to 2 are P_k of L1 to L3 in mW, 3 to 5 Q_k in mvar, 6 to 8 S_k in mVA, 9 to 11 I rms in
mA, 12 the N current's rms, 13 to 15 P_k, Q_k and S_k formed with -i_N, 16 the rms of the instantaneous current sum (R338, R362, R363). -/
def State.outletMeas (s : State) (o : ONum) : List Int :=
  let c := 4 * o.val
  let m := (List.range 3).map fun k => s.phaseMeas o (s.wired o k) fun y => y.getD (c + k) 0
  let n := s.phaseMeas o (s.wired o 0) fun y => -(y.getD (c + 3) 0)
  let ks := if s.phases o = 1 then [0, 3] else [0, 1, 2, 3]
  let all := s.phaseMeas o (s.wired o 0) fun y => sumI (ks.map fun k => y.getD (c + k) 0)
  m.map (·.p) ++ m.map (·.q) ++ m.map (·.sa) ++ m.map (fun x => (x.i : Int)) ++ [(n.i : Int), n.p, n.q, n.sa, (all.i : Int)]

/-- What one sample of a magnitude adds at the sample period `ns`, in 2^-16 of a unit (R340, R342): mW × ns × 65536 over
3.6 × 10^9. The part below 2^-16 of a unit is dropped (log entry 21). -/
def sampleInc (v : Int) (ns : Nat) : Nat := v.natAbs * ns * 256 / 14062500

/-- Seven accumulators +A, −A, Q1 to Q4, S after one sample of `p`, `q` and `sa`; `th` is the start threshold in mW (R339 to
R341). `sOn` says that the apparent power counts. -/
def accumulate (a : List Nat) (p q sa : Int) (th ns : Nat) (sOn : Bool) : List Nat :=
  let quad := if 0 ≤ q then (if 0 ≤ p then 2 else 3) else (if p < 0 then 4 else 5)
  let put (l : List Nat) (k : Nat) (v : Int) : List Nat := modAt l k fun x => x + sampleInc v ns
  let a := if p.natAbs < th then a else put a (if 0 < p then 0 else 1) p
  let a := if q.natAbs < th then a else put a quad q
  if sOn then put a 6 sa else a

/-- The phases of outlet `o` that are metered (R337). -/
def State.metered (s : State) (o : ONum) : List Nat := if s.phases o = 1 then [0] else [0, 1, 2]

/-- Energy of bypass fallback: a single-phase outlet in bypass whose N current exceeds its L1 current (R363). -/
def State.fallbackN (s : State) (o : ONum) (m : List Int) : Bool :=
  s.phases o == 1 && (s.en.inst.get o).bypass && decide (m.getD 9 0 < m.getD 12 0)

/-- The session of outlet `o` is bidirectional (05 R172). -/
def State.bidirNow (s : State) (o : ONum) : Bool := (s.o o).hlc.bidir && (s.o o).ses.num != 0

/-- The runs of samples that the tamper detectors of an outlet count (R361, R362): `thr` is BYP_THR in mA, `rev` that P_out lies below
−REV_P outside a bidirectional session. -/
def Inst.tamperRuns (x : Inst) (thr : Nat) (rev : Bool) : Inst :=
  { x with
    bypRun := if thr < x.sum then x.bypRun + 1 else 0
    bypOff := if x.sum < thr then x.bypOff + 1 else 0
    revRun := if rev then x.revRun + 1 else 0 }

/-- Outlet `o` after one sample (R338 to R344). -/
def State.sampleOutlet (s : State) (o : ONum) (m : List Int) (ns : Nat) : List Nat × Inst :=
  let th := 20 * s.unom
  let fb := s.fallbackN o m
  let val (base alt k : Nat) : Int := if fb && k == 0 then m.getD alt 0 else m.getD (base + k) 0
  let cur (k : Nat) : Nat := (if fb && k == 0 then m.getD 12 0 else m.getD (9 + k) 0).toNat
  let ks := s.metered o
  let acc := s.en.acc.get o
  let phase (l : List Nat) (k : Nat) : List Nat :=
    l.take (7 * k) ++ accumulate ((l.drop (7 * k)).take 7) (val 0 13 k) (val 3 14 k) (val 6 15 k) th ns (20 ≤ cur k)
      ++ l.drop (7 * k + 7)
  let acc := ks.foldl phase acc
  let p := sumI (ks.map (val 0 13))
  let q := sumI (ks.map (val 3 14))
  let sa := sumI ((ks.filter fun k => 20 ≤ cur k).map (val 6 15))
  let acc := acc.take 21 ++ accumulate ((acc.drop 21).take 7) p q sa th ns true
  let x := s.en.inst.get o
  let opp := if x.expo then decide ((th : Int) ≤ p) else decide (p ≤ -(th : Int))
  let three (f : Nat → Int) : List Int := (List.range 3).map fun k => if ks.contains k then f k else 0
  let x := { x with
    p := three (val 0 13), q := three (val 3 14), sa := (three (val 6 15)).map Int.toNat
    i := (List.range 3).map cur, n := (m.getD 12 0).toNat
    dirRun := if opp then x.dirRun + 1 else 0
    dirFirst := if opp && x.dirRun == 0 then s.en.sample else x.dirFirst
    dirTime := if opp && x.dirRun == 0 then s.bak.rtc else x.dirTime
    dirSeq := if opp && x.dirRun == 0 then s.en.latch.seq else x.dirSeq
    fb := fb, sum := (m.getD 16 0).toNat }
  (acc, x.tamperRuns (100 * s.ec 9) (decide (p < -(1000 * u16 s.cfg.energy 6 : Int)) && !s.bidirNow o))

/-- P_out of outlet `o` in mW (R338). -/
def State.pOut (s : State) (o : ONum) : Int := sumI (s.en.inst.get o).p

/-- Reversed current ends where P_out is no longer below −REV_P (R361). -/
def State.endReverse (s : State) : List ONum → State
  | [] => s
  | o :: t =>
    let x := s.en.inst.get o
    State.endReverse (
      if x.reverse && decide (-(1000 * u16 s.cfg.energy 6 : Int) ≤ s.pOut o) then
        (s.modEn fun e => { e with inst := e.inst.set o.val { x with reverse := false } o.isLt }).evtTamper 0 1 o.val 0
          (Int.tdiv (s.pOut o) 1000)
      else s) t

/-- METRO_RAW takes one corrected sample (R335). -/
def State.rawSample (s : State) (y : List Int) : State :=
  match s.met.raw with
  | none => s
  | some r =>
    if !r.started then s
    else
      let s := s.bulkPut 4 (r.off, 4) (toLEs 4 (asSigned 24 (ofSigned 24 (y.getD r.ch 0))))
      if r.left ≤ 1 then
        (s.modMet fun m => { m with raw := none }).finishWith 4 r.tag 0 [] (some (r.boff, r.blen))
      else s.modMet fun m => { m with raw := some { r with left := r.left - 1, off := r.off + 4 } }

/-- A boundary is armed and its sample has come (R349). -/
def State.boundaryDue (s : State) : Bool :=
  match s.en.armed with
  | some k => decide (k ≤ s.en.sample)
  | none => false

/-- A periodic latch is due: every N-th rising crossing, or every N × 8,000 / FNOM samples while the counter holds (R347). -/
def State.periodicDue (s : State) : Bool :=
  if s.met.hold then decide (s.en.latchN * 8000 / max 1 (u8 s.cfg.metro 2) ≤ s.en.sinceS)
  else decide (s.en.latchN ≤ s.en.sinceN)

/-- A latch at this sample, for every cause that falls on it (R347 to R350): a boundary disarms, and LATE is latched as
BOUNDARY_LATE (11 R405). -/
def State.latchAt (s : State) (kind : Nat) : State :=
  let bound := s.boundaryDue
  let per := bit kind 0
  let kind := if bound then kind ||| 2 else kind
  let late := bound && s.en.armedLate
  let s := s.latchNow kind late
  let s := if per then s.modEn fun e => { e with sinceN := 0, sinceS := 0, latchN := u16 s.cfg.energy 0 } else s
  if bound && s.en.loaded then
    let s := s.modEn fun e => { e with armed := none, armedLate := false }
    let s := { s with bill := { s.bill with running := true, bLseq := s.en.latch.seq, bLate := late } }
    if late then s.raise 78 0xFFFF s.en.latch.seq else s
  else s

/-- The conditions of a missing neutral hold on a bus at this sample (R364), over the cycle window of its L1; voltages in 0.01 V. -/
def State.neutralCond (s : State) (bus : Nat) : Bool :=
  let w := s.window (96 + 4 * bus)
  let ys := s.en.wave.take w
  let b := 96 + 4 * bus
  let rms (f : List Int → Int) : Nat := rmsOf (ys.map f) (100 * (s.met.active.group (24 + bus)).ratio) (2 ^ 24) w
  let at_ (k : Nat) (y : List Int) : Int := y.getD (b + k) 0
  let ln := (List.range 3).map fun k => rms fun y => at_ k y - at_ 3 y
  let ll := (List.range 3).map fun k => rms fun y => at_ k y - at_ ((k + 1) % 3) y
  let mean3 := ln.foldl (· + ·) 0
  decide (100 * s.ec 10 < rms (at_ 3)) && decide (s.ec 11 * mean3 < 300 * (maxOf ln - ln.foldl min mean3))
    && ll.all fun v => decide (243 * (100 * s.unom) ^ 2 ≤ 100 * v ^ 2) && decide (100 * v ^ 2 ≤ 363 * (100 * s.unom) ^ 2)

/-- The runs of samples that the missing-neutral detector counts on each bus (R364). -/
def State.neutralRuns (s : State) : State :=
  let c := (List.range 2).map s.neutralCond
  let up (want : Bool) (k n : Nat) : Nat := if c.getD k false == want then n + 1 else 0
  s.modEn fun e => { e with neRun := e.neRun.mapIdx (up true), neOff := e.neOff.mapIdx (up false) }

/-- ENERGY_LATCH_NOW commands take their latch at this sample, with every other cause that falls on it (R350, R371). -/
def State.commandLatch (s : State) : State :=
  match s.en.latchTags with
  | [] => s
  | l =>
    let s := (s.modEn fun e => { e with latchTags := [] }).latchAt (4 + b2n s.periodicDue)
    l.foldl (fun s t => s.finish 4 t 0 (toLE 4 s.en.latch.seq)) s

/-- A decimated sample of a channel at ×1 is at full scale (R302). -/
def State.clips (s : State) (c : Nat) (x : Int) : Bool := s.gainOf c == 0 && decide (8388607 ≤ x.natAbs)

/-- The channels after one sample, each with its correction, delay and sums (R299, R302, R307). -/
def State.sampleChans (s : State) (x : List Int) : Vector ChanRun 104 :=
  let take1 (c : Nat) (r : ChanRun) : ChanRun := r.take (s.correct c (x.getD c 0)) (s.delayOf c) (s.clips c (x.getD c 0)) s.up
  vmapi take1 s.met.chans

/-- The accumulators and present values after one sample (R337 to R344). -/
def State.sampleEnergy (s : State) (ns : Nat) : State :=
  let new := outlets.map fun o => s.sampleOutlet o (s.outletMeas o) ns
  s.modEn fun e => { e with
    acc := vmapi (fun k a => (new.getD k (a, {})).1) e.acc
    inst := vmapi (fun k i => (new.getD k ([], i)).2) e.inst }

/-- One sample taken into the channels, the accumulators and the waveform memory (R295 to R307, R337 to R346, R355, R363). -/
def State.sampled (s : State) (x : List Int) (lfxo : Nat) : State :=
  let ns := if s.clk.metaRc then lfxo else 125000
  let tops := (List.range 96).filter fun c => s.overloaded c (s.correct c (x.getD c 0))
  let cut := (List.range 104).filter fun c => s.clips c (x.getD c 0)
  let s := s.modEn fun e => { e with sample := wrapInc 48 e.sample, sinceS := e.sinceS + 1 }
  let s := s.modMet fun t => { t with chans := s.sampleChans x, sinceZc := t.sinceZc + 25 }
  let y := s.met.chans.toList.map fun r => r.last
  let s := s.modEn fun e => { e with wave := (y :: e.wave).take 215040 }
  let s := (s.sampleEnergy ns).neutralRuns
  let s := cut.foldl State.clip (tops.foldl State.overload s)
  (s.rawSample y).commandLatch.endReverse outlets

/-- METRO_SAMPLE (R295 to R307, R337 to R346, R355, R363): `x` holds the decimated samples of the 104 channels, `lfxo` the sample period
measured against the LFXO over the last 1 s in ns, used only while PLL_META does not run from the XTAL (R298). -/
def execMetroSample (x : List Int) (lfxo : Nat) (s : State) : Out :=
  onlyIf s.metaOn s fun s => s.sampled x lfxo

/-- DIRECTION_CHANGE (R344): the opposite sign has been kept for 1 s. -/
def execDirectionChange (o : ONum) (s : State) : Out :=
  let x := s.en.inst.get o
  onlyIf (s.metaOn && decide (8000 ≤ x.dirRun)) s fun s =>
    let s := s.modEn fun e => { e with inst := e.inst.set o.val { x with expo := !x.expo, dirRun := 0 } o.isLt }
    (s.emit 4 0x0784 (toLE 1 o.val ++ toLE 1 (b2n (!x.expo)) ++ toLE 1 (b2n (s.o o).hlc.bidir) ++ zeros 1 ++ toLE 4 x.dirSeq
      ++ toLE 8 x.dirFirst ++ toLE 8 x.dirTime)).waveIf 3 o.val

/-! ### Latches -/

/-- PERIODIC_LATCH (R347, R348). -/
def execPeriodicLatch (s : State) : Out := onlyIf (s.metaOn && s.periodicDue) s fun s => s.latchAt 1

/-- BOUNDARY_LATCH (R349): the armed sample has come. -/
def execBoundaryLatch (s : State) : Out :=
  onlyIf (s.metaOn && s.boundaryDue) s fun s => s.latchAt (b2n s.periodicDue)

/-! ### Power quality -/

/-- METRO rms of a phase as 0.01 % of UNOM (R353). -/
def State.pctOf (s : State) (rms : Nat) : Nat := if s.unom = 0 then 0 else min 0xFFFF (rms * 100 / s.unom)

/-- A power-quality record as 32 bytes (R353). -/
def PqRec.bytes (r : PqRec) : Bytes :=
  toLE 4 r.seq ++ toLE 1 r.type ++ toLE 1 r.bus ++ toLE 1 r.phases ++ toLE 1 r.worst ++ toLE 8 r.start ++ toLE 4 r.half
    ++ toLE 4 r.dur ++ toLE 2 r.extreme ++ toLE 1 r.flags ++ zeros 1 ++ toLE 4 r.capture

/-- PQ_EVENT (10). -/
def State.evtPq (s : State) (st : Nat) (r : PqRec) : State := s.emit 4 0x0785 (toLE 1 st ++ zeros 7 ++ r.bytes)

/-- Duration in ms of a number of half-cycles at the measured frequency, rounded to 10 ms (R352). -/
def State.halfMs (s : State) (half : Nat) : Nat :=
  let f := if s.met.freq = 0 then 1000 * u8 s.cfg.metro 2 else s.met.freq
  if f = 0 then 0xFFFFFFFF else (half * 500000 / f + 5) / 10 * 10

/-- An ended event goes to the archive, which keeps 262,144 records (R353). -/
def State.pqStore (s : State) (r : PqRec) : State :=
  let r := { r with seq := s.store.pqNext }
  ({ s with store := { s.store with
    pqLog := (r :: s.store.pqLog).take 262144, pqNext := wrapInc 32 s.store.pqNext } }).evtPq 1 r

/-- The half-cycle of an event: the phases beyond the threshold and the extreme. While an event runs, HALFCYC counts its
half-cycles and DUR_MS those up to the last beyond the threshold. -/
def pqStep (r : PqRec) (beyond : List Bool) (pct : List Nat) (low : Bool) : PqRec :=
  let half := r.half + 1
  let ext := if low then pct.foldl min 0xFFFF else maxOf pct
  let better := if low then ext < r.extreme else r.extreme < ext
  { r with
    half := half, dur := if beyond.any id then half else r.dur
    phases := r.phases ||| maskOfBools beyond
    extreme := if better then ext else r.extreme
    worst := if better then pct.findIdx (fun x => x == ext) + 1 else r.worst }

/-- One event kind of a bus in one half-cycle: sags with interruptions, or swells (R352). -/
def State.pqHalf (s : State) (bus : Nat) (rms : List Nat) (low : Bool) : State :=
  let pct := rms.map s.pctOf
  let thr (k : Nat) : Nat := s.ec k * s.unom
  let beyond := rms.map fun v => if low then decide (v < thr 2) else decide (thr 3 < v)
  let inside := rms.all fun v => if low then decide (thr 2 + thr 5 ≤ v) else decide (v ≤ thr 3 - thr 5)
  let cut := low && rms.all fun v => decide (v < thr 4)
  let mine (r : PqRec) : Bool := r.bus == bus && (if low then r.type != 1 else r.type == 1)
  match s.en.pqOpen.find? mine with
  | none =>
    if !beyond.any id then s
    else
      let s0 := s
      let s := s.waveIf 0 (s.busOutlet bus)
      let cap := if bit (s0.ec 13) 0 then
          ((s.en.capWait.find? fun c => c.outlet == s0.busOutlet bus).map fun c => c.id).getD 0 else 0
      let r0 : PqRec := {
        type := if low then (if cut then 2 else 0) else 1, bus := bus, start := s.bak.rtc, half := 0, dur := 0
        extreme := if low then 0xFFFF else 0, capture := cap
        flags := 4 * b2n (cap != 0) + 8 * b2n (s.en.neutral.getD bus false) }
      let r := pqStep r0 beyond pct low
      (s.modEn fun e => { e with pqOpen := e.pqOpen ++ [r] }).evtPq 0
        { r with seq := 0xFFFFFFFF, half := 0xFFFFFFFF, dur := 0xFFFFFFFF, extreme := 0xFFFF }
  | some r =>
    if inside then
      let s := s.modEn fun e => { e with pqOpen := e.pqOpen.filter fun x => !mine x }
      s.pqStore { r with half := r.dur, dur := s.halfMs r.dur }
    else
      let r' := pqStep r beyond pct low
      let r' := { r' with
        type := if cut then 2 else r'.type
        flags := r'.flags ||| 8 * b2n (s.en.neutral.getD bus false) }
      s.modEn fun e => { e with pqOpen := e.pqOpen.map fun x => if mine x then r' else x }

/-- The rms over the half-cycle just ended of L1–N, L2–N and L3–N of a bus, and of N against earth, in 0.01 V (R351). -/
def State.halfRms (s : State) (bus : Nat) : List Nat :=
  (List.range 4).map fun k =>
    let w := s.window (96 + 4 * bus + k % 3) / 2
    let v (y : List Int) : Int := if k = 3 then y.getD (99 + 4 * bus) 0 else s.phaseV bus k y
    rmsOf ((s.en.wave.take w).map v) (100 * (s.met.active.group (24 + bus)).ratio) (2 ^ 24) w

/-- HALF_CYCLE_PQ (R264, R351, R352): the end of a half-cycle of the voltages of a bus. -/
def execHalfCyclePq (bus : Nat) (s : State) : Out :=
  onlyIf (s.metaOn && decide (bus < 2)) s fun s =>
    let rms := s.halfRms bus
    let f (k v : Nat) : Nat := if k / 4 = bus then rms.getD (k % 4) v else v
    let g (k : Nat) (l : List (Nat × Nat)) : List (Nat × Nat) :=
      if k / 4 = bus then (rms.getD (k % 4) 0, s.up) :: l.filter fun x => decide (s.up < x.2 + 1000) else l
    let s := s.modEn fun e => { e with vrms := e.vrms.mapIdx f, vLog := e.vLog.mapIdx g }
    let v := (List.range 3).map fun k => s.en.vrms.getD (4 * bus + k) 0
    if s.busUsed bus then (s.pqHalf bus v true).pqHalf bus v false else s

/-! ### Waveform captures -/

/-- The channel of each frame position of a capture of outlet `o` (R356). -/
def chanMap (o : Nat) : List Nat := (List.range 8).map (fun k => 96 + k) ++ (List.range 4).map fun k => 4 * o + k

/-- One frame of a capture from the samples of the 104 channels; during a missing neutral the phase voltages are the
reconstructed ones of R365. -/
def frameBytes (o : Nat) (neutral : List Bool) (y : List Int) : Bytes :=
  let v (c : Nat) : Int := y.getD c 0
  let fix (c : Nat) : Int :=
    if 96 ≤ c && c % 4 != 3 && neutral.getD ((c - 96) / 4) false then
      let b := 96 + 4 * ((c - 96) / 4)
      v c - (v b + v (b + 1) + v (b + 2)) / 3
    else v c
  ((chanMap o).map fun c => toLEs 3 (fix c)).flatten

/-- CAPTURE_CUT (R357): the oldest waiting capture whose post window has passed is cut from the ring and archived. -/
def execCaptureCut (s : State) : Out :=
  match s.en.capWait.find? fun c => decide (c.sample + 2047 ≤ s.en.sample) with
  | none => .next s
  | some c =>
    onlyIf s.fwRuns s fun s =>
      let s := s.modEn fun e => { e with capWait := e.capWait.filter fun x => x.id != c.id }
      if 215040 ≤ s.en.sample - c.sample + 2048 then s.modEn fun e => { e with lost := wrapInc 32 e.lost }
      else
        let newest := s.en.sample - c.sample - 2047
        let ys := ((s.en.wave.drop newest).take 4096).reverse
        let ys := List.replicate (4096 - ys.length) [] ++ ys
        let c := { c with frames := (ys.map (frameBytes c.outlet s.en.neutral)).flatten }
        let s := { s with store := { s.store with captures := (c :: s.store.captures).take 8192 } }
        s.emit 4 0x0787 (toLE 4 c.id ++ toLE 1 c.trigger ++ toLE 1 c.outlet ++ toLE 1 c.flags ++ zeros 1 ++ toLE 8 c.time)

/-- The header and the frames of a capture (R358). -/
def State.captureImage (s : State) (c : Capture) : Bytes :=
  let g := s.met.active.group c.outlet
  let ifs := if g.burden = 0 then 0 else 500 * g.ratio / g.burden
  let vfs (k : Nat) : Nat := (s.met.active.group k).ratio / 2
  let head := [1] ++ toLE 1 c.trigger ++ toLE 1 c.outlet ++ [12] ++ toLE 4 c.id ++ toLE 8 c.time ++ toLE 8 c.sample
    ++ toLE 2 2048 ++ toLE 2 2047 ++ toLE 2 8000 ++ toLE 1 c.flags ++ zeros 1
    ++ (chanMap c.outlet).map (BitVec.ofNat 8 ·) ++ toLE 2 ifs ++ toLE 2 (vfs 24) ++ toLE 2 (vfs 25) ++ zeros 10
  head ++ toLE 4 (crc32c (head ++ c.frames)) ++ c.frames

/-- The host has moved the completion head of RP14 past the last chunk written, of this export or of one before it (R80, R359). -/
def State.chunkFree (s : State) : Bool :=
  let p := s.pr 14
  match s.en.chunkEnd with
  | none => true
  | some h => p.held.isEmpty && decide ((p.cqHead + 65536 - h) % 65536 < 32768)

/-- WAVE_CHUNK_SEND (R359): the next chunk, once the bulk region of RP14 is the H24's again (R80). -/
def execWaveChunkSend (s : State) : Out :=
  match s.en.exporting with
  | none => .next s
  | some x =>
    let p := s.pr 14
    match s.store.captures.find? fun c => c.id == x.id with
    | none => .next s
    | some c =>
      onlyIf (s.fwRuns && p.state == 1 && s.chunkFree) s fun s =>
        let b := ((s.captureImage c).drop (4096 * x.next)).take 4096
        let head := (p.cqTail + (p.held.map fun h => h.entries.length).foldl (· + ·) 0 + 1) % 65536
        let s := ((s.modEn fun e => { e with chunkEnd := some head }).bulkPut 14 (0, 4096) b).emitNow 14 0x0790
          (toLE 4 x.id ++ toLE 2 x.next ++ toLE 2 37 ++ toLE 2 x.tag ++ zeros 42) (some (0, b.length))
        if 36 ≤ x.next then (s.modEn fun e => { e with exporting := none }).finish 4 x.tag 0 []
        else s.modEn fun e => { e with exporting := some { x with next := x.next + 1, head := head } }

/-- WAVE_EXPORT_TIMEOUT (R359): no head moved for 10 s. -/
def execWaveExportTimeout (s : State) : Out :=
  match s.en.exporting with
  | none => .next s
  | some x =>
    onlyIf (decide (x.headAt + 10000 ≤ s.up)) s fun s => (s.modEn fun e => { e with exporting := none }).finish 4 x.tag 8 []

/-! ### Tamper -/

/-- REVERSE_CURRENT (R361): P_out has stayed below −REV_P for REV_T. -/
def execReverseCurrent (o : ONum) (s : State) : Out :=
  let x := s.en.inst.get o
  onlyIf (s.metaOn && !x.reverse && decide (0 < x.revRun) && decide (8000 * s.ec 8 ≤ x.revRun)) s fun s =>
    let p := Int.tdiv (s.pOut o) 1000
    let s := s.modEn fun e => { e with inst := e.inst.set o.val { x with reverse := true } o.isLt }
    ((s.tamperFound 0 o.val p).waveIf 2 o.val).raise 70 o.val (ofSigned 32 p)

/-- BYPASS_DETECT (R362): the rms of the current sum has exceeded BYP_THR for more than 2 s. -/
def execBypassDetect (o : ONum) (s : State) : Out :=
  let x := s.en.inst.get o
  onlyIf (s.metaOn && !x.bypass && decide (16000 < x.bypRun)) s fun s =>
    let ma := x.sum
    let s := s.modEn fun e => { e with inst := e.inst.set o.val { x with bypass := true } o.isLt }
    ((s.tamperFound 1 o.val ma).waveIf 2 o.val).raise 71 o.val ma

/-- BYPASS_END (R362): 10 s below BYP_THR. -/
def execBypassEnd (o : ONum) (s : State) : Out :=
  let x := s.en.inst.get o
  onlyIf (s.metaOn && x.bypass && decide (80000 ≤ x.bypOff)) s fun s =>
    (s.modEn fun e => { e with inst := e.inst.set o.val { x with bypass := false } o.isLt }).evtTamper 1 1 o.val 0 0

/-- NEUTRAL_MISSING (R364): its conditions have held for 2 s. -/
def execNeutralMissing (bus : Nat) (s : State) : Out :=
  onlyIf (s.metaOn && decide (bus < 2) && !s.en.neutral.getD bus false && decide (16000 ≤ s.en.neRun.getD bus 0)) s fun s =>
    let v := (s.halfRms bus).getD 3 0 / 10
    let s := s.modEn fun e => { e with neutral := e.neutral.set bus true }
    ((s.tamperFound 2 bus v).waveIf 2 (s.busOutlet bus)).raise 72 bus v

/-- NEUTRAL_END (R364): 10 s in which its conditions have not held. -/
def execNeutralEnd (bus : Nat) (s : State) : Out :=
  onlyIf (s.metaOn && s.en.neutral.getD bus false && decide (80000 ≤ s.en.neOff.getD bus 0)) s fun s =>
    (s.modEn fun e => { e with neutral := e.neutral.set bus false }).evtTamper 2 1 bus 0 0

/-- One tamper input sampled by BAK (R367): `opened` says that its circuit is open. -/
def State.sampleCover (s : State) (n : Nat) (opened : Bool) : State :=
  let lvl := opened == bit s.bak.tampPol n
  if lvl == s.en.tampLevel.getD n false then s.modEn fun e => { e with tampCand := e.tampCand.set n 0 }
  else if s.en.tampCand.getD n 0 + 1 < 2 then s.modEn fun e => { e with tampCand := e.tampCand.set n 1 }
  else
    let s := s.modEn fun e => { e with tampCand := e.tampCand.set n 0, tampLevel := e.tampLevel.set n lvl }
    if lvl then
      let c := s.bak.cover.getD n (0, 0, 0)
      let sec := s.bak.rtc / 1000
      { s with bak := { s.bak with cover := s.bak.cover.set n (satInc 8 c.1, if c.1 = 0 then sec else c.2.1, sec) } }
    else s.evtTamper (3 + n) 1 n 0 0

/-- TAMPER_SAMPLE (R367): TAMP0 and TAMP1, true for an open circuit. The firmware takes a new opening at once while it runs,
else at the next start (log entry 22). -/
def execTamperSample (t0 t1 : Bool) (s : State) : Out :=
  onlyIf (s.pwr.state != .off) s fun s =>
    let s := (s.sampleCover 0 t0).sampleCover 1 t1
    if s.fwRuns then s.takeCovers else s

/-! ### Commands -/

/-- ENERGY_CONFIG_SET fields in range (R351, R368). -/
def energyCfgOk (p : Bytes) : Bool :=
  let w (off lo hi : Nat) : Bool := decide (lo ≤ u8 p off) && decide (u8 p off ≤ hi)
  1 ≤ u16 p 0 && u16 p 0 ≤ 1000 && w 2 50 95 && w 3 105 150 && w 4 1 10 && w 5 1 5 && 10 ≤ u16 p 6 && u16 p 6 ≤ 500 && w 8 1 10
    && w 9 1 50 && w 10 20 150 && w 11 10 50 && w 12 0 3 && w 13 0 15 && (u8 p 14 < 24 || u8 p 14 == 0xFF)

/-- ENERGY_CONFIG_SET (R347, R368): LATCH_N from the next periodic latch on. -/
def execEnergyConfigSet (q : Req) (s : State) : Out :=
  let p := q.payload
  mail { op := 0x0710, pair := 4, lo := 20, hi := 20 } q s (energyCfgOk p) fun s =>
    let s := { s with cfg := { s.cfg with energy := p.take 15 ++ zeros 5 }, bak := { s.bak with tampPol := u8 p 12 % 4 } }
    (s.effect 4 q.tag 0x0710).ok

/-- ENERGY_CONFIG_GET (R368). -/
def execEnergyConfigGet (q : Req) (s : State) : Out :=
  mail { op := 0x0711, pair := 4 } q s true fun s => s.ok s.cfg.energy

/-- ENERGY_READ (R369): latched accumulators, all from one latch. -/
def execEnergyRead (q : Req) (s : State) : Out :=
  let f := u8 q.payload 0
  let n := u8 q.payload 1
  let r := q.bulk.getD (0, 0)
  mail { op := 0x0712, pair := 4, lo := 2, hi := 2, bulk := 1 } q s
    (f < 24 && 1 ≤ n && n ≤ 18 && f + n ≤ 24) fun s => s.sized r (224 * n) <|
    let l := s.en.latch
    let out (o : Nat) : Bytes := ((List.range 28).map fun k => toLE 8 (units (s.latOf o k))).flatten
    { st := s.bulkPut 4 r ((List.range n).map fun k => out (f + k)).flatten, bulk := some r
      payload := toLE 4 l.seq ++ toLE 4 l.cycles ++ toLE 8 l.sample ++ toLE 8 l.time ++ toLE 1 l.kind ++ toLE 1 l.flags }

/-- ENERGY_INSTANT (R370). -/
def execEnergyInstant (q : Req) (s : State) : Out :=
  let o := outletArg q.payload 0
  mail { op := 0x0713, pair := 4, lo := 1, hi := 1 } q s (outletFits q.payload 0) fun s =>
    let x := s.en.inst.get o
    let w (l : List Int) : Bytes := (l.map fun v => toLEs 4 (Int.tdiv v 1000)).flatten
    s.ok (w x.p ++ w x.q ++ (x.i.map fun v => toLE 4 v).flatten ++ toLEs 4 (Int.tdiv (s.pOut o) 1000) ++ toLE 1 (b2n x.expo)
      ++ toLE 1 (b2n (decide ((s.pOut o).natAbs < 20 * s.unom)) + 2 * b2n x.fb + 4 * b2n (s.en.neutral.getD (s.bus o) false))
      ++ zeros 2)

/-- ENERGY_LATCH_NOW (R371): the latch falls at the next sample, and the command completes with its sequence. -/
def execEnergyLatchNow (q : Req) (s : State) : Out :=
  mail { op := 0x0714, pair := 4 } q s true fun s =>
    (s.modEn fun e => { e with latchTags := e.latchTags ++ [q.tag] }).wait

/-- `a` is older than `b` in 32-bit serial-number arithmetic. -/
def older32 (a b : Nat) : Bool := decide (0 < (b + 2 ^ 32 - a % 2 ^ 32) % 2 ^ 32) && decide ((b + 2 ^ 32 - a % 2 ^ 32) % 2 ^ 32 < 2 ^ 31)

/-- PQ_LOG_READ (R372). -/
def execPqLogRead (q : Req) (s : State) : Out :=
  let first := u32 q.payload 0
  let n := u8 q.payload 4
  let r := q.bulk.getD (0, 0)
  mail { op := 0x0715, pair := 4, lo := 5, hi := 5, bulk := 1 } q s (1 ≤ n && n ≤ 128) fun s =>
    let l := s.store.pqLog.reverse
    let oldest := (l.head?.map fun x => x.seq).getD s.store.pqNext
    if !l.isEmpty && older32 first oldest then s.no 0x0B
    else if r.2 < 32 * n then s.no 0x05
    else
      let found := (l.filter fun x => !older32 x.seq first).take n
      { st := s.bulkPut 4 r (found.map PqRec.bytes).flatten, bulk := some r
        payload := toLE 1 found.length ++ toLE 4 oldest }

/-- WAVE_LIST (R373). -/
def execWaveList (q : Req) (s : State) : Out :=
  let first := u32 q.payload 0
  let n := u8 q.payload 4
  let r := q.bulk.getD (0, 0)
  mail { op := 0x0716, pair := 4, lo := 5, hi := 5, bulk := 1 } q s (decide (1 ≤ n)) fun s => s.sized r (16 * n) <|
    let l := s.store.captures.reverse
    let oldest := (l.head?.map fun x => x.id).getD 0
    let newest := (s.store.captures.head?.map fun x => x.id).getD 0
    let found := (l.filter fun x => !older32 x.id first).take n
    let row (c : Capture) : Bytes := toLE 4 c.id ++ toLE 8 c.time ++ toLE 1 c.trigger ++ toLE 1 c.outlet ++ toLE 1 c.flags ++ zeros 1
    { st := s.bulkPut 4 r (found.map row).flatten, bulk := some r
      payload := toLE 1 found.length ++ toLE 4 oldest ++ toLE 4 newest ++ toLE 4 s.en.lost }

/-- WAVE_EXPORT (R359, R374). -/
def execWaveExport (q : Req) (s : State) : Out :=
  mail { op := 0x0717, pair := 4, lo := 4, hi := 4 } q s true fun s =>
    let id := u32 q.payload 0
    if !s.store.captures.any (fun c => c.id == id) then s.no 0x0B
    else if s.en.exporting.isSome then s.no 2
    else if (s.pr 14).state ≠ 1 then s.no 6
    else (s.modEn fun e => { e with exporting := some { id := id, tag := q.tag, head := (s.pr 14).cqTail, headAt := s.up } }).queued

/-- WAVE_TRIGGER (R375). -/
def execWaveTrigger (q : Req) (s : State) : Out :=
  let o := u8 q.payload 0
  mail { op := 0x0718, pair := 4, lo := 1, hi := 1 } q s (o < 24) fun s =>
    let again := s.en.capWait.any fun c => c.outlet == o && decide (s.en.sample ≤ c.sample + 2047)
    if !again && 4 ≤ s.en.capWait.length then s.no 2
    else
      let s := s.waveTrigger 4 o
      s.ok (toLE 4 (((s.en.capWait.reverse.find? fun c => c.outlet == o).map fun c => c.id).getD 0))

/-- Bit k of a kind of tamper flag is set for each outlet or bus k that has it. -/
def State.tamperMask (s : State) (kind : Nat) : Nat := maskOf ((List.range 24).filter fun k => s.tamperSet kind k)

/-- TAMPER_STATUS (R376). -/
def execTamperStatus (q : Req) (s : State) : Out :=
  mail { op := 0x0719, pair := 4 } q s true fun s =>
    let active := maskOf ((outlets.filter fun o => (s.en.inst.get o).reverse || (s.en.inst.get o).bypass).map fun o => o.val)
    let site := s.tamperMask 2 + 4 * b2n (s.tamperSet 3 0) + 8 * b2n (s.tamperSet 4 1)
      + 16 * b2n (s.en.tampLevel.getD 0 false) + 32 * b2n (s.en.tampLevel.getD 1 false)
    s.ok (toLE 4 (s.tamperMask 0) ++ toLE 4 (s.tamperMask 1) ++ toLE 1 site ++ zeros 1
      ++ toLE 1 (s.bak.cover.getD 0 (0, 0, 0)).1 ++ toLE 1 (s.bak.cover.getD 1 (0, 0, 0)).1 ++ toLE 4 active)

/-- The flags that SCOPE, INDEX and KINDS name; none where a kind is not valid in its scope (R377). -/
def tamperKinds (scope idx kinds : Nat) : Option (List (Nat × Nat)) :=
  match scope with
  | 0 => if idx < 24 && kinds < 4 then some ((bitsOf 2 kinds).map fun k => (k, idx)) else none
  | 1 => if idx < 2 && (kinds == 0 || kinds == 4) then some ((bitsOf 5 kinds).map fun k => (k, idx)) else none
  | 2 => if kinds % 8 = 0 && kinds < 32 then some ((bitsOf 5 kinds).map fun k => (k, k - 3)) else none
  | _ => none

/-- TAMPER_CLEAR (R366, R377). -/
def execTamperClear (q : Req) (s : State) : Out :=
  let p := q.payload
  let ks := tamperKinds (u8 p 0) (u8 p 1) (u8 p 2)
  mail { op := 0x071A, pair := 4, lo := 3, hi := 3 } q s ks.isSome fun s =>
    let ks := (ks.getD []).filter fun k => s.tamperSet k.1 k.2
    if ks.any fun k => s.tamperActive k.1 k.2 then s.no 3
    else ((ks.foldl (fun s k => s.tamperClear 0 k) s).effect 4 q.tag 0x071A).ok

end Sys2Proof.Machine
end

