-- ==== Sys2Proof/Machine/Sessions.lean ====
section
/-! DEFINITION. The session state machine, identification and authorisation, the lock, and the outlet commands (04). -/

namespace Sys2Proof.Machine

/-! ### Acceptance -/

/-- SEC of HLC_STATUS_GET (R179). -/
def Hlc.sec (h : Hlc) : Nat := b2n h.tls + 2 * b2n h.pnc + 4 * b2n h.bidir + 8 * b2n h.expOk

/-- HLC_SESSION (05). -/
def State.evtHlc (s : State) (o : ONum) (ev reason : Nat) : State :=
  let h := (s.o o).hlc
  s.emit 1 0x0381 (toLE 1 o.val ++ toLE 1 ev ++ toLE 1 h.proto ++ toLE 1 h.sec ++ toLE 1 reason ++ zeros 3 ++ toLE 8 s.bak.rtc)

/-- HLC_SLAC (05). -/
def State.evtSlac (s : State) (o : ONum) (r : SlacRun) (result dom atten other sounds : Nat) : State :=
  s.emit 1 0x0380 (toLE 1 o.val ++ toLE 1 result ++ toLE 1 dom ++ toLE 1 atten ++ toLE 1 other ++ toLE 1 sounds ++ zeros 2
    ++ (toLE 6 r.mac).reverse ++ zeros 2 ++ toLE 8 r.runid)

/-- The fallback flag set with a reason (R165): HLC_SESSION with event 7. -/
def State.setFallback (s : State) (o : ONum) (reason : Nat) : State :=
  if (s.o o).hlc.fallback then s
  else (s.evtHlc o 7 reason).modHlc o fun h => { h.down with fallback := true }

/-- State A accepted (R165): the flag clears, and a run that was not decided counts as abandoned (HLC_SLAC RESULT 6). -/
def State.hlcUnplug (s : State) (o : ONum) : State :=
  let h := (s.o o).hlc
  let s := match h.run with
    | some r => if r.decided.isNone then s.evtSlac o r 6 0xFF 0 0 0 else s
    | none => s
  s.modHlc o fun h => { h.down with fallback := false, waitA := false }

/-- The export permission of a session, fixed at authorisation (R171). -/
def State.exportPermission (s : State) (o : ONum) (account : Nat) : Bool :=
  match (s.o o).hlc.expSet with
  | some b => b
  | none =>
    if s.authMode o = 0 then bit (s.acct account).flags 1
    else if s.authMode o = 2 then u8 (s.cfg.hlc.get o) 6 == 1 else false

/-- AUTHORISING entered on an identification (R135). -/
def State.authorise (s : State) (o : ONum) (cause : Nat) : State := s.setSess o .authorising cause

/-- The decision refuses: back to PLUGGED with a cause (R131, R135). -/
def State.refuseAuth (s : State) (o : ONum) (cause : Nat) : State :=
  ((s.modSes o fun x => { x with pend := none }).setSess o .plugged cause)

/-- No new session on the outlet: its bus is open or opens (R125), or the account is EXHAUSTED (R448). -/
def State.refusesSession (s : State) (o : ONum) (account : Nat) : Bool :=
  (s.busUsed (s.bus o) && (!(s.pair (24 + s.bus o)).on || (s.site (s.bus o)).opening)) || s.creditState account == 2

/-- The decision accepts: a new session number on the account, the lock first where fitted, then READY (R130, R135, R149). -/
def State.acceptAuth (s : State) (o : ONum) (account cause : Nat) : State :=
  if s.refusesSession o account then s.refuseAuth o 3
  else
    let n := s.store.sessNext
    let r : SessRec := {
      outlet := o.val, num := n, account := account, start := s.bak.rtc, imp0 := s.accOf o.val 21, exp0 := s.accOf o.val 22 }
    let s := { s with store := { s.store with sessNext := wrapInc 32 n, openSess := s.store.openSess ++ [r] } }
    let s := s.modSes o fun x => { x with
      num := n, account := account, start := s.bak.rtc, hreason := 0, endCause := none, endTime := 0,
      imp0 := s.accOf o.val 21, exp0 := s.accOf o.val 22, pend := none, committed := false, queued := false,
      windowPassed := true, debited := 0, impT := List.replicate 8 0, expT := List.replicate 8 0, closeCause := 0 }
    let s := s.modHlc o fun h => { h with expOk := s.exportPermission o account }
    if s.hasLock o && !(s.o o).lock.locked then
      (s.modSes o fun x => { x with lockWait := true, readyCause := cause }).askLock o true
    else s.setSess o .ready 2

/-- The number of a session that drew no energy leaves the list of open sessions. -/
def State.forgetSess (s : State) (num : Nat) : State :=
  { s with store := { s.store with openSess := s.store.openSess.filter fun r => r.num != num } }

/-- The session of the outlet is bidirectional (R380). -/
def State.markBidir (s : State) (o : ONum) : State :=
  let num := (s.o o).ses.num
  { s with store := { s.store with openSess := s.store.openSess.map fun (r : SessRec) =>
      if r.num == num then { r with bidir := true } else r } }

/-- AUTHORISING abandoned: decision discarded, session dropped, the lock undone (R130, R135). -/
def State.abandon (s : State) (o : ONum) : State :=
  let x := (s.o o).ses
  let s := (s.forgetSess x.num).dropSession o
  if x.num ≠ 0 && s.hasLock o then s.askLock o false else s

/-- OUT_IDENT (04). -/
def State.evtIdent (s : State) (o : ONum) (source seq : Nat) (id : Bytes) : State :=
  s.emit 1 0x0282 (toLE 1 o.val ++ toLE 1 source ++ toLE 2 seq ++ toLE 1 id.length ++ zeros 3 ++ id)

/-- The identification as OUT_IDENT carries it: a PIN as its mapped account (04, OUT_IDENT). -/
def State.identBytes (s : State) (src : Nat) (id : Bytes) : Bytes :=
  if src = 1 then toLE 2 ((s.bindingOf 1 id).getD 0xFFFF) else id.take 40

/-- The decision on an identification in AUTHORISING, by AUTH_MODE (04, Authorisation). -/
def State.decideAuth (s : State) (o : ONum) (i : Ident) : State :=
  if s.authMode o = 1 then
    let seq := (s.o o).ses.nextSeq
    (s.modSes o fun x => { x with pend := some i, pendSeq := seq, nextSeq := if seq = 0xFFFE then 0 else seq + 1 }).evtIdent o
      i.src seq (s.identBytes i.src i.id)
  else if s.authMode o = 2 then s.acceptAuth o 0 5
  else match s.localAccept i.src i.id with
    | some a => s.acceptAuth o a 5
    | none => s.refuseAuth o 3

/-! ### Ending -/

/-- ENDING completes once the switch is open, the weld window has passed, the lock is open and the record committed
(R135): IDLE if state A, else PLUGGED; a session that goes out of service goes there. The firmware takes it (R138). -/
def State.endStep (s : State) (o : ONum) : State :=
  let x := (s.o o).ses
  if !s.fwRuns || x.st != .ending || s.energised o || !x.windowPassed || (s.hasLock o && (s.o o).lock.locked) || !x.committed then s
  else
    let s := match x.toOos with
      | some c => s.setSess o .outOfService c
      | none => s.setSess o (if s.pilotState o = 0 then .idle else .plugged) 17
    s.modSes o fun x => { x with
      num := 0, account := 0xFFFF, endCause := none, queued := false, committed := false, toOos := none, hreason := 0 }

/-- Proximity allows a session: tethered, or a rating accepted (R135). -/
def State.ppValid (s : State) (o : ONum) : Bool :=
  s.cable o != 0 || ((s.o o).pp.accepted && (s.o o).pp.acc != 0 && (s.o o).pp.acc != 255)

/-- The state in which an outlet leaves OUT_OF_SERVICE (R135). -/
def State.homeState (s : State) (o : ONum) : SessState :=
  let p := s.pilotState o
  if (p == 1 || p == 2 || p == 3) && s.ppValid o then .plugged else .idle

/-- control_state of the outlet: 0 disconnected, 1 connected, 2 ready_for_reconnection (12 R430). -/
def State.control (s : State) (o : ONum) : Nat := s.store.disc.getD o.val 1

/-- The state with another control_state of the outlet. -/
def State.setControl (s : State) (o : ONum) (c : Nat) : State :=
  { s with store := { s.store with disc := s.store.disc.set o.val c } }

/-- From IDLE to PLUGGED, with what follows at once: a held identification, or FREE on A to B, once (R132, R135). -/
def State.plug (s : State) (o : ONum) (cause : Nat) : State :=
  let x := (s.o o).ses
  let s := (s.modSes o fun x => { x with aToB := false }).setSess o .plugged cause
  let s := s.modHlc o fun h => { h with initOpen := s.hlcOn o }
  match x.held with
  | some i => ((s.modSes o fun x => { x with held := none }).authorise o 1).decideAuth o i
  | none => if s.authMode o = 2 && x.aToB then (s.authorise o 1).acceptAuth o 0 5 else s

/-- IDLE or PLUGGED entered, by the pilot state, with what follows at once (R132, R135). -/
def State.goHome (s : State) (o : ONum) (st : SessState) (cause : Nat) : State :=
  if st == .plugged then s.plug o cause else s.setSess o st cause

/-- FAULTED leaves for IDLE, or PLUGGED, when its last outlet fault has cleared (R135). -/
def State.faultedExit (s : State) (o : ONum) (onlyA : Bool) (cause : Nat) : State :=
  if (s.o o).ses.st == .faulted && (s.outletFaults o).isEmpty && (!onlyA || s.pilotState o == 0) then
    (s.modSes o fun x => if x.queued then x else { x with num := 0, account := 0xFFFF, endCause := none, hreason := 0 }).goHome o
      (if s.pilotState o = 0 then .idle else .plugged) cause
  else s

/-- OUT_OF_SERVICE leaves when no fault of the outlet is uncleared, no confirmation is pending and no weld stands (R135), unless the
disconnect control keeps it (12 R430). -/
def State.oosExit (s : State) (o : ONum) (cause : Nat) : State :=
  if (s.o o).ses.st == .outOfService && (s.outletFaults o).isEmpty && !s.confirmPending && s.fitted o
      && s.control o == 1 then
    s.goHome o (s.homeState o) cause
  else s

/-- An identification reaches an outlet (R132, R133, R135); ready_for_reconnection it is held and reconnects (12 R430). One that is
ignored carries the sequence that the next decision will use (R133; log entry 68). -/
def State.identify (s : State) (o : ONum) (i : Ident) : State :=
  if s.control o = 2 then ((s.setControl o 1).modSes o fun x => { x with held := some i }).oosExit o 14
  else
  let x := (s.o o).ses
  match x.st with
  | .idle => s.modSes o fun x => { x with held := some i }
  | .plugged => (s.authorise o 1).decideAuth o i
  | .ready | .energising | .paused =>
    if s.bindingOf i.src i.id = some x.account then s.toEnding o 8
    else s.evtIdent o (i.src + 128) x.nextSeq (s.identBytes i.src i.id)
  | _ => s

/-- The transitions of R135 that the accepted pilot state implies. -/
def State.pilotSession (s : State) (o : ONum) (cause : Nat) : State :=
  let p := s.pilotState o
  match (s.o o).ses.st with
  | .idle => if (p == 1 || p == 2 || p == 3) && s.ppValid o then s.plug o cause else s
  | .plugged =>
    if p == 0 then s.setSess o .idle 11
    else if s.authMode o = 2 && (s.o o).ses.aToB && p == 1 then
      ((s.modSes o fun x => { x with aToB := false }).authorise o 1).acceptAuth o 0 5
    else s
  | .authorising => if p == 0 then (s.abandon o).setSess o .idle 11 else s
  | .ready | .energising | .paused =>
    if p == 0 then s.toEnding o 11 else s.modSes o fun x => { x with closeCause := cause }
  | .faulted => if p == 0 then s.faultedExit o true 11 else s
  | _ => s

/-! ### Lock -/

/-- Every OUTLET_UNLOCK that waits on the outlet completes. -/
def State.finishUnlocks (s : State) (status : Nat) : List Nat → State
  | [] => s
  | t :: ts => State.finishUnlocks (s.finish 1 t status []) status ts

/-- What the firmware makes of a lock at rest (R130, R135): READY once it is locked, the end of ENDING once it is open; in ENDING a lock
still shut is opened after the weld window. -/
def State.lockSession (s : State) (o : ONum) : State :=
  let x := s.o o
  if !s.fwRuns || x.lock.target.isSome then s
  else if x.ses.st == .authorising && x.ses.lockWait && x.lock.locked then
    (s.modSes o fun x => { x with lockWait := false }).setSess o .ready x.ses.readyCause
  else if x.ses.st == .ending && x.ses.windowPassed && !s.energised o && s.hasLock o && x.lock.locked then
    if x.lock.openFailed then s else s.askLock o false
  else s.endStep o

/-- The lock has reached the position asked for after its pulse (R128): OUTLET_UNLOCK completes, a position asked for meanwhile is next,
and the session follows. -/
def State.lockDone (s : State) (o : ONum) : State :=
  let l := (s.o o).lock
  match l.target with
  | none => s
  | some t =>
    if l.drive == .off && l.due && l.locked == t then
      let s := s.modLock o fun l => { l with
        target := none, due := false, tries := 0, openFailed := false, unlockTags := if t then l.unlockTags else [] }
      let s := if t then s else s.finishUnlocks 0 l.unlockTags
      match l.after with
      | some p => (s.modLock o fun l => { l with after := none }).askLock o p
      | none => s.lockSession o
    else s

/-! ### Meanings: events -/

/-- The accepted pilot state taken over, with the outlet and session reactions that follow from it (R107 to R111, R115, R135, R223). -/
def State.acceptPilot (s : State) (o : ONum) : State :=
  let p := (s.o o).pilot
  let prev := p.accepted.getD 6
  let draws := (List.range 3).any fun k => !s.halfBelow o k 2000
  let sf5 := (s.o o).ses.st == .energising && p.cand == 0 && (prev == 2 || prev == 3) && draws
  let home := (s.o o).ses.st == .idle || (s.o o).ses.st == .plugged
  let s := s.modPilot o fun p => { p with accepted := some p.cand, treatE := p.treatE && p.cand != 0 }
  let s := s.modSes o fun x => { x with aToB := (home && prev == 0 && p.cand == 1) || (x.aToB && p.cand != 0) }
  let s := if p.cand = 0 then s.hlcUnplug o else s
  let s := s.modHlc o fun h => { h with
    toggles := if h.toggleWin && prev == 1 && p.cand == 2 then h.toggles + 1 else h.toggles }
  let s := if p.cand = 0 then ((s.clearOcc 32 o.val).clearOcc 33 o.val).clearOcc 34 o.val else s
  let s := if prev = 0 then s.wake 1 else s
  let s := if p.cand ≠ 0 then s.maintEnd 4 fun a => a.index == o.val && (a.act == 2 || a.act == 5) else s
  let outs := s.onMask [o]
  let s := s.actOn115 o
  let s := s.emit 1 0x0281 (toLE 1 o.val ++ toLE 1 p.cand ++ toLE 1 prev ++ toLE 1 p.mode.code ++ toLE 2 p.duty
    ++ toLEs 2 p.pos ++ toLEs 2 p.neg)
  let s := if sf5 then (s.raiseFor 122 o 0).sfDemand 5 o.val outs else s
  let s := if p.cand = 4 then s.raise 34 o.val (ofSigned 32 p.pos) else s
  if s.fwRuns then s.pilotSession o (if p.accepted.isNone then 19 else 0)
  else if p.cand = 0 && s.hasSession o then s.fwTo o .ending 11 else s

/-- PILOT_STATE_ACCEPT (R107 to R111, R115, R135, R223). -/
def execPilotStateAccept (o : ONum) (s : State) : Out :=
  let p := (s.o o).pilot
  onlyIf (decide (3 ≤ p.run) && p.cand != 6 && (p.accepted != some p.cand || (p.treatE && p.cand == 0))) s fun s => s.acceptPilot o

/-- The ceiling of outlet `o` follows a new cable rating, with its three copies and the pilot (R15, R63, R102, R206). -/
def State.ceilingTo (s : State) (o : ONum) (f : State → State) : State :=
  (f s).ceilingsFollow s [o]

/-- PP_ACCEPT (R102, R112, R113, R115, R135); the first classification accepted after a start lets the outlet move to PLUGGED with cause
19 (R140). -/
def execPpAccept (o : ONum) (s : State) : Out :=
  let p := (s.o o).pp
  onlyIf (s.cable o == 0 && decide (5 ≤ p.run) && (!p.accepted || p.acc != p.cand)) s fun s =>
    let s := s.ceilingTo o fun s => s.modPp o fun p => { p with acc := p.cand, accepted := true }
    let s := s.actOn115 o
    let s := if p.cand = 255 then s.raise 35 o.val 0 else s
    if s.hasSession o && p.cand = 0 then s.fwTo o .ending 18
    else if s.fwRuns && (s.o o).ses.st == .idle then s.pilotSession o (if p.accepted then 18 else 19) else s

/-- LOCK_FEEDBACK_CHANGE (R115, R128). -/
def execLockFeedbackChange (o : ONum) (locked : Bool) (s : State) : Out :=
  onlyIf (s.hasLock o) s fun s =>
    ((s.modLock o fun l => { l with locked := locked }).actOn115 o).lockDone o

/-- The mirror contact had not closed at step 3 of R121, and the weld window showed no presence (R123). -/
def State.mirrorLate (s : State) (o : ONum) : Bool :=
  let w := (s.o o).sw
  !w.windowSeen && (w.mirrorOpen || decide (w.releasedAt + 50 < w.mirrorAt))

/-- The end of an opening: the sequencer off, the mirror contact and the trip report, the session and the lock (R121 step 4, R123, R135).
STEP 5 follows a window without presence. -/
def State.weldEnded (s : State) (o : ONum) : State :=
  let late := s.mirrorLate o
  let seen := (s.o o).sw.windowSeen
  let s := s.modSw o fun w => { w with phase := .off, faultEnd := false }
  let s := if seen then s else s.outSwitch o 5
  let s := s.modSes o fun x => { x with windowPassed := true }
  let s := if late then s.raiseFor 36 o 0 else s
  let s := s.tripReport o
  let s := if (s.o o).ses.st == .energising && (s.outletFaults o).isEmpty then s.fwTo o .paused (s.o o).sw.openCause else s
  s.lockSession o

/-- WELD_WINDOW_END (R121 step 4, R123, R124, R135): a presence that still stands is judged, then the opening is complete. -/
def execWeldWindowEnd (o : ONum) (s : State) : Out :=
  onlyIf ((s.o o).sw.phase == .released) s fun s => (s.judgeWeld o).weldEnded o

/-- FAULTED_PRESENCE_CLEAR (R130): no presence for 40 ms in FAULTED unlocks. -/
def execFaultedPresenceClear (o : ONum) (s : State) : Out :=
  onlyIf ((s.o o).ses.st == .faulted && (s.o o).sw.presence == 0 && !s.coil o && s.hasLock o && (s.o o).lock.locked
      && (s.o o).lock.target.isNone && decide ((s.o o).sw.presAt.getD 0 + 40 ≤ s.up)) s fun s => s.askLock o false

/-- Lock pulses, or brakes, that hold a place in the bank of outlet `o` (R548). -/
def State.bankPulses (s : State) (o : ONum) : Nat :=
  (outlets.filter fun x => x.val / 6 == o.val / 6 && ((s.o x).lock.drive != .off || (s.o x).lock.braking)).length

/-- LOCK_PULSE (R128, R130, R548). -/
def execLockPulse (o : ONum) (s : State) : Out :=
  let l := (s.o o).lock
  onlyIf (l.waiting && l.target.isSome && !s.coil o && !l.braking && s.bankPulses o < 2 && !s.pwr.shed) s fun s =>
    s.modLock o fun l => { l with waiting := false, due := false, drive := if l.target == some true then .lock else .unlock }

/-- LOCK_PULSE_END (R128, R558): the brake begins. -/
def execLockPulseEnd (o : ONum) (s : State) : Out :=
  onlyIf ((s.o o).lock.drive != .off) s fun s =>
    (s.modLock o fun l => { l with drive := .off, braking := true, due := true }).lockDone o

/-- LOCK_BRAKE_END (R558). -/
def execLockBrakeEnd (o : ONum) (s : State) : Out :=
  onlyIf (s.o o).lock.braking s fun s => s.modLock o fun l => { l with braking := false }

/-- A failed attempt of the lock (R129): one retry, then the fault and what waited for it. A position asked for meanwhile takes the
place of the retry (R130). -/
def State.lockFailed (s : State) (o : ONum) : State :=
  let l := (s.o o).lock
  match l.after with
  | some p => (s.modLock o fun l => { l with due := false, tries := 0, target := none, after := none }).askLock o p
  | none =>
    if l.tries = 0 then s.modLock o fun l => { l with due := false, tries := 1 }
    else if l.target == some true then
      (s.modLock o fun l => { l with due := false, tries := 0, target := none }).raiseRetried 40 o.val 0
    else
      ((s.modLock o fun l => { l with
        due := false, tries := 0, target := none, openFailed := true, unlockTags := [] }).raiseRetried 41 o.val 0).finishUnlocks 8 l.unlockTags

/-- LOCK_FEEDBACK_CHECK (R128, R129): the attempt has failed if LKFB does not show the position. -/
def execLockFeedbackCheck (o : ONum) (s : State) : Out :=
  let l := (s.o o).lock
  onlyIf (l.due && l.target.isSome && l.target != some l.locked) s fun s => s.lockFailed o

/-- LOCK_RETRY (R129). -/
def execLockRetry (o : ONum) (s : State) : Out :=
  let l := (s.o o).lock
  onlyIf (l.target.isSome && l.tries == 1 && !l.due && !l.waiting && l.drive == .off) s fun s =>
    s.modLock o fun l => { l with waiting := true }

/-- A card, PIN or contract ID is presented to an outlet; after EC at the keypad, a card or PIN requests emergency credit on
its account instead (R131, R458). -/
def State.present (s : State) (o : ONum) (src : Nat) (id : Bytes) : State :=
  if s.cr.ecReq && src ≤ 1 then
    match s.bindingOf src id with
    | some a => s.askEmergency a
    | none => { s with cr := { s.cr with ecReq := false } }
  else s.identify o { src := src, id := id }

/-- IDENTIFICATION (R131 to R133, R135, R458). The host's own goes through OUTLET_AUTH (R145). -/
def execIdentification (o : ONum) (src : Nat) (id : Bytes) (s : State) : Out :=
  onlyIf (s.fwRuns && src < 3) s fun s => s.present o src id

/-- HELD_IDENT_EXPIRY (R132). -/
def execHeldIdentExpiry (o : ONum) (s : State) : Out :=
  .next (s.modSes o fun x => { x with held := none })

/-- AUTH_TIMEOUT (R131). -/
def execAuthTimeout (o : ONum) (s : State) : Out :=
  onlyIf (s.fwRuns && (s.o o).ses.st == .authorising && (s.o o).ses.pend.isSome) s fun s => s.refuseAuth o 4

/-! ### Meanings: commands -/

/-- OUTLET_CONFIG_SET fields in range (R142). -/
def outletCfgOk (p : Bytes) : Bool :=
  outletFits p 0 && ((u8 p 1 == 1 && 1 ≤ u8 p 2 && u8 p 2 ≤ 3) || (u8 p 1 == 3 && u8 p 2 == 0)) && u8 p 3 ≤ 1
    && (u8 p 4 == 0 || (6 ≤ u8 p 4 && u8 p 4 ≤ 40)) && u8 p 5 ≤ 1 && 5 ≤ u8 p 6 && u8 p 6 ≤ 30 && 5 ≤ u8 p 7 && u8 p 7 ≤ 15
    && u8 p 8 ≤ 1 && u8 p 9 ≤ 2 && 5 ≤ u16 p 10 && u16 p 10 ≤ 120 && u8 p 12 ≤ 1

/-- OUTLET_CONFIG_SET (R142). -/
def execOutletConfigSet (q : Req) (s : State) : Out :=
  let o := outletArg q.payload 0
  mail { op := 0x0201, pair := 1, lo := 16, hi := 16 } q s (outletCfgOk q.payload) fun s =>
    if (s.o o).ses.st != .idle && (s.o o).ses.st != .outOfService then s.no 0x03
    else
      ((s.ceilingTo o fun s => { s with cfg := { s.cfg with
        outlet := s.cfg.outlet.set o.val (q.payload.take 13 ++ zeros 3) o.isLt } }).effect 1 q.tag 0x0201).ok

/-- OUTLET_CONFIG_GET (R143). -/
def execOutletConfigGet (q : Req) (s : State) : Out :=
  let o := outletArg q.payload 0
  mail { op := 0x0202, pair := 1, lo := 1, hi := 1 } q s (outletFits q.payload 0) fun s =>
    s.ok (s.cfg.outlet.get o ++ toLE 2 (s.rated o))

/-- The status payload of an outlet (R144). CABLE of a tethered outlet is its configured rating (log entry 68). -/
def State.outletStatus (s : State) (o : ONum) : Bytes :=
  let x := s.o o
  let w := x.sw
  toLE 1 o.val ++ toLE 1 x.ses.st.code ++ toLE 1 (s.pilotState o) ++ toLE 1 x.pilot.mode.code ++ toLE 2 x.pilot.duty
    ++ toLE 1 (if s.cable o = 0 then x.pp.acc else s.cable o)
    ++ toLE 1 (b2n (s.coil o) + 2 * b2n w.mirrorOpen + 4 * b2n w.sswen + 8 * b2n w.sswfb + 16 * (w.presence % 8) + 128 * b2n x.lock.locked)
    ++ toLE 2 (s.ceiling o) ++ toLEs 2 x.pilot.setpoint ++ toLE 4 x.ses.num ++ toLE 2 x.ses.account ++ toLE 1 x.ses.cause ++ zeros 1

/-- OUTLET_STATUS_GET (R144). -/
def execOutletStatusGet (q : Req) (s : State) : Out :=
  mail { op := 0x0203, pair := 1, lo := 1, hi := 1 } q s (outletFits q.payload 0) fun s =>
    s.ok (s.outletStatus (outletArg q.payload 0))

/-- OUTLET_AUTH (R145). -/
def execOutletAuth (q : Req) (s : State) : Out :=
  let o := outletArg q.payload 0
  let accept := u8 q.payload 1 == 1
  let seq := u16 q.payload 2
  let account := u16 q.payload 4
  mail { op := 0x0204, pair := 1, lo := 6, hi := 6 } q s
    (outletFits q.payload 0 && u8 q.payload 1 ≤ 1 && account ≤ 1023) fun s =>
    let x := (s.o o).ses
    if seq ≠ 0xFFFF then
      if x.st == .authorising && x.pend.isSome && x.pendSeq == seq then
        (if accept then s.acceptAuth o account 5 else s.refuseAuth o 3).ok
      else s.no 0x0B
    else if x.st != .plugged then s.no 0x03
    else
      let s := s.authorise o 1
      (if accept then s.acceptAuth o account 2 else s.refuseAuth o 3).ok

/-- OUTLET_STOP (R146). -/
def execOutletStop (q : Req) (s : State) : Out :=
  let o := outletArg q.payload 0
  mail { op := 0x0205, pair := 1, lo := 2, hi := 2 } q s (outletFits q.payload 0) fun s =>
    match (s.o o).ses.st with
    | .ready | .energising | .paused =>
      ((s.modSes o fun x => { x with hreason := u8 q.payload 1 }).toEnding o 7).ok
    | .authorising => ((s.abandon o).setSess o .plugged 7).ok
    | .ending => s.ok
    | _ => s.no 0x06

/-- The cause of an outlet fault that OUTLET_SERVICE would clear persists (R147, R210). -/
def State.serviceHolds (s : State) (o : ONum) (src : Nat) : Bool :=
  let x := s.o o
  if src = 38 then true
  else if 42 ≤ src && src ≤ 50 then x.prot.active != 0 || !x.prot.frontGood || !x.prot.stSince
  else if src = 35 then s.cable o == 0 && x.pp.acc == 255
  else if src = 36 then x.sw.phase == .off && x.sw.mirrorOpen
  else false

/-- The sources that OUTLET_SERVICE with action 2 clears (R136). -/
def serviceSource (src : Nat) : Bool := outletFaultSource src && !((32 ≤ src && src ≤ 34) || src == 38)

/-- The occurrences of a list of sources of an outlet cleared. -/
def State.clearAll (s : State) (o : ONum) : List Nat → State
  | [] => s
  | src :: t => State.clearAll (if serviceSource src then s.clearOcc src o.val else s) o t

/-- Outlet faults cleared (R136, R189, R737): the trip latch, the ends of SF2 and SF5, FAULTED left. -/
def State.clearOutlet (s : State) (o : ONum) : State :=
  let fs := s.outletFaults o
  if !(fs.any serviceSource) then s
  else
    let s := s.clearAll o fs
    let s := s.modProt o fun p => { p with latch := if p.active = 0 then 0 else p.latch }
    let s := if fs.any fun f => f == 43 || f == 45 || f == 46 then s.sfEnd 2 o.val else s
    let s := if fs.contains 122 then s.sfEnd 5 o.val else s
    s.faultedExit o false 14

/-- One action of OUTLET_SERVICE on one outlet (R135, R147). -/
def State.service (s : State) (action : Nat) (o : ONum) : State :=
  if action = 0 then s.sessTo o .outOfService 14
  else if action = 1 then (if s.control o = 2 then s.setControl o 1 else s).oosExit o 14
  else s.clearOutlet o

/-- An action on a list of outlets. -/
def State.serviceAll (s : State) (action : Nat) : List ONum → State
  | [] => s
  | o :: t => State.serviceAll (s.service action o) action t

/-- The action is refused on an outlet (R147). -/
def State.serviceRefused (s : State) (action : Nat) (o : ONum) : Bool :=
  (action == 1 && (s.latchedQ 38 o.val || s.confirmPending)) || (action == 2 && (s.outletFaults o).any (s.serviceHolds o))

/-- OUTLET_SERVICE (R147): all or nothing with OUTLET 0xFF; a return is DENIED while an outlet is disconnected (12 R430). -/
def execOutletService (q : Req) (s : State) : Out :=
  let l := if u8 q.payload 0 = 0xFF then outlets else [outletArg q.payload 0]
  let action := u8 q.payload 1
  mail { op := 0x0206, pair := 1, lo := 2, hi := 2 } q s ((outletFits q.payload 0 || u8 q.payload 0 == 0xFF) && action ≤ 2) fun s =>
    if action = 1 && l.any (fun o => s.control o == 0) then s.no 0x04
    else if l.any (s.serviceRefused action) then s.no 0x03 else (s.serviceAll action l).ok

/-- OUTLET_UNLOCK (R148): its completion follows the feedback. -/
def execOutletUnlock (q : Req) (s : State) : Out :=
  let o := outletArg q.payload 0
  mail { op := 0x0207, pair := 1, lo := 1, hi := 1 } q s (outletFits q.payload 0) fun s =>
    if !s.hasLock o then s.no 0x05 else
    let x := (s.o o).ses
    let may := match x.st with
      | .idle | .plugged | .faulted | .outOfService => true
      | .ending => x.windowPassed
      | _ => false
    if !may || s.coil o then s.no 0x03
    else ((s.askLock o false).modLock o fun l => { l with unlockTags := l.unlockTags ++ [q.tag] }).wait

end Sys2Proof.Machine
end

