-- ==== Sys2Proof/Machine/Ledger.lean ====
section
/-! DEFINITION. The billing ledger: records and their chain, commits, boundary instants, billing time (11). -/

namespace Sys2Proof.Machine

/-! ### Records -/

/-- Bytes 0 to 119 of a record (R378). -/
def LRec.front (r : LRec) : Bytes :=
  toLE 1 r.type ++ toLE 1 r.flags ++ toLE 1 r.outlet ++ toLE 1 r.tariff ++ toLE 4 r.gen ++ toLE 8 r.time ++ toLE 4 r.lseq
    ++ toLE 4 r.period ++ padTo 64 r.payload ++ padTo 32 r.link

/-- The 128 bytes of a record (R378). -/
def LRec.bytes (r : LRec) : Bytes :=
  let b := r.front ++ toLE 4 r.aux
  b ++ toLE 4 (crc32c b)

/-- LINK of the record that follows the newest one; of the first record, over the device identity (R378, R379). -/
def linkAfter (prev : Option LRec) : Bytes :=
  match prev with
  | some r => Config.sha256 r.bytes
  | none => Config.sha256 (toLE 8 Config.uid.toNat)

/-- A SEAL record with its CMAC over bytes 4 to 7 and 88 to 119 (R380, R381). -/
def sealed (key : Bytes) (slot : Nat) (r : LRec) : LRec :=
  if r.type = 0x0E then
    { r with payload := padTo 64 (toLE 1 slot ++ zeros 7
        ++ padTo 16 (Config.cmac key ((r.front.drop 4).take 4 ++ (r.front.drop 88).take 32))) }
  else r

/-- Records numbered and linked after the newest one, oldest first (R378, R379, R381). -/
def chained (key : Bytes) (slot gen : Nat) (prev : Option LRec) : List LRec → List LRec
  | [] => []
  | r :: t =>
    let g := wrapInc 32 gen
    let r := sealed key slot { r with gen := g, link := linkAfter prev }
    r :: chained key slot g (some r) t

/-! ### Registers -/

/-- Energy registers +A, −A, Q1 to Q4 of outlet `o` in a list of them. -/
def regOf (l : List (List Nat)) (o : Nat) : List Nat := l.getD o [0, 0, 0, 0, 0, 0]

/-- The eight tariff registers of outlet `o` in a list of them. -/
def tregOf (l : List (List Nat)) (o : Nat) : List Nat := l.getD o [0, 0, 0, 0, 0, 0, 0, 0]

/-- The site value of entry `k`: the sum over the outlets. -/
def siteSum (f : Nat → List Nat) (k : Nat) : Nat := ((List.range 24).map fun o => (f o).getD k 0).foldl (· + ·) 0

/-- The whole units of the latched outlet accumulators; the committed registers while no latch has fallen since the start. -/
def State.latVals (s : State) : List (List Nat) :=
  if s.en.latch.acc.isEmpty then (List.range 24).map (regOf s.bill.regs)
  else (List.range 24).map fun o => (List.range 6).map fun k => units (s.latOf o (21 + k))

/-- Tariff registers after energy of direction `k` from `old` to `new` under register `t` (R380). -/
def booked (treg old new : List (List Nat)) (k t : Nat) : List (List Nat) :=
  (List.range 24).map fun o => modAt (tregOf treg o) (t - 1) fun v => v + ((regOf new o).getD k 0 - (regOf old o).getD k 0)

/-- An ENERGY record (R380). -/
def energyRec (o t lseq : Nat) (v : List Nat) (ti te : Nat) : LRec :=
  { type := 0x01, outlet := o, tariff := t, lseq := lseq
    payload := ((List.range 6).map fun k => toLE 8 (v.getD k 0)).flatten ++ toLE 8 ti ++ toLE 8 te }

/-- ENERGY records of one latch: the outlets whose registers changed, and the site (R382). -/
def energyRecs (old new tI tE : List (List Nat)) (t lseq : Nat) : List LRec :=
  let ch := (List.range 24).filter fun o => regOf old o != regOf new o
  (ch.map fun o => energyRec o t lseq (regOf new o) ((tregOf tI o).getD (t - 1) 0) ((tregOf tE o).getD (t - 1) 0))
    ++ [energyRec 0xFF t lseq ((List.range 6).map (siteSum (regOf new))) (siteSum (tregOf tI) (t - 1)) (siteSum (tregOf tE) (t - 1))]

/-- Eight registers as a payload (R380). -/
def tregBytes (l : List Nat) : Bytes := ((List.range 8).map fun k => toLE 8 (l.getD k 0)).flatten

/-- TREG_IMP and TREG_EXP of every outlet and of the site: a checkpoint (R383). -/
def checkpoint (tI tE : List (List Nat)) (lseq period : Nat) : List LRec :=
  let one (o : Nat) (i e : List Nat) : List LRec :=
    [{ type := 0x07, outlet := o, lseq := lseq, period := period, payload := tregBytes i },
     { type := 0x08, outlet := o, lseq := lseq, period := period, payload := tregBytes e }]
  ((List.range 24).map fun o => one o (tregOf tI o) (tregOf tE o)).flatten
    ++ one 0xFF ((List.range 8).map (siteSum (tregOf tI))) ((List.range 8).map (siteSum (tregOf tE)))

/-- A MAXDEM payload (R380). -/
def maxBytes (x : Nat × Nat × Nat × Nat) : Bytes :=
  toLE 4 x.1 ++ zeros 4 ++ toLE 8 x.2.1 ++ toLE 4 x.2.2.1 ++ zeros 4 ++ toLE 8 x.2.2.2 ++ zeros 32

/-! ### Sessions in a commit -/

/-- What a session is charged by: its energy under each register so far. -/
structure Meter where
  outlet : Nat
  account : Nat
  imp0 : Nat
  exp0 : Nat
  impT : List Nat
  expT : List Nat
  debited : Int
  deriving DecidableEq, Repr

/-- The session's energy up to registers `v` booked under register `t` (R444). -/
def Meter.upTo (m : Meter) (v : List (List Nat)) (t : Nat) : Meter :=
  let part (tot : Nat) (l : List Nat) : List Nat := modAt l (t - 1) fun x => x + (tot - l.foldl (· + ·) 0)
  { m with
    impT := part ((regOf v m.outlet).getD 0 0 - units m.imp0) m.impT
    expT := part ((regOf v m.outlet).getD 1 0 - units m.exp0) m.expT }

/-- The charge of a session: its account debited, with an ACCOUNT record where the amount is not 0 (R444, R445). -/
def State.charge (s : State) (m : Meter) : State × Meter × List LRec :=
  if 1024 ≤ m.account then (s, m, [])
  else
    let cost := s.sessionCost m.account m.impT m.expT
    let d := cost - m.debited
    if d = 0 then (s, m, [])
    else (s.credit m.account (-d), { m with debited := cost }, [s.creditRec 0x20 [m.account, -d]])

/-- What a running session has been charged, kept with it and with its persistent record (R140, R444). -/
def State.keepCharge (s : State) (o : ONum) (m : Meter) : State :=
  let num := (s.o o).ses.num
  let s := s.modSes o fun z => { z with impT := m.impT, expT := m.expT, debited := m.debited }
  { s with store := { s.store with openSess := s.store.openSess.map fun (r : SessRec) =>
      if r.num == num then { r with impT := m.impT, expT := m.expT, debited := m.debited } else r } }

/-- Every session charged, in outlet order: ended sessions first, then the open one of each outlet. -/
def State.chargeAll (s : State) (segs : List (List (List Nat) × Nat)) : State × List LRec :=
  let book (m : Meter) : Meter := segs.foldl (fun m e => m.upTo e.1 e.2) m
  let ended (s : State) (o : ONum) : State × List LRec :=
    let step (acc : State × List SessRec × List LRec) (r : SessRec) : State × List SessRec × List LRec :=
      if r.outlet = o.val then
        let m : Meter := { outlet := r.outlet, account := r.account, imp0 := r.imp0, exp0 := r.exp0, impT := r.impT,
                           expT := r.expT, debited := r.debited }
        let x := acc.1.charge (book m)
        (x.1, acc.2.1 ++ [{ r with impT := x.2.1.impT, expT := x.2.1.expT, debited := x.2.1.debited }], acc.2.2 ++ x.2.2)
      else (acc.1, acc.2.1 ++ [r], acc.2.2)
    let x := s.bill.sess.foldl step (s, [], [])
    ({ x.1 with bill := { x.1.bill with sess := x.2.1 } }, x.2.2)
  let live (s : State) (o : ONum) : State × List LRec :=
    let x := (s.o o).ses
    if x.num = 0 || x.queued then (s, [])
    else
      let m : Meter := { outlet := o.val, account := x.account, imp0 := x.imp0, exp0 := x.exp0, impT := x.impT,
                         expT := x.expT, debited := x.debited }
      let y := s.charge (book m)
      (y.1.keepCharge o y.2.1, y.2.2)
  outlets.foldl (fun acc o =>
    let a := ended acc.1 o
    let b := live a.1 o
    (b.1, acc.2 ++ a.2 ++ b.2)) (s, [])

/-- Import and export of an ended session, µWh, never netted (R149). -/
def SessRec.energy (r : SessRec) (v : List (List Nat)) : Nat × Nat :=
  ((regOf v r.outlet).getD 0 0 - units r.imp0, (regOf v r.outlet).getD 1 0 - units r.exp0)

/-- Whole seconds from START to the end (R149). -/
def SessRec.duration (r : SessRec) : Nat := (r.fin - r.start) / 1000

/-- A SESSION record (R380). -/
def SessRec.record (r : SessRec) (v : List (List Nat)) (lseq : Nat) : LRec :=
  { type := 0x03, outlet := r.outlet, lseq := lseq
    payload := padTo 64 (toLE 4 r.num ++ toLE 2 r.account ++ toLE 1 r.cause ++ toLE 1 r.hreason ++ toLE 8 r.start
      ++ toLE 4 r.duration ++ zeros 4 ++ toLE 8 (r.energy v).1 ++ toLE 8 (r.energy v).2 ++ toLEs 8 r.debited
      ++ toLE 1 (b2n r.bidir + 2 * b2n r.replay)) }

/-- OUT_SESSION_END, and the outlet told that its record is committed (R149). -/
def State.sessEnd (s : State) (r : SessRec) (v : List (List Nat)) (gen : Nat) : State :=
  let s := s.emit 1 0x0284 (toLE 1 r.outlet ++ toLE 1 r.cause ++ toLE 2 r.account ++ toLE 4 r.num ++ toLE 8 (r.energy v).1
    ++ toLE 8 (r.energy v).2 ++ toLE 8 r.start ++ toLE 4 r.duration ++ toLE 4 gen)
  let s := s.forgetSess r.num
  if h : r.outlet < 24 then
    let o : ONum := ⟨r.outlet, h⟩
    let s := (s.modSes o fun y => { y with lastWh := (r.energy v).1 / 1000000 % 2 ^ 32, lastAccount := r.account }).lastState
    let s := { s with cfg := { s.cfg with budOut := s.cfg.budOut.set o.val (overlay (s.cfg.budOut.get o) 8 [0, 0]) o.isLt } }
    let x := (s.o o).ses
    if x.num != r.num then s
    else if x.st == .ending then (s.modSes o fun y => { y with committed := true }).endStep o
    else if x.st == .ready || x.st == .energising || x.st == .paused then s
    else s.modSes o fun y => { y with
      num := 0, account := 0xFFFF, endCause := none, queued := false, committed := false, hreason := 0 }
  else s

/-! ### Commits -/

/-- What is written beside the records of a commit. -/
structure CommitArgs where
  cause : Nat
  flags : Nat := 0
  boundary : Nat := 0
  kinds : Nat := 0
  deriving DecidableEq, Repr

/-- The slot that seals, where SEAL_SLOT names one with CMAC (R381). -/
def State.sealSlot (s : State) : Option Nat :=
  let k := u8 s.cfg.bill 6
  if k = 0xFF || (s.slotRefuses k 3 2).isSome then none else some k

/-- Records before the checkpoint and SEAL rules: a COMMIT_END closes them (R381 to R383). -/
def State.closeCommit (s : State) (recs : List LRec) (closing : Bool) (lseq : Nat) (a : CommitArgs) : List LRec :=
  let recs := if !closing && 50000 ≤ s.bill.sinceCp + recs.length then
      recs ++ checkpoint s.bill.tregI s.bill.tregE lseq s.bak.period else recs
  let carried :=
    let l := s.store.ledger
    if l.length + recs.length + 2 ≤ 8388608 then []
    else
      let keep (e : LRec × Nat) : Bool :=
        (6 ≤ e.1.type && e.1.type ≤ 9 && decide (s.bak.period ≤ e.1.period + 24)) || decide (e.2 < s.bill.sinceCp + 50)
      ((l.zipIdx.drop (8388608 - recs.length - 2 - Config.ledgerBlock)).filter keep).map fun e =>
        { e.1 with flags := e.1.flags ||| 4, aux := e.1.gen }
  let recs := recs ++ carried.reverse
  let recs := if s.sealSlot.isSome && (closing || 65536 ≤ s.bill.sinceSeal + recs.length) then
      recs ++ [({ type := 0x0E } : LRec)] else recs
  recs ++ [{ type := 0x02
             payload := padTo 64 (toLE 1 a.cause ++ zeros 1 ++ toLE 2 (recs.length + 1) ++ toLE 4 lseq ++ toLE 4 a.boundary
               ++ toLE 1 a.kinds) }]

/-- A complete commit: the records numbered, linked and appended; the counters, and the commit base that META takes at its
next latch (R378 to R384). Registers have been set before. -/
def State.appendCommit (s : State) (recs : List LRec) (closing : Bool) (lseq : Nat) (a : CommitArgs) : State × List LRec :=
  let base := (List.range 24).map fun o => ((regOf s.bill.regs o).getD 0 0, (regOf s.bill.regs o).getD 1 0)
  let all := s.closeCommit recs closing lseq a
  let fill (r : LRec) : LRec := { r with
    flags := r.flags ||| a.flags ||| (if s.bill.unver then 32 else 0)
    time := if r.time = 0 then s.bill.time else r.time
    period := if r.period = 0 then s.bak.period else r.period }
  let slot := s.sealSlot.getD 0
  let out := chained (s.slot slot).mat slot s.store.gen s.store.ledger.head? (all.map fill)
  let ledger := out.reverse ++ s.store.ledger
  let ledger := if ledger.length ≤ 8388608 then ledger else ledger.take (8388608 - Config.ledgerBlock)
  let hasCp := out.any fun r => r.type == 0x07
  let hasSeal := out.any fun r => r.type == 0x0E
  let gen := (s.store.gen + out.length) % 2 ^ 32
  ({ s with
    store := { s.store with ledger := ledger, gen := gen }
    bill := { s.bill with
      lastCommit := s.bill.time, lastLseq := lseq
      newBase := some (lseq, base, s.bill.tariff)
      sinceCp := if hasCp then 0 else s.bill.sinceCp + out.length
      sinceSeal := if hasSeal then 0 else s.bill.sinceSeal + out.length } }, out)

/-- BILL_BOUNDARY (11). -/
def State.evtBoundary (s : State) (p : BPlan) (src flags gen : Nat) : State :=
  s.emit 5 0x0880 (toLE 1 p.kinds ++ toLE 1 src ++ toLE 1 p.dst ++ toLE 1 flags ++ toLE 4 p.lseq ++ toLE 8 p.time
    ++ toLE 4 s.bak.period ++ toLE 4 gen)

/-- BILL_PERIOD, and the completion of a commanded close once a period close has served it (R412). -/
def State.periodDone (s : State) (p : BPlan) (gen : Nat) : State :=
  match p.closed with
  | none => s
  | some c =>
    let s := s.emit 5 0x0883 (toLE 4 c.period ++ toLE 1 p.cause ++ zeros 3 ++ toLE 8 c.fin ++ toLE 4 gen)
    match s.bill.closeTag with
    | some tag =>
      if s.bill.closeAt.isNone then
        ((({ s with bill := { s.bill with closeTag := none } }).effect 5 tag 0x080A).finish 5 tag 0 (toLE 4 c.period))
      else s
    | none => s

/-- FLAGS of the records of a boundary (R378): bit 0 LATE, and bit 4 for a step or an outage that it makes up for. -/
def BPlan.mark (p : BPlan) (r : LRec) : LRec :=
  { r with flags := r.flags ||| b2n p.late ||| (if bit p.kinds 4 || bit p.kinds 5 then 16 else 0) }

/-- What a worked-out boundary puts in force once it is committed (R402 to R405). -/
def State.enforce (s : State) (p : BPlan) : State :=
  let act := bit p.kinds 3
  let s := { s with
    bill := { s.bill with
      tariff := p.dst, dem := p.dem, plan := none, running := false, armFrom := max s.bill.armFrom p.time
      closeAt := if p.closed.isSome then s.bill.closeAt.filter (fun t => decide (p.time < t)) else s.bill.closeAt
      periodStart := if p.closed.isSome then p.time else s.bill.periodStart
      demCfg := if p.closed.isSome then [u8 s.cfg.bill 0, u8 s.cfg.bill 1, u8 s.cfg.bill 2] else s.bill.demCfg }
    store := { s.store with
      activateAt := if act then none else s.store.activateAt
      demCfg := if p.closed.isSome then [u8 s.cfg.bill 0, u8 s.cfg.bill 1, u8 s.cfg.bill 2] else s.store.demCfg }
    bak := { s.bak with
      horizon := p.time, bPending := false, period := if p.closed.isSome then wrapInc 32 s.bak.period else s.bak.period } }
  let s := if act then { s with cfg := { s.cfg with calActive := s.cfg.calPassive, calPassive := [] } } else s
  match p.closed with
  | some c => { s with store := { s.store with periods := (c :: s.store.periods).take 24 } }
  | none => s

/-- The register monitor over the site's import demand (12 Objects): a threshold that the last demand value crossed upwards runs
its script, which sets a bit of the alarm register (DLMS_ALARM; DESIGN CHOICE, log entry 37). -/
def State.monitor (s : State) (was : Nat) : State :=
  let now := (s.bill.dem.run.getD 24 (0, 0)).1
  (List.range 4).foldl (fun s i =>
    let th := s.store.thrs.getD i 0
    if th ≠ 0 && was < th && th ≤ now then
      let s := { s with dl := { s.dl with alarm := s.dl.alarm ||| 2 ^ i } }
      s.emit 5 0x0981 (toLE 1 s.dl.alarm ++ toLE 1 i ++ zeros 2 ++ toLE 4 now ++ toLE 8 s.bak.rtc)
    else s) s

/-- Power in W of an energy in µWh over a number of seconds. -/
def powerOf (e div : Nat) : Nat := if div = 0 then 0 else e * 3600 / (div * 1000000)

/-- Running demand of each outlet and of the site on registers `v`: the energy of the open interval so far, its earlier subintervals included,
over its length (R398, R410). -/
def State.runDemand (s : State) (v : List (List Nat)) : List (Nat × Nat) :=
  let d := s.bill.dem
  let subs := lastN (s.demSubs - 1) d.subs
  let start := (subs.head?.map (·.start)).getD d.start
  let irregular := d.irregular || subs.any (·.irregular)
  let div := if irregular then max (s.demLen / 1000) ((s.bill.time - start) / 1000) else s.demLen / 1000
  let e (base : List Nat) (f : DemSub → List Nat) (k o : Nat) : Nat :=
    (regOf v o).getD k 0 - base.getD o 0 + (subs.map fun x => (f x).getD o 0).foldl (· + ·) 0
  let imp := (List.range 24).map (e d.imp0 (·.imp) 0)
  let exp := (List.range 24).map (e d.exp0 (·.exp) 1)
  (List.zipWith (fun a b => (powerOf a div, powerOf b div)) imp exp)
    ++ [(powerOf (imp.foldl (· + ·) 0) div, powerOf (exp.foldl (· + ·) 0) div)]

/-- The running demand as of this commit (R410). -/
def State.keepRun (s : State) (v : List (List Nat)) : State :=
  let run := s.runDemand v
  { s with bill := { s.bill with dem := { s.bill.dem with run := run } } }

/-- One commit that serves everything pending (R382 to R384, R402, R444, R445, R452). -/
def State.commitAll (s : State) (cause flags : Nat) : State :=
  let plan := s.bill.plan
  let was := (s.bill.dem.run.getD 24 (0, 0)).1
  let old := s.bill.regs
  let src := s.bill.tariff
  -- the boundary, under the register before it
  let pv := (plan.map fun p => p.vals).getD old
  let tI1 := if plan.isSome then booked s.bill.tregI old pv 0 src else s.bill.tregI
  let tE1 := if plan.isSome then booked s.bill.tregE old pv 1 src else s.bill.tregE
  let recs1 := match plan with
    | some p => ((energyRecs old pv tI1 tE1 src p.lseq).map (fun (r : LRec) => { r with time := p.time, period := s.bak.period }) ++ p.recs).map p.mark
    | none => []
  let s := match plan with
    | some p => s.enforce p
    | none => s
  -- the latest latch, under the register in force
  let newer := match plan with
    | some p => s.en.latch.seq != p.lseq
    | none => true
  let lseq := s.en.latch.seq
  let v := if newer then s.latVals else pv
  let tI2 := booked tI1 pv v 0 s.bill.tariff
  let tE2 := booked tE1 pv v 1 s.bill.tariff
  let recs2 := if newer then energyRecs pv v tI2 tE2 s.bill.tariff lseq else []
  let s := { s with bill := { s.bill with regs := v, tregI := tI2, tregE := tE2 } }
  -- charges, sessions, credits
  let segs := (if plan.isSome then [(pv, src)] else []) ++ [(v, s.bill.tariff)]
  let (s, recsC) := s.chargeAll segs
  let ended := s.bill.sess
  let recsS := ended.map fun r => r.record v lseq
  let ops := s.cr.ops
  let s := { s with cr := { s.cr with ops := [] } }
  let (s, recsO, done) := ops.foldl (fun acc w =>
    let x := acc.1.applyCredit w.op
    (x.1, acc.2.1 ++ x.2.1, acc.2.2 ++ [(w, x.2.2)])) ((s, [], []) : State × List LRec × List (CreditWait × Bytes))
  let recs3 := s.bill.recs
  let cmds := s.bill.cmds
  let s := { s with bill := { s.bill with sess := [], recs := [], trig := [], cmds := [], stepBusy := false } }
  let closing := (plan.bind fun p => p.closed).isSome
  let (s, out) := s.appendCommit (recs1 ++ recs2 ++ recsS ++ recs3 ++ recsC ++ recsO) closing lseq
    { cause := cause, flags := flags, boundary := (plan.map fun p => p.lseq).getD 0, kinds := (plan.map fun p => p.kinds).getD 0 }
  let gen := s.store.gen
  -- completions and events
  let s := cmds.foldl (fun s c => if h : c.1 < 16 then s.finish ⟨c.1, h⟩ c.2 0 (toLE 4 gen) else s) s
  let gens := (out.filter fun r => r.type == 0x03).map fun r => r.gen
  let s := ended.zipIdx.foldl (fun s e => s.sessEnd e.1 v (gens.getD e.2 0)) s
  let s := match plan with
    | some p => ((s.evtBoundary p src (b2n p.late + 2 * b2n (cause == 4)) gen).periodDone p gen).monitor was
    | none => (s.keepRun v).monitor was
  let s := s.keepRun v
  let s := done.foldl (fun s e =>
    let s := match e.1.reply with
      | some r => s.sendReply r
      | none => s
    match e.1.cmd with
    | some c =>
      if h : c.1 < 16 then
        let n : PNum := ⟨c.1, h⟩
        let op := (((s.pr n).inflight.find? fun x => x.tag == c.2).map fun x => x.op).getD 0
        (s.effect n c.2 op).finish n c.2 0 e.2
      else s
    | none => s) s
  s.followAll

/-! ### Boundary sequence -/

/-- One demand value of one direction: maxima as (value, start). -/
def newMax (m : Nat × Nat) (v start : Nat) : (Nat × Nat) × Bool := if m.1 < v then ((v, start), true) else (m, false)

/-- Demand closed at billing time `t` on registers `v` (R398, R399): the DEMAND records and the interval that opens. -/
def State.closeDemand (s : State) (t lseq : Nat) (v : List (List Nat)) (irregularNext : Bool) : List LRec × Demand :=
  let d := s.bill.dem
  let len := s.demLen / 1000
  let sub := s.demStep / 1000
  let e (base : List Nat) (k o : Nat) : Nat := (regOf v o).getD k 0 - base.getD o 0
  let cur : DemSub := {
    start := d.start, elapsed := (t - d.start) / 1000, irregular := d.irregular
    imp := (List.range 24).map (e d.imp0 0), exp := (List.range 24).map (e d.exp0 1) }
  let subs := lastN s.demSubs (d.subs ++ [cur])
  let start := (subs.headD cur).start
  let irregular := decide (subs.length < s.demSubs) || subs.any fun x => x.irregular || x.elapsed != sub
  let div := if irregular then max len ((t - start) / 1000) else len
  let tot (f : DemSub → List Nat) (o : Nat) : Nat := (subs.map fun x => (f x).getD o 0).foldl (· + ·) 0
  let imp (o : Nat) : Nat := if o < 24 then tot (·.imp) o else ((List.range 24).map (tot (·.imp))).foldl (· + ·) 0
  let exp (o : Nat) : Nat := if o < 24 then tot (·.exp) o else ((List.range 24).map (tot (·.exp))).foldl (· + ·) 0
  let vals := (List.range 25).map fun o =>
    let pi := powerOf (imp o) div
    let pe := powerOf (exp o) div
    let m := d.max.getD o (0, 0, 0, 0)
    let a := newMax (m.1, m.2.1) pi start
    let b := newMax (m.2.2.1, m.2.2.2) pe start
    (pi, pe, (a.1.1, a.1.2, b.1.1, b.1.2), a.2, b.2)
  let rec_ (o : Nat) (x : Nat × Nat × (Nat × Nat × Nat × Nat) × Bool × Bool) : LRec :=
    { type := 0x04, outlet := if o < 24 then o else 0xFF, lseq := lseq, time := t, period := s.bak.period
      payload := padTo 64 (toLE 8 start ++ toLE 4 div ++ toLE 4 x.1 ++ toLE 4 x.2.1
        ++ toLE 1 (b2n irregular + 2 * b2n x.2.2.2.1 + 4 * b2n x.2.2.2.2)) }
  let recs := (vals.zipIdx.filter fun e => 24 ≤ e.2 || e.1.1 != 0 || e.1.2.1 != 0).map fun e => rec_ e.2 e.1
  (recs, { start := t, irregular := irregularNext
           imp0 := (List.range 24).map fun o => (regOf v o).getD 0 0
           exp0 := (List.range 24).map fun o => (regOf v o).getD 1 0
           subs := lastN (s.demSubs - 1) subs
           run := vals.map fun x => (x.1, x.2.1)
           max := vals.map fun x => x.2.2.1 })

/-- CAUSE of a tariff change (R380). -/
def State.tariffCause (s : State) (kinds t : Nat) : Nat :=
  let c := s.calAt t
  let loc := s.reached t
  let date (x : Nat) : Nat × Nat × Nat := civilDate (x / dayMs)
  let season (x : Nat) : Nat := seasonOf c (date x).2.1 (date x).2.2
  if bit kinds 4 || bit kinds 5 then 4
  else if bit kinds 3 then 3
  else if c.isEmpty then 0
  else if (dayProfile c loc).2 then 1
  else if season loc != season (s.reached (t - 60000)) then 2
  else 0

/-- Steps 2 to 4 of R402, worked out for a boundary of the given kinds at billing time `t` on the registers `v` of the latch. -/
def State.planFor (s : State) (t kinds dst lseq : Nat) (late : Bool) (v : List (List Nat)) : BPlan :=
  let src := s.bill.tariff
  let fwd := bit kinds 4 || bit kinds 5
  let (drecs, dem) := if bit kinds 0 || fwd then s.closeDemand t lseq v fwd else ([], s.bill.dem)
  let closing := bit kinds 2
  let tI := booked s.bill.tregI s.bill.regs v 0 src
  let tE := booked s.bill.tregE s.bill.regs v 1 src
  let cause := if bit kinds 5 || bit kinds 4 then 3 else if s.bill.closeAt == some t then s.bill.closeCause else 0
  let old := s.bak.period
  let sites (l : List (List Nat)) : List (List Nat) :=
    (List.range 24).map (tregOf l) ++ [(List.range 8).map (siteSum (tregOf l))]
  let precs : List LRec := if !closing then [] else
    [({ type := 0x06, lseq := lseq, time := t, period := old
        payload := padTo 64 (toLE 4 old ++ toLE 8 s.bill.periodStart ++ toLE 8 t ++ toLE 1 cause) } : LRec)]
    ++ ((List.range 25).map fun o => ({ type := 0x09, outlet := if o < 24 then o else 0xFF, lseq := lseq, time := t
                                        period := old, payload := maxBytes (dem.max.getD o (0, 0, 0, 0)) } : LRec))
    ++ checkpoint tI tE lseq old
  let trecs : List LRec := if dst = src then [] else
    [({ type := 0x05, tariff := dst, lseq := 0, time := t, period := old
        payload := padTo 64 (toLE 1 src ++ toLE 1 dst ++ toLE 1 (s.tariffCause kinds t)
          ++ toLE 1 (if (s.calAt t).isEmpty then 0 else (dayProfile (s.calAt t) (s.reached t)).1) ++ toLE 4 (u32 (s.calAt t) 8)) } : LRec)]
  { lseq := lseq, time := t, kinds := kinds, late := late, vals := v, dst := dst
    recs := drecs ++ precs ++ trecs
    dem := if closing then { dem with max := [] } else dem
    closed := if closing then some {
        period := old, start := s.bill.periodStart, fin := t, tregI := sites tI, tregE := sites tE, max := dem.max } else none
    cause := cause }

/-- The registers at the boundary latch: from the latch registers while they hold it, else from bank 2 with the reactive
registers as last committed (R14, R402). -/
def State.boundaryVals (s : State) : List (List Nat) :=
  if s.en.latch.seq = s.bill.bLseq && bit s.en.latch.kind 1 then s.latVals
  else (List.range 24).map fun o =>
    let b := s.bill.base.getD o (0, 0)
    let r := regOf s.bill.regs o
    [b.1 + s.bak.bank2.imp.getD o 0, b.2 + s.bak.bank2.exp.getD o 0] ++ r.drop 2

/-- BOUNDARY_SEQUENCE (R402 to R404): demand close, period close and tariff switch worked out from the latched values; the
commit that follows puts them in force. -/
def execBoundarySequence (s : State) : Out :=
  onlyIf (s.fwRuns && s.bill.running && s.bill.plan.isNone) s fun s =>
    let p := s.planFor s.bak.armTime s.bak.armKinds s.bak.armTnew s.bill.bLseq s.bill.bLate s.boundaryVals
    ({ s with bill := { s.bill with plan := some p, kinds := p.kinds } }).trigger 2

/-! ### Billing time -/

/-- BILL_TIME (11). -/
def State.evtTime (s : State) (kind source old new : Nat) : State :=
  s.emit 5 0x0881 (toLE 1 kind ++ toLE 1 source ++ zeros 6 ++ toLE 8 old ++ toLE 8 new)

/-- A TIME record with its commit (R380, R393). -/
def State.timeRec (s : State) (kind source old new : Nat) : State :=
  let r : LRec := { type := 0x0B, time := new, flags := if kind ≤ 1 then 16 else 0
                    payload := padTo 64 (toLE 8 old ++ toLE 8 new ++ toLE 1 kind ++ toLE 1 source) }
  { s with bill := { s.bill with recs := s.bill.recs ++ [r], trig := s.bill.trig ++ [7] } }

/-- A correction of billing time by `d` ms (R392, R393, R403, R404): up to 2 s it is slewed, beyond it is a step. -/
def State.correctTime (s : State) (d : Int) (source : Nat) : State :=
  let old := s.bill.time
  let new := ((old : Int) + d).toNat
  if d = 0 then { s with bill := { s.bill with slew := 0, slewAcc := 0 } }
  else if d.natAbs ≤ 2000 then
    ({ s with bill := { s.bill with slew := d, slewAcc := 0 } }).timeRec 2 source old new
  else
    let kind := if d < 0 then 0 else 1
    let s := { s with bill := { s.bill with
      time := new, slew := 0, slewAcc := 0, stepBusy := true, stepFwd := s.bill.stepFwd || decide (0 < d)
      dem := { s.bill.dem with irregular := true } } }
    let s := { s with bak := { s.bak with rtc := ((s.bak.rtc : Int) + d).toNat } }
    ((s.timeRec kind source old new).raise 77 0xFFFF 0).evtTime kind source old new

/-- A correction that arrives during a boundary sequence waits for its commit (R392). -/
def State.offerCorrection (s : State) (d : Int) (source : Nat) : State :=
  if s.bill.running then { s with bill := { s.bill with corr := some (d, source) } } else s.correctTime d source

/-- The source of a correction is the one that TIMESRC chooses (R391): 0 PTP while it is locked, 1 host and 2 DLMS where the time is set, 3
RTC at start. -/
def State.sourceRules (s : State) (source : Nat) : Bool :=
  match source with
  | 0 => u8 s.cfg.bill 5 == 0 && s.netOn && s.net.sync == 2
  | 3 => true
  | _ => u8 s.cfg.bill 5 == 1

/-- BILL_TIME_CORRECTION (R391 to R394): the difference of PTP time from billing time, or the one that another source finds. -/
def execBillTimeCorrection (delta : Int) (source : Nat) (s : State) : Out :=
  onlyIf (s.fwRuns && s.sourceRules source) s fun s =>
    s.offerCorrection (if source = 0 then (s.stepMs : Int) - (s.bill.time : Int) else delta) source

/-- SLEW_END (R392). -/
def execSlewEnd (s : State) : Out := .next { s with bill := { s.bill with slew := 0, slewAcc := 0 } }

/-- The next boundary's SAMPLE, with what the mirror holds about it (R349, R386, R401, R403 to R405). Boundaries that a forward
step crossed arm at once, and fire with LATE. -/
def State.armBoundary (s : State) : State :=
  if s.bill.running || s.boundaryDue || !s.en.loaded then s
  else
    let now := s.bill.time
    let src := max s.bill.armFrom s.bak.horizon
    let missed := if src < now then s.crossed src now else 0
    if missed ≠ 0 then
      let kinds := missed ||| 16 * b2n s.bill.stepFwd
      { s with
        bill := { s.bill with armFrom := now, stepFwd := false }
        bak := { s.bak with armKinds := kinds, armTnew := s.tariffAt now, armTime := now }
        en := { s.en with armed := some s.en.sample, armedLate := true } }
    else
      let (t, kinds) := s.nextBoundary (max src now)
      { s with
        bill := { s.bill with armFrom := max src now, stepFwd := false }
        bak := { s.bak with armKinds := kinds, armTnew := s.tariffAt t, armTime := t }
        en := { s.en with armed := some (s.en.sample + (t - now) * 8), armedLate := false } }

/-- BOUNDARY_ARM (R349). -/
def execBoundaryArm (s : State) : Out := onlyIf s.fwRuns s State.armBoundary

/-- 60 s of billing time have gone by since the last commit, or a step back has passed it (R382, R393). -/
def State.commitAge (s : State) : Bool :=
  decide (s.bill.lastCommit + 60000 ≤ s.bill.time) || decide (s.bill.time < s.bill.lastCommit)

/-- PERIODIC_COMMIT_TIMER (R382). -/
def execPeriodicCommitTimer (s : State) : Out :=
  onlyIf (s.fwRuns && s.commitAge && !s.bill.trig.contains 0) s fun s => s.trigger 0

/-- A boundary latch whose sequence has not run stands before every commit (R382, R402). -/
def State.commitDue (s : State) : Bool := !s.bill.trig.isEmpty && (!s.bill.running || s.bill.plan.isSome)

/-- LEDGER_COMMIT (R382 to R385, R402, R444, R445, R452): one commit for every pending trigger; `ok` says that NAND took it,
`retried` that a page needed its retry. -/
def execLedgerCommit (ok retried : Bool) (s : State) : Out :=
  onlyIf (s.fwRuns && s.en.loaded && s.commitDue) s fun s =>
    if ok then
      let s := if retried then s.transient 74 0xFFFF 0 else s
      let cause := if s.bill.plan.isSome then 2 else s.bill.trig.headD 8
      let s := s.commitAll cause 0
      match s.bill.corr with
      | some (d, src) => if s.bill.running then s else ({ s with bill := { s.bill with corr := none } }).correctTime d src
      | none => s
    else
      let s := s.raiseRetried 74 0xFFFF 0
      let cmds := s.bill.cmds
      cmds.foldl (fun s c => if h : c.1 < 16 then s.finish ⟨c.1, h⟩ c.2 9 [] else s)
        { s with bill := { s.bill with cmds := [], stepBusy := false } }

end Sys2Proof.Machine
end

