-- ==== Sys2Proof/Machine/Billing.lean ====
section
/-! DEFINITION. The billing commands (11, Billing commands). -/

namespace Sys2Proof.Machine

/-- DEM_LEN is one of the lengths of R398. -/
def demLenOk (n : Nat) : Bool := [1, 2, 3, 4, 5, 6, 10, 12, 15, 20, 30, 60].contains n

/-- A DST rule in range (R395). -/
def dstRuleOk (r : Bytes) : Bool :=
  1 ≤ u8 r 0 && u8 r 0 ≤ 12 && 1 ≤ u8 r 1 && u8 r 1 ≤ 5 && 1 ≤ u8 r 2 && u8 r 2 ≤ 7 && u8 r 3 ≤ 23

/-- BILL_CONFIG_SET fields in range (R398, R406). -/
def billCfgOk (p : Bytes) : Bool :=
  let sub := u8 p 2
  u8 p 0 ≤ 1 && demLenOk (u8 p 1) && 1 ≤ sub && sub ≤ 15 && u8 p 1 % sub == 0 && 1 ≤ u8 p 3 && u8 p 3 ≤ 28 && u8 p 4 ≤ 23
    && u8 p 5 ≤ 1 && -720 ≤ sfld p 8 2 && sfld p 8 2 ≤ 840 && (u8 p 10 == 0 || u8 p 10 == 30 || u8 p 10 == 60)
    && (u8 p 10 == 0 || (dstRuleOk ((p.drop 12).take 4) && dstRuleOk ((p.drop 16).take 4)))

/-- BILL_CONFIG_SET (R406): the demand fields at the next period close, the others at once; the next boundary is armed again. -/
def execBillConfigSet (q : Req) (s : State) : Out :=
  let p := q.payload
  mail { op := 0x0801, pair := 5, lo := 24, hi := 24 } q s (billCfgOk p) fun s =>
    let b := p.take 11 ++ zeros 1 ++ (p.drop 12).take 8 ++ zeros 4
    ((({ s with cfg := { s.cfg with bill := b } }).effect 5 q.tag 0x0801).armBoundary).ok

/-- BILL_CONFIG_GET (R406). -/
def execBillConfigGet (q : Req) (s : State) : Out :=
  mail { op := 0x0802, pair := 5 } q s true fun s => s.ok s.cfg.bill

/-- BILL_CALENDAR_WRITE (R396, R407). -/
def execBillCalendarWrite (q : Req) (s : State) : Out :=
  let r := q.bulk.getD (0, 0)
  mail { op := 0x0803, pair := 5, bulk := 1 } q s true fun s =>
    if r.2 < 2704 || !calendarOk (s.bulkGet 5 (r.1, 2704)) then s.no 5
    else if s.store.activateAt.isSome then s.no 2
    else (({ s with cfg := { s.cfg with calPassive := s.bulkGet 5 (r.1, 2704) } }).effect 5 q.tag 0x0803).ok

/-- BILL_CALENDAR_READ (R407). -/
def execBillCalendarRead (q : Req) (s : State) : Out :=
  let r := q.bulk.getD (0, 0)
  mail { op := 0x0804, pair := 5, lo := 1, hi := 1, bulk := 1 } q s (u8 q.payload 0 ≤ 1) fun s => s.sized r 2704 <|
    let c := if u8 q.payload 0 = 0 then s.cfg.calActive else s.cfg.calPassive
    { st := s.bulkPut 5 r (padTo 2704 c), bulk := some r }

/-- BILL_CALENDAR_ACTIVATE (R407). -/
def execBillCalendarActivate (q : Req) (s : State) : Out :=
  let t := fld q.payload 0 8
  mail { op := 0x0805, pair := 5, lo := 8, hi := 8 } q s true fun s =>
    if t = 0 then
      ((({ s with store := { s.store with activateAt := none } }).effect 5 q.tag 0x0805).armBoundary).ok
    else if t ≤ s.bill.time then s.no 5
    else if s.cfg.calPassive.isEmpty then s.no 6
    else if s.store.activateAt.isSome then s.no 2
    else ((({ s with store := { s.store with activateAt := some t } }).effect 5 q.tag 0x0805).armBoundary).ok

/-- SOURCE of BILL_TIME_GET (R391, R408). -/
def State.timeSource (s : State) : Nat :=
  if u8 s.cfg.bill 5 = 1 then 2
  else if s.netOn && !s.net.holdLong then 0 else 1

/-- BILL_TIME_GET (R408). -/
def execBillTimeGet (q : Req) (s : State) : Out :=
  mail { op := 0x0806, pair := 5 } q s true fun s =>
    let off := (((s.localTime s.bill.time : Nat) : Int) - ((s.bill.time - 1000 * s.leap : Nat) : Int)) / 60000
    s.ok (toLE 8 s.bill.time ++ toLEs 2 off ++ toLE 1 s.leap ++ toLE 1 (s.timeSource + 128 * b2n s.bill.unver)
      ++ toLEs 4 s.bill.slew ++ toLE 8 s.bak.horizon ++ toLEs 4 s.bak.trim)

/-- Billing time set to `t` by the host or over DLMS (R391, R392, R394). -/
def State.setTime (s : State) (t source : Nat) : State :=
  ({ s with
    bill := { s.bill with unver := false }
    bak := { s.bak with timeValid := true } }).offerCorrection ((t : Int) - (s.bill.time : Int)) source

/-- BILL_TIME_SET (R409). -/
def execBillTimeSet (q : Req) (s : State) : Out :=
  let t := fld q.payload 0 8
  mail { op := 0x0807, pair := 5, lo := 8, hi := 8 } q s true fun s =>
    if u8 s.cfg.bill 5 = 0 then s.no 3
    else if s.bill.stepBusy then s.no 2
    else
      let d : Int := (t : Int) - (s.bill.time : Int)
      let kind := if d = 0 then 3 else if d.natAbs ≤ 2000 then 0 else if d < 0 then 1 else 2
      ((s.setTime t 1).effect 5 q.tag 0x0807).ok (toLE 1 kind ++ toLEs 8 d)

/-- The ENERGY payload of an outlet, or of the site with 24, as of the last commit (R380, R410). -/
def State.energyNow (s : State) (o : Nat) : Bytes :=
  let t := s.bill.tariff
  (if o < 24 then energyRec o t 0 (regOf s.bill.regs o) ((tregOf s.bill.tregI o).getD (t - 1) 0)
      ((tregOf s.bill.tregE o).getD (t - 1) 0)
    else energyRec 0xFF t 0 ((List.range 6).map (siteSum (regOf s.bill.regs))) (siteSum (tregOf s.bill.tregI) (t - 1))
      (siteSum (tregOf s.bill.tregE) (t - 1))).payload

/-- Eight tariff registers of an outlet, or of the site with 24. -/
def tregSite (l : List (List Nat)) (o : Nat) : List Nat :=
  if o < 24 then tregOf l o else (List.range 8).map (siteSum (tregOf l))

/-- BILL_REGISTERS_GET (R410). -/
def execBillRegistersGet (q : Req) (s : State) : Out :=
  let o := u8 q.payload 0
  let k := if o < 24 then o else 24
  let r := q.bulk.getD (0, 0)
  mail { op := 0x0808, pair := 5, lo := 1, hi := 1, bulk := 1 } q s (o < 24 || o == 0xFF) fun s => s.sized r 264 <|
    let run := s.bill.dem.run.getD k (0, 0)
    { st := s.bulkPut 5 r (tregBytes (tregSite s.bill.tregI k) ++ tregBytes (tregSite s.bill.tregE k) ++ s.energyNow k
        ++ toLE 4 run.1 ++ toLE 4 run.2 ++ maxBytes (s.bill.dem.max.getD k (0, 0, 0, 0)))
      bulk := some r
      payload := toLE 1 s.bill.tariff ++ zeros 3 ++ toLE 4 s.bak.period ++ toLE 4 s.bill.lastLseq ++ toLE 4 s.store.gen }

/-- BILL_PERIOD_GET (R411). -/
def execBillPeriodGet (q : Req) (s : State) : Out :=
  let ago := u8 q.payload 0
  let o := u8 q.payload 1
  let k := if o < 24 then o else 24
  let r := q.bulk.getD (0, 0)
  mail { op := 0x0809, pair := 5, lo := 2, hi := 2, bulk := 1 } q s
    (1 ≤ ago && ago ≤ 24 && (o < 24 || o == 0xFF)) fun s => s.sized r 192 <|
    match s.store.periods[ago - 1]? with
    | none => s.no 6
    | some c =>
      { st := s.bulkPut 5 r (tregBytes (c.tregI.getD k []) ++ tregBytes (c.tregE.getD k [])
          ++ maxBytes (c.max.getD k (0, 0, 0, 0)))
        bulk := some r
        payload := toLE 4 c.period ++ toLE 8 c.start ++ toLE 8 c.fin }

/-- A commanded period close: the first whole second of billing time at least 1 s ahead (R400, R412); CAUSE 1 command, 2 DLMS. -/
def State.armClose (s : State) (cause : Nat) (tag : Option Nat) : State :=
  ({ s with bill := { s.bill with
    closeAt := some ((s.bill.time + 1999) / 1000 * 1000), closeCause := cause, closeTag := tag } }).armBoundary

/-- BILL_PERIOD_CLOSE (R412). -/
def execBillPeriodClose (q : Req) (s : State) : Out :=
  mail { op := 0x080A, pair := 5 } q s true fun s =>
    if s.bill.closeAt.isSome then s.no 2 else (s.armClose 1 (some q.tag)).queued

/-- LEDGER_READ (R413): committed records only. -/
def execLedgerRead (q : Req) (s : State) : Out :=
  let first := u32 q.payload 0
  let n := u8 q.payload 4
  let r := q.bulk.getD (0, 0)
  mail { op := 0x080B, pair := 5, lo := 5, hi := 5, bulk := 1 } q s (1 ≤ n && n ≤ 32) fun s =>
    let oldest := (s.store.ledger.getLast?.map fun x => x.gen).getD (wrapInc 32 s.store.gen)
    if !s.store.ledger.isEmpty && older32 first oldest then s.no 0x0B
    else if r.2 < 128 * n then s.no 0x05
    else
      let found := (s.store.ledger.reverse.filter fun x => !older32 x.gen first).take n
      { st := s.bulkPut 5 r (found.map LRec.bytes).flatten, bulk := some r
        payload := toLE 1 found.length ++ toLE 4 oldest ++ toLE 4 s.store.gen }

/-- LEDGER_STATUS (R414). -/
def execLedgerStatus (q : Req) (s : State) : Out :=
  mail { op := 0x080C, pair := 5 } q s true fun s =>
    let oldest := (s.store.ledger.getLast?.map fun x => x.gen).getD (wrapInc 32 s.store.gen)
    s.ok (toLE 4 s.store.gen ++ toLE 4 oldest ++ toLE 4 s.store.ledger.length ++ toLE 4 8388608 ++ toLE 8 s.bill.lastCommit
      ++ toLE 4 s.bill.lastLseq ++ toLE 1 (b2n (s.bill.running || s.bak.bPending)) ++ toLE 1 (b2n s.bill.chainBad))

/-- BILL_COMMIT_NOW (R415): it completes with the commit that serves it. -/
def execBillCommitNow (q : Req) (s : State) : Out :=
  mailQ { op := 0x080D, pair := 5 } q s true fun s =>
    (({ s with bill := { s.bill with cmds := s.bill.cmds ++ [(5, q.tag)] } }).trigger 8).wait

end Sys2Proof.Machine
end

