-- ==== Sys2Proof/Machine/Island.lean ====
section
/-! DEFINITION. The safety island: its safe state, dual-channel inputs, output pairs, site main contactors, the safety
configuration with modes, passwords and confirmation, and the safety commands (07). -/

namespace Sys2Proof.Machine

/-! ### Image -/

/-- `k` bytes from `off` on are 0. -/
def zeroAt (p : Bytes) (off k : Nat) : Bool := ((p.drop off).take k).all fun b => b == 0

/-- OC_THR keeps R193 for a rated current in 0.1 A. -/
def ocThrAllowed (stored rated : Nat) : Bool := decide (2 * rated ≤ 10 * ocThrOf stored rated)

/-- The record of outlet `k` in a safety image is in range (R192, R193, R240). -/
def outletRecOk (p : Bytes) (k : Nat) : Bool :=
  let r := p.drop (16 + 16 * k)
  u8 r 0 ≤ 1 && 6 ≤ u8 r 1 && u8 r 1 ≤ 30 && 60 ≤ u16 r 2 && u16 r 2 ≤ 400
    && (u16 r 4 == 0 || (50 ≤ u16 r 4 && u16 r 4 ≤ 250)) && 100 ≤ u16 r 6 && u16 r 6 ≤ 1000 && u16 r 6 % 10 == 0
    && 2 ≤ u8 r 8 && u8 r 8 ≤ 20 && 10 ≤ u8 r 9 && u8 r 9 ≤ 25 && zeroAt r 10 6 && ocThrAllowed (u16 r 4) (u16 r 2)

/-- The record of site main contactor `j` is in range (R240). -/
def siteRecOk (p : Bytes) (j : Nat) : Bool :=
  let r := p.drop (400 + 8 * j)
  2 ≤ u8 r 0 && u8 r 0 ≤ 20 && 10 ≤ u8 r 1 && u8 r 1 ≤ 25 && zeroAt r 2 6

/-- The record of input `n` is in range (R240). -/
def sinRecOk (p : Bytes) (n : Nat) : Bool :=
  let r := p.drop (416 + 11 * n)
  u8 r 0 ≤ 2 && u8 r 1 ≤ 1 && 1 ≤ u8 r 2 && u8 r 2 ≤ 10 && u8 r 3 ≤ 3 && (u8 r 0 == 1 || u8 r 3 == 0)
    && 10 ≤ u16 r 4 && u16 r 4 ≤ 500 && (u8 r 0 == 2 || fld r 6 3 == 0) && zeroAt r 9 2

/-- A safety image that R240 and R241 admit. -/
def imageOk (p : Bytes) : Bool :=
  p.length == 512 && u8 p 0 == 1 && u8 p 1 ≤ 3 && zeroAt p 2 14 && ((List.range 24).all (outletRecOk p))
    && ((List.range 2).all (siteRecOk p)) && ((List.range 8).all (sinRecOk p)) && zeroAt p 504 4
    && u32 p 508 == crc32c (p.take 508)

/-- The check value in force (R241). -/
def State.check (s : State) : Nat := u32 s.isl.img 508

/-- An entry of the change log, and SAFE_CONFIG (R250, 07). -/
def State.changeLog (s : State) (kind role old new : Nat) : State :=
  let e : ChangeEntry := { seq := s.store.safeSeq, time := s.bak.rtc, role := role, kind := kind, old := old, new := new }
  ({ s with store := { s.store with safeLog := (e :: s.store.safeLog).take 256, safeSeq := s.store.safeSeq + 1 } }).emit 2 0x0581
    (toLE 1 kind ++ toLE 1 role ++ toLE 1 s.store.safeMode ++ zeros 1 ++ toLE 4 old ++ toLE 4 new ++ toLE 4 e.seq)

/-- SAFE_CONFIRM_REQ (R247). -/
def State.confirmReq (s : State) : State :=
  (s.emit 2 0x0582 (toLE 1 s.confirmReason ++ zeros 3 ++ toLE 4 s.check)).maintEnd 4 fun a => a.act == 8

/-- Every comparator threshold DAC reloaded from the safety configuration (R190). -/
def State.reloadDacs (s : State) : State :=
  let f (i : Nat) (x : Outlet) : Outlet :=
    if h : i < 24 then { x with prot := { x.prot with ocThr := s.ocThr ⟨i, h⟩, rcApex := s.rcApex ⟨i, h⟩ } } else x
  { s with out := vmapi f s.out }

/-- The check value in force becomes the confirmed one (R241, R244). -/
def State.setConfirmed (s : State) : State :=
  { s with bak := { s.bak with confirmed := s.check }, store := { s.store with safeConfirmed := s.check } }

/-- Outlets of a list go out of service for the commissioning-safe state (R135 cause 15, R248). -/
def State.allOos (s : State) (cause : Nat) : List ONum → State
  | [] => s
  | o :: t => State.allOos (s.fwTo o .outOfService cause) cause t

/-- The commissioning-safe state entered: every outlet opened and out of service (R247, R248). -/
def State.enterSafe (s : State) : State := (((s.openList 15 outlets).allOos 15 outlets)).confirmReq

/-- The channels of the inputs whose record a new image changes start afresh, as the new record reads them (R227; log entry 69). -/
def State.freshInputs (s : State) (old : Bytes) : State :=
  let same (n : Nat) : Bool := (old.drop (416 + 11 * n)).take 11 == (s.isl.img.drop (416 + 11 * n)).take 11
  let fresh (c : SinChan) : SinChan := { c with run := 0, known := false }
  let f (n : Nat) (x : Sin) : Sin := if same n then x else { x with a := fresh x.a, b := fresh x.b, disc := none }
  { s with isl := { s.isl with sins := vmapi f s.isl.sins } }

/-- An image put in force (R244 to R246): NAND, its three copies, change log, thresholds; confirmed at once where nothing is pending. -/
def State.putImage (s : State) (img : Bytes) (role : Nat) : State :=
  let old := s.check
  let was := s.isl.img
  let z := s
  let s := { s with isl := { s.isl with img := img }, store := { s.store with safeImg := img } }
  let s := ((s.freshInputs was).tmrWritten 0).ceilingsFollow z outlets
  let s := if s.confirmPending then s else s.setConfirmed
  let s := (s.reloadDacs).changeLog 0 role old s.check
  if s.confirmPending then s.confirmReq else s

/-- A fault or demand keeps bus `j` from closing (R236, R259). -/
def State.busBlocked (s : State) (j : Nat) : Bool :=
  ((s.busOutlets j).any fun o => s.latchedQ 38 o.val) || s.latchedQ 119 j
    || ((List.range 8).any fun n => s.sinCfg n 0 1 == 1 && bit (s.sinCfg n 3 1) j && (s.sin n).demand)

/-- Number in the log entry of a fault of pair `p`: an outlet, or 0x100 + the site (log entry 17). -/
def pairQual (p : Nat) : Nat := if p < 24 then p else 0x100 + (p - 24)

/-- Pair `p` is blocked by a fault of a former test or of its coil (R232, R235). -/
def State.pairBlocked (s : State) (p : Nat) : Bool :=
  s.latchedQ 116 (pairQual p) || s.latchedQ 117 (pairQual p) || s.latchedQ 118 (pairQual p)

/-- Site main contactors whose automatic closing is due (R236). -/
def State.autoClose (s : State) : State :=
  let due (j : Nat) : Bool := s.busUsed j && !(s.pair (24 + j)).on && !s.busBlocked j && !s.pairBlocked (24 + j)
    && !s.bak.siteHeld.getD j false
  { s with isl := { s.isl with sites := vmapi (fun j x => { x with auto := x.auto || due j }) s.isl.sites } }

/-- Outlets of a list that the commissioning-safe state held return (R135, R254). -/
def State.allReturn (s : State) (cause : Nat) : List ONum → State
  | [] => s
  | o :: t => State.allReturn (if (s.o o).ses.cause = 14 then s else s.oosExit o cause) cause t

/-- The pending check value is confirmed (R245, R247, R248, R254): mode NORMAL, every reason ended, the outlets return, and
after a start that it was pending at the buses close (R236). -/
def State.confirm (s : State) (role : Nat) : State :=
  let old := s.bak.confirmed
  let s := { s with
    isl := { s.isl with reasons := 0, cfgFail := false, kpDigits := [], kpWrong := 0 }
    store := { s.store with safeMode := 0, safeRole := 0 } }
  let s := s.setConfirmed.changeLog 1 role old s.check
  let due := s.isl.autoDue
  let s := { s.allReturn 15 outlets with isl := { (s.allReturn 15 outlets).isl with autoDue := false } }
  if due then s.autoClose else s

/-! ### Passwords -/

/-- The digest kept of a password (R242). -/
def pwDigest (salt : Nat) (pw : Bytes) : Bytes := Config.sha256 (toLE 8 salt ++ pw)

/-- The lengths and the role in credentials at `off` are in range. -/
def credsFit (p : Bytes) (off : Nat) : Bool :=
  1 ≤ u8 p off && u8 p off ≤ 2 && 8 ≤ u8 p (off + 1) && u8 p (off + 1) ≤ 16

/-- The password of a role tested (R242, R243): whether it is right, and the state with the count. -/
def State.tryPassword (s : State) (role : Nat) (pw : Bytes) : Bool × State :=
  let i := role - 1
  if s.bak.pwLock.getD i false then (false, s)
  else if s.store.pwSet.getD i false && s.store.pwHash.getD i [] == pwDigest (s.store.pwSalt.getD i 0) pw then
    (true, { s with bak := { s.bak with pwWrong := s.bak.pwWrong.set i 0 } })
  else
    let n := s.bak.pwWrong.getD i 0 + 1
    (false, { s with bak := { s.bak with pwWrong := s.bak.pwWrong.set i n, pwLock := if 5 ≤ n then s.bak.pwLock.set i true else s.bak.pwLock } })

/-- Credentials at `off` tested. -/
def State.tryCreds (s : State) (p : Bytes) (off : Nat) : Bool × State :=
  s.tryPassword (u8 p off) ((p.drop (off + 4)).take (u8 p (off + 1)))

/-! ### Inputs -/

/-- Channels A and B of input `n`: accepted at their demand level, or at their healthy level; none before a level has been accepted
(R227). -/
def State.sinDem (s : State) (n : Nat) : Option Bool × Option Bool :=
  let x := s.sin n
  let level (c : SinChan) (open_ : Bool) : Option Bool := if c.known then some (c.acc != open_) else none
  (level x.a true, level x.b (s.sinCfg n 1 1 == 0))

/-- The outlets in scope of input `n` (07, safety functions). -/
def State.sinScope (s : State) (n : Nat) : List ONum :=
  if s.sinCfg n 0 1 = 1 then outlets else outlets.filter fun o => bit (s.sinCfg n 6 3) o.val

/-- Site main contactors that an emergency stop input names start to open (R221). -/
def State.openSites (s : State) (mask : Nat) : State :=
  let f (j : Nat) (x : Site) : Site :=
    if bit mask j then { x with opening := true, closing := false, auto := false, watch := false } else x
  { s with isl := { s.isl with sites := vmapi f s.isl.sites } }

/-- SF1 or SF4 is demanded at input `n` (R221, R222, R737). -/
def State.sfStart (s : State) (n : Nat) : State :=
  let l := s.sinScope n
  let outs := s.onMask l
  let fn := if s.sinCfg n 0 1 = 1 then 1 else 4
  let s := (s.modSin n fun x => { x with demand := true }).openList 20 l
  let s := if fn = 1 then (s.openSites (s.sinCfg n 3 1)).raise 120 n 0 else if outs ≠ 0 then s.raise 121 n outs else s
  let s := s.evtSafe fn n 0 outs
  if fn = 1 then (bitsOf 2 (s.sinCfg n 3 1)).foldl (fun s j => s.cutOff j) s else s

/-- A demand of input `n` ends once both channels are healthy and SIN_DISC is not latched for it (R230, R737). -/
def State.sfSettle (s : State) (n : Nat) : State :=
  if (s.sin n).demand && s.sinDem n == (some false, some false) && !s.latchedQ 114 n then
    (s.modSin n fun x => { x with demand := false }).evtSafe (if s.sinCfg n 0 1 = 1 then 1 else 4) n 1 0
  else s

/-- A channel of input `n` accepted at a level (R228 to R231): discrepancy timer, cycle after SIN_DISC, demand. -/
def State.sinTake (s : State) (n : Nat) (chan closed : Bool) : State :=
  let s := s.modSin n fun x =>
    if chan then { x with b := { x.b with acc := closed, known := true } } else { x with a := { x.a with acc := closed, known := true } }
  let d := s.sinDem n
  let inTime := match (s.sin n).disc with
    | some t => decide (s.up ≤ t + s.sinCfg n 4 2)
    | none => true
  let s := s.modSin n fun x => { x with
    disc := if d.1 == d.2 || d.1.isNone || d.2.isNone then none else some (x.disc.getD s.up)
    cycle := if x.cycle = 2 then 2
      else if d == (some true, some true) then b2n inTime
      else if d == (some false, some false) then (if inTime && x.cycle == 1 then 2 else 0)
      else x.cycle }
  if (d.1 == some true || d.2 == some true) && !(s.sin n).demand then s.sfStart n else s.sfSettle n

/-! ### Site main contactors -/

/-- The outlets of a list whose opening has begun release their contactors by step 2 of R121 (R224 step 2). -/
def State.releaseAll (s : State) : List ONum → State
  | [] => s
  | o :: t => State.releaseAll (if (s.o o).sw.phase == .opening then s.releaseContactor o else s) t

/-- The closing of site main contactor `j` under way fails: every command that waits for it completes with the status (R226, R233). -/
def State.closeFails (s : State) (j status : Nat) : State :=
  let x := s.site j
  (s.modSite j fun x => { x with auto := false, closing := false, watch := false, closeTags := [], resolves := [] }).finishTags status
    (x.closeTags ++ x.resolves.map fun r => r.tag)

/-- The closing of site main contactor `j` is complete (R226, R233, R236): the SAFE_SITE_SET commands complete OK and end the hold in
BAK; the watch of the first SAFE_WELD_RESOLVE begins. -/
def State.closeDone (s : State) (j : Nat) : State :=
  let x := s.site j
  let s := if x.closeTags.isEmpty then s else { s with bak := { s.bak with siteHeld := s.bak.siteHeld.set j false } }
  (s.modSite j fun x => { x with
    auto := false, closing := false, closeTags := [], watch := !x.resolves.isEmpty }).finishTags 0 x.closeTags

/-- The opening of bus `j` is complete (R224 step 3, R225): the commands that waited for it complete, and a closing asked for meanwhile
begins, or is refused once SITE_FB is latched. -/
def State.openDone (s : State) (j : Nat) (bad : Bool) : State :=
  let x := s.site j
  let s := s.modSite j fun x => { x with opening := false, openTags := [] }
  let s := (if bad then s.raise 119 j 0 else s).finishTags (if bad then 8 else 0) x.openTags
  if bad then s.cutOff j
  else s.modSite j fun x => { x with auto := !x.closeTags.isEmpty || !x.resolves.isEmpty }

/-- Step a or b of the pair test judged: none passes, `some 0` fails without a row, else the fault (R232). Voltages in 10 mV,
current in mA. -/
def pairVerdict (stepb : Bool) (khs kls coil vkc : Nat) : Option Nat :=
  let near (v : Nat) : Bool := vkc ≤ v + 150 && v ≤ vkc + 150
  if !stepb then
    if near khs && near kls && coil < 20 then none
    else if !near khs then some 116
    else if !near kls then (if 20 ≤ coil then some 117 else some 118)
    else some 0
  else
    if khs < 150 && kls < 150 && coil < 20 then none
    else if 150 ≤ khs && 20 ≤ coil then some 116
    else if 150 ≤ kls && coil < 20 then some 117
    else some 0

/-- A closing of site main contactor `j` is due, its bus does not open, and, one bus after the other, site 0 is done (R232, R236). -/
def State.siteDue (s : State) (j : Nat) : Bool :=
  (s.site j).auto && !(s.site j).opening && !(j == 1 && ((s.site 0).auto || (s.site 0).closing) && !(s.site 0).opening)

/-- A pair is free for its test: off, and not blocked by a fault of a former test (R232). -/
def State.pairTestable (s : State) (p : Nat) : Bool :=
  !(s.pair p).on && !s.pairBlocked p
    && (if h : p < 24 then (s.o ⟨p, h⟩).sw.phase == .off else s.siteDue (p - 24)) && !s.isl.safeState

/-! ### Meanings: events -/

/-- ISLAND_SAFE_STATE (R220): every SSWEN low at once; F112 or F115. -/
def execIslandSafeState (src : Nat) (s : State) : Out :=
  onlyIf ((src == 112 || src == 115) && !s.isl.safeState) s fun s =>
    let s := { s with isl := { s.isl with safeState := true, pairsOff := false } }
    (s.openList 12 outlets).raise src 0xFFFF 0

/-- Both switches of every output pair off (R220). -/
def State.dropPairs (s : State) : State :=
  let off (p : OutPair) : OutPair := { p with on := false, pullin := false }
  { s with isl := { s.isl with pairsOff := true, pairs := vmap off s.isl.pairs } }

/-- SAFE_STATE_PAIRS_OFF (R220): every output pair off, the site main contactors included; closings that wait fail (log entry 69). -/
def execSafeStatePairsOff (s : State) : Out :=
  onlyIf (s.isl.safeState && !s.isl.pairsOff) s fun s =>
    (((s.releaseAll outlets).dropPairs).closeFails 0 9).closeFails 1 9

/-- SIN_SAMPLE (R227): an input with FUNCTION 0 is not evaluated (R231). -/
def execSinSample (n : Nat) (a b : Bool) (s : State) : Out :=
  let take (c : SinChan) (v : Bool) : SinChan := { c with raw := v, run := if c.raw = v then c.run + 1 else 1 }
  .next (s.modSin n fun x => { x with a := take x.a a, b := take x.b b })

/-- SIN_ACCEPT (R227, R228): `chan` is true for channel B. -/
def execSinAccept (n : Nat) (chan closed : Bool) (s : State) : Out :=
  let c := if chan then (s.sin n).b else (s.sin n).a
  onlyIf (n < 8 && s.sinCfg n 0 1 != 0 && c.raw == closed && decide (4 * s.sinCfg n 2 1 ≤ c.run)
      && (!c.known || c.acc != closed)) s fun s =>
    s.sinTake n chan closed

/-- SIN_DISC (R229, R231). -/
def execSinDisc (n : Nat) (s : State) : Out :=
  let due := match (s.sin n).disc with
    | some t => decide (t + s.sinCfg n 4 2 ≤ s.up)
    | none => false
  onlyIf (n < 8 && s.sinCfg n 0 1 != 0 && due && !s.latchedQ 114 n) s fun s =>
    (s.modSin n fun x => { x with cycle := 0 }).raise 114 n 0

/-- SITE_RELEASE (R221, R224 step 2). -/
def execSiteRelease (j : Nat) (s : State) : Out :=
  onlyIf ((s.site j).opening && j < 2) s fun s => (s.releaseAll (s.busOutlets j)).pairOff (24 + j)

/-- SITE_FB_CHECK (R224 step 3, R225). -/
def execSiteFbCheck (j : Nat) (s : State) : Out :=
  onlyIf ((s.site j).opening && j < 2 && !(s.pair (24 + j)).on) s fun s =>
    s.openDone j (s.site j).mirrorOpen

/-- The first SAFE_WELD_RESOLVE of bus `j` completes; the watch of the next one begins (R226). -/
def State.resolveEnds (s : State) (j : Nat) (r : Resolve) (status : Nat) : State :=
  (s.modSite j fun x => { x with resolves := x.resolves.drop 1, watch := 2 ≤ x.resolves.length }).finish 2 r.tag status []

/-- WELD_WATCH_END (R226): presence seen runs SF3 again; else the weld is resolved, which counts in the effect record with the change log
(R85). -/
def execWeldWatchEnd (o : ONum) (seen : Bool) (s : State) : Out :=
  let j := s.bus o
  match (s.site j).resolves with
  | [] => .next s
  | r :: _ =>
    onlyIf ((s.site j).watch && r.outlet == o.val) s fun s =>
      if seen then
        let outs := s.onMask (s.busOutlets j)
        (((s.openBus j true).sfDemand 3 o.val outs).resolveEnds j r 9).cutOff j
      else
        let s := ((s.clearOcc 38 o.val).changeLog 4 r.role s.check s.check).sfEnd 3 o.val
        ((s.effect 2 r.tag 0x0508).resolveEnds j r 0).oosExit o 13

/-- PAIR_TEST_STEP_END (R232): a passed test of a site pair starts its closing (R233), which waits for room in pull-in (R655). -/
def execPairTestStepEnd (p : Nat) (stepb : Bool) (khs kls coil : Nat) (s : State) : Out :=
  onlyIf (p < 26 && s.pairTestable p && (!stepb || (s.pair p).testA) && (p < 24 || !stepb || s.pullinRoom)) s fun s =>
    match pairVerdict stepb khs kls coil s.pwr.vkc with
    | some f =>
      let s := s.modPairOut p fun x => { x with testA := false, tested := false }
      let s := if f = 0 then s else s.raise f (pairQual p) coil
      if p < 24 then s else s.closeFails (p - 24) 9
    | none =>
      if !stepb then s.modPairOut p fun x => { x with testA := true, tested := false }
      else if p < 24 then s.modPairOut p fun x => { x with testA := false, tested := true, testedAt := s.up }
      else (s.modPairOut p fun x => { x with testA := false, on := true, pullin := true, lowRun := 0 }).modSite (p - 24)
        fun x => { x with closing := true }

/-- PULLIN_END (R233): the economiser takes over at HOLD. -/
def execPullinEnd (p : Nat) (s : State) : Out :=
  onlyIf ((s.pair p).on && (s.pair p).pullin) s fun s => s.modPairOut p fun x => { x with pullin := false }

/-- SITE_CLOSE_CHECK (R226, R233, R236, R258, R259). -/
def execSiteCloseCheck (j : Nat) (s : State) : Out :=
  onlyIf ((s.site j).closing && j < 2) s fun s =>
    if !(s.site j).mirrorOpen then ((s.pairOff (24 + j)).raise 119 j 0).closeFails j 8 else s.closeDone j

/-- HOLD of pair `p` in 10 mA units (R240). -/
def State.holdOf (s : State) (p : Nat) : Nat :=
  if p < 24 then u8 s.isl.img (25 + 16 * p) else u8 s.isl.img (401 + 8 * (p - 24))

/-- COIL_CHECK (R235): coil current in mA. -/
def execCoilCheck (p coil : Nat) (s : State) : Out :=
  onlyIf ((s.pair p).on) s fun s =>
    s.modPairOut p fun x => { x with lowRun := if coil < 5 * s.holdOf p then x.lowRun + 1 else 0 }

/-- COIL_UNDERCURRENT (R235). -/
def execCoilUndercurrent (p : Nat) (s : State) : Out :=
  onlyIf (p < 26 && (s.pair p).on && decide (10 ≤ (s.pair p).lowRun)) s fun s =>
    if h : p < 24 then (s.startOpening ⟨p, h⟩ 12).raise 118 p 0
    else
      let s := ((s.raise 118 (pairQual p) 0).openBus (p - 24) true).cutOff (p - 24)
      { s with bak := { s.bak with siteHeld := s.bak.siteHeld.set (p - 24) true } }

/-- VKC_UV (R235). -/
def execVkcUv (s : State) : Out := .next ((s.openList 12 outlets).raise 123 0xFFFF 0)

/-- PASSWORD_LOCKOUT_END (R243). -/
def execPasswordLockoutEnd (role : Nat) (s : State) : Out :=
  .next { s with bak := { s.bak with
    pwLock := s.bak.pwLock.set (role - 1) false, pwWrong := s.bak.pwWrong.set (role - 1) 0 } }

/-- A key of the keypad while a confirmation is pending (R249): complete at the 8th digit. -/
def State.confirmKey (s : State) (d : Nat) : State :=
  if s.isl.kpLock then s
  else
    let ds := s.isl.kpDigits ++ [d]
    if ds.length < 8 then { s with isl := { s.isl with kpDigits := ds } }
    else if ds.foldl (fun v x => v * 16 + x) 0 = s.check then s.confirm 0
    else { s with isl := { s.isl with
      kpDigits := [], kpWrong := s.isl.kpWrong + 1, kpLock := decide (3 ≤ s.isl.kpWrong + 1) } }

/-- CONFIRM_KEYPAD_TIMEOUT (R249). -/
def execConfirmKeypadTimeout (s : State) : Out := .next { s with isl := { s.isl with kpDigits := [] } }

/-- CONFIRM_KEYPAD_LOCKOUT_END (R249). -/
def execConfirmKeypadLockoutEnd (s : State) : Out :=
  .next { s with isl := { s.isl with kpLock := false, kpWrong := 0 } }

/-! ### Meanings: commands -/

/-- The mask of the numbers below `k` for which `f` holds. -/
def maskBy (k : Nat) (f : Nat → Bool) : Nat := maskOf ((List.range k).filter f)

/-- SAFE_STATUS_GET (R251). -/
def execSafeStatusGet (q : Req) (s : State) : Out :=
  mail { op := 0x0501, pair := 2 } q s true fun s =>
    s.ok (toLE 1 s.store.safeMode ++ toLE 1 s.confirmReason ++ toLE 1 (maskBy 8 fun n => (s.sin n).demand)
      ++ toLE 1 (maskBy 8 fun n => s.latchedQ 114 n)
      ++ toLE 2 (maskBy 16 fun i => if i % 2 = 0 then (s.sin (i / 2)).a.raw else (s.sin (i / 2)).b.raw)
      ++ toLE 1 (b2n (s.pair 24).on + 2 * b2n (s.pair 25).on + 4 * b2n (s.site 0).mirrorOpen + 8 * b2n (s.site 1).mirrorOpen
        + 16 * b2n s.isl.safeState)
      ++ toLE 1 (b2n (s.bak.pwLock.getD 0 false) + 2 * b2n (s.bak.pwLock.getD 1 false) + 4 * b2n s.isl.kpLock)
      ++ toLE 4 s.check ++ toLE 4 s.bak.confirmed ++ toLE 4 (s.store.safeSeq - 1))

/-- SAFE_CONFIG_READ (R252). -/
def execSafeConfigRead (q : Req) (s : State) : Out :=
  let r := q.bulk.getD (0, 0)
  mail { op := 0x0502, pair := 2, bulk := 1 } q s true fun s => s.sized r 512
    { st := s.bulkPut 2 r s.isl.img, bulk := some r }

/-- The image changes the record of a closed outlet, or an input or site record while an outlet is energised (R253). -/
def State.imageConflict (s : State) (img : Bytes) : Bool :=
  (outlets.any fun o => s.coil o && (img.drop (16 + 16 * o.val)).take 16 != (s.isl.img.drop (16 + 16 * o.val)).take 16)
    || (s.anyEnergised && (img.drop 400).take 104 != (s.isl.img.drop 400).take 104)

/-- SAFE_CONFIG_WRITE (R253, R244, R245). -/
def execSafeConfigWrite (q : Req) (s : State) : Out :=
  let r := q.bulk.getD (0, 0)
  let img := (s.bulkGet 2 r).take 512
  mail { op := 0x0503, pair := 2, lo := 20, hi := 20, bulk := 1 } q s
    (s.store.safeMode != 0 || credsFit q.payload 0) fun s =>
    if r.2 < 512 || !imageOk img then s.no 0x05 else
    let a := if s.store.safeMode = 0 then s.tryCreds q.payload 0 else (true, s)
    let s := a.2
    if !a.1 then s.no 0x04
    else if s.imageConflict img then s.no 0x03
    else
      let s := (s.putImage img (if s.store.safeMode = 0 then u8 q.payload 0 else s.store.safeRole)).effect 2 q.tag 0x0503
      s.ok (toLE 4 s.check ++ toLE 1 (b2n s.confirmPending))

/-- SAFE_CONFIRM (R254). -/
def execSafeConfirm (q : Req) (s : State) : Out :=
  mail { op := 0x0504, pair := 2, lo := 24, hi := 24 } q s (credsFit q.payload 4) fun s =>
    let a := s.tryCreds q.payload 4
    let s := a.2
    if !a.1 then s.no 0x04
    else if !s.confirmPending then s.no 0x06
    else if u32 q.payload 0 ≠ s.check then s.no 0x0B
    else ((s.confirm (u8 q.payload 4)).effect 2 q.tag 0x0504).ok

/-- SAFE_MODE_SET (R255, R242). -/
def execSafeModeSet (q : Req) (s : State) : Out :=
  let m := u8 q.payload 0
  let role := u8 q.payload 4
  mail { op := 0x0505, pair := 2, lo := 24, hi := 24 } q s ((m == 1 || m == 2) && credsFit q.payload 4) fun s =>
    let a := s.tryCreds q.payload 4
    let s := a.2
    if !a.1 || (m = 1 && role ≠ 2) then s.no 0x04
    else if s.anyEnergised then s.no 0x03
    else
      let s := { s with store := { s.store with safeMode := m, safeRole := role } }
      (((s.changeLog 2 role s.check s.check).enterSafe).effect 2 q.tag 0x0505).ok

/-- SAFE_PASSWORD_SET (R256, R242). The salt is a free value (log entry 8). -/
def execSafePasswordSet (q : Req) (s : State) : Out :=
  let role := u8 q.payload 0
  let oldLen := u8 q.payload 1
  let newLen := u8 q.payload 2
  mail { op := 0x0506, pair := 2, lo := 36, hi := 36 } q s
    (1 ≤ role && role ≤ 2 && 8 ≤ newLen && newLen ≤ 16 && oldLen ≤ 16) fun s =>
    let never := !s.store.pwSet.getD (role - 1) false
    let a := if never then (s.store.safeMode == 1, s) else s.tryPassword role ((q.payload.drop 4).take oldLen)
    let s := a.2
    if !a.1 then s.no 0x04
    else
      let d := s.draw
      let s := d.2
      let s := { s with store := { s.store with
        pwSet := s.store.pwSet.set (role - 1) true
        pwSalt := s.store.pwSalt.set (role - 1) d.1
        pwHash := s.store.pwHash.set (role - 1) (pwDigest d.1 ((q.payload.drop 20).take newLen)) } }
      ((s.changeLog 3 role s.check s.check).effect 2 q.tag 0x0506).ok

/-- A change log entry as 24 bytes (R250). -/
def ChangeEntry.bytes (e : ChangeEntry) : Bytes :=
  toLE 4 e.seq ++ toLE 8 e.time ++ toLE 1 e.role ++ toLE 1 e.kind ++ zeros 2 ++ toLE 4 e.old ++ toLE 4 e.new

/-- SAFE_LOG_READ (R257, R733). -/
def execSafeLogRead (q : Req) (s : State) : Out :=
  let first := u32 q.payload 0
  let count := u8 q.payload 4
  let r := q.bulk.getD (0, 0)
  mail { op := 0x0507, pair := 2, lo := 5, hi := 5, bulk := 1 } q s
    (1 ≤ count && count ≤ 170) fun s =>
    let log := s.store.safeLog
    let oldest := s.store.safeSeq - log.length
    if !log.isEmpty && first < oldest then s.no 0x0B
    else if r.2 < 24 * count then s.no 0x05
    else
      let es := (log.reverse.filter fun e => first ≤ e.seq).take count
      { st := s.bulkPut 2 r (es.map ChangeEntry.bytes).flatten, payload := toLE 1 es.length ++ toLE 4 oldest, bulk := some r }

/-- SAFE_WELD_RESOLVE (R258, R226): it waits while the bus opens, and for those before it; on a blocked pair it completes FAULTED at once
(log entry 69). -/
def execSafeWeldResolve (q : Req) (s : State) : Out :=
  let o := outletArg q.payload 0
  mail { op := 0x0508, pair := 2, lo := 24, hi := 24 } q s (outletFits q.payload 0 && credsFit q.payload 4) fun s =>
    let a := s.tryCreds q.payload 4
    let s := a.2
    let j := s.bus o
    if !a.1 then s.no 0x04
    else if !s.latchedQ 38 o.val then s.no 0x06
    else if s.confirmPending || s.latchedQ 119 j || (s.busOutlets j).any s.coil then s.no 0x03
    else if s.pairBlocked (24 + j) || s.isl.safeState then s.no 0x09
    else
      let r : Resolve := { outlet := o.val, tag := q.tag, role := u8 q.payload 4 }
      let s := s.modSite j fun x => { x with resolves := x.resolves ++ [r] }
      if (s.site j).opening || (s.site j).closing then s.queued
      else if (s.pair (24 + j)).on then (s.modSite j fun x => { x with watch := true }).queued
      else (s.modSite j fun x => { x with auto := true }).queued

/-- SAFE_SITE_SET (R259, R224, R236). Its completion follows the contactor: a close waits while the bus opens, one on a blocked pair
completes FAULTED (log entry 69). -/
def execSafeSiteSet (q : Req) (s : State) : Out :=
  let j := u8 q.payload 0
  let close := u8 q.payload 1 == 1
  mail { op := 0x0509, pair := 2, lo := 2, hi := 2 } q s (j ≤ 1 && u8 q.payload 1 ≤ 1) fun s =>
    if !s.busUsed j then s.no 0x05
    else if close then
      if s.busBlocked j || s.confirmPending then s.no 0x03
      else
        let x := s.site j
        if (s.pair (24 + j)).on && !x.opening && !x.closing then s.ok
        else if s.pairBlocked (24 + j) || s.isl.safeState then s.no 0x09
        else (s.modSite j fun x => { x with auto := x.auto || (!x.opening && !x.closing), closeTags := x.closeTags ++ [q.tag] }).wait
    else
      let on := (s.pair (24 + j)).on || (s.site j).opening
      let s := { s with bak := { s.bak with siteHeld := s.bak.siteHeld.set j true } }
      let s := (s.openBus j true).cutOff j
      if on then (s.modSite j fun x => { x with openTags := x.openTags ++ [q.tag] }).wait
      else s.ok

end Sys2Proof.Machine
end

