-- ==== Sys2Proof/Machine/Protection.lean ====
section
/-! DEFINITION. Apex trip, residual current, overload, self-test and the protection commands (06). -/

namespace Sys2Proof.Machine

/-- The trips of the latch inputs of a list of bits, in order (R187, R189): F042 for 0 to 3, F043 for 4, F044 for 5. -/
def State.apexTrips (s : State) (o : ONum) (vals : List Int) : List Nat → State
  | [] => s
  | k :: t => State.apexTrips (s.trip o (if k ≤ 3 then 42 else if k = 4 then 43 else 44) k (vals.getD k 0)) o vals t

/-- The values of the inputs of a mask that are new, beside those recorded. -/
def newVals (old vals : List Int) (mask : Nat) : List Int :=
  (List.range 6).map fun k => if bit mask k then vals.getD k 0 else old.getD k 0

/-- The inputs of a mask set on the apex latch of an outlet (R186, R187, R189): SSWEN is low at once. Until the safety island has seen the
latch, 1 µs after the first, they are recorded with it; a later one is a second trigger (R205). -/
def State.setLatch (s : State) (o : ONum) (inputs : Nat) (vals : List Int) : State :=
  let p := (s.o o).prot
  let fresh := clearBits inputs p.latch
  let first := p.latch == 0
  let s := s.modSw o fun w => if w.sswen then { w with sswen := false, sswfb := false, sswFall := some s.up } else w
  if first || !p.seen then
    s.modProt o fun p => { p with
      latch := p.latch ||| inputs, seen := p.seen && !first, latchVals := newVals p.latchVals vals fresh }
  else s.apexTrips o vals (bitsOf 6 fresh)

/-- The latch inputs that are active now, which no latch records yet (R189). -/
def State.applyInputs (s : State) (o : ONum) (inputs : Nat) (vals : List Int) : State :=
  let was := (s.o o).prot.active
  let s := s.modProt o fun p => { p with active := inputs }
  let rise := clearBits inputs was
  if rise = 0 then s else s.setLatch o rise vals

/-- The residual comparator: the magnitude of the wideband signal plus the DC estimate has reached RC_APEX (R185, R197). -/
def Protect.residualTrips (p : Protect) : Bool := decide (10 * p.rcApex ≤ (p.wide + p.est).natAbs)

/-- The comparator inputs of an outlet for instantaneous currents of L1, L2, L3 and N in 0.1 A (R184, R185). -/
def Protect.comparators (p : Protect) (cur : List Int) : Nat :=
  maskOf ((List.range 4).filter fun k => decide (10 * p.ocThr ≤ (cur.getD k 0).natAbs)) + 16 * b2n p.residualTrips

/-- APEX_TRIP (R184 to R187): the comparators at the instantaneous currents of L1, L2, L3 and N, 0.1 A, and the wideband residual
signal, 0.1 mA. No input active releases nothing (R189). -/
def execApexTrip (o : ONum) (cur : List Int) (wide : Int) (s : State) : Out :=
  let s := s.modProt o fun p => { p with wide := wide }
  let p := (s.o o).prot
  .next (s.applyInputs o (p.comparators cur) (cur.take 4 ++ [p.wide + p.est]))

/-- MA_RCDTEST runs on the outlet: what it injects trips nothing (20, code 1; R208). -/
def State.rcdTest (s : State) (o : ONum) : Bool := s.maint.any fun a => a.running && a.act == 1 && a.index == o.val

/-- MA_RCDTEST or MA_SSWTEST sets the outlet's apex latch through the test port (20, codes 1 and 3). -/
def State.portTest (s : State) (o : ONum) : Bool := s.maint.any fun a => a.running && (a.act == 1 || a.act == 3) && a.index == o.val

/-- Step 3 of a self-test runs on the outlet (R207). -/
def State.pulseRuns (s : State) (o : ONum) : Bool :=
  let p := (s.o o).prot
  p.stRun && decide (p.stFrom + 200 ≤ s.up) && decide (s.up ≤ p.stFrom + 220)

/-- APEX_LATCH_SEEN (R187, R189). The residual input of step 3 of a self-test latches no fault and is cleared (R208). -/
def execApexLatchSeen (o : ONum) (s : State) : Out :=
  onlyIf ((s.o o).prot.latch != 0 && !(s.o o).prot.seen) s fun s =>
    let pulse := if s.pulseRuns o || s.portTest o then 16 else 0
    let s := s.modProt o fun p => { p with seen := true, latch := clearBits p.latch pulse }
    s.apexTrips o (s.o o).prot.latchVals (bitsOf 6 (s.o o).prot.latch)

/-- THRESHOLD_RELOAD (R190). -/
def execThresholdReload (s : State) : Out := .next s.reloadDacs

/-- DC_ESTIMATE (R194, R197, R202): the estimate, with the offset that it puts on the residual comparator, and the check of saturation in
both directions. -/
def execDcEstimate (o : ONum) (est : Int) (sat : Bool) (s : State) : Out :=
  let s := s.modProt o fun p => { p with
    est := clampI (-1000) 1000 est, satRun := if sat then 0 else p.satRun + 1, frontGood := sat || decide (p.satRun + 1 < 8) }
  let p := (s.o o).prot
  .next (s.applyInputs o (clearBits p.active 16 + 16 * b2n p.residualTrips) [0, 0, 0, 0, p.wide + p.est])

/-- RC_FRONTEND (R202). -/
def execRcFrontend (o : ONum) (s : State) : Out :=
  onlyIf (decide (8 ≤ (s.o o).prot.satRun) && !s.latchedQ 48 o.val) s fun s => s.trip o 48 10 0

/-- DC_SLOW_UPDATE (R194, R196, R201): 0.1 mA. -/
def execDcSlowUpdate (o : ONum) (mean : Int) (s : State) : Out :=
  .next (
    let p := (s.o o).prot
    let a := mean.natAbs
    let s := s.modProt o fun p => { p with
      dcSlow := mean, slowArmed := decide (a < 45) || s.rcdTest o
      warnSince := if 25 ≤ a then some (p.warnSince.getD s.up) else none
      warnArmed := p.warnArmed || decide (a < 20), warnActive := p.warnActive && decide (20 ≤ a) }
    if 45 ≤ a && p.slowArmed && !s.rcdTest o then s.trip o 46 7 mean else s)

/-- DC_FAST_UPDATE (R194, R201): 0.1 mA. -/
def execDcFastUpdate (o : ONum) (mean : Int) (s : State) : Out :=
  .next (
    let p := (s.o o).prot
    let s := s.modProt o fun p => { p with dcFast := mean, fastArmed := decide (mean.natAbs < 450) || s.rcdTest o }
    if 450 ≤ mean.natAbs && p.fastArmed && !s.rcdTest o then s.trip o 46 8 mean else s)

/-- RC_WARN (R196). -/
def execRcWarn (o : ONum) (s : State) : Out :=
  let p := (s.o o).prot
  let held := match p.warnSince with
    | some t => decide (t + 1000 ≤ s.up)
    | none => false
  onlyIf (held && p.warnArmed && p.slowArmed) s fun s =>
    (s.modProt o fun p => { p with warnArmed := false, warnActive := true }).emit 2 0x0482
      (toLE 1 o.val ++ zeros 1 ++ toLEs 2 p.dcSlow ++ toLE 8 s.bak.rtc)

/-- The 10 ms window of the AC residual holds the injection of step 2 or 3 of a self-test, or of MA_RCDTEST (R198, R207; 20, code 1). -/
def State.acInjected (s : State) (o : ONum) : Bool :=
  let p := (s.o o).prot
  s.rcdTest o || (p.stRun && decide (p.stFrom + 100 ≤ s.up) && decide (s.up < p.stFrom + 230))

/-- AC_RESIDUAL_UPDATE (R198, R201): 0.1 mA. What a self-test injects is no update of the path (log entry 18). -/
def execAcResidualUpdate (o : ONum) (rms : Nat) (s : State) : Out :=
  .next (
    let p := (s.o o).prot
    let hit := decide (8 * s.rcAc o ≤ rms)
    if s.acInjected o then s.modProt o fun p => { p with ac := rms }
    else
      let s := s.modProt o fun p => { p with ac := rms, acArmed := !hit }
      if hit && p.acArmed then s.trip o 45 6 rms else s)

/-- SSW_DESAT (R186, R204): SSWFB falls after ready was seen. With SSWEN low SSWFB is not evaluated, so the input does not stay active. -/
def execSswDesat (o : ONum) (s : State) : Out :=
  onlyIf ((s.o o).sw.sswen && (s.o o).sw.readySeen) s fun s => s.setLatch o 32 []

/-- OVERLOAD (R206): `cur` is the half-cycle RMS current in 0.1 A that has stood above the bound for 5 s. -/
def execOverload (o : ONum) (cur : Nat) (s : State) : Out :=
  onlyIf (s.energised o && ((s.o o).pilot.mode == .pwm || (s.o o).pilot.mode == .hlc)
      && decide (11 * s.iol o + 1000 < 100 * cur) && decide ((s.o o).prot.iolCut + 10000 ≤ s.up)) s fun s =>
    s.trip o 49 11 cur

/-- A self-test of the outlet begins (R207). -/
def State.startTest (s : State) (o : ONum) (trigger : Nat) : State :=
  s.modProt o fun p => { p with stRun := true, stFrom := s.up, stTrig := trigger, stRetry := false }

/-- SELFTEST_START (R207): TRIGGER 0 after an SSWEN fall, 1 at a start, 2 on command. -/
def execSelftestStart (o : ONum) (trigger : Nat) (s : State) : Out :=
  let due := match (s.o o).sw.sswFall with
    | some t => decide (t + 120 ≤ s.up)
    | none => false
  onlyIf (!(s.o o).prot.stRun && !(s.o o).sw.sswen && !s.coil o
      && ((trigger == 0 && due) || (trigger == 1 && !s.host.ready))) s fun s => s.startTest o trigger

/-- RESULT of the measurements of a self-test: the first step that does not pass, 0 for none (R207). -/
def selftestResult (m : RcdMeas) : Nat :=
  if !(decide (85 ≤ m.dc) && decide (m.dc ≤ 115)) then 1
  else if !(decide (180 ≤ m.ac) && decide (m.ac ≤ 220)) then 2
  else if !m.apex then 3
  else if !(decide (m.offDc.natAbs ≤ 10) && decide (m.offAc < 10)) then 4
  else 0

/-- An attempt of a self-test ends (R207, R208): one repeat on failure, then PROT_SELFTEST_DONE and the final completion; a pass stores the
offsets. -/
def State.testEnds (s : State) (o : ONum) (m : RcdMeas) : State :=
  let p := (s.o o).prot
  let result := selftestResult m
  if result ≠ 0 && !p.stRetry then s.modProt o fun p => { p with stRetry := true, stFrom := s.up }
  else
    let pass := result == 0
    let s := s.modProt o fun p => { p with
      stRun := false, stRetry := false, stTag := none, stPass := pass, stSince := pass
      offDc := if pass then m.offDc else p.offDc, offAc := if pass then m.offAc else p.offAc }
    let s := if pass then (if p.stRetry then s.transient 50 o.val result else s) else s.raiseRetried 50 o.val result
    let s := s.emit 2 0x0481 (toLE 1 o.val ++ toLE 1 result ++ toLE 1 p.stTrig ++ zeros 1 ++ toLEs 2 m.dc ++ toLE 2 m.ac
      ++ toLE 8 s.bak.rtc)
    match p.stTag with
    | some t => s.finish 2 t (if pass then 0 else 9) []
    | none => s

/-- SELFTEST_DONE (R207, R208): what its steps measured. -/
def execSelftestDone (o : ONum) (m : RcdMeas) (s : State) : Out := onlyIf (s.o o).prot.stRun s fun s => s.testEnds o m

/-- The self-test of an outlet before ST15, with its repeat where the first attempt fails (R207, R208). -/
def State.testAtStart (s : State) (o : ONum) (m : RcdMeas × RcdMeas) : State :=
  let s := (s.startTest o 1).testEnds o m.1
  if (s.o o).prot.stRun then s.testEnds o m.2 else s

/-- The image with the thresholds of the outlets of a list replaced (R213). -/
def patchImage (rcAc ocThr rcApex : Nat) : List ONum → Bytes → Bytes
  | [], img => img
  | o :: t, img =>
    let img := overlay (overlay img (17 + 16 * o.val) (toLE 1 rcAc)) (20 + 16 * o.val) (toLE 2 ocThr ++ toLE 2 rcApex)
    patchImage rcAc ocThr rcApex t img

/-- An image with its check value (R241). -/
def sealImage (img : Bytes) : Bytes := img.take 508 ++ toLE 4 (crc32c (img.take 508))

/-- PROT_CONFIG_SET (R193, R213, R244, R245). -/
def execProtConfigSet (q : Req) (s : State) : Out :=
  let p := q.payload
  let l := if u8 p 0 = 0xFF then outlets else [outletArg p 0]
  mail { op := 0x0401, pair := 2, lo := 8, hi := 8 } q s
    ((outletFits p 0 || u8 p 0 == 0xFF) && 6 ≤ u8 p 1 && u8 p 1 ≤ 30 && (u16 p 2 == 0 || (50 ≤ u16 p 2 && u16 p 2 ≤ 250))
      && 100 ≤ u16 p 4 && u16 p 4 ≤ 1000 && u16 p 4 % 10 == 0) fun s =>
    if !(l.all fun o => ocThrAllowed (u16 p 2) (s.rated o)) then s.no 0x05
    else if s.store.safeMode = 0 then s.no 0x04
    else if l.any s.coil then s.no 0x03
    else ((s.putImage (sealImage (patchImage (u8 p 1) (u16 p 2) (u16 p 4) l s.isl.img)) s.store.safeRole).effect 2 q.tag 0x0401).ok

/-- PROT_CONFIG_GET (R214). -/
def execProtConfigGet (q : Req) (s : State) : Out :=
  let o := outletArg q.payload 0
  mail { op := 0x0402, pair := 2, lo := 1, hi := 1 } q s (outletFits q.payload 0) fun s =>
    s.ok (toLE 1 o.val ++ toLE 1 (s.rcAc o) ++ toLE 2 (s.ocThr o) ++ toLE 2 (s.rcApex o) ++ zeros 2 ++ toLE 2 (s.rated o))

/-- PEAK: the largest phase current magnitude in the last 1 s, 0.1 A (R215); a corrected sample is in units of the full scale over 2^23
(10 R358). -/
def State.peak (s : State) (o : ONum) : Nat :=
  let of (l : List Int) : Nat := maxOf ((List.range 3).map fun k => (l.getD (4 * o.val + k) 0).natAbs)
  maxOf ((s.en.wave.take 8000).map of) * s.ifsMa o / 2 ^ 23 / 100

/-- PROT_STATUS_GET (R215). -/
def execProtStatusGet (q : Req) (s : State) : Out :=
  let o := outletArg q.payload 0
  mail { op := 0x0403, pair := 2, lo := 1, hi := 1 } q s (outletFits q.payload 0) fun s =>
    let p := (s.o o).prot
    s.ok (toLE 1 o.val ++ toLE 1 p.latch
      ++ toLE 1 (b2n p.frontGood + 2 * b2n p.stPass + 4 * b2n p.warnActive + 8 * b2n (s.o o).sw.sswfb + 16 * b2n p.stRun) ++ zeros 1
      ++ toLEs 2 p.dcSlow ++ toLEs 2 p.dcFast ++ toLE 2 p.ac ++ toLE 2 (s.peak o) ++ toLE 4 p.trips ++ toLE 8 p.last)

/-- The activity claims the test port of outlet `o` (20, claims). -/
def MaAct.claimsPort (a : MaAct) (o : Nat) : Bool := a.index == o && 1 ≤ a.act && a.act ≤ 3

/-- PROT_SELFTEST (R216). -/
def execProtSelftest (q : Req) (s : State) : Out :=
  let o := outletArg q.payload 0
  mail { op := 0x0404, pair := 2, lo := 1, hi := 1 } q s (outletFits q.payload 0) fun s =>
    if s.coil o || (s.o o).sw.sswen then s.no 0x03
    else if (s.o o).prot.stRun || (s.maint.any fun a => a.running && a.claimsPort o.val) then s.no 0x02
    else ((s.startTest o 2).modProt o fun p => { p with stTag := some q.tag }).queued

end Sys2Proof.Machine
end

