-- ==== Sys2Proof/Machine/Budget.lean ====
section
/-! DEFINITION. The site budget engine: local rounds, allocation, step instants and the step time base, and its commands (08). -/

namespace Sys2Proof.Machine

/-! ### Limits -/

/-- The limits of one allocation: per phase for the site, per bus and phase, and IMBAL (R266). -/
structure Lims where
  site : List Nat
  busA : List Nat
  busB : List Nat
  imbal : Nat
  deriving DecidableEq, Repr

/-- A field of BUD_CONFIG in force. -/
def State.bc (s : State) (off : Nat) : Nat := u16 s.bud.cfg off

/-- EXT in force (R262). -/
def State.extNow (s : State) : List Nat := s.bud.ext.getD (fld3 s.bud.cfg 26)

/-- The H24 is in a lattice (R290). -/
def State.inLattice (s : State) : Bool := u8 s.cfg.lat 0 == 1

/-- The lattice grants for the next step instant: those of the SHARE that waits, else those in force (R260, R283). -/
def State.latGrants (s : State) : List Nat × List Nat :=
  match s.lat.share with
  | some x => (x.gI, x.gE)
  | none => (s.lat.gI, s.lat.gE)

/-- The available limits per phase, import and export (R260). -/
def State.avail (s : State) : List Nat × List Nat :=
  if s.inLattice then s.latGrants else (sub3 (fld3 s.bud.cfg 0) s.extNow, fld3 s.bud.cfg 6)

/-- The limits of an import allocation; a bus limit of 0xFFFF is none (R285). -/
def State.limsI (s : State) (site : List Nat) : Lims :=
  let f (l : List Nat) : List Nat := l.map fun x => if x = 0xFFFF then 1000000 else x
  { site := site, busA := f (fld3 s.bud.cfg 12), busB := f (fld3 s.bud.cfg 18), imbal := s.bc 24 }

/-- The limits of an export allocation: BUSA and BUSB are import limits. -/
def State.limsE (s : State) (site : List Nat) : Lims :=
  let no := [1000000, 1000000, 1000000]
  { site := site, busA := no, busB := no, imbal := s.bc 24 }

/-- Outlet `k` draws on phase `ph`, 0 to 2 (R266). -/
def State.draws (s : State) (k ph : Nat) : Bool :=
  let c := s.cfg.outlet.toList.getD k []
  u8 c 1 == 3 || u8 c 2 == ph + 1

/-- The total of a list of grants on phase `ph` of bus `b`. -/
def State.busTotal (s : State) (g : List Nat) (b ph : Nat) : Nat :=
  (g.zipIdx.filter fun x => s.draws x.2 ph && u8 (s.cfg.outlet.toList.getD x.2 []) 3 == b).foldl (fun t x => t + x.1) 0

/-- Which constraint of R266 a list of grants breaks: 0 none, 1 site, 2 bus, 3 IMBAL. -/
def State.breach (s : State) (l : Lims) (g : List Nat) : Nat :=
  let a := (List.range 3).map (s.busTotal g 0)
  let b := (List.range 3).map (s.busTotal g 1)
  let lowest (t : List Nat) : Nat := t.foldl min (t.headD 0)
  if (List.range 3).any fun i => l.site.getD i 0 < a.getD i 0 + b.getD i 0 then 1
  else if (List.range 3).any fun i => l.busA.getD i 0 < a.getD i 0 || l.busB.getD i 0 < b.getD i 0 then 2
  else if l.imbal ≠ 0 && (l.imbal < maxOf a - lowest a || l.imbal < maxOf b - lowest b) then 3
  else 0

/-- PRIORITY of outlet `k` (R286). -/
def State.priority (s : State) (k : Nat) : Nat := u8 (s.cfg.budOut.toList.getD k []) 1

/-- The first pass of R267: 6.0 A to each outlet in order that may start and fits. -/
def State.firstPass (s : State) (l : Lims) (caps : List Nat) (start : Nat → Bool) : List Nat → List Nat → List Nat
  | [], g => g
  | k :: t, g =>
    State.firstPass s l caps start t
      (if 60 ≤ caps.getD k 0 && start k && s.breach l (g.set k 60) = 0 then g.set k 60 else g)

/-- One turn of the filling loop of R267 over its active outlets: the grants, and the outlets still active. -/
def State.turn (s : State) (l : Lims) (caps : List Nat) : List Nat → List Nat → List Nat × List Nat
  | [], g => (g, [])
  | k :: t, g =>
    let x := g.getD k 0 + 1
    if x ≤ caps.getD k 0 && s.breach l (g.set k x) = 0 then
      let r := State.turn s l caps t (g.set k x)
      (r.1, k :: r.2)
    else State.turn s l caps t g

/-- The filling loop of R267 for one class, at most `n` turns. -/
def State.fill (s : State) (l : Lims) (caps : List Nat) : Nat → List Nat → List Nat → List Nat
  | 0, _, g => g
  | n + 1, active, g =>
    if active.isEmpty then g
    else
      let r := s.turn l caps active g
      State.fill s l caps n r.2 r.1

/-- The classes from `c` down filled (R267). -/
def State.classes (s : State) (l : Lims) (caps order : List Nat) : Nat → List Nat → List Nat
  | 0, g => g
  | c + 1, g =>
    let active := order.filter fun k => s.priority k == c && 0 < g.getD k 0 && g.getD k 0 < caps.getD k 0
    State.classes s l caps order c (s.fill l caps 400 active g)

/-- The magnitude of the setpoint in force of outlet `k`. -/
def State.heldNow (s : State) (k : Nat) : Nat := ((s.out.toList.getD k {}).pilot.setpoint).natAbs

/-- The order of R267: PRIORITY, then outlets that hold 6.0 A, then earliest eligibility. -/
def State.budOrder (s : State) (elig : List Nat) : List Nat :=
  sortBy (fun a b => decide (s.priority b < s.priority a)
    || (s.priority a == s.priority b && (decide (60 ≤ s.heldNow a) || decide (s.heldNow b < 60)))) elig

/-- The allocation of R267: a grant in 0.1 A for each outlet. -/
def State.allocate (s : State) (l : Lims) (caps elig : List Nat) (start : Nat → Bool) : List Nat :=
  let order := s.budOrder elig
  s.classes l caps order 8 (s.firstPass l caps start order (List.replicate 24 0))

/-! ### Caps -/

/-- The outlet is eligible (R263). -/
def State.eligible (s : State) (o : ONum) : Bool :=
  let x := s.o o
  let p := s.pilotState o
  (x.ses.st == .ready || x.ses.st == .energising || x.ses.st == .paused)
    && (p == 1 || p == 2 || (p == 3 && s.oc o 12 == 1) || x.hlc.v2g)

/-- The smallest of the limits on an outlet with its LIMIT_BY code: the first of equal ones stands. -/
def capMin (l : List (Nat × Nat)) : Nat × Nat :=
  match l with
  | [] => (0, 0)
  | x :: t => t.foldl (fun b y => if y.1 < b.1 then y else b) x

/-- The current in 0.1 A of a power in W; no voltage gives none. -/
def currentOf (w volts : Nat) : Nat := if volts = 0 then 0 else w * 1000 / volts

/-- The EV request for import in 0.1 A: EVMaxCurrent under ISO 15118-2, EVMaximumChargePower over the phase voltages under ISO
15118-20, none with PWM only (R264). -/
def State.evRequest (s : State) (o : ONum) : Option Nat :=
  let h := (s.o o).hlc
  if !h.v2g then none
  else if h.proto = 1 then h.evMax
  else h.evCharge.map fun w => currentOf w (s.phaseVolts o)

/-- The EV request for export in 0.1 A: EVMaximumDischargePower over the phase voltages (R264). -/
def State.evExport (s : State) (o : ONum) : Option Nat :=
  let h := (s.o o).hlc
  if h.v2g && h.proto = 2 then h.evDischarge.map fun w => currentOf w (s.phaseVolts o) else none

/-- The cap of R264 and its LIMIT_BY code; `ev` is the EV request. -/
def State.capOf (s : State) (o : ONum) (ev : Option Nat) : Nat × Nat :=
  if !s.eligible o then (0, 11)
  else
    let c := s.cfg.budOut.get o
    let rec' := if u8 s.bud.cfg 33 = 1 then s.bud.reclaim.filter fun x => x.1 == o.val else []
    capMin ([(s.ceiling o, 4)]
      ++ (ev.map fun x => (x, 5)).toList
      ++ (if u16 c 2 ≠ 0xFFFF then [(u16 c 2, 6)] else [])
      ++ (if bit (u8 c 4) (s.bill.tariff - 1) then [] else [(u16 c 6, 7)])
      ++ (if s.cr.ranOut.contains (s.o o).ses.account then [(0, 8)] else [])
      ++ rec'.map fun x => (x.2, 9))

/-- The present largest half-cycle RMS phase current lies within 1.0 A of the applied setpoint (R265). -/
def State.nearSetpoint (s : State) (o : ONum) : Bool :=
  (List.range 3).any fun k => !s.halfBelow o k (100 * (s.applied o - 10))

/-- The reclaim caps after a round; `cur` is the largest half-cycle RMS phase current of each outlet over the last 30 s, in 0.1 A
(R265). -/
def State.reclaimNext (s : State) (cur : List Nat) : List (Nat × Nat) :=
  outlets.filterMap fun o =>
    let x := s.o o
    let now := cur.getD o.val 0
    let sp := s.applied o
    let has := s.bud.reclaim.find? fun r => r.1 == o.val
    if s.hlcOn o || x.ses.st != .energising || x.ses.since + 60000 > s.up then none
    else if s.nearSetpoint o then none
    else if now + 20 < sp then some (o.val, max 60 (now + 20))
    else has

/-- DISCHARGE of an outlet whose session is bidirectional (R267). -/
def State.discharge (s : State) (o : ONum) : Nat := if (s.o o).hlc.bidir then u16 (s.cfg.budOut.get o) 8 else 0

/-- The sum of caps on each phase (R279). -/
def State.demand (s : State) (caps : List Nat) : List Nat :=
  (List.range 3).map fun ph => s.busTotal caps 0 ph + s.busTotal caps 1 ph

/-- The setpoints of an import and an export allocation: export wins (R267). -/
def signedGrants (gi ge : List Nat) : List Int :=
  (List.range 24).map fun k => if ge.getD k 0 ≠ 0 then -((ge.getD k 0 : Nat) : Int) else ((gi.getD k 0 : Nat) : Int)

/-- The results that a step instant may still need: those up to the newest that has been complete for 20 ms (R270). -/
def keepRounds (now : Nat) : List RoundRes → List RoundRes
  | [] => []
  | r :: t => if r.at_ + 20 ≤ now then [r] else r :: keepRounds now t

/-- One local round (R260 to R268); `cur` is the largest current of each outlet over the last 30 s. -/
def State.round (s : State) (cur : List Nat) : State :=
  let elig := (s.bud.elig.filter fun k => outlets.any fun o => o.val == k && s.eligible o)
    ++ ((outlets.filter fun o => s.eligible o && !s.bud.elig.contains o.val).map fun o => o.val)
  let s := { s with bud := { s.bud with elig := elig, reclaim := s.reclaimNext cur } }
  let capsBy := outlets.map fun o => s.capOf o (s.evRequest o)
  let caps : List Nat := capsBy.map fun x => x.1
  let capsE := outlets.map fun o => min (s.discharge o) (s.capOf o (s.evExport o)).1
  let start (k : Nat) : Bool := !s.bud.hold.contains k
  let li := s.limsI s.avail.1
  let gi := s.allocate li caps elig start
  let ge := s.allocate (s.limsE s.avail.2) capsE (elig.filter fun k => capsE.getD k 0 != 0) start
  let g := signedGrants gi ge
  let by_ (k : Nat) : Nat :=
    let c := capsBy.getD k (0, 11)
    let x := gi.getD k 0
    if c.2 = 11 || x = c.1 || c.1 < 60 then c.2
    else if !start k && x = 0 then 10
    else match s.breach li (gi.set k (if x = 0 then 60 else x + 1)) with
      | 0 => 0
      | b => b
  let noRoom (k : Nat) : Bool := decide (60 ≤ s.heldNow k) && g.getD k 0 == 0 && decide (60 ≤ (caps.getD k 0 : Nat))
  let r : RoundRes := { at_ := s.up, grants := g, noRoom := (List.range 24).filter noRoom }
  { s with bud := { s.bud with
    rounds := keepRounds s.up (r :: s.bud.rounds)
    demI := s.demand caps, demE := s.demand capsE
    last := (List.range 24).map fun k => { cap := caps.getD k 0, grant := g.getD k 0, limit := by_ k } } }

/-! ### Step instants -/

/-- A setpoint put in force on an outlet (R105, R126, R206, R269). -/
def State.setSetpoint (s : State) (o : ONum) (v : Int) : State :=
  let x := s.o o
  let was := s.iol o
  let old := s.usable o
  let s := s.modPilot o fun p => { p with setpoint := v }
  let s := (s.setPilot o).iolFrom o was
  let new := s.usable o
  let s := if old < 60 && 60 ≤ new then s.modSes o fun y => { y with closeCause := 6 } else s
  if s.energised o && x.pilot.mode == .pwm && new < 60 then
    s.modSw o fun w => { w with deferred := true, deferAt := if w.deferred then w.deferAt else s.up }
  else if 60 ≤ new then s.modSw o fun w => { w with deferred := false }
  else s

/-- The setpoints of a list put in force. -/
def State.setAll (s : State) (g : List Int) : List ONum → State
  | [] => s
  | o :: t => State.setAll (s.setSetpoint o (g.getD o.val 0)) g t

/-- Sessions whose account has run out and whose setpoint has been 0 since the last step instant end (R16, R447). -/
def State.endExhausted (s : State) : List ONum → State
  | [] => s
  | o :: t =>
    State.endExhausted (if s.hasSession o && s.cr.ranOut.contains (s.o o).ses.account && (s.o o).pilot.setpoint == 0
      then s.toEnding o 10 else s) t

/-- The outlets whose setpoint a list of grants changes. -/
def State.changed (s : State) (g : List Int) : Nat :=
  maskOf ((outlets.filter fun o => (s.o o).pilot.setpoint != g.getD o.val 0).map fun o => o.val)

/-- The last local round that has been complete for 20 ms (R270). -/
def State.roundDue (s : State) : Option RoundRes := s.bud.rounds.find? fun r => decide (r.at_ + 20 ≤ s.up)

/-- The step register takes the result of the last round that completed at least 20 ms before (R270). -/
def State.loadStep (s : State) : State :=
  match s.roundDue with
  | some r => { s with bud := { s.bud with reg := r.grants, noRoom := r.noRoom } }
  | none => s

/-- The step register applied, with the configuration, the holds and BUD_STEP (R268 to R270, R285). -/
def State.applyStep (s : State) : State :=
  let s := s.loadStep
  let g := s.bud.reg
  let mask := s.changed g
  let s := s.endExhausted outlets
  let s := s.setAll g outlets
  let s := { s with bud := { s.bud with
    hold := s.bud.hold ++ s.bud.noRoom.filter fun k => !s.bud.hold.contains k
    noRoom := [], rounds := s.bud.rounds.filter fun r => decide (s.up < r.at_ + 20), reduced := false } }
  if bit (u8 s.bud.cfg 34) 0 then
    s.emit 3 0x0680 (toLE 8 s.stepMs ++ toLE 1 (b2n s.bud.line) ++ toLE 1 (bitsOf 24 mask).length ++ zeros 2 ++ toLE 4 mask)
  else s

/-! ### Meanings: events -/

/-- BUDGET_ROUND (R260 to R267): the largest currents of the last 30 s come with it, in 0.1 A. -/
def execBudgetRound (reclaim : List Nat) (s : State) : Out :=
  onlyIf s.fwRuns s fun s => s.round reclaim

/-- PAUSE_HOLD_END (R268). -/
def execPauseHoldEnd (o : ONum) (s : State) : Out :=
  .next { s with bud := { s.bud with hold := s.bud.hold.filter fun k => k != o.val } }

/-- EXTLOAD_LAPSE (R262). -/
def execExtloadLapse (s : State) : Out := .next { s with bud := { s.bud with ext := none } }

/-- BUD_TIMEBASE (08). -/
def State.evtTimebase (s : State) (src dst : Nat) : State :=
  s.emit 3 0x0681 (toLE 1 src ++ toLE 1 dst ++ zeros 2 ++ toLE 8 s.bak.rtc)

/-- The whole milliseconds of the step time base move against the pilot edges, by an amount that the spec leaves open
(R104, R271; log entry 8). -/
def State.rebase (s : State) : State :=
  let d := s.draw
  let f (x : Outlet) : Outlet := { x with pilot := { x.pilot with edge := (x.pilot.edge + d.1 + 500) % 1000 - 500 } }
  { d.2 with out := vmap f d.2.out }

/-- The step time base changes its source (R271 to R273). -/
def State.sourceTo (s : State) (line : Bool) : State :=
  if s.bud.line == line then s
  else (({ s with bud := { s.bud with line := line, moved := true } }).rebase).evtTimebase (b2n s.bud.line) (b2n line)

/-- TIMEBASE_TO_LINE (R271): 10 s after the loss of lock. -/
def execTimebaseToLine (s : State) : Out :=
  onlyIf (s.fwRuns && !s.bud.line && !(s.netOn && s.net.sync == 2) && decide (s.net.lostAt + 10000 ≤ s.up)) s fun s => s.sourceTo true

/-- TIMEBASE_TO_PTP (R272): 2 s after the relock. -/
def execTimebaseToPtp (s : State) : Out :=
  onlyIf (s.fwRuns && s.bud.line && s.netOn && s.net.sync == 2 && decide (s.net.lockedAt + 2000 ≤ s.up)) s fun s => s.sourceTo false

/-! ### Meanings: commands -/

/-- Every one of `k` 16-bit fields from `off` on is at most 65,000. -/
def curOk (p : Bytes) (off k : Nat) : Bool := (List.range k).all fun i => u16 p (off + 2 * i) ≤ 65000

/-- BUD_CONFIG_SET fields in range (R285). -/
def budCfgOk (p : Bytes) : Bool :=
  curOk p 0 6 && ((List.range 6).all fun i => u16 p (12 + 2 * i) ≤ 65000 || u16 p (12 + 2 * i) == 0xFFFF)
    && (u16 p 24 == 0 || (60 ≤ u16 p 24 && u16 p 24 ≤ 65000)) && curOk p 26 3 && 10 ≤ u8 p 32 && u8 p 33 ≤ 1 && u8 p 34 ≤ 1

/-- BUD_CONFIG_SET (R285): in force from the next step instant on. -/
def execBudConfigSet (q : Req) (s : State) : Out :=
  mail { op := 0x0601, pair := 3, lo := 36, hi := 36 } q s (budCfgOk q.payload) fun s =>
    (({ s with cfg := { s.cfg with bud := q.payload.take 35 ++ zeros 1 } }).effect 3 q.tag 0x0601).ok

/-- BUD_CONFIG_GET (R285). -/
def execBudConfigGet (q : Req) (s : State) : Out :=
  mail { op := 0x0602, pair := 3 } q s true fun s => s.ok s.cfg.bud

/-- BUD_OUTLET_SET fields in range (R286). -/
def budOutOk (p : Bytes) : Bool :=
  (outletFits p 0 || u8 p 0 == 0xFF) && u8 p 1 ≤ 7 && (u16 p 2 ≤ 400 || u16 p 2 == 0xFFFF)
    && (u16 p 6 == 0 || (60 ≤ u16 p 6 && u16 p 6 ≤ 400)) && (u16 p 8 == 0 || (60 ≤ u16 p 8 && u16 p 8 ≤ 400))

/-- BUD_OUTLET_SET (R286). -/
def execBudOutletSet (q : Req) (s : State) : Out :=
  let p := q.payload
  mail { op := 0x0603, pair := 3, lo := 12, hi := 12 } q s (budOutOk p) fun s =>
    let new (k : Nat) : Bytes := toLE 1 k ++ (p.drop 1).take 4 ++ zeros 1 ++ (p.drop 6).take 4 ++ zeros 2
    let f (k : Nat) (x : Bytes) : Bytes := if u8 p 0 = 0xFF || u8 p 0 = k then new k else x
    (({ s with cfg := { s.cfg with budOut := vmapi f s.cfg.budOut } }).effect 3 q.tag 0x0603).ok

/-- BUD_OUTLET_GET (R286). -/
def execBudOutletGet (q : Req) (s : State) : Out :=
  let o := outletArg q.payload 0
  mail { op := 0x0604, pair := 3, lo := 1, hi := 1 } q s (outletFits q.payload 0) fun s =>
    let l := s.bud.last.getD o.val {}
    s.ok (s.cfg.budOut.get o ++ toLE 2 l.cap ++ toLEs 2 l.grant ++ toLEs 2 (s.o o).pilot.setpoint ++ toLE 1 l.limit ++ zeros 1)

/-- LAT of BUD_STATUS_GET (R287). -/
def State.latCode (s : State) : Nat :=
  if !s.inLattice then 0 else if s.lat.leading && s.lat.floorsOnly then 4 else if s.lat.floor then 3
  else if s.lat.leading then 2 else 1

/-- Applied setpoints per phase, import and export. -/
def State.totals (s : State) : List Nat × List Nat :=
  let gi := outlets.map fun o => (s.o o).pilot.setpoint.toNat
  let ge := outlets.map fun o => (-(s.o o).pilot.setpoint).toNat
  (s.demand gi, s.demand ge)

/-- BUD_STATUS_GET (R287). -/
def execBudStatusGet (q : Req) (s : State) : Out :=
  mail { op := 0x0605, pair := 3 } q s true fun s =>
    s.ok (toLE 1 (b2n s.bud.line) ++ toLE 1 s.latCode ++ zeros 2 ++ toLE3 s.avail.1 ++ toLE3 s.avail.2 ++ toLE3 s.totals.1
      ++ toLE3 s.totals.2 ++ toLE3 s.extNow ++ zeros 2 ++ toLE 8 (s.bud.stepAt.getD ((s.stepMs / 1000 + 1) * 1000))
      ++ toLE 4 (if s.inLattice then s.lat.applied else 0))

/-- BUD_EXTLOAD (R288). -/
def execBudExtload (q : Req) (s : State) : Out :=
  mail { op := 0x0606, pair := 3, lo := 6, hi := 6 } q s (curOk q.payload 0 3) fun s =>
    ({ s with bud := { s.bud with ext := some (fld3 q.payload 0) } }).ok

/-- BUD_STEP_AT (R274, R289). -/
def execBudStepAt (q : Req) (s : State) : Out :=
  let t := fld q.payload 0 8
  mail { op := 0x0607, pair := 3, lo := 8, hi := 8 } q s true fun s =>
    if t < s.stepMs + 200 || s.stepMs + 10000 < t then s.no 0x05
    else if s.bud.line || (s.inLattice && !s.lat.leading) then s.no 0x03
    else if s.bud.stepAt.isSome then s.no 0x02
    else ({ s with bud := { s.bud with stepAt := some t } }).ok

end Sys2Proof.Machine
end

