-- ==== Sys2Proof/Machine/Hlc.lean ====
section
/-! DEFINITION. ISO 15118 communication over the pilot line (05): the engine's lanes, SLAC, V2G sessions and their commands. Messages and
certificates come decoded. -/

namespace Sys2Proof.Machine

/-! ### Links and lanes -/

/-- The front end of an outlet is powered (05): PIL0 powers the engine and outlets 0 to 11, PIL1 the others. -/
def State.feOn (s : State) (o : ONum) : Bool :=
  s.domOn 4 && (o.val < 12 || s.domOn 5) && !bit s.plc.afe o.val

/-- The same of an outlet number. -/
def State.feOnN (s : State) (n : Nat) : Bool := if h : n < 24 then s.feOn ⟨n, h⟩ else false

/-- The outlet is SLAC-ready (R159, R175). -/
def State.slacReady (s : State) (o : ONum) : Bool :=
  let st := (s.o o).ses.st
  let p := s.pilotState o
  s.feOn o && s.hlcOn o && !(s.o o).hlc.waitA && (s.o o).pilot.mode == .hlc && (p == 1 || p == 2 || p == 3)
    && (st == .plugged || st == .authorising || st == .ready || st == .paused) && !(s.o o).hlc.v2g

/-- The outlet is expecting frames (R154). -/
def State.expecting (s : State) (o : ONum) : Bool := s.slacReady o || (s.feOn o && (s.o o).hlc.assoc)

/-- HLC_CONFIG byte of an outlet (R177). -/
def State.hc (s : State) (o : ONum) (off : Nat) : Nat := u8 (s.cfg.hlc.get o) off

/-- MAC address of an outlet's link, in IEEE 802 order (R158). -/
def outletMac (o : ONum) : Nat := 2 * 2 ^ 40 + Config.uid.toNat % 2 ^ 32 * 2 ^ 8 + o.val

/-- The link-local address of a MAC address by EUI-64 (R158): the universal/local bit inverted and FFFE in the middle (PRESUMED, log entry 31). -/
def linkLocal (mac : Nat) : Nat :=
  0xFE80 * 2 ^ 112 + (mac / 2 ^ 24 ^^^ 2 * 2 ^ 16) * 2 ^ 40 + 0xFFFE * 2 ^ 24 + mac % 2 ^ 24

/-- Short network identifier of an outlet's network (R158). -/
def snid (o : ONum) : Nat := o.val % 16

/-- TCP port for V2G (R158). -/
def v2gPort : Nat := 61000

/-- A frame of an outlet waits for a transmit lane (R156). -/
def State.plcSend (s : State) (o : ONum) (prio : Nat) (body : PlcBody) : State :=
  { s with plc := { s.plc with
    txWait := s.plc.txWait ++ [{ outlet := o.val, src := outletMac o, prio := prio, at_ := s.up, body := body }] } }

/-- An answer to a SLAC or V2G request goes with CA2 (PRESUMED, log entry 31). -/
def State.plcAnswer (s : State) (o : ONum) (body : PlcBody) : State := s.plcSend o 2 body

/-- The coincidence groups of a list of preambles in the order of their start times (R154): a group holds the frames that start within 2 µs,
150 ticks, of its first. `k` bounds their number. -/
def coincident : Nat → List Preamble → List (List Preamble)
  | 0, _ => []
  | k + 1, l =>
    match sortBy (fun a b : Preamble => decide (a.start ≤ b.start)) l with
    | [] => []
    | x :: t =>
      let near (p : Preamble) : Bool := decide (p.start ≤ x.start + 150)
      (x :: t.filter near) :: coincident k (t.filter fun p => !near p)

/-- The outlet that a coincidence group is decoded for (R154): of those expecting frames the one with the highest level, the first of equals. -/
def State.groupOutlet (s : State) (l : List Preamble) : Option ONum :=
  let ok := l.filter fun e => if h : e.outlet < 24 then s.expecting ⟨e.outlet, h⟩ else false
  match ok with
  | [] => none
  | x :: t =>
    let best := t.foldl (fun b e => if b.level < e.level then e else b) x
    if h : best.outlet < 24 then some ⟨best.outlet, h⟩ else none

/-- A coincidence group (R154, R155): its frame takes a lane and is decoded for one outlet, or is lost, or concerns none. -/
def State.groupRx (s : State) (l : List Preamble) : State :=
  match s.groupOutlet l with
  | none => s
  | some o =>
    if s.plc.rxLanes ≤ s.plc.rxOn.length then s.modHlc o fun h => { h with rxdrop := wrapInc 32 h.rxdrop }
    else
      let s := s.modHlc o fun h => { h with framesRx := wrapInc 32 h.framesRx }
      { s with plc := { s.plc with heardLast := l, rxOn := s.plc.rxOn ++ [o.val] } }

/-- PLC_FRAME_RX (R153 to R155, R173): the preambles that the powered front ends report, after the frames of the outlets in `ended` have
ended and left their lanes. -/
def execPlcFrameRx (l : List Preamble) (ended : List Nat) (s : State) : Out :=
  onlyIf (s.fwRuns && s.domOn 4) s fun s =>
    let s := { s with plc := { s.plc with rxOn := s.plc.rxOn.filter fun n => !ended.contains n } }
    (coincident l.length (l.filter fun p => s.feOnN p.outlet)).foldl State.groupRx s

/-- PLC_TX_GRANT (R156): the frames of the outlets in `ended` have ended; of the waiting frames whose outlets are `clear` by their own carrier
sense, a beacon first, then CA3 to CA0, then the oldest takes a free lane. -/
def execPlcTxGrant (ended clear : List Nat) (s : State) : Out :=
  onlyIf (s.fwRuns && s.domOn 4) s fun s =>
    let s := { s with plc := { s.plc with txOn := s.plc.txOn.filter fun f => !ended.contains f.outlet } }
    let may := s.plc.txWait.filter fun f => clear.contains f.outlet && !(s.plc.txOn.any fun g => g.outlet == f.outlet)
    if s.plc.txLanes ≤ s.plc.txOn.length then s
    else match may with
      | [] => s
      | x :: t =>
        let best := t.foldl (fun b e => if b.prio < e.prio then e else b) x
        let s := { s with plc := { s.plc with txWait := s.plc.txWait.erase best, txOn := s.plc.txOn ++ [best] } }
        if h : best.outlet < 24 then s.modHlc ⟨best.outlet, h⟩ fun h => { h with framesTx := wrapInc 32 h.framesTx } else s

/-- PLC_TX_DISCARD (R156): a frame of the outlet has waited 10 ms. -/
def execPlcTxDiscard (o : ONum) (s : State) : Out :=
  match s.plc.txWait.find? fun f => f.outlet == o.val && decide (f.at_ + 10 ≤ s.up) with
  | none => .next s
  | some f =>
    .next (({ s with plc := { s.plc with txWait := s.plc.txWait.erase f } }).modHlc o fun h =>
      { h with txdrop := wrapInc 32 h.txdrop })

/-- BEACON_TX (R157, R158, R173): it waits for a transmit lane before anything else. -/
def execBeaconTx (o : ONum) (s : State) : Out := onlyIf (s.fwRuns && s.feOn o) s fun s => s.plcSend o 4 (.beacon (snid o))

/-! ### SLAC -/

/-- CM_SLAC_PARM_REQ (R160, R163): the outlet becomes the candidate and holds the RunID until its decision; meanwhile another one is ignored. -/
def execCmSlacParmReq (o : ONum) (runid mac : Nat) (s : State) : Out :=
  onlyIf (s.fwRuns && s.slacReady o) s fun s =>
    let held := (s.o o).hlc.run.filter fun r => r.decided.isNone
    match held with
    | some r => if r.runid = runid then s.plcAnswer o (.parmCnf runid) else s
    | none =>
      let r : SlacRun := { runid := runid, mac := mac, xt := s.plc.xt, amax := s.plc.amax }
      (s.modHlc o fun h => { h with run := some r, validOk := false, toggles := 0, toggleWin := false }).plcAnswer o (.parmCnf runid)

/-- The attenuation of a carrier group against the nominal −75 dBm/Hz, in whole dB (R161). -/
def attenuation (level : Int) : Int := -75 - level

/-- A detected sound taken into what an outlet measured (R161); one that overlaps another frame is left out of the average. -/
def Heard.add (h : Heard) (x : Sound) : Heard :=
  if x.mixed then { h with detected := h.detected + 1 }
  else { h with
    detected := h.detected + 1, n := h.n + 1
    sums := (List.range 58).map fun k => h.sums.getD k 0 + attenuation (x.levels.getD k 0) }

/-- The measurements of one sound added to a run (R161). -/
def SlacRun.sound (r : SlacRun) (l : List Sound) (announced : Nat) : SlacRun :=
  { r with announced := announced, heard := (List.range 24).map fun n =>
      match l.find? fun x => x.outlet == n with
      | some x => (r.heard.getD n {}).add x
      | none => r.heard.getD n {} }

/-- CM_MNBC_SOUND_IND (R161): a decoded sound of the candidate's run, and what each powered front end that detects it measures. -/
def execCmMnbcSoundInd (o : ONum) (runid : Nat) (l : List Sound) (sounds : Nat) (s : State) : Out :=
  onlyIf (s.fwRuns && s.feOn o) s fun s =>
    match (s.o o).hlc.run with
    | none => s
    | some r =>
      if r.runid ≠ runid || r.decided.isSome then s
      else s.modHlc o fun h => { h with run := some (r.sound (l.filter fun x => s.feOnN x.outlet) sounds) }

/-- What outlet `n` measured in a run. -/
def SlacRun.at_ (r : SlacRun) (n : Nat) : Heard := r.heard.getD n {}

/-- AAG of an outlet in a run as a fraction (R161). -/
def SlacRun.aag (r : SlacRun) (n : Nat) : Int × Nat := ((r.at_ n).sums.foldl (· + ·) 0, 58 * (r.at_ n).n)

/-- AAG in whole dB, rounded down (log entry 70); 0 where no sound was detected. -/
def SlacRun.aagDb (r : SlacRun) (n : Nat) : Nat := ((r.aag n).1 / ((r.aag n).2 : Int)).toNat

/-- Attenuation of each group as an outlet averaged it, in whole dB rounded down (R162; log entry 70). -/
def SlacRun.groups (r : SlacRun) (n : Nat) : List Int := (r.at_ n).sums.map fun x => x / ((r.at_ n).n : Int)

/-- Outlets other than `n` that detected a sound and have an average of it (R162; log entry 70). -/
def SlacRun.others (r : SlacRun) (n : Nat) : List Nat := (List.range 24).filter fun m => m != n && (r.at_ m).n != 0

/-- AAG of `m` minus AAG of `n` is at least `d` dB. -/
def SlacRun.apart (r : SlacRun) (n m : Nat) (d : Int) : Bool :=
  let a := r.aag n
  let b := r.aag m
  decide (d * ((a.2 * b.2 : Nat) : Int) ≤ b.1 * (a.2 : Int) - a.1 * (b.2 : Int))

/-- The other outlet with the lowest AAG (HLC_SLAC DOMINANT); 0xFF none. -/
def SlacRun.dominant (r : SlacRun) (n : Nat) : Nat :=
  match r.others n with
  | [] => 0xFF
  | x :: t => t.foldl (fun b m => if r.apart b m 0 then b else m) x

/-- MARGIN: the smallest AAG difference to another outlet, in whole dB; 0xFF where no other was heard (R179). -/
def SlacRun.margin (r : SlacRun) (n : Nat) : Nat :=
  let a := r.aag n
  let diff (m : Nat) : Nat := (((r.aag m).1 * (a.2 : Int) - a.1 * ((r.aag m).2 : Int)) / ((r.aag m).2 * a.2 : Nat)).toNat
  match (r.others n).map diff with
  | [] => 0xFF
  | x :: t => t.foldl min x

/-- RESULT of a run for candidate `n` (R162). -/
def SlacRun.result (r : SlacRun) (n : Nat) (validOk : Bool) : Nat :=
  let x := r.at_ n
  if 2 * x.detected < r.announced || x.n = 0 then 4
  else if ((r.amax * (58 * x.n) : Nat) : Int) < (r.aag n).1 then 3
  else if (r.others n).any fun m => !r.apart n m 0 then 1
  else if (r.others n).any fun m => !r.apart n m r.xt then 2
  else if !validOk then 5 else 0

/-- SLAC_DECISION (R162): the end of TT_EVSE_match_MNBC. -/
def execSlacDecision (o : ONum) (s : State) : Out :=
  onlyIf (s.fwRuns && s.feOn o) s fun s =>
    match (s.o o).hlc.run with
    | none => s
    | some r =>
      if r.decided.isSome then s
      else
        let k := r.result o.val (s.hc o 4 == 0 || (s.o o).hlc.validOk)
        let d := r.dominant o.val
        let n := (r.at_ o.val).detected
        let s := s.modHlc o fun h => { h with
          run := some { r with decided := some (k == 0) }, slacRej := if k = 0 then h.slacRej else wrapInc 16 h.slacRej }
        let s := s.evtSlac o r k d (r.aagDb o.val) (if d = 0xFF then 0 else r.aagDb d) n
        if k = 0 then s.plcAnswer o (.attenChar r.runid n (r.groups o.val)) else s

/-- CM_VALIDATE_REQ (R164): with VALIDATE 0 it is answered "not required"; with VALIDATE 1 the toggle window opens, and at its end
the exchange has succeeded if the accepted toggles are as many as the EV made. -/
def execCmValidateReq (o : ONum) (window : Bool) (n : Nat) (s : State) : Out :=
  onlyIf (s.fwRuns && s.feOn o && (s.o o).hlc.run.isSome) s fun s =>
    if s.hc o 4 = 0 then s.plcAnswer o .notRequired
    else if window then (s.modHlc o fun h => { h with toggleWin := true, toggles := 0 }).plcAnswer o (.toggles none)
    else
      let h := (s.o o).hlc
      let ok := h.toggleWin && h.toggles == n && decide (0 < n)
      (s.modHlc o fun h => { h with toggleWin := false, validOk := ok }).plcAnswer o (.toggles (some ok))

/-- CM_SLAC_MATCH_REQ (R159, R162, R164, R586): a fresh network membership key, a free value; an earlier association ends. -/
def execCmSlacMatchReq (o : ONum) (runid mac : Nat) (s : State) : Out :=
  onlyIf (s.fwRuns && s.slacReady o && s.key.trngOk) s fun s =>
    match (s.o o).hlc.run with
    | none => s
    | some r =>
      if r.runid ≠ runid || r.mac ≠ mac || r.decided ≠ some true then s
      else
        let d := s.draw
        let nmk := d.1 % 2 ^ 128
        (d.2.modHlc o fun h => { h with
          run := none, assoc := true, initOpen := false, setupOpen := true, pausedV := false, proto := 0, tls := false, pnc := false
          conn := none, evMac := mac, atten := r.aagDb o.val, margin := r.margin o.val, nmk := nmk, nid := Config.nid nmk
          slacOk := wrapInc 16 h.slacOk }).plcAnswer o (.matchCnf runid (Config.nid nmk) nmk)

/-- SLAC_INIT_EXPIRY (R165): no match within SLAC_INIT. -/
def execSlacInitExpiry (o : ONum) (s : State) : Out :=
  onlyIf (s.fwRuns && (s.o o).hlc.initOpen && s.hlcOn o) s fun s => s.setFallback o 1

/-- SESSION_SETUP_TIMEOUT (R165): no SessionSetupReq within 20 s of a match. -/
def execSessionSetupTimeout (o : ONum) (s : State) : Out :=
  onlyIf (s.fwRuns && (s.o o).hlc.setupOpen) s fun s => s.setFallback o 2

/-! ### TLS -/

/-- The version of a suite: 12 for TLS 1.2, 13 for TLS 1.3 (R151). -/
def suiteVersion : Suite → Nat
  | .gcm => 13
  | _ => 12

/-- The key exchange of a suite: whether it is ephemeral, and the curve as the TYPE of its private keys (R151, R587). -/
def suiteExchange : Suite → Bool × Nat
  | .ecdheCbc => (true, 3)
  | .ecdhCbc => (false, 3)
  | .gcm => (true, 5)

/-- TYPEs of the private keys whose certificates serve a suite (R151). -/
def suiteCertTypes : Suite → List Nat
  | .gcm => [5, 6]
  | _ => [3]

/-- The use of the server's key in a suite: it signs an ephemeral exchange and agrees in a static one. -/
def suiteKeyUse (x : Suite) : Nat := if (suiteExchange x).1 then 4 else 6

/-- The SECC certificate for a suite, the first slot that holds one whose key TLS may use (R151, R588, R590; log entry 70). -/
def State.secc (s : State) (x : Suite) : Option Nat :=
  (List.range 256).find? fun n =>
    let c := s.slot n
    c.type == 16 && s.slotValid n && s.slotHas n 6 && c.parent != 0xFF
      && (suiteCertTypes x).contains (s.slot c.parent).type && (s.slotRefuses c.parent 6 (suiteKeyUse x)).isNone

/-- The TLS connection of a version: the first of its suites that the EV offers and for which the key store has a certificate (R151). -/
def State.connOf (s : State) (h : Hello) (version : Nat) : Option TlsConn :=
  ([.ecdheCbc, .ecdhCbc, .gcm].filter fun x => suiteVersion x == version && h.suites.contains x).findSome? fun x =>
    (s.secc x).map fun n => { suite := x, cert := n, client := false }

/-- The TLS 1.2 connection of ISO 15118-2 (R151): the client is not authenticated. -/
def State.conn12 (s : State) (h : Hello) : Option TlsConn := s.connOf h 12

/-- The TLS 1.3 connection of ISO 15118-20 (R151): where the EV offers PnC its chain must be valid under a V2G trust anchor. -/
def State.conn13 (s : State) (h : Hello) : Option TlsConn :=
  match h.chain with
  | none => s.connOf h 13
  | some l => if s.chainValid 6 8 l then (s.connOf h 13).map fun c => { c with client := true } else none

/-! ### V2G sessions -/

/-- V2G_SESSION_LOST (R165): outside ENDING. -/
def execV2gSessionLost (o : ONum) (s : State) : Out :=
  onlyIf (s.fwRuns && (s.o o).hlc.v2g) s fun s =>
    if (s.o o).ses.st == .ending then s.modHlc o Hlc.down else s.setFallback o 3

/-- A response goes to the EV. -/
def State.hlcAnswer (s : State) (o : ONum) (r : V2gRes) : State := (s.modHlc o fun h => { h with resp := r }).plcAnswer o (.v2g r)

/-- SDP_REQUEST (R152, R158): the security asked for if PROTO permits it, else the other one, else no answer. -/
def execSdpRequest (o : ONum) (tls : Bool) (s : State) : Out :=
  onlyIf (s.fwRuns && s.feOn o && (s.o o).hlc.assoc) s fun s =>
    let p := s.hc o 1
    let has (t : Bool) : Bool := if t then bit p 1 || bit p 2 else bit p 0
    if !has tls && !has (!tls) then s
    else
      let t := if has tls then tls else !tls
      ((s.modHlc o fun h => { h with tls := t }).evtHlc o 0 0).hlcAnswer o (.sdp (linkLocal (outletMac o)) v2gPort t)

/-- The protocol of an outlet is chosen, with its connection (R151, R152). -/
def State.chooseProto (s : State) (o : ONum) (p : Nat) (c : Option TlsConn) : State :=
  ((s.modHlc o fun h => { h with proto := p, tls := c.isSome, conn := c }).evtHlc o 1 0).hlcAnswer o (.protocol p)

/-- SUPPORTED_APP_PROTOCOL (R151, R152): `hello` is what the EV offers for TLS, none on a connection without it. ISO 15118-20 goes with TLS 1.3
and ISO 15118-2 with TLS 1.2 (log entry 70); where no TLS connection comes about, no message arrives. -/
def execSupportedAppProtocol (o : ONum) (hello : Option Hello) (offers20 offers2 : Bool) (s : State) : Out :=
  onlyIf (s.fwRuns && s.feOn o && (s.o o).hlc.assoc) s fun s =>
    let p := s.hc o 1
    match hello with
    | none => if offers2 && bit p 0 then s.chooseProto o 1 none else s.hlcAnswer o (.protocol 0)
    | some h =>
      match (if bit p 2 then s.conn13 h else none), (if bit p 1 then s.conn12 h else none) with
      | none, none => s
      | c, d =>
        if offers20 && c.isSome then s.chooseProto o 2 c
        else if offers2 && d.isSome then s.chooseProto o 1 d
        else s.hlcAnswer o (.protocol 0)

/-- The present target of an outlet, 0.1 A (R168): within the ceiling in either direction. -/
def State.hlcTarget (s : State) (o : ONum) : Int :=
  clampI (-(s.ceiling o : Int)) (s.ceiling o) (s.o o).pilot.setpoint

/-- A target as power in W, with the phase voltages averaged over the last 1 s (R168). -/
def State.targetPower (s : State) (o : ONum) : Int := s.hlcTarget o * (s.phaseVolts o : Int) / 1000

/-- Import and export of an outlet in Wh, each truncated from its µWh register (R170). -/
def State.meterWh (s : State) (o : ONum) : Nat × Nat :=
  (units (s.accOf o.val 21) / 1000000, units (s.accOf o.val 22) / 1000000)

/-- AC_BPT is offered (R171). -/
def State.bptOffered (s : State) (o : ONum) : Bool := (s.o o).hlc.proto == 2 && s.hc o 3 == 1 && (s.o o).hlc.expOk

/-- Contract payment is open to the outlet (R166, R177): PnC in PAYMENT, and civil time set. -/
def State.pncOpen (s : State) (o : ONum) : Bool := bit (s.hc o 2) 1 && !s.bill.unver

/-- A V2G session opens, or goes on after a pause (R165, R169). -/
def State.v2gSetup (s : State) (o : ONum) : State :=
  let was := (s.o o).hlc.pausedV
  let s := s.modHlc o fun h => { h with
    v2g := true, setupOpen := false, pausedV := false, pnc := false, run := none, authSeen := false }
  (if was then s.evtHlc o 5 0 else s).hlcAnswer o .ok

/-- The limits of the EV, with a PMaxSchedule entry at the present target under ISO 15118-2 (R168, 08 R264). -/
def State.v2gParameters (s : State) (o : ONum) (current charge discharge : Nat) : State :=
  if (s.o o).hlc.proto = 1 then (s.modHlc o fun h => { h with evMax := some current }).hlcAnswer o (.pmax (s.targetPower o))
  else (s.modHlc o fun h => { h with evCharge := some charge, evDischarge := some discharge }).hlcAnswer o .ok

/-- The schedule of Scheduled mode, one entry of 86,400 s at the present limit (R168). -/
def State.v2gSchedule (s : State) (o : ONum) : State :=
  if (s.o o).hlc.proto ≠ 2 then s.hlcAnswer o .failed
  else if (s.o o).hlc.dynamic then s.hlcAnswer o .ok
  else (s.modHlc o fun h => { h with schedTarget := s.hlcTarget o }).hlcAnswer o (.schedule 86400 (s.targetPower o))

/-- The target has changed by more than 5 % since the last schedule (R168). -/
def State.targetMoved (s : State) (o : ONum) : Bool :=
  let was := (s.o o).hlc.schedTarget
  decide (was.natAbs < 20 * (s.hlcTarget o - was).natAbs)

/-- The target in the response of the charging loop (R168). -/
def State.loopRes (s : State) (o : ONum) : V2gRes :=
  let h := (s.o o).hlc
  if h.proto = 1 then .current (s.hlcTarget o)
  else if h.dynamic then .power (s.targetPower o)
  else .loop (s.targetMoved o)

/-- The answer to an authorisation request: the EV hears once that it is authorised (HLC_SESSION EVENT 2). -/
def State.v2gAuthorised (s : State) (o : ONum) : State :=
  if !s.hasSession o then s.hlcAnswer o .ongoing
  else if (s.o o).hlc.authSeen then s.hlcAnswer o .ok
  else ((s.modHlc o fun h => { h with authSeen := true }).evtHlc o 2 0).hlcAnswer o .ok

/-- A contract certificate chain and its EMAID (R166): the identification of the outlet where the chain is valid. -/
def State.v2gContract (s : State) (o : ONum) (emaid : Bytes) (chain : List Cert) : State :=
  if s.pncOpen o && s.chainValid 5 9 chain then
    ((s.modHlc o fun h => { h with pnc := true }).hlcAnswer o .ok).identify o { src := 2, id := emaid }
  else s.hlcAnswer o .failed

/-- A request in an open V2G session (R150, R166 to R171). -/
def State.v2gServe (s : State) (o : ONum) (m : V2gMsg) : State :=
  match m with
  | .setup => s.v2gSetup o
  | .services => s.hlcAnswer o (.services (bit (s.hc o 2) 0) (s.pncOpen o) (s.bptOffered o))
  | .detail n => s.hlcAnswer o (if n = 0 || (n = 1 && s.bptOffered o) || n = 2 then .ok else .failed)
  | .payment c => s.hlcAnswer o (if (if c then s.pncOpen o else bit (s.hc o 2) 0) then .ok else .failed)
  | .contract emaid chain => s.v2gContract o emaid chain
  | .authorization => s.v2gAuthorised o
  | .parameters c p d => s.v2gParameters o c p d
  | .schedule => s.v2gSchedule o
  | .start => s.hlcAnswer o (if s.hasSession o then .ok else .failed)
  | .loop => s.hlcAnswer o (s.loopRes o)
  | .metering => s.hlcAnswer o (.meter (s.meterWh o).1 (if (s.o o).hlc.bidir then some (s.meterWh o).2 else none))
  | .unsupported => s.hlcAnswer o .failed

/-- V2G_REQUEST (R150, R166, R168, R170, R171): before SessionSetupReq any other request fails. -/
def execV2gRequest (o : ONum) (m : V2gMsg) (s : State) : Out :=
  onlyIf (s.fwRuns && s.feOn o && (s.o o).hlc.assoc) s fun s =>
    if (s.o o).hlc.v2g || m == .setup then s.v2gServe o m else s.hlcAnswer o .failed

/-- SERVICE_SELECTION_REQ (R150, R168, R171, R172): 0 AC, 1 AC_BPT, others are not supported; the control mode is Dynamic or Scheduled. -/
def execServiceSelectionReq (o : ONum) (service : Nat) (dynamic : Bool) (s : State) : Out :=
  onlyIf (s.fwRuns && s.feOn o && (s.o o).hlc.v2g) s fun s =>
    if (s.o o).hlc.proto ≠ 2 then s.hlcAnswer o .failed
    else if service = 0 then (s.modHlc o fun h => { h with dynamic := dynamic }).hlcAnswer o .ok
    else if service = 1 && s.bptOffered o then
      (((s.markBidir o).modHlc o fun h => { h with bidir := true, dynamic := dynamic }).evtHlc o 3 0).hlcAnswer o .ok
    else s.hlcAnswer o .failed

/-- V2G_STOP_REQUEST (R169): 0 PowerDeliveryReq with Stop, 1 SessionStopReq with Pause, 2 with Terminate. -/
def execV2gStopRequest (o : ONum) (kind : Nat) (s : State) : Out :=
  onlyIf (s.fwRuns && s.feOn o && (s.o o).hlc.v2g) s fun s =>
    match kind with
    | 0 => s.hlcAnswer o .ok
    | 1 => ((s.modHlc o fun h => { h with v2g := false, pausedV := true }).evtHlc o 4 0).hlcAnswer o .ok
    | 2 =>
      let s := (s.evtHlc o 6 0).hlcAnswer o .ok
      if s.hasSession o then s.toEnding o 9 else s.modHlc o fun h => { h with v2g := false }
    | _ => s

/-- CERT_REQ (R167): 0 installation, 1 update, relayed to the host. -/
def execCertReq (o : ONum) (kind : Nat) (exi : Bytes) (s : State) : Out :=
  onlyIf (s.fwRuns && s.feOn o && (s.o o).hlc.v2g) s fun s =>
    (s.modHlc o fun h => { h with cert := some (kind, exi), certLate := false }).emit 1 0x0382
      (toLE 1 o.val ++ toLE 1 kind ++ toLE 2 exi.length)

/-- CERT_REPLY_TIMEOUT (R167): 4 s without a reply; the EV gets a failure response code. -/
def execCertReplyTimeout (o : ONum) (s : State) : Out :=
  onlyIf (s.fwRuns && (s.o o).hlc.cert.isSome) s fun s =>
    (s.modHlc o fun h => { h with cert := none, certLate := true }).hlcAnswer o .failed

/-- Frames of an outlet leave the engine. -/
def Plc.dropOutlet (p : Plc) (n : Nat) : Plc := { p with
  txWait := p.txWait.filter fun f => f.outlet != n
  txOn := p.txOn.filter fun f => f.outlet != n
  rxOn := p.rxOn.filter fun k => k != n }

/-- PIL0 or PIL1 goes off (R175): the links it powers end; with HLC 1 in an active state the fallback flag is set; an outlet that does not show
state A now has to show it before SLAC starts (log entry 70). -/
def State.pilOff (s : State) : List ONum → State
  | [] => s
  | o :: t =>
    let st := (s.o o).ses.st
    let act := st == .plugged || st == .authorising || st == .ready || st == .energising || st == .paused
    let s := if s.oc o 8 = 1 && act then s.setFallback o 5 else s
    let s := { s with plc := s.plc.dropOutlet o.val }
    State.pilOff (s.modHlc o fun h => { h.down with waitA := s.pilotState o != 0 }) t

/-- The V2G session of an outlet uses the SECC certificate or the key of slot `n` (R603). -/
def State.v2gUses (s : State) (n : Nat) (o : ONum) : Bool :=
  (s.o o).hlc.v2g && match (s.o o).hlc.conn with
    | some c => c.cert == n || (s.slot c.cert).parent == n
    | none => false

/-- The key of slot `n` was revoked (19 R603): the V2G sessions that use it end. -/
def State.v2gRevoked (s : State) (n : Nat) : State := (outlets.filter (s.v2gUses n)).foldl (fun s o => s.setFallback o 3) s

/-! ### Commands -/

/-- HLC_CONFIG in range (R177). -/
def hlcCfgOk (p : Bytes) : Bool :=
  outletFits p 0 && 1 ≤ u8 p 1 && u8 p 1 ≤ 7 && 1 ≤ u8 p 2 && u8 p 2 ≤ 3 && u8 p 3 ≤ 1 && u8 p 4 ≤ 1 && 20 ≤ u8 p 5
    && u8 p 5 ≤ 50 && u8 p 6 ≤ 1

/-- HLC_CONFIG_SET (R177). -/
def execHlcConfigSet (q : Req) (s : State) : Out :=
  let p := q.payload
  let o := outletArg p 0
  mail { op := 0x0301, pair := 1, lo := 8, hi := 8 } q s (hlcCfgOk p) fun s =>
    let st := (s.o o).ses.st
    if st != .idle && st != .outOfService then s.no 3
    else (({ s with cfg := { s.cfg with hlc := s.cfg.hlc.set o.val (p.take 7 ++ zeros 1) o.isLt } }).effect 1 q.tag 0x0301).ok

/-- HLC_CONFIG_GET (R177). -/
def execHlcConfigGet (q : Req) (s : State) : Out :=
  mail { op := 0x0302, pair := 1, lo := 1, hi := 1 } q s (outletFits q.payload 0) fun s =>
    s.ok (s.cfg.hlc.get (outletArg q.payload 0))

/-- HLC_SLAC_SET (R163, R178). -/
def execHlcSlacSet (q : Req) (s : State) : Out :=
  let p := q.payload
  mail { op := 0x0303, pair := 1, lo := 2, hi := 2 } q s
    (3 ≤ u8 p 0 && u8 p 0 ≤ 30 && 20 ≤ u8 p 1 && u8 p 1 ≤ 70) fun s =>
    ({ s with plc := { s.plc with xt := u8 p 0, amax := u8 p 1 } }).ok

/-- LINK of HLC_STATUS_GET (R175, R179). -/
def State.hlcLink (s : State) (o : ONum) : Nat :=
  let h := (s.o o).hlc
  if h.fallback then 5 else if !s.feOn o then 0 else if h.pausedV then 4 else if h.v2g then 3 else if h.assoc then 2
  else if h.run.any fun r => r.decided != some false then 1 else 0

/-- HLC_STATUS_GET (R179). -/
def execHlcStatusGet (q : Req) (s : State) : Out :=
  let o := outletArg q.payload 0
  mail { op := 0x0304, pair := 1, lo := 1, hi := 1 } q s (outletFits q.payload 0) fun s =>
    let h := (s.o o).hlc
    s.ok (toLE 1 o.val ++ toLE 1 (s.hlcLink o) ++ toLE 1 h.proto ++ toLE 1 h.sec ++ (toLE 6 h.evMac).reverse ++ toLE 1 h.atten
      ++ toLE 1 h.margin ++ toLEs 2 (s.hlcTarget o) ++ zeros 2)

/-- HLC_EXPORT_SET (R171, R180). -/
def execHlcExportSet (q : Req) (s : State) : Out :=
  let o := outletArg q.payload 0
  mail { op := 0x0305, pair := 1, lo := 2, hi := 2 } q s (outletFits q.payload 0 && u8 q.payload 1 ≤ 1) fun s =>
    let st := (s.o o).ses.st
    if st == .idle || st == .plugged || st == .authorising then
      (s.modHlc o fun h => { h with expSet := some (u8 q.payload 1 == 1) }).ok
    else s.no 3

/-- HLC_CERT_FETCH (R167, R175, R181). A region shorter than the message takes its first bytes (log entry 65). -/
def execHlcCertFetch (q : Req) (s : State) : Out :=
  let o := outletArg q.payload 0
  let r := q.bulk.getD (0, 0)
  mail { op := 0x0306, pair := 1, lo := 1, hi := 1, bulk := 1 } q s (outletFits q.payload 0) fun s =>
    if !s.feOn o then s.no 6
    else match (s.o o).hlc.cert with
      | none => s.no 6
      | some c => { st := s.bulkPut 1 r c.2, bulk := some (r.1, min r.2 c.2.length) }

/-- HLC_CERT_REPLY (R167, R175, R182). -/
def execHlcCertReply (q : Req) (s : State) : Out :=
  let o := outletArg q.payload 0
  let k := u8 q.payload 1
  mail { op := 0x0307, pair := 1, lo := 2, hi := 2, bulk := 2 } q s
    (outletFits q.payload 0 && k ≤ 1 && q.bulk.isSome == (k == 0)) fun s =>
    if !s.feOn o then s.no 6
    else if (s.o o).hlc.cert.isNone then s.no 0xB
    else ((s.modHlc o fun h => { h with cert := none }).hlcAnswer o
      (if k = 0 then .relayed (s.bulkGet 1 (q.bulk.getD (0, 0))) else .failed)).ok

/-- HLC_STATS_GET (R183). -/
def execHlcStatsGet (q : Req) (s : State) : Out :=
  mail { op := 0x0308, pair := 1, lo := 1, hi := 1 } q s (outletFits q.payload 0 || u8 q.payload 0 == 0xFF) fun s =>
    let l := if u8 q.payload 0 = 0xFF then outlets else [outletArg q.payload 0]
    let sum (f : Hlc → Nat) : Nat := (l.map fun o => f (s.o o).hlc).foldl (· + ·) 0
    s.ok (toLE 4 (sum (·.rxdrop)) ++ toLE 4 (sum (·.txdrop)) ++ toLE 4 (sum (·.framesRx)) ++ toLE 4 (sum (·.framesTx))
      ++ toLE 2 (sum (·.slacOk)) ++ toLE 2 (sum (·.slacRej)))

end Sys2Proof.Machine
end

