-- ==== Sys2Proof/Machine/LinePhy.lean ====
section
/-! DEFINITION. The physical layer of the mains modem as the sender computes it (14, R469 to R474, R479): scrambling, block and
convolutional code, spreading, modulation and the frame control header. Bits are numbers 0 and 1. -/

namespace Sys2Proof.Machine

/-- Bits of a byte, least significant first (R471). -/
def lsbBits (b : Byte) : List Nat := (List.range 8).map fun i => b2n (bit b.toNat i)

/-- The scrambling sequence x^7 + x^4 + 1 from a state on (R471), XORed with bits. -/
def scrambleFrom : Nat → List Nat → List Nat
  | _, [] => []
  | st, b :: t =>
    let x := (st / 64 + st / 8) % 2
    (b + x) % 2 :: scrambleFrom (st % 64 * 2 + x) t

/-- Eight bits, least significant first, as bytes. -/
def packBits : Nat → List Nat → Bytes
  | 0, _ => []
  | _, [] => []
  | k + 1, l => BitVec.ofNat 8 (maskOfBools ((l.take 8).map fun b => b == 1)) :: packBits k (l.drop 8)

/-- A PSDU scrambled (R471). -/
def scramble (p : Bytes) : Bytes := packBits p.length (scrambleFrom 127 (p.map lsbBits).flatten)

/-- Product by α in the field of x^8 + x^4 + x^3 + x^2 + 1. -/
def gfDouble (a : Nat) : Nat := if a < 128 then 2 * a else (2 * a) ^^^ 0x11D

/-- Product in the field; `k` bits of `b` remain. -/
def gfMul : Nat → Nat → Nat → Nat
  | 0, _, _ => 0
  | k + 1, a, b => (if b % 2 = 1 then a else 0) ^^^ gfMul k (gfDouble a) (b / 2)

/-- Power of α. -/
def gfPow : Nat → Nat
  | 0 => 1
  | k + 1 => gfDouble (gfPow k)

/-- A polynomial, highest coefficient first, times (x + r). -/
def polyStep (p : List Nat) (r : Nat) : List Nat :=
  List.zipWith (· ^^^ ·) (p ++ [0]) (0 :: p.map fun c => gfMul 8 c r)

/-- The generator with roots α^1 to α^16, highest coefficient first (R471). -/
def rsGen : List Nat := (List.range 16).foldl (fun p i => polyStep p (gfPow (i + 1))) [1]

/-- The 16 parity bytes of a block: the remainder of its division by the generator. -/
def rsParity (block : Bytes) : Bytes :=
  let g := rsGen.drop 1
  let step (r : List Nat) (b : Byte) : List Nat :=
    let f := (r.headD 0) ^^^ b.toNat
    List.zipWith (· ^^^ ·) (r.drop 1 ++ [0]) (g.map fun c => gfMul 8 c f)
  (block.foldl step (List.replicate 16 0)).map fun x => BitVec.ofNat 8 x

/-- RS(255,239) over blocks of 239 bytes, the last one shortened (R471). -/
def rsEncode : Nat → Bytes → Bytes
  | 0, _ => []
  | _, [] => []
  | k + 1, p => p.take 239 ++ rsParity (p.take 239) ++ rsEncode k (p.drop 239)

/-- Parity of the bits of `n` below 7. -/
def parity7 (n : Nat) : Nat := (bitsOf 7 n).length % 2

/-- The convolutional code of K = 7 from a register on: 133 first, then 171 (R471). The newest bit is the leftmost tap. -/
def convFrom : Nat → List Nat → List Nat
  | _, [] => []
  | r, b :: t =>
    let w := b * 64 + r
    parity7 (w &&& 0o133) :: parity7 (w &&& 0o171) :: convFrom (w / 2) t

/-- The convolutional code with its 6 tail bits. -/
def conv (bits : List Nat) : List Nat := convFrom 0 (bits ++ [0, 0, 0, 0, 0, 0])

/-- Phase increments in 45° of a robust symbol `k` (R470, R473): DBPSK, each coded bit four times. -/
def robustSymbol (coded : Array Nat) (k : Nat) : List Nat :=
  (List.range 38).map fun i => 4 * coded.getD (114 * (k / 12) + 38 * (k % 3) + (i + 38 - 10 * (k % 12 / 3)) % 38) 0

/-- Symbols of `n` coded bits in robust mode (R473). -/
def robustCount (n : Nat) : Nat := (n + 113) / 114 * 12

/-- The robust symbols of a run of coded bits. -/
def robustSymbols (coded : List Nat) : List (List Nat) :=
  (List.range (robustCount coded.length)).map (robustSymbol coded.toArray)

/-- Sector of payload symbol `k` (R478, R479). -/
def symbolSector (ang0 per k : Nat) : Nat := (32 * ang0 * per + 1464320 * k) / (1024 * per) % 8

/-- Sectors that the first `n` payload symbols touch. -/
def spansOf (ang0 per n : Nat) : Nat := maskOf ((List.range n).map (symbolSector ang0 per))

/-- The map of sector `t` in a set (R484). -/
def mapOf (maps : Bytes) (t : Nat) : Bytes := (maps.drop (16 * t)).take 16

/-- OFFSET of a map. -/
def mapOffset (m : Bytes) : Nat := u8 m 4 / 64

/-- Bits that carrier 23 + `i` bears under a map; 0 where it is masked. -/
def carrierBits (m : Bytes) (i : Nat) : Nat := if bit (fld m 0 5) i then fld m 5 10 / 4 ^ i % 4 + 1 else 0

/-- Capacity of a symbol under a map (R472). -/
def mapCapacity (m : Bytes) : Nat := ((List.range 38).map (carrierBits m)).foldl (· + ·) 0

/-- The map sector of symbol `k`; with OFFSET 3 sectors are ignored (R484). -/
def mapSector (maps : Bytes) (ang0 per k : Nat) : Nat := if mapOffset (mapOf maps 0) = 3 then 0 else symbolSector ang0 per k

/-- The sectors of the symbols that `need` coded bits fill, from symbol `k` on (R472). -/
def fillSectors (maps : Bytes) (ang0 per : Nat) : Nat → Nat → Nat → List Nat
  | 0, _, _ => []
  | fuel + 1, k, need =>
    if need = 0 then []
    else
      let t := mapSector maps ang0 per k
      t :: fillSectors maps ang0 per fuel (k + 1) (need - mapCapacity (mapOf maps t))

/-- The interleaver step of `n` positions: the smallest number from n / 3 + 1 on that is coprime with `n` (R472). -/
def interleaveStep (n : Nat) : Nat := ((List.range (n + 1)).map (· + n / 3 + 1)).find? (fun x => Nat.gcd x n == 1) |>.getD 1

/-- The increment of a carrier for its bits, most significant first (R470). -/
def grayInc : List Nat → Nat
  | [b] => 4 * b
  | [a, b] => 2 * (2 * a + (a + b) % 2)
  | [a, b, c] => 4 * a + 2 * ((a + b) % 2) + (a + b + c) % 2
  | _ => 0

/-- The increments of the symbols whose sectors are given, from position `pos` on. -/
def mappedSymbols (maps : Bytes) (at_ : Nat → Nat) : Nat → List Nat → List (List Nat)
  | _, [] => []
  | pos, t :: rest =>
    let m := mapOf maps t
    let starts := (List.range 38).foldl (fun (acc : List Nat × Nat) i => (acc.1 ++ [acc.2], acc.2 + carrierBits m i)) ([], pos)
    let sym := starts.1.mapIdx fun i p => grayInc ((List.range (carrierBits m i)).map fun k => at_ (p + k))
    sym :: mappedSymbols maps at_ starts.2 rest

/-- A PSDU in tone-mapped mode: sectors and increments of its symbols (R471, R472). -/
def mappedPayload (maps : Bytes) (ang0 per : Nat) (psdu : Bytes) : List Nat × List (List Nat) :=
  let coded := conv ((rsEncode 3 (scramble psdu)).map lsbBits).flatten
  let secs := fillSectors maps ang0 per 1000 0 coded.length
  let n := (secs.map fun t => mapCapacity (mapOf maps t)).foldl (· + ·) 0
  let st := interleaveStep n
  let inv := ((List.range n).find? fun x => x * st % n == 1 % n).getD 0
  let arr := coded.toArray
  (secs, mappedSymbols maps (fun q => arr.getD (q * inv % n) 0) 0 secs)

/-- A PSDU in robust mode (R471, R473). -/
def robustPayload (psdu : Bytes) : List (List Nat) := robustSymbols (conv ((scramble psdu).map lsbBits).flatten)

/-- CRC-8 of x^8 + x^2 + x + 1, from bit `k` - 1 of `n` downwards (R474). -/
def crc8From : Nat → Nat → Nat → Nat
  | 0, _, c => c
  | k + 1, n, c =>
    let x := (c / 128 + b2n (bit n k)) % 2
    crc8From k n ((c % 128 * 2) ^^^ (7 * x))

/-- The FCH (R474). -/
def fchOf (ftype prio mode mapst ang0 per info : Nat) : Nat :=
  let hi := (((((ftype * 2 + prio) * 2 + mode) * 4 + mapst) * 256 + ang0 % 256) * 8192 + per % 8192) * 65536 + info % 65536
  hi * 256 + crc8From 43 hi 0

/-- The 12 symbols of an FCH, bit 50 first. -/
def fchSymbols (fch : Nat) : List (List Nat) := robustSymbols (conv ((List.range 51).map fun i => b2n (bit fch (50 - i))))

/-- Duration in µs of preamble, FCH and `n` payload symbols (R469, R473). -/
def airTime (n : Nat) : Nat := 13700 + 715 * n

/-- Attenuation of the payload symbols of tone-mapped sectors: TXLEVEL and GAIN of their maps (R484). -/
def symbolAtten (txlevel : Nat) (maps : Bytes) (secs : List Nat) : List Nat := secs.map fun t => txlevel + u8 (mapOf maps t) 15

/-! ### Blanking -/

/-- The samples of a channel that exceed `k` times the RMS of the last 512 samples that were not blanked, or are clipped (R488). `n` is the
position, `w` holds the squares of those samples, newest first, and `skip` samples after a hit are blanked with it. -/
def blankHits (k : Nat) (clipped : List Nat) : Nat → List Nat → Nat → List Int → List Bool
  | _, _, _, [] => []
  | n, w, skip, x :: t =>
    let sq := x.natAbs * x.natAbs
    let hit := clipped.contains n || (!w.isEmpty && decide (k * k * w.foldl (· + ·) 0 < sq * w.length))
    hit :: blankHits k clipped (n + 1) (if hit || skip ≠ 0 then w else (sq :: w).take 512) (if hit then 2 else skip - 1) t

/-- Every hit blanked with 2 samples on each side (R488). -/
def spreadHits (h : List Bool) : List Bool := h.mapIdx fun i _ => (List.range 5).any fun d => decide (2 ≤ i + d) && h.getD (i + d - 2) false

/-- The samples of a channel that are set to zero under KBLANK (R488). -/
def blankedSamples (kblank : Nat) (c : LineChan) : List Bool := spreadHits (blankHits kblank c.clipped 0 [] 0 c.samples)

/-- Payload symbols that a channel's samples hold whole: preamble and FCH take 5,480 samples, a symbol 286 (R469). -/
def symbolsIn (b : List Bool) : Nat := (b.length - 5480) / 286

/-- Payload symbol `k` is erased on a channel: more than 64 of its 256 FFT samples are blanked (R488). -/
def erasedOn (b : List Bool) (k : Nat) : Bool := 64 < (((b.drop (5510 + 286 * k)).take 256).filter id).length

/-- The payload symbols erased on every channel in use (R488). -/
def erasedSymbols (l : List (List Bool)) : List Nat :=
  match l with
  | [] => []
  | b :: _ => (List.range (symbolsIn b)).filter fun k => l.all fun c => erasedOn c k

/-- The symbols whose phase differences enter the decoder as erasures: the erased ones and those after them (R488). -/
def lostSymbols (e : List Nat) : List Nat := e ++ (e.map (· + 1)).filter fun k => !e.contains k

/-- A map set that R484 accepts. -/
def mapsOk (maps : Bytes) : Bool :=
  let ok (t : Nat) : Bool :=
    let m := mapOf maps t
    mapOffset m == mapOffset (mapOf maps 0) && u8 m 14 / 16 == u8 (mapOf maps 0) 14 / 16
      && decide (8 ≤ (bitsOf 38 (fld m 0 5)).length) && decide (u8 m 15 ≤ 60) && decide (u8 m 14 / 16 ≤ 7) && u8 m 14 / 16 % 4 != 0
      && (List.range 38).all fun i => fld m 5 10 / 4 ^ i % 4 != 3
  maps.length == 128 && (List.range 8).all fun t =>
    ok t && (mapOffset (mapOf maps 0) != 3 || mapOf maps t == mapOf maps 0)

end Sys2Proof.Machine
end

