-- ==== Sys2Proof/Machine/Line.lean ====
section
/-! DEFINITION. The mains modem (14): peers and sector angles, tone maps, medium access, security, and its commands. A received
frame comes with its fields decoded, the MIC checked, and what the DSP measured on it. -/

namespace Sys2Proof.Machine

/-! ### Configuration and peers -/

/-- SHORT (R496). -/
def State.lineShort (s : State) : Nat := u16 s.cfg.line 6

/-- SEC (R496). -/
def State.lineSec (s : State) : Nat := u8 s.cfg.line 10

/-- LKEY (R496). -/
def State.lkey (s : State) : Nat := u8 s.cfg.line 11

/-- The entry of a peer; an empty one where it has not been heard. -/
def State.peer (s : State) (a : Nat) : LinePeer := (s.line.peers.find? fun x => x.short == a).getD { short := a }

/-- The entry of a peer changed; a peer without one gets none here. -/
def State.modPeer (s : State) (a : Nat) (f : LinePeer → LinePeer) : State :=
  s.modLine fun l => { l with peers := l.peers.map fun x => if x.short = a then f x else x }

/-- A peer heard: its entry stands first, and of more than 64 the one heard least recently goes (R498, DESIGN CHOICE, log entry
27). -/
def State.hear (s : State) (a : Nat) (f : LinePeer → LinePeer) : State :=
  let x := f (s.peer a)
  s.modLine fun l => { l with peers := (x :: l.peers.filter fun y => y.short != a).take 64 }

/-- Counter `k` of R501 counted on; it wraps. -/
def State.lineStat (s : State) (k : Nat) : State :=
  s.modLine fun l => { l with stats := modAt l.stats k (wrapInc 32) }

/-- LINE_MAP (14). -/
def State.evtMap (s : State) (peer ev setno offset sectors : Nat) : State :=
  s.emit 7 0x0B81 (toLE 2 peer ++ toLE 1 ev ++ toLE 1 setno ++ toLE 1 offset ++ toLE 1 sectors ++ zeros 2 ++ toLE 8 s.bak.rtc)

/-- LINE_SEC (14). -/
def State.evtLineSec (s : State) (kind peer fcnt : Nat) : State :=
  s.emit 7 0x0B82 (toLE 1 kind ++ zeros 1 ++ toLE 2 peer ++ toLE 4 fcnt ++ toLE 8 s.bak.rtc)

/-- MA_LINECAL runs: no frame is sent or accepted (20, code 6). -/
def State.lineCalRuns (s : State) : Bool := s.maint.any fun a => a.running && a.act == 6

/-- STATE of LINE_STATUS_GET (R497): 0 off, 1 running, 2 angle free-running, 3 no sector timing. -/
def State.lineState (s : State) : Nat :=
  if !s.lineOn then 0 else if s.line.timing = 3 then 3 else if s.met.hold then 2 else 1

/-- The measured mains period in 4 µs units; 0 while none is measured (R474, R497). -/
def State.linePer (s : State) : Nat :=
  if s.met.periods.isEmpty then 0 else s.met.periods.foldl (· + ·) 0 / s.met.periods.length / 4

/-- The sector angle in 360° / 65,536 at a time in 5 µs units after the last crossing (R478). -/
def State.angleAt (s : State) (since : Nat) : Nat :=
  if s.linePer = 0 then 0 else since * 5 * 65536 / (4 * s.linePer) % 65536

/-! ### Tone maps -/

/-- Average SNR of carrier `i` in sector `t` over the frames of the last 60 s (R485). -/
def avgSnr (l : List (Nat × List Nat)) (t i : Nat) : Nat :=
  if l.isEmpty then 0 else (l.map fun e => e.2.getD (38 * t + i) 0).foldl (· + ·) 0 / l.length

/-- Modulation of a carrier for its SNR: 3 D8PSK, 2 DQPSK, 1 DBPSK, 0 masked (R485). -/
def snrLevel (snr : Nat) : Nat := if 20 ≤ snr then 3 else if 14 ≤ snr then 2 else if 8 ≤ snr then 1 else 0

/-- The SNR that a modulation asks for (R485). -/
def levelSnr (level : Nat) : Nat := if level = 3 then 20 else if level = 2 then 14 else 8

/-- One map from the SNR of its 38 carriers (R484, R485). -/
def buildMap (offset refph : Nat) (snr : List Nat) : Bytes :=
  let used := (List.range 38).filter fun i => snrLevel (snr.getD i 0) != 0
  let spare := used.map fun i => snr.getD i 0 - levelSnr (snrLevel (snr.getD i 0))
  let low := match spare with
    | [] => 0
    | x :: t => t.foldl min x
  let mods := used.map fun i => (snrLevel (snr.getD i 0) - 1) * 4 ^ i
  toLE 5 (maskOf used + offset * 2 ^ 38) ++ toLE 10 (mods.foldl (· + ·) 0 + refph * 2 ^ 76) ++ toLE 1 (2 * min 30 (low - 6))

/-- The maps that the H24 issues to a peer (R484, R485): for an unaligned one each carrier takes its lowest in any sector. -/
def State.buildMaps (s : State) (x : LinePeer) : Bytes :=
  let l := x.snrs.filter fun e => s.up ≤ e.1 + 60000
  let row (t : Nat) : List Nat := (List.range 38).map (avgSnr l t)
  let worst : List Nat := (List.range 38).map fun i =>
    ((List.range 8).map fun t => avgSnr l t i).foldl min (avgSnr l 0 i)
  ((List.range 8).map fun t => buildMap x.offset s.met.refph (if x.offset = 3 then worst else row t)).flatten

/-- A map set issued to a peer: queued as a response with PRIO 1 (R486, R487, R489). Where R484 would refuse the set, none is
issued (DESIGN CHOICE, log entry 27). -/
def State.issueSet (s : State) (a flags sectors : Nat) : State :=
  let x := s.peer a
  let maps := s.buildMaps x
  if !mapsOk maps then s
  else
    let setno := match x.issued with
      | [] => 0
      | y :: _ => (y.setno + 1) % 4
    let life := u16 s.cfg.line 12
    let m : MapSet := { setno := setno, life := life, expiry := s.up + 1000 * life, maps := maps }
    let s := s.modPeer a fun x => { x with issued := (m :: x.issued).take 2, rxFails := List.replicate 8 0 }
    let s := s.lineEnq {
      type := 2, prio := 1, dst := a, ackreq := true, protect := s.lineSec != 0
      body := toLE 1 setno ++ toLE 1 flags ++ toLE 2 life ++ maps }
    s.evtMap a 1 setno x.offset sectors

/-- Sets issued unsolicited to every peer. -/
def State.issueAll (s : State) : List LinePeer → State
  | [] => s
  | x :: t => State.issueAll (s.issueSet x.short 1 0) t

/-- A tone map request (R486, R487); during the robust hold it waits for the end of the hold. -/
def State.requestSet (s : State) (a : Nat) : State :=
  if (s.peer a).hold || s.line.queue.any (fun f => f.type == 1 && f.dst == a) then s
  else
    let p := s.lineSec != 0
    (s.modPeer a fun x => { x with reqs := x.reqs + 1 }).lineEnq {
      type := 1, prio := 1, dst := a, ackreq := true, protect := p, body := zeros (if p then 1 else 9) }

/-- The LINE_MAP_REQUEST of a peer completes (R500). -/
def State.endMapRequest (s : State) (a status : Nat) (payload : Bytes) : State :=
  match (s.peer a).reqTag with
  | some t => (s.modPeer a fun x => { x with reqTag := none }).finish 7 t status payload
  | none => s

/-- A request brought no response (R487): repeated, up to three in all; then robust mode for 60 s. -/
def State.requestFailed (s : State) (a : Nat) : State :=
  if (s.peer a).reqs < 3 then s.requestSet a
  else (s.modPeer a fun x => { x with reqs := 0, hold := true }).endMapRequest a 8 []

/-- MAP_REQUEST_TIMEOUT (R487). -/
def execMapRequestTimeout (a : Nat) (s : State) : Out :=
  onlyIf (s.fwRuns && s.lineOn && decide ((s.peer a).reqs ≠ 0)) s fun s => s.requestFailed a

/-- ROBUST_HOLD_END (R487): a request that waited goes out. -/
def execRobustHoldEnd (a : Nat) (s : State) : Out :=
  onlyIf (s.fwRuns && s.lineOn && (s.peer a).hold) s fun s =>
    (s.modPeer a fun x => { x with hold := false }).requestSet a

/-- MAP_EXPIRY (R487): the set held from a peer expires within 30 s, or has expired. -/
def execMapExpiry (a : Nat) (gone : Bool) (s : State) : Out :=
  onlyIf (s.fwRuns && s.lineOn) s fun s =>
    match (s.peer a).held with
    | none => s
    | some m =>
      let s := if gone then (s.modPeer a fun x => { x with held := none }).evtMap a 2 m.setno (mapOffset m.maps) 0 else s
      if (s.peer a).reqs = 0 then s.requestSet a else s

/-! ### Sector angles -/

/-- `d` in 360° / 65,536 as a signed angle. -/
def wrapAngle (d : Int) : Int := asSigned 16 (ofSigned 16 d)

/-- The multiple of 120° within 20° of the mean of a list of angles, else 3 (R481). The mean is taken about the newest value
(DESIGN CHOICE, log entry 27). -/
def offsetOf (deltas : List Nat) : Nat :=
  match deltas with
  | [] => 3
  | c :: _ =>
    let n := (deltas.length : Int)
    let dev := sumI (deltas.map fun d => wrapAngle ((d : Int) - c))
    let near (k : Nat) : Bool :=
      let w := 3 * ((c : Int) * n + dev) - (65536 * k : Nat) * n
      let turn := 3 * 65536 * n
      let r := w % turn
      let r := if turn < 2 * r then turn - r else r
      decide (r * 360 ≤ 3 * 20 * 65536 * n)
    if near 0 then 0 else if near 1 then 1 else if near 2 then 2 else 3

/-- OFFSET of a peer set anew from its Δ: a change is reported, and the owner sends a set (R481, R487). -/
def State.realign (s : State) (a : Nat) : State :=
  let x := s.peer a
  let k := offsetOf x.deltas
  if k = x.offset then s
  else
    let s := s.modPeer a fun x => { x with offset := k }
    (s.evtMap a (if k = 3 then 4 else 3) 0 k 0).issueSet a 1 0

/-- Δ of a robust frame, ACK or NACK of a peer (R481). -/
def State.takeDelta (s : State) (a : Nat) (f : LineFrame) : State :=
  if s.line.timing = 3 then s
  else
    let d := ofSigned 16 ((f.angle : Int) - (256 * f.ang0 : Nat))
    (s.modPeer a fun x => { x with deltas := (d :: x.deltas).take 4 }).realign a

/-- OFFSET of a held set turned by `k` · 120° (R482). -/
def turnMaps (k : Nat) (maps : Bytes) : Bytes :=
  maps.mapIdx fun i b =>
    if i % 16 = 4 && b.toNat / 64 ≠ 3 then BitVec.ofNat 8 (b.toNat % 64 + (b.toNat / 64 + k) % 3 * 64) else b

/-- A change of REFPH whose first crossing came at angle `ang` of the old reference (R482). -/
def State.refTurned (s : State) (ang : Nat) : State :=
  let k := offsetOf [ang]
  if k = 3 then
    let s := s.modLine fun l => { l with peers := l.peers.map fun x => { x with deltas := [], offset := 3 } }
    (s.line.peers.foldl (fun s x => s.evtMap x.short 4 0 3 0) s).issueAll s.line.peers
  else
    let turn (x : LinePeer) : LinePeer := { x with
      deltas := x.deltas.map fun d => ofSigned 16 ((d : Int) - ang)
      offset := if x.offset = 3 then 3 else (x.offset + 3 - k) % 3
      held := x.held.map fun m => { m with maps := turnMaps k m.maps } }
    let s := s.modLine fun l => { l with peers := l.peers.map turn }
    s.issueAll s.line.peers

/-- ZERO_CROSSING (R303 to R306, R482, R483): a crossing of voltage channel `c`, with its period in µs and the time since the last
crossing of the reference phase in 5 µs. -/
def execZeroCrossing (c : Nat) (rising : Bool) (period since : Nat) (s : State) : Out :=
  onlyIf (s.metaOn && rising) s fun s =>
    let ok := s.zcValid c period
    let ang := s.angleAt since
    let ref := s.met.refph
    let s := (s.modMet fun m => { m with sinceZc := since }).zeroCross c period
    if !(s.fwRuns && s.lineOn) then s
    else
      let s := if s.met.refph ≠ ref then s.refTurned ang else s
      if ok && c = refChan s.met.refph && s.line.timing = 3 then
        (s.modLine fun l => { l with timing := 1 }).emit 7 0x0B83
          (toLE 1 1 ++ toLE 1 s.met.refph ++ zeros 2 ++ toLE 8 s.bak.rtc)
      else s

/-- SECTOR_TIMING_LOST (R483): 10 s after the counter holds. -/
def execSectorTimingLost (s : State) : Out :=
  onlyIf (s.fwRuns && s.lineOn && s.met.hold && s.line.timing != 3) s fun s =>
    let s := (s.raise 86 0 0).modLine fun l => { l with
      timing := 3, peers := l.peers.map fun x => { x with deltas := [], offset := 3 } }
    s.issueAll s.line.peers

/-! ### Sending -/

/-- The frame that stands in the queue at `i`, changed. -/
def State.modTx (s : State) (i : Nat) (f : LineTx → LineTx) : State :=
  s.modLine fun l => { l with queue := modAt l.queue i f }

/-- The frame at `i` leaves the queue; the LINE_SEND it came from completes (R499). -/
def State.endTx (s : State) (i status : Nat) : State :=
  match s.line.queue[i]? with
  | none => s
  | some f =>
    let s := s.modLine fun l => { l with queue := l.queue.eraseIdx i }
    match f.tag with
    | some t => s.finish 7 t status (if status = 0 then toLE 1 f.tries ++ toLE 1 f.mode else [])
    | none => s

/-- A frame dropped after its retries (R489): a tone map request counts as one that brought no response. -/
def State.dropTx (s : State) (i : Nat) : State :=
  match s.line.queue[i]? with
  | none => s
  | some f =>
    let s := (s.lineStat 3).endTx i 8
    if f.type = 1 then s.requestFailed f.dst else s

/-- A retry (R489): BE rises, and the frame contends again, or is dropped after 8 retries. -/
def State.retryTx (s : State) (i : Nat) : State :=
  match s.line.queue[i]? with
  | none => s
  | some f =>
    if 8 ≤ f.retries then s.dropTx i
    else (s.lineStat 2).modTx i fun f => { f with
      retries := f.retries + 1, be := min 5 (f.be + 1), backoff := none, ready := false, waitAck := false }

/-- A transmission at `i` failed (R490). -/
def State.failTx (s : State) (i : Nat) : State :=
  match s.line.queue[i]? with
  | none => s
  | some f =>
    let s := if f.tries = 2 then s.raiseRetried 85 f.dst 0 else s
    if u8 s.cfg.line 9 < f.tries then s.dropTx i else s.retryTx i

/-- The frame that contends next: none while an ACK is awaited or a frame has won the medium; PRIO 1 goes first (R489). -/
def State.nextTx (s : State) : Option Nat :=
  let q := s.line.queue
  if q.any fun f => f.waitAck || f.ready then none
  else match q.findIdx? fun f => f.prio == 1 with
    | some i => some i
    | none => if q.isEmpty then none else some 0

/-- The medium is busy (R489): a preamble is detected, or the in-band energy lies `level` dB, CS_THR or more, above the noise floor. -/
def State.mediumBusy (s : State) (pre : Bool) (level : Nat) : Bool := pre || decide (u8 s.cfg.line 14 ≤ level)

/-- LINE_CONTENTION_SLOT (R489): a slot passes idle or busy; a fresh backoff is drawn from 0 to CW − 1. -/
def execLineContentionSlot (pre : Bool) (level draw : Nat) (s : State) : Out :=
  onlyIf (s.fwRuns && s.lineOn) s fun s =>
    let busy := s.mediumBusy pre level
    match s.nextTx with
    | none => s
    | some i =>
      match (s.line.queue.getD i {}).backoff with
      | none => if busy then s else s.modTx i fun f =>
          let b := draw % (8 * 2 ^ f.be)
          { f with backoff := some b, ready := b == 0 }
      | some b => if busy then s.retryTx i
          else s.modTx i fun f => { f with backoff := some (b - 1), ready := b ≤ 1 }

/-- The PSDU of a frame but for its FCS (R475, R491). -/
def State.psduOf (s : State) (f : LineTx) : Bytes :=
  let payload := if f.type = 0 then toLE 1 f.proto ++ f.body else f.body
  let head := toLE 1 (f.type + 8 * b2n f.protect + 16 * b2n f.ackreq) ++ toLE 1 f.seq ++ (s.cfg.line.drop 4).take 2 ++ toLE 2 f.dst
    ++ (s.cfg.line.drop 6).take 2
  if f.protect then
    let head := head ++ toLE 1 s.lkey ++ toLE 4 (f.fcnt.getD 0)
    let nonce := (s.cfg.line.drop 4).take 4 ++ toLE 4 (f.fcnt.getD 0) ++ toLE 1 s.lkey ++ zeros 4
    head ++ padTo (payload.length + 8) (Config.ccm (s.slot s.lkey).mat nonce head payload)
  else head ++ payload

/-- The next frame counter, a fresh block being reserved before the present one runs out (R492). -/
def State.takeFcnt (s : State) : Nat × State :=
  let n := s.line.fcnt
  let s := s.modLine fun l => { l with fcnt := n + 1 }
  (n, if s.store.lineFcnt ≤ n + 1 then { s with store := { s.store with lineFcnt := min 0xFFFFFFFF (s.store.lineFcnt + 4096) } } else s)

/-- The set under which a frame goes out, none for robust mode (R483, R487, R490). -/
def State.setFor (s : State) (f : LineTx) : Option MapSet :=
  let x := s.peer f.dst
  if s.line.timing = 3 || x.hold || f.type = 1 || f.dst = 0xFFFF || 2 ≤ f.tries then none
  else x.held.filter fun m => s.up < m.expiry

/-- ANG0 for an own angle in 360° / 65,536 and an OFFSET (R480). -/
def ang0Of (ang offset : Nat) : Nat := (3 * ang + (if offset = 3 then 0 else offset) * 65536 + 384) / 768 % 256

/-- The channels in use under COUPLE (R467): 0 MC1 to 2 MC3. -/
def State.lineChans (s : State) : List Nat := if u8 s.cfg.line 1 = 4 then [0, 1, 2] else [u8 s.cfg.line 1 - 1]

/-- A frame put on the air: sent on every channel in use, whose LTXEN rises 100 µs before its first sample and falls 50 µs after its last; no other
LTXEN rises (R467). -/
def State.onAir (s : State) (air : LineAir) : State :=
  s.modLine fun l => { l with air := { air with
    chans := s.lineChans, enRise := -100, enFall := ((airTime (air.incs.length - 12) + 50 : Nat) : Int) } }

/-- The frame at `i` on the air (R467, R471 to R475, R480): its counter is taken at the first transmission. -/
def State.sendTx (s : State) (i ang : Nat) (f : LineTx) : State :=
  let (fc, s) := if f.protect && f.fcnt.isNone then
      let x := s.takeFcnt
      (some x.1, x.2)
    else (f.fcnt, s)
  let set := s.setFor f
  let f := { f with fcnt := fc, tries := f.tries + 1, mode := b2n set.isSome, ready := false, backoff := none }
  let body := s.psduOf f
  let psdu := body ++ toLE 4 (crc32c body)
  let per := s.linePer
  let a0 := match set with
    | some m => ang0Of ang (mapOffset m.maps)
    | none => ang0Of ang 0
  let fch := fchOf 0 f.prio f.mode (match set with
    | some m => m.setno
    | none => 0) a0 per psdu.length
  let tx := u8 s.cfg.line 3
  let syms := match set with
    | some m => (mappedPayload m.maps a0 per psdu).2
    | none => robustPayload psdu
  let atten := match set with
    | some m => symbolAtten tx m.maps (mappedPayload m.maps a0 per psdu).1
    | none => List.replicate syms.length tx
  let air : LineAir := {
    fch := fch, psdu := psdu, incs := fchSymbols fch ++ syms, spans := spansOf a0 per syms.length, atten := atten }
  let s := ((s.onAir air).modTx i fun _ => f).lineStat 0
  if f.ackreq && f.dst ≠ 0xFFFF then s.modTx i fun f => { f with waitAck := true } else s.endTx i 0

/-- LINE_FRAME_TX (R490 to R493, R480): the frame that won the medium is sent; `ang` is the own angle at the midpoint of its first
payload symbol. A sender without a valid set asks for one (R487). -/
def execLineFrameTx (ang : Nat) (s : State) : Out :=
  onlyIf (s.fwRuns && s.lineOn && !s.lineCalRuns) s fun s =>
    match s.line.queue.findIdx? fun f => f.ready with
    | none => s
    | some i =>
      let f := s.line.queue.getD i {}
      if f.protect && f.fcnt.isNone && 0xFFFFFFFF ≤ s.line.fcnt then
        let s := s.endTx i 6
        if s.line.exhausted then s
        else ((s.modLine fun l => { l with exhausted := true }).raise 87 f.dst 0).evtLineSec 3 f.dst 0xFFFFFFFF
      else match if f.protect then s.slotRefuses s.lkey 2 0 else none with
        | some st => s.endTx i (if st = 7 then 7 else 6)
        | none =>
          let ask := f.type = 0 && f.dst ≠ 0xFFFF && (s.peer f.dst).held.isNone && (s.peer f.dst).reqs = 0
            && (s.line.peers.any fun x => x.short == f.dst)
          let s := s.sendTx i ang f
          if ask then s.requestSet f.dst else s

/-- LINE_ACK_WAIT_EXPIRY (R489, R490). -/
def execLineAckWaitExpiry (s : State) : Out :=
  onlyIf (s.fwRuns && s.lineOn) s fun s =>
    match s.line.queue.findIdx? fun f => f.waitAck with
    | none => s
    | some i => s.failTx i

/-- LINE_ACK_TX (R467, R474, R477): the ACK or NACK that is due is sent in robust mode. -/
def execLineAckTx (ang : Nat) (s : State) : Out :=
  onlyIf (s.fwRuns && s.lineOn && !s.lineCalRuns) s fun s =>
    match s.line.ack with
    | none => s
    | some (kind, info) =>
      let fch := fchOf kind 0 0 0 (ang0Of ang 0) s.linePer info
      (s.modLine fun l => { l with ack := none }).onAir { fch := fch, incs := fchSymbols fch }

/-! ### Receiving -/

/-- Entries of a list of failures one up in every sector of a bitmap (R490). -/
def failUp (sectors : Nat) (l : List Nat) : List Nat := l.mapIdx fun i n => if bit sectors i then n + 1 else n

/-- The entries of the sectors of a bitmap back at 0 (R490). -/
def failClear (sectors : Nat) (l : List Nat) : List Nat := l.mapIdx fun i n => if bit sectors i then 0 else n

/-- An ACK or a NACK for the frame that waits (R489, R490). -/
def State.gotAck (s : State) (f : LineFrame) : State :=
  match s.line.queue.findIdx? fun x => x.waitAck with
  | none => s
  | some i =>
    let x := s.line.queue.getD i {}
    if !f.acks then s
    else
      let s := (s.modPeer x.dst fun p => { p with heardAt := s.bak.rtc }).takeDelta x.dst f
      if f.ftype = 1 then
        let s := if x.tries = 2 then (s.transient 85 x.dst 0).lineStat 4 else s
        (s.modPeer x.dst fun p => { p with fails := failClear s.line.air.spans p.fails }).endTx i 0
      else
        let s := s.lineStat 5
        let s := s.modPeer x.dst fun p => { p with fails := failUp f.sectors p.fails }
        let third := (s.peer x.dst).fails.any fun n => 3 ≤ n
        let s := if third && (s.peer x.dst).reqs = 0 then
            (s.modPeer x.dst fun p => { p with fails := p.fails.map fun n => if 3 ≤ n then 0 else n }).requestSet x.dst
          else s
        match s.line.queue.findIdx? fun y => y.waitAck with
        | none => s
        | some i => s.failTx i

/-- A MIC or counter failure of a source (R493): the eighth within 60 s latches LINE_SEC. -/
def State.badFrame (s : State) (kind src fcnt : Nat) : State :=
  let s := if kind = 0 then s.lineStat 6 else s
  let s := s.modLine fun l => { l with bad := (src, s.up) :: l.bad.filter fun e => s.up ≤ e.2 + 60000 }
  let s := s.evtLineSec kind src fcnt
  if 8 ≤ (s.line.bad.filter fun e => e.1 == src).length then s.raise 87 src 0 else s

/-- The counter of an accepted protected frame kept; every 256th of a source is saved (R492). -/
def State.takeSeen (s : State) (src fcnt : Nat) : State :=
  let n := match s.line.seen.find? fun e => e.1 == src with
    | some e => e.2.2 + 1
    | none => 1
  let save := n = 256
  let e : Nat × Nat × Nat := (src, fcnt, if save then 0 else n)
  let s := s.modLine fun l => { l with seen := (e :: l.seen.filter fun e => e.1 != src).take 1024 }
  if save then { s with store := { s.store with lineSeen := (assocPut s.store.lineSeen src fcnt).take 1024 } } else s

/-- A tone map response (R484, R486, R487). -/
def State.gotSet (s : State) (src : Nat) (b : Bytes) : State :=
  let m : MapSet := { setno := u8 b 0, life := u16 b 2, expiry := s.up + 1000 * u16 b 2, maps := (b.drop 4).take 128 }
  if b.length ≠ 132 || 3 < m.setno || 1 < u8 b 1 || m.life < 60 || 3600 < m.life || !mapsOk m.maps then s
  else
    let s := s.modPeer src fun x => { x with held := some m, reqs := 0, fails := List.replicate 8 0 }
    (s.evtMap src 0 m.setno (mapOffset m.maps) 0).endMapRequest src 0 (toLE 1 m.setno)

/-- A datagram for the host: LINE_RX (R476). -/
def State.lineRx (s : State) (f : LineFrame) : State :=
  let d := f.body.drop 1
  s.emit 7 0x0B80 (toLE 2 f.src ++ toLE 1 (b2n f.sec + 2 * b2n (f.dst == 0xFFFF)) ++ toLE 1 f.mode ++ toLE 2 d.length
    ++ toLE 1 f.snr ++ zeros 1 ++ d)

/-- The content of an accepted frame (R476, R486). PROTO 1 goes to the DLMS server, whose rows follow. -/
def State.lineContent (s : State) (f : LineFrame) : State :=
  match f.type with
  | 0 => if u8 f.body 0 = 2 then s.lineRx f else s
  | 1 => s.issueSet f.src 0 0
  | 2 => s.gotSet f.src f.body
  | _ => s

/-- The set that a tone-mapped frame names, among the last two issued to its sender (R486). -/
def State.rxSet (s : State) (f : LineFrame) : Option MapSet :=
  (s.peer f.src).issued.find? fun m => m.setno == f.mapst

/-- The ACK of a unicast frame that asks for one (R477). -/
def State.ackDue (s : State) (f : LineFrame) : State :=
  if f.ackreq && f.dst ≠ 0xFFFF then s.modLine fun l => { l with ack := some (1, f.fcs % 65536) } else s

/-- An accepted frame: its peer's entry, Δ or the check of ANG0, its content (R476, R481, R485, R490, R492). -/
def State.acceptFrame (s : State) (f : LineFrame) : State :=
  let s := s.lineStat 1
  let s := s.modLine fun l => { l with recent := (f.src, f.seq, s.up) :: l.recent.filter fun e => s.up ≤ e.2.2 + 2000 }
  let s := if f.sec then s.takeSeen f.src f.fcnt else s
  let s := s.hear f.src fun x => { x with
    heardAt := s.bak.rtc, snr := f.snr, rxFails := failClear f.spans x.rxFails
    snrs := (s.up, f.carriers) :: x.snrs.filter fun e => s.up ≤ e.1 + 60000 }
  let s := if f.mode = 0 then s.takeDelta f.src f
    else match s.rxSet f with
      | some m =>
        let d := wrapAngle ((f.angle : Int) - (256 * f.ang0 : Nat))
        if mapOffset m.maps ≠ 3 && 20 * 65536 < d.natAbs * 360 then s.issueSet f.src 1 0 else s
      | none => s
  (s.ackDue f).lineContent f

/-- The NACK bitmap of a frame (R489): sectors with an erased symbol, or with one of too low SNR. -/
def State.badSectors (s : State) (f : LineFrame) : Nat :=
  f.sectors ||| maskOf (s.line.rx.erased.map (symbolSector f.ang0 f.per))

/-- A data frame (R476, R477, R486, R489 to R492). -/
def State.gotData (s : State) (f : LineFrame) : State :=
  if f.netid ≠ u16 s.cfg.line 4 || (f.dst ≠ s.lineShort && f.dst ≠ 0xFFFF) then s
  else if f.mode = 1 && (s.rxSet f).isNone then s.issueSet f.src 1 0
  else if !f.fcsOk then
    if f.mode = 1 && f.headOk && f.ackreq && f.dst ≠ 0xFFFF then
      let bad := s.badSectors f
      let s := s.modLine fun l => { l with ack := some (2, f.seq % 256 + 256 * (bad % 256)) }
      let s := s.modPeer f.src fun x => { x with rxFails := failUp bad x.rxFails }
      let third := ((s.peer f.src).rxFails.zipIdx.filter fun e => 3 ≤ e.1).map fun e => e.2
      if third.isEmpty then s else s.issueSet f.src 1 (maskOf third)
    else s
  else if s.line.recent.any fun e => e.1 == f.src && e.2.1 == f.seq && s.up ≤ e.2.2 + 2000 then (s.lineStat 7).ackDue f
  else if f.sec then
    match s.slotRefuses s.lkey 2 1 with
    | some _ => s
    | none =>
      if !f.micOk then s.badFrame 0 f.src f.fcnt
      else match s.line.seen.find? fun e => e.1 == f.src with
        | some e => if f.fcnt ≤ e.2.1 then s.badFrame 1 f.src f.fcnt else s.acceptFrame f
        | none => s.acceptFrame f
  else if s.lineSec = 2 then s
  else s.acceptFrame f

/-- The channel with the best preamble SNR, the first of equals (R468). -/
def bestChan (f : LineFrame) : List Nat → Option Nat
  | [] => none
  | c :: t =>
    let snr (k : Nat) : Nat := (f.chans.getD k {}).psnr
    some (t.foldl (fun b k => if snr b < snr k then k else b) c)

/-- The channel whose signal is taken alone: the only one in use, or the one selected with RXCOMB 0 (R467, R468). -/
def State.lineSource (s : State) (f : LineFrame) : Option Nat :=
  if u8 s.cfg.line 1 ≠ 4 then s.lineChans.head? else if u8 s.cfg.line 2 = 0 then bestChan f s.lineChans else none

/-- A frame as the channels in use give it (R467, R468): the others are powered down. -/
def State.lineCombine (s : State) (f : LineFrame) : LineFrame :=
  match s.lineSource f with
  | some k =>
    match f.chans[k]? with
    | some c => { f with snr := c.snr, carriers := c.carriers }
    | none => f
  | none => f

/-- The reception of a frame on the channels in use (R468, R488): gain, combining, blanking and erasures, with their counts. -/
def State.lineReceive (s : State) (f : LineFrame) : State :=
  let used := (s.lineChans.filter (· < f.chans.length)).map fun k => f.chans.getD k {}
  let cut := used.map (blankedSamples (u8 s.cfg.line 8))
  let e := erasedSymbols cut
  let n := (cut.map fun b => (b.filter id).length).foldl (· + ·) 0
  s.modLine fun l => { l with
    blanked := (l.blanked + n) % 2 ^ 32, erased := (l.erased + e.length) % 2 ^ 32
    rx := {
      gain := f.gain, source := s.lineSource f, weights := used.map fun c => c.weights
      erased := e, lost := lostSymbols e } }

/-- LINE_FRAME_RX (R468, R476, R488): a frame whose FCH has a good CRC. -/
def execLineFrameRx (f : LineFrame) (s : State) : Out :=
  onlyIf (s.fwRuns && s.lineOn && !s.lineCalRuns) s fun s =>
    let s := s.lineReceive f
    let f := s.lineCombine f
    match f.ftype with
    | 0 => s.gotData f
    | 1 => s.gotAck f
    | 2 => s.gotAck f
    | _ => s

/-- The LKEY key was revoked (R493): queued protected frames complete REVOKED, but for one that waits for its ACK. -/
def State.dropProtected (s : State) : List LineTx → State
  | [] => s
  | f :: t =>
    let s := if f.protect && !f.waitAck then
        match s.line.queue.findIdx? fun x => x.seq == f.seq && x.dst == f.dst && x.type == f.type with
        | some i => s.endTx i 7
        | none => s
      else s
    State.dropProtected s t

/-- The effect of a revocation of slot `n` on the modem (R493). -/
def State.lineRevoked (s : State) (n : Nat) : State :=
  if n = s.lkey && s.lineOn then
    let s := (s.modLine fun l => { l with revoked := true }).evtLineSec 2 0 s.line.fcnt
    s.dropProtected s.line.queue
  else s

/-- The frames of the host complete NOTREADY. -/
def State.stopSends (s : State) : List LineTx → State
  | [] => s
  | f :: t =>
    State.stopSends (match f.tag with
      | some n => s.finish 7 n 6 []
      | none => s) t

/-- The map requests of the host complete NOTREADY. -/
def State.stopRequests (s : State) : List LinePeer → State
  | [] => s
  | x :: t => State.stopRequests (s.endMapRequest x.short 6 []) t

/-- The modem stops (R494, R499): LINE goes off, or ENABLE becomes 0. -/
def State.lineStop (s : State) : State :=
  let q := s.line.queue
  ((s.modLine fun l => { l with queue := [], ack := none, air := { l.air with chans := [] } }).stopSends q).stopRequests s.line.peers

/-! ### Commands -/

/-- LINE_CONFIG in range (R496). -/
def lineCfgOk (p : Bytes) : Bool :=
  let r (lo x hi : Nat) : Bool := decide (lo ≤ x) && decide (x ≤ hi)
  u8 p 0 ≤ 1 && r 1 (u8 p 1) 4 && u8 p 2 ≤ 1 && u8 p 3 ≤ 60 && r 1 (u16 p 4) 0xFFFE && r 1 (u16 p 6) 0xFFFD && r 3 (u8 p 8) 15
    && r 1 (u8 p 9) 7 && u8 p 10 ≤ 2 && r 60 (u16 p 12) 3600 && r 6 (u8 p 14) 30

/-- LINE_CONFIG_SET (R496). -/
def execLineConfigSet (q : Req) (s : State) : Out :=
  let p := q.payload
  mail { op := 0x0B01, pair := 7, lo := 16, hi := 16 } q s (lineCfgOk p) fun s =>
    if u8 p 10 ≠ 0 && !s.slotHas (u8 p 11) 2 then s.no 4
    else
      let fresh := u8 p 1 ≠ u8 s.cfg.line 1 || fld p 4 4 ≠ fld s.cfg.line 4 4
      let s := if u8 p 0 = 0 then s.lineStop else s
      let s := { s with cfg := { s.cfg with line := p.take 15 ++ zeros 1 } }
      let s := if fresh then s.modLine fun l => { l with peers := [] } else s
      (s.effect 7 q.tag 0x0B01).ok

/-- LINE_CONFIG_GET (R496). -/
def execLineConfigGet (q : Req) (s : State) : Out :=
  mail { op := 0x0B02, pair := 7 } q s true fun s => s.ok s.cfg.line

/-- A modem command, NOTREADY while LINE is off or ENABLE is 0 (R494). -/
def lineMail (c : Cmd) (q : Req) (s : State) (fits : Bool) (body : State → Ans) : Out :=
  mail c q s fits fun s => if !s.lineOn then s.no 6 else body s

/-- LINE_STATUS_GET (R497). -/
def execLineStatusGet (q : Req) (s : State) : Out :=
  lineMail { op := 0x0B03, pair := 7 } q s true fun s =>
    s.ok (toLE 1 s.lineState ++ toLE 1 s.met.refph ++ toLE 2 (s.angleAt s.met.sinceZc) ++ toLE 2 s.linePer
      ++ toLE 1 s.line.peers.length ++ toLE 1 (s.slot s.lkey).state ++ toLE 4 s.line.fcnt ++ toLE 4 s.line.blanked
      ++ toLE 4 s.line.erased)

/-- Mean SNR of a peer over its carriers; that of its last frame where no carriers were measured. -/
def LinePeer.meanSnr (x : LinePeer) : Nat :=
  let l := (x.snrs.map fun e => e.2).flatten
  if l.isEmpty then x.snr else l.foldl (· + ·) 0 / l.length

/-- An entry of LINE_PEERS (R498). -/
def LinePeer.bytes (x : LinePeer) : Bytes :=
  toLE 2 x.short ++ toLE 1 (b2n x.held.isSome + 2 * b2n (!x.issued.isEmpty) + 4 * b2n (x.offset == 3)) ++ toLE 1 x.offset
    ++ toLE 1 (match x.held with
      | some m => m.setno
      | none => 0)
    ++ toLE 1 (match x.issued with
      | [] => 0
      | m :: _ => m.setno)
    ++ toLE 1 x.meanSnr ++ toLE 1 (maskOfBools (x.fails.map fun n => decide (0 < n))) ++ toLE 8 x.heardAt

/-- LINE_PEERS (R498). A region shorter than the entries held takes those that fit (log entry 65). -/
def execLinePeers (q : Req) (s : State) : Out :=
  lineMail { op := 0x0B04, pair := 7, bulk := 1 } q s true fun s =>
    let r := q.bulk.getD (0, 0)
    let l := (s.line.peers.take 64).take (r.2 / 16)
    { st := s.bulkPut 7 r (l.map LinePeer.bytes).flatten, payload := toLE 1 l.length, bulk := some (r.1, 16 * l.length) }

/-- LINE_SEND (R499): the host's datagrams count 16 at most. Protection follows SEC (R491; DEDUCED, log entry 27). -/
def execLineSend (q : Req) (s : State) : Out :=
  let p := q.payload
  let n := u16 p 4
  let dst := u16 p 0
  let ack := bit (u8 p 3) 0
  lineMail { op := 0x0B05, pair := 7, lo := 8, hi := 448, chain := true } q s
    (u8 p 2 ≤ 1 && decide (1 ≤ n) && decide (n ≤ 399) && decide (8 + n ≤ p.length) && !(ack && dst == 0xFFFF)) fun s =>
    if 16 ≤ (s.line.queue.filter fun f => f.tag.isSome).length then s.no 0xC
    else (s.lineEnq {
      proto := 2, dst := dst, prio := u8 p 2, ackreq := ack, protect := s.lineSec != 0
      body := (p.drop 8).take n, tag := some q.tag }).queued

/-- LINE_MAP_GET (R500). -/
def execLineMapGet (q : Req) (s : State) : Out :=
  let p := q.payload
  let r := q.bulk.getD (0, 0)
  lineMail { op := 0x0B06, pair := 7, lo := 3, hi := 3, bulk := 1 } q s (u8 p 2 ≤ 1) fun s => s.sized r 132 <|
    let x := s.peer (u16 p 0)
    match if u8 p 2 = 0 then x.held else x.issued.head? with
    | none => s.no 6
    | some m =>
      { st := s.bulkPut 7 r (toLE 1 m.setno ++ zeros 1 ++ toLE 2 m.life ++ m.maps), bulk := some (r.1, 132) }

/-- LINE_MAP_REQUEST (R487, R500). A peer that has not been heard gets an entry. -/
def execLineMapRequest (q : Req) (s : State) : Out :=
  let a := u16 q.payload 0
  lineMail { op := 0x0B07, pair := 7, lo := 2, hi := 2 } q s true fun s =>
    if (s.peer a).reqTag.isSome then s.no 2
    else
      let s := s.hear a fun x => { x with reqTag := some q.tag }
      (if (s.peer a).reqs = 0 then s.requestSet a else s).queued

/-- LINE_STATS_GET (R501). -/
def execLineStatsGet (q : Req) (s : State) : Out :=
  lineMail { op := 0x0B08, pair := 7 } q s true fun s => s.ok (s.line.stats.map (toLE 4)).flatten

end Sys2Proof.Machine
end

