-- ==== Sys2Proof/Machine/Lsw.lean ====
section
/-! DEFINITION. Protected load switch channels and limp-home (17). -/

namespace Sys2Proof.Machine

/-- Channel `c`. -/
def State.lswCh (s : State) (c : Nat) : LswCh := s.lsw.chans.toList.getD c {}

/-- The state with channel `c` changed. -/
def State.modLswCh (s : State) (c : Nat) (f : LswCh → LswCh) : State :=
  { s with lsw := { s.lsw with chans := vmapi (fun i x => if i = c then f x else x) s.lsw.chans } }

/-- Bank `k`. -/
def State.lswBank (s : State) (k : Nat) : LswBank := s.lsw.banks.getD k {}

/-- The state with bank `k` changed. -/
def State.modLswBank (s : State) (k : Nat) (f : LswBank → LswBank) : State :=
  { s with lsw := { s.lsw with banks := modAt s.lsw.banks k f } }

/-- Bank of a channel (17, Channels and banks). -/
def bankOf (c : Nat) : Nat := if c < 24 then c / 6 else if c < 72 then (c - 24) / 12 else (c - 72) / 2

/-- A lamp or general channel: the ones that commands, retries and limp-home reach (R558, R562). -/
def plainCh (c : Nat) : Bool := decide (c < 24) || (decide (72 ≤ c) && decide (c < 80))

/-- The lamp and general channels. -/
def plainChs : List Nat := (List.range 80).filter plainCh

/-- LSW_FAULT (17). -/
def State.evtLsw (s : State) (c kind : Nat) : State :=
  s.emit 10 0x0E80 (toLE 1 c ++ toLE 1 kind ++ toLE 1 (s.lswCh c).tries ++ toLE 1 (bankOf c) ++ toLE 8 s.bak.rtc)

/-- LSW_BANK (17). -/
def State.evtBank (s : State) (k ev : Nat) : State :=
  s.emit 10 0x0E82 (toLE 1 k ++ toLE 1 ev ++ toLE 2 (s.lswBank k).v ++ toLE 8 s.bak.rtc)

/-! ### Limp-home -/

/-- Field `n` of the limp-home map (17 LSW_LIMP_MAP0, LSW_LIMP_MAP1). -/
def State.limpField (s : State) (n : Nat) : Nat := field (if n < 4 then s.lsw.map0 else s.lsw.map1) (8 * (n % 4)) 8

/-- The inputs whose enabled field names channel `c` (R561, R563). -/
def State.limpInputs (s : State) (c : Nat) : List Nat :=
  (List.range 8).filter fun n => bit (s.limpField n) 7 && s.limpField n % 128 == c && plainCh c

/-- Limp-home is active (R560). -/
def State.limpOn (s : State) : Bool := s.lsw.lhpin || s.lsw.wdg

/-- Limp-home controls channel `c`. -/
def State.limpRules (s : State) (c : Nat) : Bool := s.limpOn && !(s.limpInputs c).isEmpty

/-- Channel `c` is asked to be on: by its inputs in limp-home, else by its last command (R561, R563). -/
def State.lswWant (s : State) (c : Nat) : Bool :=
  if s.limpRules c then (s.limpInputs c).any fun n => bit s.lsw.lhin n else (s.lswCh c).on

/-! ### Switching -/

/-- The duty that a channel applies at a bank voltage (R549): clamped to 1,000. -/
def lswDuty (x : LswCh) (v : Nat) : Nat × Bool :=
  let n := 10 * u16 x.run 6
  let d := match u8 x.run 1 with
    | 1 => if v = 0 then 1001 else x.duty * n * n / (v * v)
    | 2 => if v = 0 then 1001 else x.duty * n / v
    | _ => x.duty
  (min 1000 d, decide (1000 < d))

/-- The applied duty of a driven channel set anew (R549, R550, R561). -/
def State.lswApply (s : State) (c : Nat) : State :=
  let b := s.lswBank (bankOf c)
  let limp := s.limpRules c
  s.modLswCh c fun x =>
    if !x.driven then x else
    let d := if limp then (1000, false) else lswDuty x (if b.frozen then b.held else b.v)
    { x with appl := d.1, clamp := d.2 }

/-- A switch-on (R551, R564): the stored configuration takes effect, and a blanking window starts. -/
def State.lswOn (s : State) (c : Nat) : State :=
  let cfg := s.cfg.lsw.getD c []
  (s.modLswCh c fun x => { x with run := cfg, driven := true, blank := u8 cfg 2 != 0, limit := false, wait := false, onAt := s.up, limAt := s.up, olRun := 0 }).lswApply c

/-- A channel off. -/
def State.lswOff (s : State) (c : Nat) : State :=
  s.modLswCh c fun x => { x with driven := false, blank := false, limit := false, confirm := false, appl := 0, clamp := false }

/-- A channel as it is asked to be: on unless it is stopped, or off (R557, R561). -/
def State.lswFollow (s : State) (c : Nat) : State :=
  let x := s.lswCh c
  if s.lswWant c then
    if x.driven || x.wait || x.stop || x.latch || (s.lswBank (bankOf c)).uv then s else s.lswOn c
  else if x.driven || x.wait then (s.lswOff c).modLswCh c fun x => { x with wait := false }
  else s

/-- Every mapped channel as limp-home or its command asks. -/
def State.limpFollow (s : State) : List Nat → State
  | [] => s
  | c :: t => State.limpFollow (if (s.limpInputs c).isEmpty then s else (s.lswFollow c).lswApply c) t

/-- A change of what makes limp-home active (R560, R561): LSW_LIMP at its start and its end. -/
def State.setLimp (s : State) (pin wdg : Bool) : State :=
  let was := s.limpOn
  let cause := b2n s.lsw.lhpin + 2 * b2n s.lsw.wdg
  let s := { s with lsw := { s.lsw with
    lhpin := pin, wdg := wdg, wdgAt := if wdg && !s.lsw.wdg then s.up else s.lsw.wdgAt } }
  if s.limpOn = was then s
  else
    let cause := if s.limpOn then b2n pin + 2 * b2n wdg else cause
    let s := if was then s else s.maintEnd 4 fun a => a.act == 9
    (s.emit 10 0x0E81 (toLE 1 (b2n was) ++ toLE 1 cause ++ zeros 2 ++ toLE 8 s.bak.rtc)).limpFollow plainChs

/-- LIMP_HOME_INPUT (R560): LH# after its filter. -/
def execLimpHomeInput (low : Bool) (s : State) : Out := .next (s.setLimp low s.lsw.wdg)

/-- CC_WATCHDOG_EXPIRY (R560): not before ST15, nor while the handover holds the watchdog. -/
def execCcWatchdogExpiry (s : State) : Out :=
  onlyIf (s.host.ready && !s.rings.pause) s fun s => s.setLimp s.lsw.lhpin true

/-- LHIN_CHANGE (R561). -/
def execLhinChange (n : Nat) (high : Bool) (s : State) : Out :=
  onlyIf (decide (n < 8)) s fun s =>
    let s := { s with lsw := { s.lsw with lhin := putBit s.lsw.lhin n high } }
    if s.limpOn then s.limpFollow plainChs else s

/-! ### Limit, retries and thermal latch -/

/-- Compensation of a bank frozen or released by its limit samples (R550). -/
def State.limitSample (s : State) (k : Nat) : State :=
  let some_ := (List.range 80).any fun c => bankOf c == k && (s.lswCh c).limit
  s.modLswBank k fun b =>
    if some_ then { b with frozen := true, held := if b.frozen then b.held else b.v, limAt := s.up }
    else { b with limAt := if b.frozen then s.up else b.limAt }

/-- ILIM of a channel in mA (17, Channels and banks). -/
def ilim (c : Nat) : Nat := if c < 24 then 1200 else if c < 72 then 1500 else 3000

/-- LSW_CURRENT_LIMIT (R550, R551): what the load of a driven channel would draw, in mA: at ILIM the limit holds it there. -/
def execLswCurrentLimit (ch ma : Nat) (s : State) : Out :=
  onlyIf (decide (ch < 80) && ((s.lswCh ch).driven || !plainCh ch)) s fun s =>
    let on := decide (ilim ch ≤ ma)
    (s.modLswCh ch fun x => { x with
      limit := on, cur := 2 * min ma (ilim ch), limAt := if x.limit = on then x.limAt else s.up }).limitSample (bankOf ch)

/-- Switched off for overcurrent (R552): a retry follows, or the channel stays off. -/
def State.lswTripOff (s : State) (c : Nat) : State :=
  let s := (s.lswOff c).limitSample (bankOf c)
  let x := s.lswCh c
  if x.tries < u8 x.run 3 then (s.modLswCh c fun x => { x with wait := true, waitAt := s.up }).evtLsw c 0
  else
    let s := s.modLswCh c fun x => { x with stop := true }
    (if x.tries = 0 then s.raise 51 c 0 else s.raiseRetried 51 c 0).evtLsw c 1

/-- LSW_BLANK_END (R551): a channel still in limit is switched off. -/
def execLswBlankEnd (ch : Nat) (s : State) : Out :=
  onlyIf ((s.lswCh ch).driven && (s.lswCh ch).blank && decide ((s.lswCh ch).onAt + u8 (s.lswCh ch).run 2 ≤ s.up)) s fun s =>
    let s := s.modLswCh ch fun x => { x with blank := false, limAt := max x.limAt s.up }
    if (s.lswCh ch).limit then s.lswTripOff ch else s

/-- LSW_OVERCURRENT (R551): 1 ms in limit outside blanking. -/
def execLswOvercurrent (ch : Nat) (s : State) : Out :=
  onlyIf (plainCh ch && (s.lswCh ch).driven && (s.lswCh ch).limit && !(s.lswCh ch).blank
      && decide ((s.lswCh ch).limAt + 1 ≤ s.up)) s fun s => s.lswTripOff ch

/-- LSW_RETRY (R552, R554): retry k after 10 ms × 2^(k − 1); none starts while the thermal latch is set. -/
def execLswRetry (ch : Nat) (s : State) : Out :=
  let x := s.lswCh ch
  onlyIf (x.wait && !x.latch && !(s.lswBank (bankOf ch)).uv && decide (x.waitAt + 10 * 2 ^ x.tries ≤ s.up)) s fun s =>
    (s.lswOn ch).modLswCh ch fun x => { x with tries := x.tries + 1, confirm := true }

/-- LSW_RETRY_CONFIRM (R552): through its window, and 1 s of operation without limit. -/
def execLswRetryConfirm (ch : Nat) (s : State) : Out :=
  let x := s.lswCh ch
  onlyIf (x.driven && x.confirm && !x.blank && !x.limit && decide (x.limAt + 1000 ≤ s.up)) s fun s =>
    ((s.transient 51 ch 0).evtLsw ch 6).modLswCh ch fun x => { x with tries := 0, confirm := false }

/-- The thermal latch of a channel (R553, R554). -/
def State.lswLatch (s : State) (kind : Nat) (c : Nat) : State :=
  if (s.lswCh c).latch then s
  else (((s.lswOff c).modLswCh c fun x => { x with latch := true }).raise 52 c 0).evtLsw c kind

/-- LSW_THERMAL_TRIP (R553): the sensor of channel or bank `k` at `t` in 0.1 °C: 175 °C, of a bank 165 °C. -/
def execLswThermalTrip (bank : Bool) (k : Nat) (t : Int) (s : State) : Out :=
  if bank then
    onlyIf (decide (k < 4) && decide (1650 ≤ t)) s fun s =>
      let hit := (List.range 80).filter fun c => bankOf c == k && ((s.lswCh c).limit || (s.lswCh c).blank)
      (hit.foldl (State.lswLatch · 3) (s.modLswBank k fun b => { b with trip := true, temp := t })).limitSample k
  else
    onlyIf (decide (k < 80) && decide (1750 ≤ t)) s fun s =>
      ((s.modLswCh k fun x => { x with trip := true, temp := t }).lswLatch 2 k).limitSample (bankOf k)

/-- LSW_THERMAL_RELEASE (R553): below 155 °C, of a bank below 145 °C. -/
def execLswThermalRelease (bank : Bool) (k : Nat) (t : Int) (s : State) : Out :=
  onlyIf (decide (t < if bank then 1450 else 1550)) s fun s =>
    if bank then s.modLswBank k fun b => { b with trip := false, temp := t }
    else s.modLswCh k fun x => { x with trip := false, temp := t }

/-- Open load is evaluated (R551, R556): outside the blanking window, with OL_THR set, in on-phases of 200 µs or more. -/
def LswCh.olOn (x : LswCh) : Bool := x.driven && !x.blank && decide (u8 x.run 4 ≠ 0) && decide (80 ≤ x.appl)

/-- One PWM period's current against OL_THR (R556). -/
def LswCh.olSample (x : LswCh) : LswCh :=
  { x with olRun := if x.olOn && decide (x.cur < u8 x.run 4) != x.open_ then min 40 (x.olRun + 1) else 0 }

/-- LSW_OPEN_LOAD (R556): 100 ms, 40 periods of 400 Hz, below OL_THR set the flag, as long above clear it. -/
def execLswOpenLoad (ch : Nat) (s : State) : Out :=
  let x := s.lswCh ch
  onlyIf (plainCh ch && x.olOn && decide (40 ≤ x.olRun)) s fun s =>
    let below := !x.open_
    let s := s.modLswCh ch fun x => { x with open_ := below, olRun := 0 }
    if below then (s.raise 53 ch 0).evtLsw ch 4 else s.evtLsw ch 5

/-! ### Banks -/

/-- A lock pulse cut off by undervoltage counts as a failed attempt (R557). -/
def State.cutPulses (s : State) : List ONum → State
  | [] => s
  | o :: t =>
    State.cutPulses (if (s.o o).lock.drive == .off then s
      else (s.modLock o fun l => { l with drive := .off, braking := false }).lockFailed o) t

/-- BANK_UNDERVOLTAGE (R557): below 6.0 V every channel of the bank is off. -/
def execBankUndervoltage (k mv10 : Nat) (s : State) : Out :=
  onlyIf (decide (k < 4) && !(s.lswBank k).uv && decide (mv10 < 600)) s fun s =>
    let s := s.modLswBank k fun b => { b with uv := true, v := mv10 }
    let s := (plainChs.filter fun c => bankOf c == k).foldl State.lswOff s
    let s := s.cutPulses (outlets.filter fun o => o.val / 6 == k)
    ((s.limitSample k).raise 54 k mv10).evtBank k 0

/-- BANK_RECOVER (R557): above 6.5 V each channel that is asked to be on restarts, without a retry used. -/
def execBankRecover (k mv10 : Nat) (s : State) : Out :=
  onlyIf (decide (k < 4) && (s.lswBank k).uv && decide (650 < mv10)) s fun s =>
    let s := s.modLswBank k fun b => { b with uv := false, v := mv10 }
    let restart (s : State) (c : Nat) : State := (s.modLswCh c fun x => { x with wait := x.wait && x.latch }).lswFollow c
    ((plainChs.filter fun c => bankOf c == k).foldl restart s).evtBank k 1

/-- PWM_PERIOD (R549, R550, R556): the bank voltages over 2 ms, the currents and the temperatures, and the duties recomputed. -/
def execPwmPeriod (v cur : List Nat) (temp : List Int) (bcur : List Nat) (btemp : List Int) (s : State) : Out :=
  let bank (k : Nat) (b : LswBank) : LswBank := { b with
    v := v.getD k b.v, cur := bcur.getD k b.cur, temp := btemp.getD k b.temp }
  let ch (c : Nat) (x : LswCh) : LswCh := ({ x with cur := cur.getD c x.cur, temp := temp.getD c x.temp } : LswCh).olSample
  let s := { s with lsw := { s.lsw with banks := s.lsw.banks.mapIdx bank, chans := vmapi ch s.lsw.chans } }
  let thaw (s : State) (k : Nat) : State :=
    if (List.range 80).any (fun c => bankOf c == k && (s.lswCh c).limit) then s.modLswBank k fun b => { b with limAt := s.up }
    else s.modLswBank k fun b => { b with frozen := b.frozen && decide (s.up ≤ b.limAt + 2) }
  let s := (List.range 4).foldl thaw s
  .next ((plainChs.filter fun c => (s.lswCh c).driven).foldl State.lswApply s)

/-- Every lamp and general channel off at a power-fail (R24, R562). -/
def State.lswShed (s : State) : State := plainChs.foldl State.lswOff s

/-! ### Registers and pins -/

/-- Channel `c` is stopped (17 LSW_FLTm). -/
def State.lswStopped (s : State) (c : Nat) : Bool :=
  let x := s.lswCh c
  x.stop || x.wait || x.latch || (s.lswBank (bankOf c)).uv

/-- Channel `c` is driven (17 LSW_ONm); the half-bridges by their lock pulse and its brake (R558). -/
def State.lswDriven (s : State) (c : Nat) : Bool :=
  if plainCh c then (s.lswCh c).driven
  else
    let l := (s.o (outletArg [BitVec.ofNat 8 ((c - 24) / 2)] 0)).lock
    (l.drive != .off || l.braking) && !(s.lswCh c).latch && !(s.lswBank (bankOf c)).uv

/-- A word of 32 channels (17 LSW_ONm, LSW_FLTm). -/
def chWord (f : Nat → Bool) (m : Nat) : Nat := maskOf ((List.range 32).filter fun i => 32 * m + i < 80 && f (32 * m + i))

/-- LSW_LIMP_STATUS. -/
def State.limpStatus (s : State) : Nat :=
  s.lsw.lhin + 256 * b2n s.limpOn + 512 * b2n s.lsw.lhpin + 1024 * b2n s.lsw.wdg

/-- SNSj (R559): millivolts in proportion to the current; none stands for the level of at least 4.5 V. -/
def State.snsOut (s : State) (j : Nat) : Option Nat :=
  let c := field s.lsw.snsSel (8 * j) 7
  if 80 ≤ c then some 0
  else
    let x := s.lswCh c
    if (x.limit && !x.blank) || s.lswStopped c || x.open_ then none
    else some (min 3300 (x.cur * 3000 / (if c < 24 then 600 else if c < 72 then 3000 else 2000)))

/-! ### Commands -/

/-- LSW_CHAN in range (R564). -/
def lswCfgOk (p : Bytes) : Bool :=
  plainCh (u8 p 0) && u8 p 1 ≤ 2 && u8 p 2 ≤ 20 && u8 p 3 ≤ 15 && u8 p 4 ≤ 200 && 60 ≤ u16 p 6 && u16 p 6 ≤ 360

/-- LSW_CHAN_SET (R564). -/
def execLswChanSet (q : Req) (s : State) : Out :=
  let p := q.payload
  mail { op := 0x0E01, pair := 10, lo := 8, hi := 8 } q s (lswCfgOk p) fun s =>
    (({ s with cfg := { s.cfg with lsw := s.cfg.lsw.set (u8 p 0) (p.take 5 ++ zeros 1 ++ p.drop 6) } }).effect 10 q.tag 0x0E01).ok

/-- LSW_CHAN_GET (R564). -/
def execLswChanGet (q : Req) (s : State) : Out :=
  let c := u8 q.payload 0
  mail { op := 0x0E02, pair := 10, lo := 1, hi := 1 } q s (plainCh c) fun s => s.ok (s.cfg.lsw.getD c [])

/-- LSW_OUT (R555, R565). -/
def execLswOut (q : Req) (s : State) : Out :=
  let p := q.payload
  let c := u8 p 0
  mail { op := 0x0E03, pair := 10, lo := 4, hi := 4 } q s
    (plainCh c && u8 p 1 ≤ 1 && (u8 p 1 == 0 || (decide (1 ≤ u16 p 2) && decide (u16 p 2 ≤ 1000)))) fun s =>
    let x := s.lswCh c
    if u8 p 1 = 0 then
      let s := s.modLswCh c fun x => { x with on := false, wait := false, tries := 0 }
      (s.lswFollow c).ok
    else if s.limpRules c then s.no 3
    else if x.latch || x.stop then s.no 9
    else
      let s := s.modLswCh c fun x => { x with on := true, duty := u16 p 2 }
      let s := s.lswFollow c
      (if (s.lswCh c).driven then s.lswApply c else s).ok

/-- STATE of LSW_STATUS_GET (R566). -/
def State.lswState (s : State) (c : Nat) : Nat :=
  let x := s.lswCh c
  if x.latch then 5 else if x.stop then 6 else if (s.lswBank (bankOf c)).uv then 7 else if x.wait then 4
  else if x.blank then 2 else if x.limit then 3 else if x.driven then 1 else 0

/-- LSW_STATUS_GET (R566). -/
def execLswStatusGet (q : Req) (s : State) : Out :=
  let c := u8 q.payload 0
  mail { op := 0x0E04, pair := 10, lo := 1, hi := 1 } q s (plainCh c) fun s =>
    let x := s.lswCh c
    s.ok (toLE 1 c ++ toLE 1 (s.lswState c) ++ toLE 1 x.tries ++ toLE 1 (b2n x.open_ + 2 * b2n x.clamp + 4 * b2n (s.limpRules c))
      ++ toLE 2 x.cur ++ toLE 2 x.appl ++ toLEs 2 x.temp)

/-- LSW_BANK_GET (R567). -/
def execLswBankGet (q : Req) (s : State) : Out :=
  let k := u8 q.payload 0
  mail { op := 0x0E05, pair := 10, lo := 1, hi := 1 } q s (k ≤ 3) fun s =>
    let b := s.lswBank k
    s.ok (toLE 2 b.v ++ toLE 2 b.cur ++ toLEs 2 b.temp ++ toLE 1 (b2n b.uv + 2 * b2n b.trip + 4 * b2n b.frozen) ++ zeros 1)

/-- LSW_CLEAR (R554, R568): a cleared latch leaves the next retry to start after its backoff; a cleared stop starts again. -/
def execLswClear (q : Req) (s : State) : Out :=
  let c := u8 q.payload 0
  mail { op := 0x0E06, pair := 10, lo := 1, hi := 1 } q s (plainCh c) fun s =>
    let x := s.lswCh c
    if x.latch then
      if x.trip || (s.lswBank (bankOf c)).trip then s.no 3
      else
        let retry := s.lswWant c && !x.stop && decide (x.tries < u8 x.run 3)
        let stop := x.stop || (s.lswWant c && !retry)
        (s.modLswCh c fun x => { x with latch := false, wait := retry, waitAt := s.up, stop := stop }).ok
    else if x.stop then ((s.modLswCh c fun x => { x with stop := false, tries := 0 }).lswFollow c).ok
    else s.no 6

end Sys2Proof.Machine
end

