-- ==== Sys2Proof/Machine/Lattice.lean ====
section
/-! DEFINITION. The lattice: frames, membership, grants, floors; step instants; and the lattice commands (08, The lattice). -/

namespace Sys2Proof.Machine

/-! ### Shared -/

/-- This member's identity. -/
def ownId : Nat := Config.uid.toNat

/-- CFGCHK of this member (R275). -/
def State.latCheck (s : State) : Nat :=
  crc32c ((s.cfg.lat.drop 1).take 1 ++ (s.cfg.lat.drop 4).take 4 ++ s.cfg.bud.take 12 ++ (s.cfg.bud.drop 26).take 6)

/-- Own floors, import and export (R290). -/
def State.ownFloor (s : State) : List Nat × List Nat := (fld3 s.cfg.lat 12, fld3 s.cfg.lat 18)

/-- `a` is newer than `b` in serial-number arithmetic (R278, R518). -/
def newer32 (a b : Nat) : Bool := (a + 2 ^ 32 - b) % 2 ^ 32 != 0 && decide ((a + 2 ^ 32 - b) % 2 ^ 32 < 2 ^ 31)

/-- The lattice state with a change. -/
def State.modLat (s : State) (f : Lattice → Lattice) : State := { s with lat := f s.lat }

/-- LAT_MEMBER (08). -/
def State.evtMember (s : State) (event id : Nat) : State :=
  s.emit 3 0x0682 (toLE 1 event ++ toLE 1 ((s.lat.members.filter fun m => m.heard).length + 1) ++ zeros 2 ++ toLE 8 id
    ++ toLE 4 s.lat.round)

/-- LAT_FLOOR (08). -/
def State.evtFloor (s : State) (st : Nat) : State :=
  s.emit 3 0x0683 (toLE 1 st ++ zeros 3 ++ toLE 4 s.lat.applied ++ toLE 8 s.bak.rtc)

/-- The floor applied (R284): LAT_FLOOR latched and emitted. -/
def State.toFloor (s : State) : State :=
  ((s.modLat fun l => { l with floor := true, gI := s.ownFloor.1, gE := s.ownFloor.2, misses := 3 }).raise 83 0xFFFF s.lat.round).evtFloor 0

/-- A frame enqueued for launch on a port at a time (R279, R505, R514, R515): refused by a full queue, which counts; one whose
time has passed is sent at once or dropped under LATE, counts and latches NET_LATE. -/
def State.launchPort (s : State) (p : Nat) (x : Launch) : State :=
  let q := s.net.launch.getD p []
  if x.sec < s.net.sec || (x.sec = s.net.sec && x.ns < s.net.ns) then
    let drop := u8 s.cfg.net 2 == 1
    ({ s with net := { s.net with
        stats := modAt s.net.stats (if drop then 3 else 2) (wrapInc 32)
        sent := if drop then s.net.sent else s.net.sent.set p (some x.body) } }).raise 90 p 0
  else if 8 ≤ q.length then { s with net := { s.net with stats := modAt s.net.stats 4 (wrapInc 32) } }
  else
    let q := sortBy (fun a b => decide (a.sec < b.sec) || (a.sec == b.sec && decide (a.ns ≤ b.ns))) (q ++ [x])
    { s with net := { s.net with launch := s.net.launch.set p q } }

/-- The first 8 bytes of the AES-CMAC of a frame under the key in KEYSLOT (R278). -/
def State.latMac (s : State) (b : Bytes) : Bytes := (padTo 16 (Config.cmac (s.slot (u8 s.cfg.lat 2)).mat b)).take 8

/-- A lattice frame of this member, from VERSION on (R278). -/
def State.latFrame (s : State) (type round : Nat) (body : Bytes) : Bytes :=
  let b := [1] ++ toLE 1 type ++ toLE 2 body.length ++ (s.cfg.lat.drop 4).take 4 ++ toLE 8 ownId ++ toLE 4 round ++ toLE 4 s.latCheck
    ++ body
  b ++ s.latMac b

/-- The Ethernet header of a lattice frame: the multicast address, the own address, the 802.1Q tag where VID is not 0, the
EtherType (08, Frame format; 15 R504). -/
def State.latHeader (s : State) : Bytes :=
  let vid := u16 s.cfg.lat 8
  [0x03, 0x4D, 0x5A, 0x00, 0x24, 0x00] ++ (toLE 6 (6 * 2 ^ 40 + ownId % 2 ^ 40)).reverse
    ++ (if vid = 0 then [] else [0x81, 0x00] ++ (toLE 2 (8192 * u8 s.cfg.lat 3 + vid)).reverse) ++ [0x88, 0xB5]

/-- A frame enqueued on each port of PORTS (R278, R279). -/
def State.launchOn (s : State) (sec ns type round : Nat) (body : Bytes) : State :=
  let x : Launch := { sec := sec, ns := ns, body := s.latHeader ++ s.latFrame type round body }
  (bitsOf 2 (u8 s.cfg.lat 11)).foldl (fun s p => s.launchPort p x) s

/-! ### Grants -/

/-- The sum of caps held to a level. -/
def levelSum (caps : List Nat) (t : Nat) : Nat := (caps.map fun c => min c t).foldl (· + ·) 0

/-- The highest level below 2^(k + base bits) that room allows, bit by bit from bit k - 1 down. -/
def levelOf (caps : List Nat) (room : Nat) : Nat → Nat → Nat
  | 0, t => t
  | k + 1, t => levelOf caps room k (if levelSum caps (t + 2 ^ k) ≤ room then t + 2 ^ k else t)

/-- The rest of a fill, 0.1 A each to the first entries above the level. -/
def fillRest (t : Nat) : Nat → List Nat → List Nat
  | _, [] => []
  | r, c :: l => if t < c && 0 < r then (t + 1) :: fillRest t (r - 1) l else min c t :: fillRest t r l

/-- Max-min fair fill in 0.1 A of `room` among entries with caps (R281). -/
def maxMin (caps : List Nat) (room : Nat) : List Nat :=
  let t := levelOf caps room 20 0
  fillRest t (room - levelSum caps t) caps

/-- What the leader knows of one member on one phase and direction: floor, demand, the last two grants, missed REPORTs. -/
structure Claim where
  floor : Nat
  dem : Nat
  g1 : Nat
  g2 : Nat
  missed : Nat
  deriving DecidableEq, Repr

/-- The targets of step 2 of R281; a missed REPORT keeps the previous grant, 3 in a row give the floor. -/
def targets (limit : Nat) (cs : List Claim) : List Nat :=
  let floors := (cs.map fun c => c.floor).foldl (· + ·) 0
  let caps := cs.map fun c => if c.missed ≠ 0 then (if c.missed < 3 then c.g1 - c.floor else 0) else c.dem - c.floor
  let f := maxMin caps (limit - floors)
  (cs.zip f).map fun x => if x.1.missed = 0 then x.1.floor + x.2 else if x.1.missed < 3 then x.1.g1 else x.1.floor

/-- The grants of steps 3 and 4 of R281. -/
def grants (limit : Nat) (cs : List Claim) : List Nat :=
  let ts := targets limit cs
  let rs := cs.map fun c => max c.g1 c.g2
  let room := limit - rs.foldl (· + ·) 0
  let ups := (ts.zip rs).map fun x => if x.2 < x.1 then x.1 - x.2 else 0
  let f := maxMin ups room
  ((ts.zip rs).zip f).map fun x => if x.1.2 < x.1.1 then x.1.2 + x.2 else x.1.1

/-- This member among the members, as the leader sees it. -/
def State.selfMember (s : State) : Member := {
  id := ownId, fresh := true, heard := true, missed := 0, floorI := s.ownFloor.1, floorE := s.ownFloor.2,
  demI := s.bud.demI, demE := s.bud.demE, gI := s.lat.ownI, gE := s.lat.ownE,
  ext := if u8 s.cfg.lat 10 = 1 then some s.extNow else none }

/-- LIMIT: the import limit per phase after EXT (R280, R281 step 1). -/
def State.latLimit (s : State) : List Nat :=
  let ms := s.selfMember :: s.lat.members
  let ext := ((ms.findSome? fun m => if m.fresh then m.ext else none)).getD (fld3 s.bud.cfg 26)
  sub3 (fld3 s.bud.cfg 0) ext

/-- The floors of all members exceed the site limits (R277). -/
def State.floorsTooHigh (s : State) : Bool :=
  let ms := s.selfMember :: s.lat.members
  let sum (f : Member → List Nat) : List Nat := ms.foldl (fun t m => add3 t (f m)) [0, 0, 0]
  let room := sub3 (fld3 s.bud.cfg 0) (fld3 s.bud.cfg 26)
  (List.range 3).any fun i => room.getD i 0 < (sum (·.floorI)).getD i 0 || (fld3 s.bud.cfg 6).getD i 0 < (sum (·.floorE)).getD i 0

/-- Grants on the three phases of one direction: each member's, in the order of the list. -/
def phaseGrants (limit : List Nat) (ms : List Member) (floor dem : Member → List Nat) (g : Member → List (List Nat)) :
    List (List Nat) :=
  let claim (i : Nat) (m : Member) : Claim := {
    floor := (floor m).getD i 0, dem := (dem m).getD i 0, g1 := ((g m).getD 0 []).getD i 0,
    g2 := ((g m).getD 1 []).getD i 0, missed := m.missed }
  let per := (List.range 3).map fun i => grants (limit.getD i 0) (ms.map (claim i))
  (List.range ms.length).map fun k => (List.range 3).map fun i => (per.getD i []).getD k 0

/-- The leader works out the grants of a round (R281, R282). -/
def State.leadRound (s : State) : State :=
  let was := s.lat.floorsOnly
  let s := if s.floorsTooHigh then (if s.latched 82 then s else s.raise 82 0xFFFF s.lat.round) else s
  let ms := s.selfMember :: s.lat.members
  let heard := (ms.filter fun m => m.heard).length
  let lacking := ms.any fun m => m.heard && m.gI.length < 2
  let only := decide (heard < u8 s.cfg.lat 1) || lacking || s.latched 82
  let gi := if only then ms.map (·.floorI) else phaseGrants s.latLimit ms (·.floorI) (·.demI) (·.gI)
  let ge := if only then ms.map (·.floorE) else phaseGrants (fld3 s.bud.cfg 6) ms (·.floorE) (·.demE) (·.gE)
  let step := s.bud.stepAt.getD ((s.stepMs / 1000 + 1) * 1000)
  let round := wrapInc 32 s.lat.round
  let s := s.modLat fun l => { l with
    round := round, computed := some (round, step), floorsOnly := only
    ownI := (gi.headD [] :: l.ownI).take 2, ownE := (ge.headD [] :: l.ownE).take 2
    members := l.members.mapIdx fun k m => { m with
      gI := (gi.getD (k + 1) [] :: m.gI).take 2, gE := (ge.getD (k + 1) [] :: m.gE).take 2 } }
  if only && !was then s.evtMember 3 ownId else if !only && was then s.evtMember 4 ownId else s

/-- The lost or changed members of a closed round reported (08, LAT_MEMBER). -/
def State.lostEvents (s : State) : List Nat → State
  | [] => s
  | id :: t => State.lostEvents (s.evtMember 1 id) t

/-! ### Frames -/

/-- A received lattice frame whose MAC is good, as its fields (R278). -/
structure LatFrame where
  share : Bool
  sender : Nat
  round : Nat
  cfgchk : Nat
  body : Bytes
  deriving DecidableEq, Repr

/-- The frame `b`, from VERSION on, read; none where VERSION, TYPE or MAC is wrong (R278). -/
def State.latParse (s : State) (b : Bytes) : Option LatFrame :=
  let n := 24 + u16 b 2
  if u8 b 0 = 1 && (u8 b 1 == 1 || u8 b 1 == 2) && n + 8 ≤ b.length && (b.drop n).take 8 == s.latMac (b.take n) then
    some { share := u8 b 1 == 2, sender := fld b 8 8, round := u32 b 16, cfgchk := u32 b 20, body := (b.take n).drop 24 }
  else none

/-- The member with an identity; a new one where none is known. -/
def State.memberOf (s : State) (id : Nat) : Member := (s.lat.members.find? fun m => m.id == id).getD { id := id }

/-- The members with one replaced or added. -/
def State.putMember (s : State) (m : Member) : State :=
  s.modLat fun l => { l with
    members := if l.members.any fun x => x.id == m.id then l.members.map fun x => if x.id == m.id then m else x
      else l.members ++ [m] }

/-- A valid REPORT taken (R279). EXT of 0 counts as no report of EXT: the body does not carry EXT_ROLE (log entry 67). -/
def State.takeReport (s : State) (f : LatFrame) : State :=
  let m := s.memberOf f.sender
  let was := m.heard
  let s := s.putMember { m with
    lastR := some f.round, fresh := true, heard := true, missed := 0, st := u8 f.body 0
    floorI := fld3 f.body 4, floorE := fld3 f.body 10, demI := fld3 f.body 16, demE := fld3 f.body 22
    ext := if fld3 f.body 28 = [0, 0, 0] then none else some (fld3 f.body 28) }
  if was then s else s.evtMember 0 f.sender

/-- Entry of this member in a SHARE body: offset of its ID, none where it has none (R280). -/
def ownEntry (body : Bytes) : Option Nat :=
  ((List.range (u8 body 18)).map fun i => 20 + 24 * i).find? fun off => fld body off 8 == ownId

/-- The sender of a SHARE is, or becomes, the present leader: the one in office, a lower identity that has taken over, or any member
while none is in office (R276). -/
def State.leads (s : State) (id : Nat) : Bool :=
  id == s.lat.leader || id < s.lat.leader || (s.lat.leader == ownId && !s.lat.leading)

/-- A new present leader (R276). -/
def State.newLeader (s : State) (id : Nat) : State :=
  if id = s.lat.leader then s else (s.modLat fun l => { l with leader := id, leading := l.leading && id == ownId }).evtMember 2 id

/-- A valid SHARE of the present leader taken; its grant waits for STEP where it came at least 20 ms before (R276, R280, R283). -/
def State.takeShare (s : State) (f : LatFrame) : State :=
  let step := fld f.body 0 6 * 1000 + u32 f.body 8 / 1000000
  let s := s.putMember { s.memberOf f.sender with lastS := some f.round }
  if !s.leads f.sender then s
  else
    let s := (s.newLeader f.sender).modLat fun l => { l with round := f.round, got := true }
    match ownEntry f.body with
    | some off =>
      if s.stepMs + 20 ≤ step then
        { s with
          bud := { s.bud with shareSeen := true }
          lat := { s.lat with
            share := some { round := f.round, step := step, gI := fld3 f.body (off + 8), gE := fld3 f.body (off + 14) } } }
      else s
    | none => s

/-- The SHARE of a step instant applied, or a miss counted (R283, R284). -/
def State.latStep (s : State) : State :=
  match s.lat.share with
  | some x =>
    if x.step ≤ s.stepMs then
      let was := s.lat.floor
      let s := s.modLat fun l => { l with gI := x.gI, gE := x.gE, applied := x.round, misses := 0, floor := false, share := none }
      let s := { s with store := { s.store with latShare := some x } }
      if was then s.evtFloor 1 else s
    else s
  | none =>
    if s.lat.floor then s
    else if s.lat.misses + 1 < 3 then s.modLat fun l => { l with misses := l.misses + 1 }
    else s.toFloor

/-! ### Meanings -/

/-- The reduced set of a handover still holds at a step instant: no local round has been complete for 20 ms, or a lattice member has
had no valid SHARE since (01 R22). -/
def State.keepsReduced (s : State) : Bool := s.bud.reduced && (s.roundDue.isNone || (s.inLattice && !s.bud.shareSeen))

/-- STEP_INSTANT (R270 to R274, R283 to R285; 01 R16, R22). Under LINE the whole milliseconds count from it (R271). -/
def execStepInstant (s : State) : Out :=
  let soon := s.bud.moved && match s.bud.lastStep with
    | some t => decide (s.up < t + 500)
    | none => false
  let early := match s.bud.stepAt with
    | some t => decide (s.stepMs < t)
    | none => false
  onlyIf (s.fwRuns && !soon && !early) s fun s =>
    let s := { s with bud := { s.bud with lastStep := some s.up, moved := false, stepAt := none, cfg := s.cfg.bud } }
    let s := if s.bud.line then s.rebase else s
    let s := if s.inLattice then s.latStep else s
    if s.keepsReduced then s else s.applyStep

/-- LAT_FRAME_RX (R275, R278, R283): a frame from VERSION on. -/
def execLatFrameRx (frame : Bytes) (s : State) : Out :=
  onlyIf (s.fwRuns && s.inLattice && s.netOn && u32 frame 4 == u32 s.cfg.lat 4 && fld frame 8 8 != ownId) s fun s =>
    let discard := s.modLat fun l => { l with discards := wrapInc 32 l.discards }
    match s.latParse frame with
    | none => discard
    | some f =>
    if f.cfgchk ≠ s.latCheck then s.raise 82 0xFFFF f.cfgchk
    else
      let m := s.memberOf f.sender
      let last := if f.share then m.lastS else m.lastR
      let fresh := match last with
        | none => true
        | some r => newer32 f.round r
      if fresh then (if f.share then s.takeShare f else s.takeReport f)
      else if f.share && last == some f.round && s.lat.share.isSome then s.modLat fun l => { l with got := true }
      else discard

/-- The REPORT body (R279). -/
def State.reportBody (s : State) : Bytes :=
  toLE 1 (b2n s.bud.line + 2 * b2n s.lat.floor + 4 * b2n s.bud.reduced) ++ zeros 3 ++ toLE3 s.ownFloor.1 ++ toLE3 s.ownFloor.2
    ++ toLE3 s.bud.demI ++ toLE3 s.bud.demE ++ toLE3 (if u8 s.cfg.lat 10 = 1 then s.extNow else [0, 0, 0]) ++ zeros 2

/-- ROUND of the next REPORT: the round in progress, and newer than that of the last REPORT (R278; log entry 67). -/
def State.reportRound (s : State) : Nat :=
  let next := wrapInc 32 s.lat.round
  if newer32 next s.lat.sent then next else wrapInc 32 s.lat.sent

/-- LAT_REPORT_TX (R279): REPORT launched 200 ms after the whole second. -/
def execLatReportTx (s : State) : Out :=
  onlyIf (s.fwRuns && s.inLattice && s.netOn && s.slotValid (u8 s.cfg.lat 2)) s fun s =>
    let r := s.reportRound
    (s.modLat fun l => { l with sent := r }).launchOn (s.stepMs / 1000) 200000000 1 r s.reportBody

/-- The close of a lattice round: missed reports, members lost, leadership, the round of the leader (R276, R281, R282). The leader in
office stays the present one until its successor takes over. -/
def State.closeRound (s : State) : State :=
  let next (m : Member) : Member :=
    let missed := if m.fresh then 0 else min 255 (m.missed + 1)
    { m with missed := missed, heard := m.heard && decide (missed < 3), run := if m.fresh then m.run + 1 else 0 }
  let ms := s.lat.members.map next
  let lost := (s.lat.members.filter fun m => m.heard && !(next m).heard).map fun m => m.id
  let s := s.modLat fun l => { l with
    members := ms, shareRun := if l.got then l.shareRun + 1 else 0, noShare := if l.got then 0 else l.noShare + 1, got := false }
  let s := s.lostEvents lost
  let lowest := (ms.filter fun m => m.heard).foldl (fun b m => min b m.id) ownId
  let lead :=
    if s.lat.leading then !(ms.any fun m => m.heard && m.id < ownId && 3 ≤ m.run)
    else lowest == ownId && (2 ≤ s.lat.shareRun || 3 ≤ s.lat.noShare)
  let gone := lowest != ownId && !(ms.any fun m => m.heard && m.id == s.lat.leader)
  let s := if lead then s.newLeader ownId else if s.lat.leading || gone then s.newLeader lowest else s
  let s := s.modLat fun l => { l with leading := lead }
  let repeats := match s.bud.stepAt, s.lat.share with
    | some t, some x => x.step == t
    | _, _ => false
  let s := if !lead then s
    else if repeats then s.modLat fun l => { l with computed := (l.share.map fun x => (x.round, x.step)) }
    else s.leadRound
  s.modLat fun l => { l with members := l.members.map fun m => { m with fresh := false, ext := if m.fresh then none else m.ext } }

/-- LAT_ROUND_CLOSE (R276, R281, R282). -/
def execLatRoundClose (s : State) : Out :=
  onlyIf (s.fwRuns && s.inLattice && s.netOn) s fun s => s.closeRound

/-- One entry of a SHARE body (R280). -/
def State.shareEntry (s : State) (m : Member) : Bytes :=
  toLE 8 m.id ++ toLE3 (m.gI.headD [0, 0, 0]) ++ toLE3 (m.gE.headD [0, 0, 0]) ++ toLE 1 (b2n (m.missed == 0) + 2 * b2n s.lat.floorsOnly)
    ++ zeros 3

/-- The SHARE body (R280). -/
def State.shareBody (s : State) (step : Nat) : Bytes :=
  let ms := (s.selfMember :: s.lat.members).take 16
  toLE 6 (step / 1000) ++ zeros 2 ++ toLE 4 (step % 1000 * 1000000) ++ toLE3 s.latLimit ++ toLE 1 ms.length ++ zeros 1
    ++ (ms.map s.shareEntry).flatten

/-- A SHARE launched 500 ms after the whole second; it counts as this member's own valid SHARE (01 R22). -/
def State.shareOut (s : State) (round : Nat) (body : Bytes) : State :=
  ({ s with bud := { s.bud with shareSeen := true } }).launchOn (s.stepMs / 1000) 500000000 2 round body

/-- LAT_SHARE_TX (R280): SHARE launched 500 ms after the whole second; the leader's own entry counts as received. -/
def execLatShareTx (s : State) : Out :=
  match s.lat.computed with
  | none => .next s
  | some (round, step) =>
    onlyIf (s.fwRuns && s.inLattice && s.netOn && s.lat.leading && s.slotValid (u8 s.cfg.lat 2)) s fun s =>
      (s.modLat fun l => { l with
        computed := none, got := true
        share := some { round := round, step := step, gI := l.ownI.headD [0, 0, 0], gE := l.ownE.headD [0, 0, 0] } }).shareOut round
          (s.shareBody step)

/-- LAT_CONFIG_SET fields in range (R290). -/
def latCfgOk (p : Bytes) : Bool :=
  u8 p 0 ≤ 1 && 2 ≤ u8 p 1 && u8 p 1 ≤ 16 && u8 p 3 ≤ 7 && u32 p 4 != 0 && u16 p 8 ≤ 4094 && u8 p 10 ≤ 1 && u8 p 11 ≤ 3
    && curOk p 12 6

/-- LAT_CONFIG_SET (R284, R290). -/
def execLatConfigSet (q : Req) (s : State) : Out :=
  let p := q.payload
  mail { op := 0x0608, pair := 3, lo := 24, hi := 24 } q s (latCfgOk p) fun s =>
    if !s.slotHas (u8 p 2) 3 then s.no 0x04
    else
      let was := s.inLattice
      let s := ({ s with cfg := { s.cfg with lat := p } }).effect 3 q.tag 0x0608
      let l : Lattice := {
        round := s.lat.round, leader := ownId, gI := s.ownFloor.1, gE := s.ownFloor.2, discards := s.lat.discards }
      let s := { s with lat := l }
      (if was && s.inLattice then s.toFloor else s).ok

/-- LAT_CONFIG_GET (R290). -/
def execLatConfigGet (q : Req) (s : State) : Out :=
  mail { op := 0x0609, pair := 3 } q s true fun s => s.ok s.cfg.lat

/-- A member's entry in LAT_STATUS_GET (R291). -/
def Member.bytes (m : Member) (only : Bool) : Bytes :=
  toLE 8 m.id ++ toLE3 (m.gI.headD []) ++ toLE3 (m.gE.headD []) ++ toLE3 m.demI ++ toLE 1 m.missed
    ++ toLE 1 (b2n (m.missed == 0) + 2 * b2n only) ++ zeros 4

/-- LAT_STATUS_GET (R291). -/
def execLatStatusGet (q : Req) (s : State) : Out :=
  let r := q.bulk.getD (0, 0)
  mail { op := 0x060A, pair := 3, bulk := 1 } q s true fun s => s.sized r 512 <|
    let ms := if s.inLattice then (s.selfMember :: s.lat.members).take 16 else []
    { st := s.bulkPut 3 r (ms.map fun m => m.bytes s.lat.floorsOnly).flatten, bulk := some r
      payload := toLE 8 s.lat.leader ++ toLE 4 s.lat.round ++ toLE 1 (ms.filter fun m => m.heard).length ++ toLE 1 ms.length
        ++ zeros 2 ++ toLE 4 s.lat.discards }

end Sys2Proof.Machine
end

