-- ==== Sys2Proof/Machine/Net.lean ====
section
/-! DEFINITION. Ethernet, precision time, timestamp and launch queues, time outputs and captures, the TIME block, and the network
commands (15). -/

namespace Sys2Proof.Machine

/-- The state with the NET domain changed. -/
def State.modNet (s : State) (f : Net → Net) : State := { s with net := f s.net }

/-- Counter `k` of NET_STATS counted on; it wraps (R525). -/
def State.netStat (s : State) (k : Nat) : State := s.modNet fun n => { n with stats := modAt n.stats k (wrapInc 32) }

/-- The local clock in nanoseconds (R509). -/
def State.clockNs (s : State) : Nat := s.net.sec * 1000000000 + s.net.ns

/-- ROLE: 0 PTP off, 1 slave-only, 2 master-capable (R520). -/
def State.ptpRole (s : State) : Nat := u8 s.cfg.net 3 % 4

/-! ### Switch -/

/-- The H24's MAC address, most significant byte first (R504). -/
def ownMac : Nat := 6 * 2 ^ 40 + Config.uid.toNat % 2 ^ 40

/-- A broadcast or multicast address. -/
def groupMac (a : Nat) : Bool := bit a 40

/-- The learning table with a source learned: 256 addresses, the oldest giving way (R503; DESIGN CHOICE, log entry 28). -/
def learn (l : List (Nat × Nat × Nat)) (src port now : Nat) : List (Nat × Nat × Nat) := (assocPut l src (port, now)).take 256

/-- The bytes of a frame that its FCS covers. -/
def ethBytes (f : EthFrame) : Bytes :=
  (toLE 6 f.dst).reverse ++ (toLE 6 f.src).reverse
    ++ (match f.tag with
      | some t => [0x81, 0x00] ++ (toLE 2 (t.1 + 8192 * t.2)).reverse
      | none => [])
    ++ (toLE 2 f.type).reverse ++ f.body

/-- The egress queue of a PCP value (R505). -/
def egressQueue (pcp : Nat) : Nat := min 3 (pcp / 2)

/-- A frame of PTP over IEEE 802.3 or over UDP/IPv4 on ports 319 and 320: where its PTP header begins in the body (R504, R506). -/
def ptpHeader (f : EthFrame) : Option Nat :=
  if f.type = 0x88F7 then some 0
  else if f.type = 0x0800 then
    let ihl := 4 * (u8 f.body 0 % 16)
    let dport := ofBE ((f.body.drop (ihl + 2)).take 2)
    if u8 f.body 9 = 17 && (dport = 319 || dport = 320) then some (ihl + 8) else none
  else none

/-- correctionField of a PTP event message with the residence time added (R508), in units of 2^-16 ns; none for another frame. -/
def residenceAdded (f : EthFrame) (residence : Nat) : Option Int :=
  match ptpHeader f with
  | some k => if u8 f.body k % 16 ≤ 3 then some (sfld ((f.body.drop (k + 8)).take 8).reverse 0 8 + 65536 * residence) else none
  | none => none

/-- IPV4 of NET_CONFIG, as the four bytes of an address on the wire; none set where 0 (R520). -/
def State.ownIp (s : State) : Bytes := ((s.cfg.net.drop 16).take 4).reverse

/-- The ARP answer to a request for the H24's IPv4 address, from its destination address on (R504); the layout is that of ARP
(PRESUMED, log entry 28). -/
def State.arpAnswer (s : State) (f : EthFrame) : Option Bytes :=
  let b := f.body
  if f.type = 0x0806 && (b.take 8) == [0, 1, 8, 0, 6, 4, 0, 1] && ((b.drop 24).take 4) == s.ownIp && ofBE s.ownIp ≠ 0 then
    let mac := (toLE 6 ownMac).reverse
    let vid := u16 s.cfg.net 12
    some ((b.drop 8).take 6 ++ mac ++ (if vid = 0 then [] else [0x81, 0x00] ++ (toLE 2 (vid + 8192 * u8 s.cfg.net 14)).reverse)
      ++ [0x08, 0x06, 0, 1, 8, 0, 6, 4, 0, 2] ++ mac ++ s.ownIp ++ (b.drop 8).take 10)
  else none

/-- ETH_FRAME_RX (R502 to R505, R508): a frame received on a PHY, and its residence time in ns where it is forwarded. -/
def execEthFrameRx (port : Nat) (f : EthFrame) (residence : Nat) (s : State) : Out :=
  onlyIf (s.netOn && decide (port < 2) && bit (u8 s.cfg.net 0) port && s.net.link.getD port false) s fun s =>
    let s := s.modNet fun n => { n with actAt := n.actAt.set port (some s.up) }
    if f.fcs ≠ fcsOf (ethBytes f) then s.netStat 5
    else
      let known := s.net.macs.find? fun e => e.1 == f.dst
      let s := if groupMac f.src then s else s.modNet fun n => { n with macs := learn n.macs f.src port s.up }
      let mine := f.dst == ownMac
      let vid := (f.tag.getD (0, 0)).1
      let forward := !mine && bit (u8 s.cfg.net 0) (1 - port) && s.net.link.getD (1 - port) false &&
        match known with
        | some e => e.2.1 != port
        | none => true
      let deliver := (mine || groupMac f.dst) && (vid == 0 || vid == u16 s.cfg.net 12)
      let answer := if deliver && s.fwRuns then s.arpAnswer f else none
      let corr := if bit (u8 s.cfg.net 3) 2 then residenceAdded f residence else none
      s.modNet fun n => { n with
        forwarded := if forward then modAt n.forwarded (egressQueue (f.tag.getD (0, 0)).2) (· + 1) else n.forwarded
        delivered := if deliver then n.delivered + 1 else n.delivered
        resid := if forward && corr.isSome then corr else n.resid
        sent := if answer.isSome then n.sent.set port answer else n.sent }

/-- E0LED and E1LED (R502): low while the link is up, high for 30 ms on activity. -/
def State.linkLed (s : State) (p : Nat) : Bool :=
  !(s.net.link.getD p false) || match s.net.actAt.getD p none with
    | some t => decide (s.up < t + 30)
    | none => false

/-- ADDRESS_AGEING (R503): an address not seen for 300 s. -/
def execAddressAgeing (mac : Nat) (s : State) : Out :=
  onlyIf (s.netOn && (s.net.macs.find? fun e => e.1 == mac).any fun e => decide (e.2.2 + 300000 ≤ s.up)) s fun s =>
    s.modNet fun n => { n with macs := assocDel n.macs mac }

/-- PHY_LINK_CHANGE (R502): NET_LINK. E0LED and E1LED follow the link. -/
def execPhyLinkChange (port : Nat) (up fast : Bool) (s : State) : Out :=
  onlyIf (s.netOn && decide (port < 2) && (bit (u8 s.cfg.net 0) port || !up) && s.net.link.getD port false != up) s fun s =>
    let s := s.modNet fun n => { n with link := n.link.set port up, fast := n.fast.set port (up && fast) }
    s.emit 8 0x0C80 (toLE 1 port ++ toLE 1 (b2n up) ++ toLE 1 (b2n (up && fast)) ++ zeros 1 ++ toLE 8 s.bak.rtc)

/-! ### The clock -/

/-- NET_SYNC (15). -/
def State.evtSync (s : State) (src dst : Nat) (step : Int) : State :=
  s.emit 8 0x0C81 (toLE 1 src ++ toLE 1 dst ++ toLE 1 s.net.epoch ++ zeros 1 ++ toLEs 8 step ++ toLE 8 s.bak.rtc)

/-- A change of SYNC, with NET_SYNC. -/
def State.setSync (s : State) (k : Nat) : State :=
  if s.net.sync = k then s else (s.modNet fun n => { n with sync := k }).evtSync s.net.sync k 0

/-- START of a time output in ns (R522). -/
def Tout.start (t : Tout) : Nat := fld t.cfg 4 6 * 1000000000 + u32 t.cfg 12

/-- Number of the first edge of a periodic output at or after a time (R516). -/
def Tout.edgeFrom (t : Tout) (now : Nat) : Nat :=
  let p := u32 t.cfg 16
  if now ≤ t.start || p = 0 then 0 else (now - t.start + p - 1) / p

/-- A time output after a step of the clock to `now` (R516): a periodic one places its next edge anew, a one-shot passed over fires
at once. -/
def Tout.stepped (t : Tout) (now : Nat) : Tout :=
  match u8 t.cfg 1 with
  | 1 => if !t.fired && t.start ≤ now then { t with fired := true, level := true } else t
  | 2 => { t with nextK := t.edgeFrom now }
  | _ => t

/-- The frames of a launch queue whose time a forward step has passed are late (R515). -/
def State.lateFrames (s : State) (p : Nat) : List Launch → State
  | [] => s
  | x :: t =>
    State.lateFrames (if x.sec < s.net.sec || (x.sec = s.net.sec && x.ns < s.net.ns) then
      (s.modNet fun n => { n with launch := n.launch.set p ((n.launch.getD p []).drop 1) }).launchPort p x
    else s) p t

/-- The clock stepped by `d` ns (R509, R515, R516): EPOCH advances, NET_SYNC reports it. -/
def State.clockStep (s : State) (d : Int) (dst : Nat) : State :=
  let now := ((s.clockNs : Int) + d).toNat
  let src := s.net.sync
  let s := s.modNet fun n => { n with
    sec := now / 1000000000, ns := now % 1000000000, epoch := wrapInc 8 n.epoch, slewNs := 0, goodSince := none, sync := dst
    touts := n.touts.map fun t => t.stepped now }
  let s := s.evtSync src dst d
  let s := s.lateFrames 0 (s.net.launch.getD 0 [])
  s.lateFrames 1 (s.net.launch.getD 1 [])

/-- Lock is lost (R510): holdover from now on. -/
def State.loseLock (s : State) : State :=
  (s.modNet fun n => { n with lostAt := s.up, goodSince := none, slewNs := 0 }).setSync 3

/-- A Sync with its measured offset (R509, R510): beyond 10 µs a locked clock loses lock; beyond 1 ms the clock steps; else it
slews; 10 s within 1 µs lock it. -/
def State.ptpOffset (s : State) (offset : Int) : State :=
  let s := s.modNet fun n => { n with offset := offset }
  if s.net.sync = 2 && 10000 < offset.natAbs then s.loseLock
  else if 1000000 < offset.natAbs then
    let s := if s.net.sync = 1 then s else s.setSync 1
    s.clockStep (-offset) 1
  else
    let s := if s.net.sync = 2 then s else s.setSync 1
    let good := offset.natAbs ≤ 1000
    let s := s.modNet fun n => { n with
      slewNs := -offset, goodSince := if good then some (n.goodSince.getD s.up) else none }
    match s.net.goodSince with
    | some t =>
      if s.net.sync = 1 && t + 10000 ≤ s.up then
        let s := (s.modNet fun n => { n with holdLong := false, lockedAt := s.up }).setSync 2
        { s with bill := { s.bill with unver := false }, bak := { s.bak with timeValid := true } }
      else s
    | none => s

/-- The H24's clockIdentity: the EUI-64 of its MAC address (PRESUMED, log entry 28). -/
def ownClock : Nat := ownMac / 2 ^ 24 * 2 ^ 40 + 0xFFFE * 2 ^ 24 + ownMac % 2 ^ 24

/-- A data set is better: the first entry that differs is lower (R506; the order of IEEE 1588, PRESUMED, log entry 28). -/
def dsBetter : List Nat → List Nat → Bool
  | a :: t, b :: u => decide (a < b) || (a == b && dsBetter t u)
  | _, _ => false

/-- The data set of the H24's own clock: clockClass 248 (R512). -/
def State.ownDs (s : State) : List Nat := [u8 s.cfg.net 8, 248, 0xFE, 0xFFFF, u8 s.cfg.net 9, ownClock, 0]

/-- Three Announce intervals in ms: a clock unheard for that long is forgotten (PRESUMED, log entry 28). -/
def State.announceLife (s : State) : Nat := 3000 * 2 ^ (sfld s.cfg.net 11 1 + 3).toNat / 8

/-- The best clock heard; none where the H24 is master-capable and its own is better (R506). -/
def State.bestClock (s : State) : Option Foreign :=
  let pick (b : Option Foreign) (f : Foreign) : Option Foreign :=
    match b with
    | none => some f
    | some g => if dsBetter (f.ds ++ [f.src]) (g.ds ++ [g.src]) then some f else b
  let b := s.net.foreign.foldl pick none
  if s.ptpRole = 2 && b.any (fun f => dsBetter s.ownDs f.ds) then none else b

/-- The parent chosen anew (R506, R510, R521). -/
def State.chooseParent (s : State) : State :=
  match s.bestClock with
  | none =>
    let s := s.modNet fun n => { n with parent := 0, utcValid := false, leap := false }
    if s.net.sync = 1 then s.setSync 0 else s
  | some f =>
    let s := s.modNet fun n => { n with
      twoStep := if n.parent = f.src then n.twoStep else none
      parent := f.src, utcOff := f.utc % 65536, utcValid := f.utcValid, leap := f.leap }
    if s.net.sync = 0 || s.net.sync = 4 then s.setSync 1 else s

/-- A valid Sync of the parent (R506, R509 to R511): `d` is its receive less its origin time. The offset is that less the path delay; a
delay request follows it (DESIGN CHOICE, log entry 28). -/
def State.syncTaken (s : State) (d : Int) : State :=
  let offset := d - s.net.delay
  let s := s.modNet fun n => { n with
    syncAt := s.up, syncDiff := d, twoStep := none, freqAdj := clampI (-500000000) 500000000 (Config.servo n.freqAdj offset)
    reqId := wrapInc 16 n.txId, txId := wrapInc 16 n.txId, reqOut := true, reqAt := none }
  let s := s.ptpOffset offset
  if s.net.sync = 2 then { s with bak := { s.bak with trim := Config.learnTrim s.bak.trim offset } } else s

/-- The engine takes the waiting TX timestamps up (R513): that of its delay request, and those that a Follow_Up waits for. -/
def State.takeStamps (s : State) : State :=
  let one (n : Net) (e : TsEntry) : Net :=
    let t := e.sec * 1000000000 + e.ns
    { n with
      reqAt := if n.reqOut && n.reqId == e.ident then some t else n.reqAt
      followed := if n.answers.contains e.ident then (e.ident, t) :: n.followed.take 1 else n.followed
      answers := n.answers.filter fun i => i != e.ident }
  s.modNet fun n => { (n.txq.flatten.foldl one n) with txq := [[], []] }

/-- An answer to a peer's or a slave's request: an event message with an identifier of its own, whose Follow_Up waits for its timestamp
with STEPMODE 0 (R506, R513). -/
def State.answerPeer (s : State) : State :=
  s.modNet fun n => { n with
    txId := wrapInc 16 n.txId
    answers := if u8 s.cfg.net 7 = 0 then wrapInc 16 n.txId :: n.answers.take 15 else n.answers }

/-- What a PTP message does, its receive time `rx` referred to the MDI (R506, R509 to R511). -/
def State.ptpHandle (s : State) (x : PtpRx) (rx : Nat) : State :=
  let mine := s.net.parent ≠ 0 && x.src = s.net.parent
  match x.msg with
  | .announce p1 cls acc var p2 gm steps utc uv leap =>
    let f : Foreign := { src := x.src, ds := [p1, cls, acc, var, p2, gm, steps], heard := s.up, utc := utc, utcValid := uv, leap := leap }
    (s.modNet fun n => { n with
      foreign := f :: n.foreign.filter fun g => g.src != x.src && decide (s.up < g.heard + s.announceLife) }).chooseParent
  | .sync origin two =>
    if !mine then s
    else if two then s.modNet fun n => { n with twoStep := some (x.seq, (rx : Int) - x.corr) }
    else s.syncTaken ((rx : Int) - x.corr - origin)
  | .followUp origin =>
    match s.net.twoStep with
    | some w => if mine && w.1 = x.seq then s.syncTaken (w.2 - x.corr - origin) else s
    | none => s
  | .delayReq => s
  | .delayResp t4 dest =>
    match s.net.reqAt with
    | some t3 =>
      if mine && dest = ownClock && x.seq = s.net.reqId && s.net.reqOut && u8 s.cfg.net 4 = 0 then
        s.modNet fun n => { n with delay := ((n.syncDiff + ((t4 : Int) - t3) - x.corr) / 2).toNat, reqOut := false }
      else s
    | none => s
  | .pdelayReq => if u8 s.cfg.net 4 = 1 then s.answerPeer else s
  | .pdelayResp t2 two dest =>
    match s.net.reqAt with
    | some t1 =>
      if dest = ownClock && x.seq = s.net.reqId && s.net.reqOut && u8 s.cfg.net 4 = 1 then
        if two then s.modNet fun n => { n with turn := some (x.seq, (rx : Int) - t1 - x.corr + t2) }
        else s.modNet fun n => { n with delay := (((rx : Int) - t1 - x.corr) / 2).toNat, reqOut := false }
      else s
    | none => s
  | .pdelayFollowUp t3 dest =>
    match s.net.turn with
    | some w =>
      if dest = ownClock && w.1 = x.seq then
        s.modNet fun n => { n with delay := ((w.2 - t3 - x.corr) / 2).toNat, reqOut := false, turn := none }
      else s
    | none => s

/-- PTP_MESSAGE (R504 to R511): a PTP message of the configured transport and domain from another clock. Its timestamp gets the receive
latency of the PHY; that at 10 Mbit/s is a free value (log entry 8). -/
def execPtpMessage (x : PtpRx) (s : State) : Out :=
  onlyIf (s.fwRuns && s.netOn && decide (s.ptpRole ≠ 0) && x.dom == u8 s.cfg.net 6 && x.udp == (u8 s.cfg.net 5 == 1)
      && x.src != ownClock) s fun s =>
    let d := if s.net.fast.getD x.port false then (232, s) else s.draw
    d.2.takeStamps.ptpHandle x (x.rx + d.1)

/-- PTP_SYNC_TIMEOUT (R510): no valid Sync of the parent for 3 s. -/
def execPtpSyncTimeout (s : State) : Out :=
  onlyIf (s.fwRuns && s.netOn && s.net.sync == 2 && decide (s.net.syncAt + 3000 ≤ s.up)) s State.loseLock

/-- NET_HOLDOVER (R391, R510): 10 s after a loss of lock; billing time goes on by the RTC. -/
def execNetHoldover (s : State) : Out :=
  onlyIf (s.fwRuns && s.netOn && s.net.sync != 2 && !s.net.holdLong
      && decide (s.net.lostAt + 10000 ≤ s.up)) s fun s =>
    (s.modNet fun n => { n with holdLong := true }).raise 91 0xFFFF 0

/-! ### Queues, outputs and captures -/

/-- TX_TIMESTAMP (R507, R513): the instant the SFD passed the PHY boundary. The latency at 10 Mbit/s is a free value (log entry 8). -/
def execTxTimestamp (port ident sec ns : Nat) (s : State) : Out :=
  onlyIf (s.netOn && decide (port < 2)) s fun s =>
    let q := s.net.txq.getD port []
    if 16 ≤ q.length then (s.netStat port).raise 89 port 0
    else
      let d := if s.net.fast.getD port false then (64, s) else s.draw
      let s := d.2
      let t := sec * 1000000000 + ns + d.1
      s.modNet fun n => { n with
        txq := n.txq.set port (q ++ [({ ident := ident, sec := t / 1000000000, ns := t % 1000000000 } : TsEntry)]) }

/-- LAUNCH_TIME (R514): the first frame leaves; those with the same launch time follow it back to back and count as late. -/
def execLaunchTime (port : Nat) (s : State) : Out :=
  onlyIf (s.netOn && decide (port < 2)) s fun s =>
    match s.net.launch.getD port [] with
    | [] => s
    | x :: t =>
      if s.net.sec < x.sec || (s.net.sec = x.sec && s.net.ns < x.ns) then s else
      let same := t.takeWhile fun y => y.sec == x.sec && y.ns == x.ns
      let s := s.modNet fun n => { n with
        launch := n.launch.set port (t.drop same.length)
        sent := n.sent.set port (some ((same.getLast?.getD x).body)) }
      same.foldl (fun s _ => s.netStat 2) s

/-- A time output past its next edge (R516). -/
def Tout.edge (t : Tout) : Tout :=
  match u8 t.cfg 1 with
  | 1 => if t.level then { t with level := false } else if t.fired then t else { t with fired := true, level := true }
  | 2 => if t.level then { t with level := false, nextK := t.nextK + 1 } else { t with level := true }
  | _ => t

/-- TOUT_EDGE (R516): the next edge of a time output. -/
def execToutEdge (k : Nat) (s : State) : Out :=
  onlyIf (s.netOn && decide (k < 4)) s fun s =>
    s.modNet fun n => { n with touts := modAt n.touts k Tout.edge }

/-- The level of TOUTk: inactive while NET is off (R516, R522). -/
def State.toutPin (s : State) (k : Nat) : Bool :=
  let t := s.net.touts.getD k {}
  (s.netOn && t.level) != (u8 t.cfg 2 == 1)

/-- A capture as 16 bytes (R523). -/
def CapEntry.bytes (e : CapEntry) : Bytes := toLE 6 e.sec ++ toLE 1 e.edge ++ toLE 1 e.epoch ++ toLE 4 e.ns ++ toLE 4 e.seq

/-- TCAP_EDGE (R517, R523): an edge on a capture input, `frac` ns after the clock's last whole millisecond. -/
def execTcapEdge (k : Nat) (rising : Bool) (frac : Nat) (s : State) : Out :=
  let t := s.net.tcaps.getD k {}
  onlyIf (s.netOn && decide (k < 2) && bit t.edge (b2n (!rising))) s fun s =>
    if 8 ≤ t.queue.length then
      (s.modNet fun n => { n with tcaps := n.tcaps.set k { t with lost := satInc 8 t.lost } }).netStat 6
    else
      let e : CapEntry := {
        sec := (s.clockNs + frac) / 1000000000, ns := (s.clockNs + frac) % 1000000000, edge := if rising then 1 else 2, epoch := s.net.epoch, seq := t.seq }
      let s := s.modNet fun n => { n with tcaps := n.tcaps.set k { t with queue := t.queue ++ [e], seq := wrapInc 32 t.seq } }
      if t.evt then s.emit 8 0x0C82 (toLE 1 k ++ zeros 7 ++ e.bytes) else s

/-! ### Snapshots -/

/-- FLAGS of a snapshot (R95). -/
def State.snapBits (s : State) : Nat :=
  b2n (s.netOn && s.net.sync == 2) + 2 * b2n (s.netOn && s.net.sync == 3) + 4 * b2n (!s.netOn) + 8 * b2n s.met.hold

/-- SINCE_ZC and REFPH of a snapshot (R95): 0 while the counter holds. -/
def State.snapZeroCross (s : State) : Nat × Nat :=
  if s.met.hold then (0, 0) else (min 0xFFFF s.met.sinceZc, s.met.refph)

/-- A snapshot into the TIME block in one operation (R519); the block is off with NET. -/
def State.snapshot (s : State) : State :=
  if !s.netOn then s
  else s.modNet fun n => { n with
    snapLo := n.sec % 2 ^ 32, snapHi := n.sec / 2 ^ 32 % 65536, snapEpoch := n.epoch, snapNs := n.ns, snapCycles := s.met.cycles
    snapFlags := s.snapBits, snapRef := s.snapZeroCross.2, snapZc := s.snapZeroCross.1, snapSeq := wrapInc 16 n.snapSeq }

/-- SYS_TIME_SNAPSHOT (R95). -/
def execSysTimeSnapshot (q : Req) (s : State) : Out :=
  mail { op := 0x0106, pair := 0 } q s true fun s =>
    let sec := if s.netOn then s.net.sec else 0
    let ns := if s.netOn then s.net.ns else 0
    s.snapshot.ok (toLE 6 sec ++ zeros 2 ++ toLE 4 ns ++ toLE 4 s.met.cycles ++ toLE 2 s.snapZeroCross.1 ++ toLE 1 s.snapZeroCross.2
      ++ toLE 1 s.snapBits)

/-! ### Commands -/

/-- NET_CONFIG in range (R520). -/
def netCfgOk (p : Bytes) : Bool :=
  u8 p 0 ≤ 3 && u8 p 1 % 4 ≤ 2 && u8 p 1 / 4 ≤ 2 && u8 p 2 ≤ 1 && u8 p 3 % 4 ≤ 2 && u8 p 3 ≤ 7 && u8 p 4 ≤ 1 && u8 p 5 ≤ 1
    && u8 p 6 ≤ 127 && u8 p 7 ≤ 1 && -4 ≤ sfld p 10 1 && sfld p 10 1 ≤ 1 && -3 ≤ sfld p 11 1 && sfld p 11 1 ≤ 3
    && u16 p 12 ≤ 4094 && u8 p 14 ≤ 7

/-- PTP restarts (R520): the clock counts as having lost lock, and no parent is chosen. -/
def State.ptpRestart (s : State) : State :=
  if !s.netOn then s
  else
    let s := s.modNet fun n => { n with
      parent := 0, foreign := [], twoStep := none, reqOut := false, reqAt := none, turn := none, answers := [] }
    if s.net.sync = 1 || s.net.sync = 2 then s.loseLock else if s.net.sync = 4 then s.setSync 0 else s

/-- NET_CONFIG_SET (R520). -/
def execNetConfigSet (q : Req) (s : State) : Out :=
  let p := q.payload
  mail { op := 0x0C01, pair := 8, lo := 32, hi := 32 } q s (netCfgOk p) fun s =>
    let fresh := (p.drop 3).take 4 != (s.cfg.net.drop 3).take 4
    let s := ({ s with cfg := { s.cfg with net := p.take 15 ++ zeros 1 ++ (p.drop 16).take 8 ++ zeros 8 } }).effect 8 q.tag 0x0C01
    (if fresh then s.ptpRestart else s).ok

/-- NET_CONFIG_GET (R520). -/
def execNetConfigGet (q : Req) (s : State) : Out :=
  mail { op := 0x0C02, pair := 8 } q s true fun s => s.ok s.cfg.net

/-- A network command: NOTREADY while NET is off. -/
def netMail (c : Cmd) (q : Req) (s : State) (fits : Bool) (body : State → Ans) : Out :=
  mail c q s fits fun s => if !s.netOn then s.no 6 else body s

/-- NET_STATUS_GET (R521). -/
def execNetStatusGet (q : Req) (s : State) : Out :=
  netMail { op := 0x0C03, pair := 8 } q s true fun s =>
    let n := s.net
    s.ok (toLE 1 (maskOfBools n.link + 4 * maskOfBools n.fast) ++ toLE 1 n.sync ++ toLE 1 n.epoch ++ zeros 1 ++ toLEs 4 n.offset
      ++ toLE 4 n.delay ++ toLE 8 n.parent ++ toLE 4 (if n.sync = 3 then (s.up - n.lostAt) / 1000 else 0) ++ toLEs 4 n.freqAdj
      ++ toLE 2 n.utcOff ++ toLE 1 (b2n n.utcValid + 2 * b2n n.leap) ++ zeros 1)

/-- NET_TOUT_SET in range (R516, R522). -/
def toutOk (p : Bytes) : Bool :=
  u8 p 0 ≤ 3 && u8 p 1 ≤ 2 && u8 p 2 ≤ 1 && decide (u32 p 12 < 1000000000) &&
    (u8 p 1 == 0 || decide (8 ≤ u32 p 20)) &&
    (u8 p 1 != 2 || (decide (1000 ≤ u32 p 16) && decide (u32 p 20 + 8 ≤ u32 p 16)))

/-- NET_TOUT_SET (R9, R522): reserved bytes read 0; a one-shot whose START has passed fires at once. -/
def execNetToutSet (q : Req) (s : State) : Out :=
  let p := q.payload
  netMail { op := 0x0C04, pair := 8, lo := 24, hi := 24 } q s (toutOk p) fun s =>
    let t : Tout := { cfg := p.take 3 ++ zeros 1 ++ (p.drop 4).take 6 ++ zeros 2 ++ p.drop 12 }
    (s.modNet fun n => { n with touts := n.touts.set (u8 p 0) (t.stepped s.clockNs) }).ok

/-- NET_TOUT_GET (R522). -/
def execNetToutGet (q : Req) (s : State) : Out :=
  netMail { op := 0x0C05, pair := 8, lo := 1, hi := 1 } q s (u8 q.payload 0 ≤ 3) fun s =>
    s.ok (toLE 1 (u8 q.payload 0) ++ (s.net.touts.getD (u8 q.payload 0) {}).cfg.drop 1)

/-- NET_TCAP_SET (R523). -/
def execNetTcapSet (q : Req) (s : State) : Out :=
  let p := q.payload
  netMail { op := 0x0C06, pair := 8, lo := 3, hi := 3 } q s (u8 p 0 ≤ 1 && u8 p 1 ≤ 3 && u8 p 2 ≤ 1) fun s =>
    (s.modNet fun n => { n with tcaps := modAt n.tcaps (u8 p 0) fun t => { t with edge := u8 p 1, evt := u8 p 2 == 1 } }).ok

/-- NET_TCAP_READ (R523). -/
def execNetTcapRead (q : Req) (s : State) : Out :=
  let k := u8 q.payload 0
  netMail { op := 0x0C07, pair := 8, lo := 1, hi := 1 } q s (k ≤ 1) fun s =>
    let t := s.net.tcaps.getD k {}
    let l := t.queue.take 3
    (s.modNet fun n => { n with tcaps := n.tcaps.set k { t with queue := t.queue.drop 3, lost := 0 } }).ok
      (toLE 1 l.length ++ toLE 1 t.lost ++ zeros 6 ++ (l.map CapEntry.bytes).flatten)

/-- NET_TIME_SET (R509, R512, R524): a step of the clock; billing time that follows PTP takes it as a correction. -/
def execNetTimeSet (q : Req) (s : State) : Out :=
  let p := q.payload
  netMail { op := 0x0C08, pair := 8, lo := 12, hi := 12 } q s (decide (u32 p 8 < 1000000000)) fun s =>
    if s.ptpRole ≠ 2 || s.net.parent ≠ 0 then s.no 3
    else
      let new := fld p 0 6 * 1000000000 + u32 p 8
      let s := s.clockStep ((new : Int) - s.clockNs) 4
      (if u8 s.cfg.bill 5 = 0 then s.offerCorrection (((new / 1000000 : Nat) : Int) - s.bill.time) 0 else s).ok

/-- NET_STATS (R525). -/
def execNetStats (q : Req) (s : State) : Out :=
  netMail { op := 0x0C09, pair := 8 } q s true fun s => s.ok (s.net.stats.map (toLE 4)).flatten

end Sys2Proof.Machine
end

