-- ==== Sys2Proof/Machine/Nfc.lean ====
section
/-! DEFINITION. The NFC reader and the field-powered service tag (16). -/

namespace Sys2Proof.Machine

/-- The state with the NFC block changed. -/
def State.modNfc (s : State) (f : Nfc → Nfc) : State := { s with nfc := f s.nfc }

/-- The state with the service tag changed. -/
def State.modTag (s : State) (f : Tag → Tag) : State := { s with nfc := { s.nfc with tag := f s.nfc.tag } }

/-- The MZH24-1521-I has NFC (R2). -/
def nfcFitted : Bool := !Config.variantIN

/-- FIELD is on. -/
def State.fieldOn (s : State) : Bool := s.domOn 10

/-! ### Reader -/

/-- The reader may poll (R526, R528): FIELD and its carrier are there, the firmware serves it, and no field session runs. -/
def State.readerOn (s : State) : Bool :=
  nfcFitted && s.fieldOn && s.fwRuns && u8 s.cfg.nfc 0 == 1 && s.clk.xtalOk && !s.clk.rcOnly && !s.nfc.suspended

/-- A byte's bits as they are sent, least significant first. -/
def sentBits (b : Byte) : List Bool := (List.range 8).map fun i => bit b.toNat i

/-- A UID as its cascade levels send it: all but the last level start with the cascade tag 0x88. -/
def cascade (uid : Bytes) : Bytes :=
  if uid.length ≤ 4 then uid
  else if uid.length ≤ 7 then 0x88 :: uid
  else 0x88 :: uid.take 3 ++ 0x88 :: uid.drop 3

/-- The first of two cards that the type A loop takes: at a collision the card whose bit is 1 (R530). -/
def takenFirst : List Bool → List Bool → Bool
  | [], _ => true
  | _, [] => false
  | a :: x, b :: y => if a = b then takenFirst x y else a

/-- Cards in the order in which the type A loop completes them, at most 4 (R530). -/
def typeALoop (cards : List Card) : List Card :=
  (sortBy (fun (a b : Card) => takenFirst ((cascade a.uid).map sentBits).flatten ((cascade b.uid).map sentBits).flatten) cards).take 4

/-- The PUPIs that complete in the type B loop (R531): in each round the slots with one correct ATQB; a round with a collided slot is followed
by another, until 8 rounds (`k` of them left) or 4 cards. -/
def typeBLoop (nslot : Nat) : Nat → List (List (List Bytes)) → List Bytes
  | 0, _ => []
  | _, [] => []
  | k + 1, r :: t =>
    let slots := r.take nslot
    let done := (slots.filter fun x => x.length == 1).flatten
    let more := slots.any fun x => 2 ≤ x.length
    (done ++ (if more && done.length < 4 then typeBLoop nslot k t else [])).take 4

/-- NFC_CARD (16). -/
def State.evtCard (s : State) (count type outlet result : Nat) (id : Bytes) : State :=
  s.emit 9 0x0D80 (toLE 1 count ++ toLE 1 type ++ toLE 1 id.length ++ toLE 1 outlet ++ toLE 1 result ++ zeros 3 ++ padTo 10 id)

/-- The outlet that a card is meant for (R532). -/
def State.cardTarget (s : State) : Option ONum :=
  match s.cr.sel with
  | some o => some o
  | none => if h : u8 s.cfg.nfc 6 < 24 then some ⟨u8 s.cfg.nfc 6, h⟩ else none

/-- A poll that completed exactly one card (R532). After EC it asks for emergency credit on the card's account (13 R458). -/
def State.oneCard (s : State) (type : Nat) (id : Bytes) : State :=
  let target := s.cardTarget
  let out := (target.map fun o => o.val).getD 0xFF
  if type = 0 && u8 id 0 = 8 && id.length = 4 then s.evtCard 1 type out 2 id
  else if id == s.nfc.lastId && s.up ≤ s.nfc.lastAt + 3000 then s.evtCard 1 type out 3 id
  else
    let s := s.modNfc fun n => { n with lastId := id, lastAt := s.up }
    match s.cr.ecReq, s.bindingOf 0 id with
    | true, some a => (s.evtCard 1 type out 0 id).askEmergency a
    | _, _ =>
      match target with
      | none => s.evtCard 1 type 0xFF 4 id
      | some o => (s.evtCard 1 type o.val 0 id).identify o { src := 0, id := id }

/-- NFC_POLL (R526, R529 to R532): the field that the listen finds, in 0.1 A/m, the type A cards, and what answers in each slot of the
type B rounds. A card of part 4 is driven at the highest rate that it and MAXRATE allow. -/
def execNfcPoll (field : Nat) (typeA : List Card) (typeB : List (List (List Bytes))) (s : State) : Out :=
  onlyIf (s.readerOn && decide (field ≤ 5)) s fun s =>
    let s := s.openGates [4]
    let a := typeALoop typeA
    let b := typeBLoop (u8 s.cfg.nfc 4) 8 typeB
    let s := match (a.filter (·.part4)).getLast? with
      | some c => s.modNfc fun n => { n with rate := some (min c.rate (u8 s.cfg.nfc 5)) }
      | none => s
    match a.map (fun x => (0, x.uid)) ++ b.map (fun x => (1, x)) with
    | [] => s
    | [(t, id)] => s.oneCard t id
    | (t, id) :: rest => s.evtCard (rest.length + 1) t ((s.cardTarget.map fun o => o.val).getD 0xFF) 1 id

/-- NFC_POLL_RESUME (R526): 100 ms after the external field has gone. -/
def execNfcPollResume (s : State) : Out :=
  onlyIf (s.nfc.tag.st == 0 && !s.nfc.tag.guard && decide (s.nfc.goneAt + 100 ≤ s.up)) s fun s => s.modNfc fun n => { n with suspended := false }

/-! ### Field sessions of the tag -/

/-- NFC_TAG (16): not emitted while FIELD or the control complex is down. -/
def State.evtTag (s : State) (ev page : Nat) : State :=
  if s.fieldOn && s.fwRuns then
    s.emit 9 0x0D81 (toLE 1 ev ++ toLE 1 page ++ toLE 1 0 ++ zeros 1 ++ toLE 8 s.bak.rtc)
  else s

/-- PRIVACY (R544). -/
def State.tagPrivacy (s : State) : Bool := bit (u8 s.cfg.nfc 7) 0

/-- COMPAT (R544). -/
def State.tagCompat (s : State) : Bool := bit (u8 s.cfg.nfc 7) 1

/-- The UID of a new field session (R534): drawn from the seed and the session counter, or from the device identity. -/
def State.tagUid (s : State) : State :=
  if s.tagPrivacy then
    let n := wrapInc 32 s.store.tagSessions
    let r := padTo 3 (Config.aes s.store.tagSeed (padTo 16 (toLE 4 n)))
    ({ s with store := { s.store with tagSessions := n } }).modTag fun t => { t with uid := 0x08 :: r }
  else s.modTag fun t => { t with uid := 0x3F :: (toLE 3 Config.uid.toNat).reverse }

/-- The answer of the tag: status word and data. -/
def State.tagSay (s : State) (sw : Nat) (data : Bytes) : State := s.modTag fun t => { t with resp := some (sw, data) }

/-- TAG_FIELD_ON (R526, R527, R533 to R535): a field of `h` in 0.1 A/m. The tag works from 0.8 A/m on with the FIELD rail, from 1.5 A/m on
by harvest alone (26, NFC). -/
def execTagFieldOn (h : Nat) (s : State) : Out :=
  let harvest := decide (15 ≤ h)
  onlyIf (nfcFitted && s.nfc.tag.st == 0 && !s.nfc.tag.guard && (harvest || (s.fieldOn && decide (8 ≤ h)))) s fun s =>
    let s := s.modNfc fun n => { n with suspended := true }
    let s := s.modTag fun t => { t with
      harvest := harvest, guard := s.tagCompat, st := if s.tagCompat then 0 else 1, ready := false, hello := none, cnt := 0
      keys := ([], []), wrong := 0, resp := none }
    s.tagUid.evtTag 0 0

/-- TAG_GUARD_END (R533): 5.0 ms after the field in compatibility mode. -/
def execTagGuardEnd (s : State) : Out :=
  onlyIf s.nfc.tag.guard s fun s => s.modTag fun t => { t with guard := false, st := 1 }

/-- The tag's supply is gone: a write that has not committed leaves nothing (R541). -/
def State.tagDown (s : State) : State :=
  s.modTag fun t => { t with
    st := 0, guard := false, ready := false, hello := none, keys := ([], []), cnt := 0, wrong := 0, uid := [], harvest := false
    writes := if s.fieldOn then t.writes else [] }

/-- FIELD goes off (R527, R528, R541): the host's writes end with NOTREADY (log entry 71); a tag that its reader's field supplies goes on. -/
def State.fieldDown (s : State) : State :=
  let waiting := s.nfc.tag.writes.filterMap fun w => w.host
  let s := s.modTag fun t => { t with writes := t.writes.filter fun w => w.host.isNone }
  waiting.foldl (fun s t => s.finish 9 t 6 []) (if s.nfc.tag.harvest then s else s.tagDown)

/-- TAG_FIELD_OFF (R526, R535). -/
def execTagFieldOff (s : State) : Out :=
  onlyIf (s.nfc.tag.st != 0 || s.nfc.tag.guard) s fun s =>
    (s.tagDown.modNfc fun n => { n with goneAt := s.up }).evtTag 1 0

/-- TAG_REQA (R535): REQA in IDLE, WUPA also in HALT. -/
def execTagReqa (wupa : Bool) (s : State) : Out :=
  let t := s.nfc.tag
  onlyIf (t.st == 1 || (t.st == 2 && wupa)) s fun s => (s.modTag fun t => { t with ready := true }).tagSay 0 [0x04, 0x00]

/-- The UID with its BCC, as the tag sends it. -/
def uidBcc (uid : Bytes) : Bytes := uid ++ [uid.foldl (· ^^^ ·) 0]

/-- TAG_ANTICOLLISION (R535): NVB counts the bits of the frame, SEL and NVB among them; a tag whose UID has other bits does not
answer. -/
def execTagAnticollision (nvb : Nat) (bits : Bytes) (s : State) : Out :=
  onlyIf s.nfc.tag.ready s fun s =>
    let known := 8 * (nvb / 16) + nvb % 16 - 16
    let own := ((uidBcc s.nfc.tag.uid).map sentBits).flatten
    if own.take known == ((bits.map sentBits).flatten).take known then
      s.tagSay 0 ((uidBcc s.nfc.tag.uid).drop (known / 8))
    else s.modTag fun t => { t with ready := false }

/-- TAG_SELECT (R535): ACTIVE, with SAK 0x20. -/
def execTagSelect (uid : Bytes) (s : State) : Out :=
  onlyIf s.nfc.tag.ready s fun s =>
    if uid.take 4 == s.nfc.tag.uid then (s.modTag fun t => { t with ready := false, st := 3 }).tagSay 0 [0x20]
    else s.modTag fun t => { t with ready := false }

/-- TAG_RATS (R535): OPEN, with the ATS: FSCI 8, FWI 7 or 8, SFGI 0, no CID and no NAD. The layout is that of ISO/IEC 14443-4
(PRESUMED, log entry 29). -/
def execTagRats (s : State) : Out :=
  onlyIf (s.nfc.tag.st == 3) s fun s =>
    (s.modTag fun t => { t with st := 4 }).tagSay 0 [5, 0x78, 0, if s.tagCompat then 0x80 else 0x70, 0]

/-- TAG_HALT (R535): HLTA or DESELECT. -/
def execTagHalt (s : State) : Out :=
  onlyIf (3 ≤ s.nfc.tag.st) s fun s =>
    s.modTag fun t => { t with st := 2, ready := false, hello := none, keys := ([], []), cnt := 0, resp := none }

/-! ### Tag commands -/

/-- The identity as the authentication uses it (R538). -/
def tagId : Bytes := toLE 8 Config.uid.toNat

/-- TAG_HELLO (R537 to R540): RndT is drawn, and answered with PT. -/
def execTagHello (rndr : Bytes) (s : State) : Out :=
  onlyIf (4 ≤ s.nfc.tag.st) s fun s =>
    let s := s.modTag fun t => { t with hello := none }
    if rndr.length ≠ 16 then s.tagSay 0x6700 []
    else match s.store.tagKey with
      | none => (s.modTag fun t => { t with st := 4 }).tagSay 0x6982 []
      | some (_, k) =>
        if s.nfc.tag.locked || s.nfc.tag.st = 5 then (s.modTag fun t => { t with st := 4, keys := ([], []) }).tagSay 0x6982 []
        else
          let d := s.draw
          let rndt := toLE 16 d.1
          (d.2.modTag fun t => { t with hello := some (rndr, rndt) }).tagSay 0x9000
            (rndt ++ padTo 16 (Config.cmac k (0x54 :: rndr ++ rndt ++ tagId)))

/-- The firmware reads AUTHFAIL (R539): 8 or more since it last did latch TAG_AUTH. -/
def State.tagAuthCheck (s : State) : State :=
  if 8 ≤ (s.store.tagFails + 2 ^ 32 - s.store.tagRead) % 2 ^ 32 then
    ({ s with store := { s.store with tagRead := s.store.tagFails } }).raise 94 0xFFFF s.store.tagFails
  else s

/-- A wrong PR (R539). -/
def State.tagWrong (s : State) : State :=
  let s := { s with store := { s.store with tagFails := wrapInc 32 s.store.tagFails } }
  let s := s.modTag fun t => { t with wrong := min 3 (t.wrong + 1), locked := t.locked || decide (2 ≤ t.wrong) }
  let s := (s.tagSay 0x6982 []).evtTag 3 0
  if s.fwRuns then s.tagAuthCheck else s

/-- TAG_PROVE (R538, R539): directly after TAG_HELLO only; a correct PR gives the session keys. -/
def execTagProve (pr : Bytes) (s : State) : Out :=
  onlyIf (4 ≤ s.nfc.tag.st) s fun s =>
    match s.nfc.tag.hello, s.store.tagKey with
    | some (rndr, rndt), some (_, k) =>
      let s := s.modTag fun t => { t with hello := none }
      if pr.length ≠ 16 then s.tagSay 0x6700 []
      else if pr = padTo 16 (Config.cmac k (0x52 :: rndt ++ rndr ++ tagId)) then
        let d := padTo 32 (kdf k (ascii "MZ-TAG") (rndr ++ rndt) 32)
        ((s.modTag fun t => { t with st := 5, cnt := 0, keys := (d.take 16, d.drop 16), wrong := 0 }).tagSay 0x9000 []).evtTag 2 0
      else s.tagWrong
    | _, _ => (s.modTag fun t => { t with hello := none, st := 4 }).tagSay 0x6982 []

/-- TAG_AUTH_LOCK_END (R539): the field has been off for 1 s. -/
def execTagAuthLockEnd (s : State) : Out :=
  onlyIf (s.nfc.tag.st == 0 && !s.nfc.tag.guard) s fun s => s.modTag fun t => { t with locked := false }

/-- The MAC of the tag's secure messaging (R538): over the command counter and the rest. -/
def State.tagMac (s : State) (rest : Bytes) : Bytes :=
  (padTo 16 (Config.cmac s.nfc.tag.keys.1 (toLE 4 s.nfc.tag.cnt ++ rest))).take 8

/-- A status word as its two bytes. -/
def swBytes (sw : Nat) : Bytes := [BitVec.ofNat 8 (sw / 256), BitVec.ofNat 8 sw]

/-- A response in SECURED, with its MAC over the counter of its command (R538); the counter then advances. -/
def State.tagSecured (s : State) (sw : Nat) (data : Bytes) : State :=
  (s.tagSay sw (data ++ s.tagMac (data ++ swBytes sw))).modTag fun t => { t with cnt := wrapInc 32 t.cnt }

/-- A response in OPEN or SECURED. -/
def State.tagAnswer (s : State) (sw : Nat) (data : Bytes) : State :=
  if s.nfc.tag.st = 5 then s.tagSecured sw data else s.tagSay sw data

/-- What stands before a command in SECURED (R538, R540): the key still stands and the MAC is right; else 6982, and OPEN. -/
def State.tagGate (s : State) (apdu mac : Bytes) (f : State → State) : State :=
  let s := s.modTag fun t => { t with hello := none }
  if s.nfc.tag.st = 5 && (s.store.tagKey.isNone || mac != s.tagMac apdu) then
    (s.modTag fun t => { t with st := 4, keys := ([], []) }).tagSay 0x6982 []
  else f s

/-- Blocks of 16 bytes encrypted in CBC mode from a chaining value on; `k` bounds the blocks. -/
def cbcFrom (key : Bytes) : Nat → Bytes → Bytes → Bytes
  | 0, _, _ => []
  | _, _, [] => []
  | k + 1, iv, p =>
    let c := padTo 16 (Config.aes key (List.zipWith (· ^^^ ·) (p.take 16) iv))
    c ++ cbcFrom key k c (p.drop 16)

/-- The data of a response in pages 8 to 63 under KENC (R538): padded with 0x80 and zeros. -/
def State.tagEncrypt (s : State) (data : Bytes) : Bytes :=
  let key := s.nfc.tag.keys.2
  let n := (data.length + 16) / 16 * 16
  cbcFrom key 16 (padTo 16 (Config.aes key (padTo 16 (toLE 4 s.nfc.tag.cnt)))) (padTo n (data ++ [0x80]))

/-- The field may read a page (R536). -/
def tagReads (st page : Nat) : Bool := page ≤ 3 || (st == 5 && 8 ≤ page)

/-- PAGE_READ (R536 to R538): the committed copy; a read never waits (R542). -/
def execPageRead (page off le : Nat) (mac : Bytes) (s : State) : Out :=
  onlyIf (4 ≤ s.nfc.tag.st) s fun s =>
    let cla := if s.nfc.tag.st = 5 then 0x84 else 0x80
    s.tagGate (toLE 1 cla ++ [0x31] ++ toLE 1 page ++ toLE 1 off ++ toLE 1 le) mac fun s =>
      if 64 ≤ page then s.tagAnswer 0x6A82 []
      else if !tagReads s.nfc.tag.st page then s.tagAnswer 0x6982 []
      else if le = 0 || 240 < le || 256 < off + le then s.tagAnswer 0x6700 []
      else
        let d := Memory.readN s.store.tagMem (256 * page + off) le
        s.tagAnswer 0x9000 (if 8 ≤ page then s.tagEncrypt d else d)

/-- Writes in order: a field write goes before host writes that wait (R542). -/
def queueWrite (w : TagWrite) : List TagWrite → List TagWrite
  | [] => [w]
  | x :: t => if w.host.isSome then x :: t ++ [w] else x :: (t.filter fun y => y.host.isNone) ++ w :: t.filter fun y => y.host.isSome

/-- PAGE_WRITE (R536, R537, R541, R542): it takes effect at its commit. -/
def execPageWrite (page off : Nat) (data mac : Bytes) (s : State) : Out :=
  onlyIf (4 ≤ s.nfc.tag.st) s fun s =>
    let cla := if s.nfc.tag.st = 5 then 0x84 else 0x80
    s.tagGate (toLE 1 cla ++ [0x33] ++ toLE 1 page ++ toLE 1 off ++ toLE 1 data.length ++ data) mac fun s =>
      if s.nfc.tag.st ≠ 5 then s.tagSay 0x6982 []
      else if 64 ≤ page then s.tagSecured 0x6A82 []
      else if page < 32 then s.tagSecured 0x6982 []
      else if data.isEmpty || 240 < data.length || 256 < off + data.length then s.tagSecured 0x6700 []
      else (s.modTag fun t => { t with resp := none, writes := queueWrite { host := none, page := page, off := off, data := data } t.writes })

/-- TAG_PAGE_COMMIT (R541 to R543): the program of the first write ends. -/
def execTagPageCommit (ok retried : Bool) (s : State) : Out :=
  match s.nfc.tag.writes with
  | [] => .next s
  | w :: rest =>
    let s := s.modTag fun t => { t with writes := rest }
    let s := if ok then
        let s := { s with store := { s.store with tagMem := Memory.writeN s.store.tagMem (256 * w.page + w.off) w.data } }
        if retried then s.transient 93 w.page 0 else s
      else s.raiseRetried 93 w.page 0
    .next (match w.host with
      | some t => (if ok then s.effect 9 t 0x0D04 else s).finish 9 t (if ok then 0 else 9) []
      | none =>
        let s := if s.nfc.tag.st = 5 then s.tagSecured (if ok then 0x9000 else 0x6581) [] else s
        if ok then s.evtTag 4 w.page else s)

/-- TAG_HOST_LOCK_TIMEOUT (R542): a host write has waited 100 ms for a page that a field write holds. -/
def execTagHostLockTimeout (s : State) : Out :=
  match s.nfc.tag.writes with
  | [] => .next s
  | h :: rest =>
    match rest.find? fun w => w.host.isSome && h.host.isNone && w.page == h.page with
    | none => .next s
    | some w =>
      .next ((s.modTag fun t => { t with writes := h :: rest.erase w }).finish 9 (w.host.getD 0) 2 [])

/-- LAST_STATE_UPDATE (R537): every 10 min. -/
def execLastStateUpdate (s : State) : Out := onlyIf s.fwRuns s fun s => s.lastState.tagAuthCheck

/-- The key of slot `n` was revoked (R540): the copy bound to it goes at once. -/
def State.tagRevoked (s : State) (n : Nat) : State :=
  match s.store.tagKey with
  | some (k, _) => if k = n then { s with store := { s.store with tagKey := none } } else s
  | none => s

/-- Page 0 and the seed at ST14 (R534, R536). -/
def State.tagStart (s : State) : State :=
  if !nfcFitted then s
  else
    let d := s.draw
    let s := d.2
    let fitted := maskOfBools (outlets.map s.fitted)
    let page := toLE 8 Config.uid.toNat ++ toLE 1 (b2n Config.variantIN) ++ [3, 2] ++ toLE 4 fitted ++ toLE 4 s.store.tagSessions
    { s with store := { s.store with tagSeed := toLE 16 d.1, tagMem := Memory.writeN s.store.tagMem 0 (padTo 256 page) } }

/-! ### Commands -/

/-- NFC_CONFIG in range (R544). -/
def nfcCfgOk (p : Bytes) : Bool :=
  u8 p 0 ≤ 1 && 5 ≤ u8 p 1 && u8 p 1 ≤ 25 && 100 ≤ u16 p 2 && u16 p 2 ≤ 1000 && [1, 2, 4, 8, 16].contains (u8 p 4) && u8 p 5 ≤ 3
    && (u8 p 6 ≤ 23 || u8 p 6 == 0xFF) && u8 p 7 ≤ 3

/-- NFC_CONFIG_SET (R544). -/
def execNfcConfigSet (q : Req) (s : State) : Out :=
  mail { op := 0x0D01, pair := 9, lo := 8, hi := 8 } q s (nfcCfgOk q.payload) fun s =>
    (({ s with cfg := { s.cfg with nfc := q.payload } }).effect 9 q.tag 0x0D01).ok

/-- NFC_CONFIG_GET (R544). -/
def execNfcConfigGet (q : Req) (s : State) : Out :=
  mail { op := 0x0D02, pair := 9 } q s true fun s => s.ok s.cfg.nfc

/-- An NFC command: NOTREADY while FIELD is off. -/
def nfcMail (c : Cmd) (q : Req) (s : State) (fits : Bool) (body : State → Ans) : Out :=
  mail c q s fits fun s => if !s.fieldOn then s.no 6 else body s

/-- NFC_TAG_READ (R545). -/
def execNfcTagRead (q : Req) (s : State) : Out :=
  let n := u8 q.payload 0
  let r := q.bulk.getD (0, 0)
  nfcMail { op := 0x0D03, pair := 9, lo := 1, hi := 1, bulk := 1 } q s (decide (n ≤ 63)) fun s => s.sized r 256 <|
    if 4 ≤ n && n ≤ 7 then s.no 4
    else { st := s.bulkPut 9 r (Memory.readN s.store.tagMem (256 * n) 256), bulk := some (r.1, 256) }

/-- NFC_TAG_WRITE (R541, R542, R545): it completes at its commit. -/
def execNfcTagWrite (q : Req) (s : State) : Out :=
  let p := q.payload
  let n := u16 p 2
  let r := q.bulk.getD (0, 0)
  nfcMail { op := 0x0D04, pair := 9, lo := 4, hi := 4, bulk := 1 } q s
    (u8 p 0 ≤ 63 && decide (1 ≤ n) && decide (u8 p 1 + n ≤ 256)) fun s => s.sized r n <|
    if u8 p 0 = 0 || (2 ≤ u8 p 0 && u8 p 0 ≤ 31) then s.no 4
    else
      let w : TagWrite := { host := some q.tag, page := u8 p 0, off := u8 p 1, data := s.bulkGet 9 (r.1, n) }
      (s.modTag fun t => { t with writes := queueWrite w t.writes }).wait

/-- NFC_TAG_KEY (R85, R540, R546). -/
def execNfcTagKey (q : Req) (s : State) : Out :=
  let n := u8 q.payload 0
  nfcMail { op := 0x0D05, pair := 9, lo := 1, hi := 1 } q s true fun s =>
    let x := s.slot n
    if x.state = 0 || !s.slotHas n 7 then s.no 4
    else if x.state = 2 then s.no 7
    else (({ s with store := { s.store with tagKey := some (n, x.mat) } }).effect 9 q.tag 0x0D05).ok

/-- NFC_TAG_STATUS (R547). -/
def execNfcTagStatus (q : Req) (s : State) : Out :=
  mail { op := 0x0D06, pair := 9 } q s true fun s =>
    s.ok (toLE 1 s.nfc.tag.st ++ toLE 1 (b2n (!s.fieldOn)) ++ toLE 1 (b2n s.store.tagKey.isSome) ++ zeros 1
      ++ toLE 4 s.store.tagSessions ++ toLE 4 s.store.tagFails)

end Sys2Proof.Machine
end

