-- ==== Sys2Proof/Machine/Panel.lean ====
section
/-! DEFINITION. The emissive panel driver (18): frame memory, ageing compensation, confirmation screen. A pixel is numbered
160 r + c. -/

namespace Sys2Proof.Machine

/-- The state with the panel changed. -/
def State.modPanel (s : State) (f : Panel → Panel) : State := { s with panel := f s.panel }

/-- PANEL is on. -/
def State.panelOn (s : State) : Bool := s.domOn 11

/-- The confirmation screen is shown (R578). -/
def State.confirmShown (s : State) : Bool := s.panelOn && s.confirmPending

/-- Lit pixels of a front buffer: pixel and grey (R571). -/
def litPixels (base : Nat) (m : Memory) : List (Nat × Nat) :=
  (m.filter fun c => base ≤ c.1 && c.1 < base + 3840).flatMap fun c =>
    let n := c.1 - base
    let p := n / 80 * 160 + n % 80 * 2
    [(p, c.2.toNat % 16), (p + 1, c.2.toNat / 16)].filter fun x => x.2 != 0

/-- Lit pixels of a row of digits in cells of 16 × 20 from a row on, digit `i` at columns 16 + 16 i (R578). -/
def digitPixels (row grey : Nat) (ds : List Nat) : List (Nat × Nat) :=
  ds.zipIdx.flatMap fun d =>
    (List.range 320).filterMap fun n =>
      if Config.font d.1 (n / 16) (n % 16) then some ((row + n / 16) * 160 + 16 + 16 * d.2 + n % 16, grey) else none

/-- The pixels on display with their grey (R570, R571, R578). -/
def State.shownPixels (s : State) : List (Nat × Nat) :=
  if !s.panelOn || s.panel.blanked then []
  else if s.confirmShown then
    digitPixels 2 15 ((List.range 8).map fun i => s.check / 16 ^ (7 - i) % 16) ++ digitPixels 26 10 s.isl.kpDigits
  else litPixels (3840 * s.panel.front) s.panel.mem

/-- The applied code of a pixel (R574). -/
def State.pixelCode (s : State) (p : Nat) : Nat :=
  let m := if u8 s.cfg.panel 1 = 0 then 128 else s.panel.map.getD p 128
  min 255 (u8 s.cfg.panel 0 * m / 128)

/-! ### Stress -/

/-- One hour at grey 15 and code 255 (R575). -/
def hourStress : Nat := 1652400000

/-- A stress record, 2^32 HOURS + FRAC, after more stress (R575). -/
def addStress (r d : Nat) : Nat :=
  let f := r % 2 ^ 32 + d
  if f < hourStress then r / 2 ^ 32 * 2 ^ 32 + f else min 0xFFFFFF (r / 2 ^ 32 + 1) * 2 ^ 32 + (f - hourStress)

/-- The stress of a displayed frame (R575); MA_PANELSCAN suspends the integration (R624). -/
def State.integrate (s : State) : State :=
  if s.maint.any fun a => a.running && a.act == 8 then s else
  let put (l : List (Nat × Nat)) (x : Nat × Nat) : List (Nat × Nat) :=
    assocPut l x.1 (addStress (lookupD l x.1 0) (x.2 * s.pixelCode x.1))
  let l := s.shownPixels.foldl put s.panel.stress
  s.modPanel fun p => { p with stress := l }

/-- Entry `i` of a decay curve: HOURS and EFF (R576). -/
def curveAt (c : Bytes) (i : Nat) : Nat × Nat := (u32 c (6 * i), u16 c (6 * i + 4))

/-- A decay curve that R576 admits. -/
def curveOk (c : Bytes) : Bool :=
  c.length == 96 && (curveAt c 0).1 == 0 && (List.range 16).all fun i =>
    0x2000 ≤ (curveAt c i).2 && (curveAt c i).2 ≤ 0x8000 && (i == 15 || decide ((curveAt c i).1 < (curveAt c (i + 1)).1))

/-- Efficiency at an age in hours, as a fraction of 0x8000 with its denominator (R576). -/
def efficiency (c : Bytes) (h : Nat) : Nat × Nat :=
  let i := ((List.range 16).filter fun i => (curveAt c i).1 ≤ h).length - 1
  if 15 ≤ i then ((curveAt c 15).2, 1)
  else
    let a := curveAt c i
    let b := curveAt c (i + 1)
    (a.2 * (b.1 - h) + b.2 * (h - a.1), b.1 - a.1)

/-- The map entry of an age (R576). -/
def mapEntry (c : Bytes) (ref h : Nat) : Nat :=
  let e := efficiency c h
  min 255 (ref * 128 * 0x8000 * e.2 / (100 * e.1))

/-- The compensation map built and loaded (R576). -/
def State.buildMap (s : State) : State :=
  let hours (p : Nat) : Nat := lookupD s.panel.stress p 0 / 2 ^ 32
  let m := (List.range 7680).map fun p => mapEntry s.cfg.curve (u8 s.cfg.panel 2) (hours p)
  s.modPanel fun p => { p with map := m }

/-- STRESS_SAVE (R576, R577): every hour, into the two slots in turn; then the map. -/
def execStressSave (s : State) : Out :=
  onlyIf (s.fwRuns && decide (s.panel.stressAt + 3600000 ≤ s.up)) s fun s =>
    let x : StressSlot := { stamp := s.bak.rtc, recs := s.panel.stress }
    let s := { s with store := { s.store with
      stress := s.store.stress.set s.store.stressNext (some x), stressNext := 1 - s.store.stressNext } }
    (s.modPanel fun p => { p with saved := s.bak.rtc, stressAt := s.up }).buildMap

/-- The records loaded at ST14 (R577): from the valid slot with the newer stamp; with none, PANEL_STRESS latches. -/
def State.loadStress (s : State) : State :=
  let best := (s.store.stress.filterMap id).foldl (fun (b : Option StressSlot) x => match b with
    | some y => if y.stamp < x.stamp then some x else some y
    | none => some x) none
  match best with
  | some x => (s.modPanel fun p => { p with stress := x.recs, saved := x.stamp }).buildMap
  | none => ((s.modPanel fun p => { p with stress := [] }).raise 56 0xFFFF 0).buildMap

/-- PANEL switched on (R573): both buffers hold 0. -/
def State.panelUp (s : State) : State :=
  s.modPanel fun p => { p with mem := [], front := 0, flip := none, blanked := false, resume := false }

/-! ### Frames -/

/-- PANEL_FRAME (R570, R572, R575): the start of row 0. -/
def execPanelFrame (s : State) : Out :=
  onlyIf s.panelOn s fun s =>
    let s := match s.panel.flip with
      | some t => (s.modPanel fun p => { p with front := 1 - p.front, flip := none }).finish 10 t 0 []
      | none => s
    let s := if s.panel.resume then s.modPanel fun p => { p with blanked := false, resume := false } else s
    if s.fwRuns then s.integrate else s

/-- VPAN_LOW (R570): below 6.5 V for 10 ms. -/
def execVpanLow (v : Nat) (s : State) : Out :=
  onlyIf (s.panelOn && decide (v < 65)) s fun s =>
    (s.modPanel fun p => { p with vpan := v, blanked := true, resume := false }).raise 55 0xFFFF v

/-- VPAN_RECOVER (R570): above 6.8 V for 10 ms. -/
def execVpanRecover (v : Nat) (s : State) : Out :=
  onlyIf (s.panelOn && decide (68 < v)) s fun s => s.modPanel fun p => { p with vpan := v, resume := p.blanked }

/-! ### Commands -/

/-- PANEL_CONFIG_SET (R576, R579). -/
def execPanelConfigSet (q : Req) (s : State) : Out :=
  let p := q.payload
  mail { op := 0x0F01, pair := 10, lo := 4, hi := 4 } q s (u8 p 1 ≤ 1 && 50 ≤ u8 p 2 && u8 p 2 ≤ 100) fun s =>
    let ref := u8 s.cfg.panel 2
    let s := ({ s with cfg := { s.cfg with panel := p.take 3 ++ zeros 1 } }).effect 10 q.tag 0x0F01
    (if u8 p 2 ≠ ref && s.panelOn then s.buildMap else s).ok

/-- PANEL_CONFIG_GET (R579). -/
def execPanelConfigGet (q : Req) (s : State) : Out :=
  mail { op := 0x0F02, pair := 10 } q s true fun s => s.ok s.cfg.panel

/-- A panel command: NOTREADY while PANEL is off. -/
def panelMail (c : Cmd) (q : Req) (s : State) (fits : Bool) (body : State → Ans) : Out :=
  mail c q s fits fun s => if !s.panelOn then s.no 6 else body s

/-- PANEL_WRITE (R571, R572, R580): into the back buffer. -/
def execPanelWrite (q : Req) (s : State) : Out :=
  let p := q.payload
  let n := u16 p 2
  let r := q.bulk.getD (0, 0)
  panelMail { op := 0x0F03, pair := 10, lo := 4, hi := 4, bulk := 1 } q s
    (decide (1 ≤ n) && decide (u16 p 0 + n ≤ 3840)) fun s => s.sized r n <|
    if s.panel.flip.isSome then s.no 2
    else
      let d := s.bulkGet 10 (r.1, n)
      (s.modPanel fun x => { x with mem := Memory.writeN x.mem (3840 * (1 - x.front) + u16 p 0) d }).ok

/-- PANEL_FLIP (R572, R581): it completes at the swap. -/
def execPanelFlip (q : Req) (s : State) : Out :=
  panelMail { op := 0x0F04, pair := 10 } q s true fun s =>
    if s.panel.flip.isSome then s.no 2
    else (s.modPanel fun p => { p with flip := some q.tag }).queued

/-- PANEL_CURVE_SET (R576, R582). -/
def execPanelCurveSet (q : Req) (s : State) : Out :=
  let r := q.bulk.getD (0, 0)
  let c := s.bulkGet 10 (r.1, 96)
  panelMail { op := 0x0F05, pair := 10, bulk := 1 } q s true fun s => s.sized r 96 <|
    if !curveOk c then s.no 5 else (({ s with cfg := { s.cfg with curve := c } }).buildMap.effect 10 q.tag 0x0F05).ok

/-- PANEL_CURVE_GET (R582). -/
def execPanelCurveGet (q : Req) (s : State) : Out :=
  let r := q.bulk.getD (0, 0)
  panelMail { op := 0x0F06, pair := 10, bulk := 1 } q s true fun s => s.sized r 96
    { st := s.bulkPut 10 r s.cfg.curve, bulk := some (r.1, 96) }

/-- PANEL_STATUS_GET (R583). -/
def execPanelStatusGet (q : Req) (s : State) : Out :=
  panelMail { op := 0x0F07, pair := 10 } q s true fun s =>
    let p := s.panel
    s.ok (toLE 1 p.front ++ toLE 1 (b2n p.flip.isSome + 2 * b2n p.blanked + 4 * b2n s.confirmShown) ++ toLE 2 p.vpan
      ++ toLE 4 (maxOf (p.stress.map fun e => e.2 / 2 ^ 32)) ++ toLE 8 p.saved)

/-- PANEL_STRESS_READ (R584). -/
def execPanelStressRead (q : Req) (s : State) : Out :=
  let row := u8 q.payload 0
  let r := q.bulk.getD (0, 0)
  panelMail { op := 0x0F08, pair := 10, lo := 1, hi := 1, bulk := 1 } q s (row ≤ 47) fun s => s.sized r 480 <|
    let d := (List.range 160).flatMap fun c => toLE 3 (lookupD s.panel.stress (160 * row + c) 0 / 2 ^ 32)
    { st := s.bulkPut 10 r d, bulk := some (r.1, 480) }

end Sys2Proof.Machine
end

