-- ==== Sys2Proof/Machine/Domains.lean ====
section
/-! DEFINITION. Power domains and power states as commands switch them (01, 03, 22). -/

namespace Sys2Proof.Machine

/-! ### What a domain that goes off leaves -/

/-- A channel as META comes up again: no gain decision, half-cycle or samples; its calibration stays (R302). -/
def ChanRun.fresh (x : ChanRun) : ChanRun :=
  { x with
    hiGain := false, pending := none, lowRun := 0, clipArmed := true, clipNow := false, clipUp := none, peak := 0, hist := []
    last := 0, sq := 0, sqN := 0, halfSq := 0, halfN := 0, clips := 0, switches := 0, overloads := 0 }

/-- META without supply: what it counts from its power-up starts again, and the pilots show nothing (15 R518, 10 R346). -/
def State.metaDown (s : State) : State :=
  { s with
    met := { s.met with
      cycles := 0, synth := false, hold := false, freq := 0, periods := [], sinceZc := 0, visitG := none, refNext := none
      vper := List.replicate 8 0, chans := vmap ChanRun.fresh s.met.chans }
    en := { s.en with sample := 0, wave := [], armed := none, sinceN := 0, sinceS := 0, neRun := [0, 0], neOff := [0, 0] }
    out := vmap (fun x => { x with pilot := {}, pp := {} }) s.out }

/-- The outlets whose front end PIL0 or PIL1 powers. -/
def pilOutlets (d : Nat) : List ONum := outlets.filter fun o => (d == 4) == decide (o.val < 12)

/-- PANEL without supply: its memory is lost, and a pending flip with it (R573). -/
def State.panelDown (s : State) : State :=
  match s.panel.flip with
  | some t => s.panelUp.finish 10 t 6 []
  | none => s.panelUp

/-- What the unit in domain `d` loses as the domain goes off (R175, R191, R271, R494, R499, R526, R573; log entry 71). -/
def State.domainDown (s : State) (d : Nat) : State :=
  match d with
  | 2 => s.openList 12 outlets
  | 3 => s.metaDown
  | 4 => s.pilOff (pilOutlets 4)
  | 5 => s.pilOff (pilOutlets 5)
  | 8 => ({ s with net := {} }).sourceTo true
  | 9 => s.lineStop
  | 10 => s.fieldDown
  | 11 => s.panelDown
  | _ => s

/-- The units of a list of domains go down one after another. -/
def State.domainsDown (s : State) : List Nat → State
  | [] => s
  | d :: t => State.domainsDown ((s.domainDown d).maintEnd 5 fun a => a.domains.contains d) t

/-- The domain mask changed to `on`; what goes off loses its state. -/
def State.setDomains (s : State) (on : Nat) : State :=
  let gone := (List.range 12).filter fun d => s.domOn d && !bit on d
  ({ s with pwr := { s.pwr with on := on, pgood := on, lost := clearBits s.pwr.lost on } }).domainsDown gone

/-! ### SYS_POWER_GET and SYS_DOMAIN_SET -/

/-- Domains that cannot be switched off now (R10, R94): BAK, AON, APP, and STOR, on which APP depends; SAFE and META by the outlets. -/
def State.pinned (s : State) : Nat :=
  0xC3 + (if s.anyEnergised then 4 else 0) + (if outlets.any fun o => (s.o o).ses.st != .idle then 8 else 0)

/-- STATE (03, 22): 0 Run, 1 Quiet. -/
def State.powerCode (s : State) : Nat := if s.pwr.state == .quiet then 1 else 0

/-- SYS_POWER_GET (R91). -/
def execSysPowerGet (q : Req) (s : State) : Out :=
  mail { op := 0x0103, pair := 0 } q s true fun s =>
    s.ok (toLE 1 s.powerCode ++ zeros 1 ++ toLE 2 s.pwr.on ++ toLE 2 s.pinned)

/-- A power transition is in progress (R92, R94). -/
def State.inTransition (s : State) : Bool := s.pwr.wait.isSome || s.pwr.dormantDue

/-- The domains that Quiet keeps on out of a mask (01, Power states). -/
def quietMask (on : Nat) (net : Bool) : Nat := on &&& (0x2CF + (if net then 0x100 else 0))

/-- Quiet entered, or its NET setting changed (R92, R660). With NETQ 1 a NET that was off stays off: Quiet keeps what was on (log
entry 64). -/
def State.toQuiet (s : State) (net : Bool) : State :=
  let was := s.pwr.state == .quiet
  let old := s.pwr.on
  let before := if was then s.pwr.before else s.pwr.on
  let s := ({ s with pwr := { s.pwr with state := .quiet, before := before, netq := net } }).setDomains (quietMask before net)
  let s := if was then s else s.evtPower 1 0
  if s.pwr.on = old then s else s.evtDomain old 2

/-- SYS_POWER_SET (R92, R93): Dormant follows 5 ms after its completion and its event. -/
def execSysPowerSet (q : Req) (s : State) : Out :=
  let target := u8 q.payload 0
  let net := u8 q.payload 1 == 1
  let c : Cmd := { op := 0x0104, pair := 0, lo := 2, hi := 2 }
  let refused (s : State) : Option Nat :=
    if target ≠ 0 && s.anyEnergised then some 3
    else if target = 2 && s.pwr.vbak < 2000 then some 6
    else if s.inTransition then some 2
    else none
  if target = 2 && s.fwRuns && (s.screen c q true).isNone && (refused s).isNone then
    .next (({ s.complete 0 0x0104 q.tag 0 [] none with pwr := { s.pwr with dormantDue := true } }).evtPower 2 0)
  else
    mail c q s (target ≤ 2 && (target != 1 || u8 q.payload 1 ≤ 1)) fun s =>
      match refused s with
      | some st => s.no st
      | none => (if target = 0 then s.wake 0 else s.toQuiet net).ok

/-- The domain mask that a SYS_DOMAIN_SET asks for (R10, R94): PIL1 goes off with PIL0. -/
def domainGoal (on sel val : Nat) : Nat :=
  let new := clearBits on sel ||| (val &&& sel)
  if bit sel 4 && !bit val 4 then putBit new 5 (bit sel 5 && bit val 5) else new

/-- The first test of R94 that a change to `new` fails. Switching STOR off while APP stays on answers CONFLICT: APP runs from STOR
(log entry 64). -/
def State.domainRefuses (s : State) (new : Nat) : Option Nat :=
  let up (d : Nat) : Bool := bit new d && !s.domOn d
  let down (d : Nat) : Bool := !bit new d && s.domOn d
  let clocked (d k : Nat) : Bool := up d && !bit s.clk.lock k
  if (down 2 && s.anyEnergised) || (bit new 5 && !bit new 4) || down 6 || down 7 || (up 6 && !bit new 7)
      || (down 3 && outlets.any fun o => (s.o o).ses.st != .idle)
      || (s.pwr.state == .quiet && (up 4 || up 5 || (up 8 && !s.pwr.netq) || up 10 || up 11))
      || clocked 8 3 || clocked 4 1 || clocked 5 1 || clocked 9 4 then some 3
  else if up 10 && Config.variantIN then some 0x0A
  else if s.inTransition then some 2
  else none

/-- SYS_DOMAIN_SET (R94): a change that switches a domain on completes once supply-good is reached (log entry 35). -/
def execSysDomainSet (q : Req) (s : State) : Out :=
  let sel := u16 q.payload 0
  let val := u16 q.payload 2
  mail { op := 0x0105, pair := 0, lo := 4, hi := 4 } q s (sel % 4 == 0 && decide (sel < 4096)) fun s =>
    let old := s.pwr.on
    let new := domainGoal old sel val
    match s.domainRefuses new with
    | some st => s.no st
    | none =>
      let s := s.setDomains new
      if new &&& old = new then
        (if new = old then s else s.evtDomain old 0).ok (toLE 2 new)
      else
        ({ s with pwr := { s.pwr with pgood := old &&& new, wait := some { tag := q.tag, old := old, sel := new ^^^ old } } }).wait

/-- Supply-good is reached by every domain that a SYS_DOMAIN_SET switched on: its event and its completion (R94, R658);
LINE switched on calibrates its front end (R494). -/
def State.domainsGood (s : State) : State :=
  match s.pwr.wait with
  | none => s
  | some w =>
    let s := if bit w.sel 9 && s.domOn 9 then { s with line := { s.line with cal := true } } else s
    let s := ({ s with pwr := { s.pwr with wait := none, pgood := s.pwr.on } }).evtDomain w.old 0
    s.finish 0 w.tag 0 (toLE 2 s.pwr.on)

/-- DOMAIN_SWITCH_TIMEOUT (R94, R658): the domains already switched are switched back. -/
def execDomainSwitchTimeout (d : Nat) (s : State) : Out :=
  match s.pwr.wait with
  | none => .next s
  | some w =>
    onlyIf (bit w.sel d && s.domOn d && !bit w.old d) s fun s =>
      (({ s with pwr := { s.pwr with wait := none } }).setDomains w.old).finish 0 w.tag 8 []

/-- A failed SAFE domain puts the island in its safe state (R220, R659); losing STOR switches APP off (R659). -/
def State.domainFailed (s : State) (d : Nat) : State :=
  let old := s.pwr.on
  let on := putBit s.pwr.on d false
  let on := if d = 7 then putBit on 6 false else if d = 4 then putBit on 5 false else on
  let s := s.setDomains on
  let s := { s with pwr := { s.pwr with lost := s.pwr.lost ||| 2 ^ d } }
  let s := if d = 2 && !s.isl.safeState then
      ({ s with isl := { s.isl with safeState := true, pairsOff := false } }).openList 12 outlets else s
  (s.raiseRetried 11 d 0).evtDomain old 2

/-- DOMAIN_PG_LOSS (R659): the domain is cycled once; `back` says that it came back. A domain that came back has lost its state. -/
def execDomainPgLoss (d : Nat) (back : Bool) (s : State) : Out :=
  onlyIf (2 ≤ d && d < 12 && s.domOn d) s fun s =>
    if back then (s.domainDown d).transient 11 d 0 else s.domainFailed d

/-! ### Rails and the backup supply -/

/-- PILOT_RAIL (R657): the rail VPP12, or VPN12 with `vpn`, has stood at `v` (10 mV) for 100 µs. Outside 3 % of its nominal 12.0 V
it latches PILOT_RAIL and starts the opening on every outlet, whatever the severity; PWR_RAIL tells the regulator's own 1 %. -/
def execPilotRail (vpn : Bool) (v : Int) (s : State) : Out :=
  let rail := if vpn then 5 else 4
  let far := if vpn then (v + 1200).natAbs else (v - 1200).natAbs
  let p := { s.pwr with railGood := putBit s.pwr.railGood rail (decide (far ≤ 12)) }
  let s := { s with pwr := if vpn then { p with vpn12 := v } else { p with vpp12 := v.toNat } }
  .next (if far ≤ 36 then s else (s.openList 12 outlets).raise 10 rail 0)

/-- BAK_SWITCHOVER (R662): BAK changes to VBAK and writes CUT, or back to V33. -/
def execBakSwitchover (vbak : Bool) (s : State) : Out :=
  .next { s with
    pwr := { s.pwr with src := b2n vbak }
    bak := { s.bak with cut := if vbak && s.pwr.src = 0 then s.bak.rtc else s.bak.cut } }

/-- VBAK_LOW (R662): `mv` is what VBAK has measured for 1 s; below 2.2 V the source latches. -/
def execVbakLow (mv : Nat) (s : State) : Out :=
  let s := { s with pwr := { s.pwr with vbak := mv } }
  .next (if mv < 2200 then s.raise 8 0xFFFF mv else s)

/-- A write to PWR_PF_CFG (R670); `vsup` is held in 10 mV. A THRESH taken over is stored too (DEDUCED, log entry 36). -/
def pfCfgWrite (s : State) (v : Nat) : State :=
  let t := v % 512
  let drop := t != 0 && (t < 48 || 300 < t || s.pwr.vsup ≤ 10 * t + 50)
  let s := if t = 0 || drop then s else s.tmrWritten 0x4008
  { s with
    pwr := { s.pwr with rej := (s.pwr.rej && !bit v 9) || drop }
    bak := { s.bak with thresh := if t = 0 || drop then s.bak.thresh else t }
    cfg := { s.cfg with pfThresh := if t = 0 || drop then s.cfg.pfThresh else t } }

end Sys2Proof.Machine
end

