-- ==== Sys2Proof/Machine/Power.lean ====
section
/-! DEFINITION. Power-fail, the last gasp, resets and their causes (01, 02, 21, 22). -/

namespace Sys2Proof.Machine

/-! ### The steps of the power-fail sequence (R665) -/

/-- Step 1: SSWEN low on every outlet. -/
def State.gasp1 (s : State) : State :=
  let low (x : Outlet) : Outlet :=
    { x with sw := { x.sw with sswen := false, sswfb := false, sswFall := if x.sw.sswen then some s.up else x.sw.sswFall } }
  { s with out := vmap low s.out }

/-- Power-quality events that are open: closed with FLAGS bit 0 and an unknown duration (R354). -/
def State.closePq (s : State) : List PqRec → State
  | [] => s
  | r :: t => State.closePq (s.pqStore { r with flags := r.flags ||| 1, half := 0xFFFFFFFF, dur := 0xFFFFFFFF }) t

/-- Step 2: lamp and general channels off, lock pulses cut, six domains shed, APP reduced to one core. -/
def State.gasp2 (s : State) : State :=
  let old := s.pwr.on
  let s := s.lswShed
  let cut (x : Outlet) : Outlet := { x with lock := { x.lock with drive := .off, braking := false, waiting := false } }
  let s := ({ s with out := vmap cut s.out, pwr := { s.pwr with oneCore := true } }).setDomains (clearBits s.pwr.on 0xF30)
  let q := s.en.pqOpen
  let s := ({ s with en := { s.en with pqOpen := [] } }).closePq q
  if s.pwr.on = old then s else s.evtDomain old 1

/-- Step 3: a command latch, and LG_SEQ (R387). -/
def State.gasp3 (s : State) : State :=
  if s.en.loaded then
    let s := s.latchNow 4 false
    { s with bak := { s.bak with lgSeq := s.en.latch.seq } }
  else s

/-- Step 4: the contactors released, without the weld window, after the zero-current check of R122. SSWEN is low since step 1. -/
def State.gasp4 (s : State) : State :=
  let hit := outlets.filter fun o => s.coil o && !s.zeroCurrent o
  let open_ (o : Nat) (x : Outlet) : Outlet :=
    if x.sw.phase == .off then x
    else { x with sw := { x.sw with
      phase := .released, sswen := false, releasedAt := s.up
      loadBreaks := if hit.any fun h => h.val == o then x.sw.loadBreaks + 1 else x.sw.loadBreaks } }
  { s with
    out := vmapi open_ s.out
    isl := { s.isl with pairs := vmapi (fun p x => if p < 24 then { x with on := false, pullin := false } else x) s.isl.pairs }
    bak := { s.bak with pfFaults := s.bak.pfFaults ++ hit.map fun o => (39, o.val) } }

/-- Step 5: SITE0 and SITE1 released. -/
def State.gasp5 (s : State) : State :=
  { s with isl := { s.isl with
      pairs := vmap (fun x => { x with on := false, pullin := false }) s.isl.pairs
      sites := vmap (fun x => { x with closing := false, auto := false }) s.isl.sites } }

/-- Step 6: the latch committed, or PENDING 1 with a boundary sequence in progress; nothing while the control complex restarts
or before ST11 (R25, R387, R666). `done` tells that the commit is complete. -/
def State.gasp6 (s : State) : State × Bool :=
  if s.rings.pause || !s.en.loaded then (s, false)
  else if s.bill.running then ({ s with bak := { s.bak with bPending := true } }, false)
  else (s.commitAll 3 0, true)

/-- Steps 1 to `upto` of the sequence; its outcome in PWR_PFSTAT where it is a power-fail. -/
def State.lastGasp (s : State) (upto : Nat) (fail : Bool) : State :=
  let s := if 1 ≤ upto then s.gasp1 else s
  let s := if 2 ≤ upto then s.gasp2 else s
  let s := if 3 ≤ upto then s.gasp3 else s
  let s := if 4 ≤ upto then s.gasp4 else s
  let s := if 5 ≤ upto then s.gasp5 else s
  let d := if 6 ≤ upto then s.gasp6 else (s, false)
  let s := d.1
  if !fail then s
  else { s with bak := { s.bak with
    pfCount := satInc 16 s.bak.pfCount, pfSeen := true
    pfPending := 6 ≤ upto && s.bill.running && s.en.loaded && !s.rings.pause
    pfCommitted := d.2
    pfComplete := 7 ≤ upto } }

/-! ### Resets -/

/-- What a reset leaves of the NFC block (R527, R528): a field session that the reader's field supplies goes on. -/
def State.tagOnly (s : State) : Nfc :=
  let t := s.nfc.tag
  { suspended := s.nfc.suspended, tag := if t.harvest then { t with writes := t.writes.filter fun w => w.host.isNone } else {} }

/-- The state after a reset, before its start: BAK, the persistent state and what has not been sent yet are kept (R29, R647), and
each lock stands where it stood (R130). A write to STR that is still posted is lost: the spec does not say that it still reaches BAK
(R59, log entry 64). -/
def State.afterReset (s : State) (awaiting : Option Nat) : State :=
  { State.reset with
    pending := s.pending, free := s.free, bak := s.bak, cfg := s.cfg, store := s.store
    tmr := s.tmr.filter fun c => c.addr == 0x4008
    out := vmap (fun x => { lock := { locked := x.lock.locked } }) s.out
    nfc := s.tagOnly
    pwr := { State.reset.pwr with hrstLow := s.pwr.hrstLow, awaiting := awaiting } }

/-- A reset of every domain except BAK; its start is due (R647). -/
def State.resetTo (s : State) (cause : Nat) : State := s.afterReset (some cause)

/-- A reset request is ignored: a reset is held, or shedding, last-gasp work or the power-fail hold runs (R736). -/
def State.resetBusy (s : State) : Bool := s.pwr.awaiting.isSome || s.pwr.hold || s.pwr.shed

/-- A state in which BAK alone, or nothing, has power (01, Power states). -/
def State.powerless (s : State) (p : PowerState) (fell : Bool) : State :=
  let s := s.afterReset none
  { s with pwr := { s.pwr with state := p, on := if p == .dormant then 1 else 0, pgood := if p == .dormant then 1 else 0, fell := fell } }

/-- HRST (R57, R58, R736): `low` is the level after the change that was recognised. -/
def execHrst (low : Bool) (s : State) : Out :=
  let s := { s with pwr := { s.pwr with hrstLow := low } }
  .next (if !low || s.resetBusy || !s.powered then s else (s.lastGasp 7 false).resetTo 4)

/-- POWER_FAIL (R665, R666): `t` is the last step that VSUP lets complete, 8 the whole sequence. -/
def execPowerFail (t : Nat) (s : State) : Out :=
  onlyIf (s.powered && !s.pwr.hold) s fun s =>
    let s := s.lastGasp t true
    let s := if 8 ≤ t then s.setDomains 3 else s
    { s with pwr := { s.pwr with hold := true, shed := true, gasp := min t 8 } }

/-- POWERFAIL_RECOVERY (R664): out of the hold, with cause POWERFAIL. -/
def execPowerfailRecovery (s : State) : Out :=
  onlyIf (s.powered && s.pwr.hold && s.pwr.gasp == 8) s fun s => s.resetTo 3

/-- VSUP_MIN_FALL (R668, 22 Power states): after the sequence, or cutting it short, VSUP below its minimum leads to Dormant or,
with VBAK below 2.0 V, to Off; `mv` is the voltage of VBAK. -/
def execVsupMinFall (mv : Nat) (s : State) : Out :=
  let next (s : State) : State := s.powerless (if 2000 ≤ mv then .dormant else .off) true
  .next (
    if s.powered && s.pwr.hold then
      next { s with bak := { s.bak with pfShort := if s.pwr.gasp < 7 then some s.pwr.gasp else s.bak.pfShort } }
    else if s.pwr.state == .dormant then next s
    else s)

/-- What BAK holds after it was without power (R647): the value after POR. -/
def State.por (s : State) : State := { s with bak := State.reset.bak, tmr := [] }

/-- VSUP_RETURN (R664): from Dormant with cause DORMANT, where VSUP has fallen since (R93); from Off with cause POR. -/
def execVsupReturn (s : State) : Out :=
  .next (
    if s.pwr.state == .dormant && s.pwr.fell then s.resetTo 2
    else if s.pwr.state == .off then s.por.resetTo 1
    else s)

/-- DORMANT_ENTRY (R93, R661): the ledger is committed first. -/
def execDormantEntry (s : State) : Out :=
  onlyIf (s.pwr.dormantDue && !s.pwr.hold) s fun s =>
    let s := s.gasp3
    (s.gasp6.1).powerless .dormant false

/-- WATCHDOG_RESET (R647): the watchdog has been expired for 10 s outside a handover. -/
def execWatchdogReset (s : State) : Out :=
  let inHandover := match s.fw.ho with
    | some h => !h.dead
    | none => false
  onlyIf (s.lsw.wdg && s.lsw.wdgAt + 10000 ≤ s.up && !inHandover && s.powered && !s.resetBusy) s fun s => (s.lastGasp 7 false).resetTo 5

/-- LPDDR_ECC_ERROR (R669): a reset with cause WATCHDOG. -/
def execLpddrEccError (addr : Nat) (s : State) : Out :=
  onlyIf (s.powered && s.domOn 7) s fun s =>
    let s := s.raise 98 0xFFFF addr
    if s.resetBusy then s else (s.lastGasp 7 false).resetTo 5

/-- SAFE_STATE_RESET (R220): not within 10 min of the start that followed a safe state. -/
def execSafeStateReset (s : State) : Out :=
  let again := match s.bak.safeStart with
    | some t => decide (s.bak.rtc < t + 600000)
    | none => false
  onlyIf (s.isl.safeState && s.isl.pairsOff && !again && s.powered && !s.resetBusy) s fun s =>
    (s.lastGasp 7 false).resetTo 9

end Sys2Proof.Machine
end

