-- ==== Sys2Proof/Machine/Bnw.lean ====
section
/-! DEFINITION. The Base-Note Window and the register that selects its outlet (02, 24). -/

namespace Sys2Proof.Machine

/-- The outlet that the window serves; HPC_BNW_OUTLET 24 to 31 switches it off (24). -/
def State.bnwO (s : State) : ONum := outletArg [BitVec.ofNat 8 s.host.bnwOutlet] 0

/-- The window is off (R698). -/
def State.bnwOff (s : State) : Bool := decide (24 ≤ s.host.bnwOutlet)

/-- EFFECTIVE: the stepped import setpoint in force in 0.5 A (24, Register map). -/
def State.bnwEffective (s : State) : Nat := min 255 ((s.o s.bnwO).pilot.setpoint.toNat / 5)

/-- STATUS, active-low (R704). -/
def State.bnwStatus (s : State) : Nat :=
  let o := s.bnwO
  let p := s.pilotState o
  let st := (s.o o).ses.st
  255 - b2n (p == 1 || p == 2 || p == 3) - 2 * b2n (st == .energising) - 4 * b2n (st == .faulted || st == .outOfService)
    - 8 * b2n (st == .energising && decide (s.bnwEffective < s.bnw.setp))

/-- The register at an offset of the window (24, Register map). -/
def State.bnwReg (s : State) (off : Nat) : Nat :=
  match off with
  | 0x00 => 0x51
  | 0x01 => 0x24
  | 0x02 => s.host.bnwOutlet
  | 0x10 => s.bnw.copy % 256
  | 0x11 => s.bnw.snap % 256
  | 0x12 => s.bnw.snap / 256 % 256
  | 0x13 => s.bnw.snap / 65536 % 256
  | 0x20 => s.bnw.setp
  | 0x21 => s.bnwEffective
  | 0x30 => s.bnwStatus
  | 0x31 => s.pilotState s.bnwO
  | _ => 0

/-- The fixed code that answers byte `nth` of a read in place of the register, and whether HPC_BNW_LATE counts it (R698). -/
def State.bnwCode (s : State) (late : Bool) (nth : Nat) : Option (Nat × Bool) :=
  let link := s.hlcLink s.bnwO
  if s.bnwOff then some (0x00, false)
  else if 0 < nth then some (0xA5, false)
  else if s.rings.pause then some (0xEE, true)
  else if link = 3 || link = 4 then some (0xFF, false)
  else if late || !s.fwRuns then some (0xEE, true)
  else none

/-- One more late answer (HPC_BNW_LATE). -/
def State.bnwLateUp (s : State) : State := { s with host := { s.host with bnwLate := satInc 16 s.host.bnwLate } }

/-- A byte driven on HIO. -/
def State.driveHio (s : State) (v : Nat) : State := { s with host := { s.host with hio := s.host.hio ++ [v] } }

/-- A read byte of the window; only a value answered by the register at 0x10 latches the snapshot (R698, R701). -/
def State.bnwAnswer (s : State) (off : Nat) (late : Bool) (nth : Nat) : State :=
  match s.bnwCode late nth with
  | some c => (if c.2 then s.bnwLateUp else s).driveHio c.1
  | none =>
    let v := s.bnwReg off
    let s := if off = 0x10 then { s with bnw := { s.bnw with snap := s.bnw.copy / 256 } } else s
    s.driveHio v

/-- HOSTCAP of an outlet set as BUD_OUTLET_SET would do (R286, R702). -/
def State.setHostcap (s : State) (o : ONum) (v : Nat) : State :=
  let f (x : Bytes) : Bytes := x.take 2 ++ toLE 2 v ++ x.drop 4
  { s with cfg := { s.cfg with budOut := s.cfg.budOut.set o.val (f (s.cfg.budOut.get o)) o.isLt } }

/-- A write byte of the window; SETPOINT is its only writable register (R697, R699, R702). -/
def State.bnwPut (s : State) (off v nth : Nat) : State :=
  if s.bnwOff || 0 < nth then s
  else if s.rings.pause then s.bnwLateUp
  else if !s.fwRuns || off ≠ 0x20 || v < 12 || 64 < v then s
  else ({ s with bnw := { s.bnw with setp := v } }).setHostcap s.bnwO (5 * v)

/-- BNW_READ (R698): `nth` counts the data bytes of the transaction. -/
def execBnwRead (off : Nat) (late : Bool) (nth : Nat) (s : State) : Out :=
  onlyIf (s.portServes && off < 256) s fun s => s.bnwAnswer off late nth

/-- BNW_ENERGY0_READ (R701). -/
def execBnwEnergy0Read (late : Bool) (s : State) : Out := onlyIf s.portServes s fun s => s.bnwAnswer 0x10 late 0

/-- BNW_WRITE (R699). -/
def execBnwWrite (off v nth : Nat) (s : State) : Out :=
  onlyIf (s.portServes && off < 256 && v < 256) s fun s => s.bnwPut off v nth

/-- BNW_SETPOINT_WRITE (R702). -/
def execBnwSetpointWrite (v : Nat) (s : State) : Out := onlyIf (s.portServes && v < 256) s fun s => s.bnwPut 0x20 v 0

/-- BNW_ENERGY_REFRESH (R700): at the 50th rising crossing of the reference phase, or by samples while the counter holds. -/
def execBnwEnergyRefresh (s : State) : Out :=
  onlyIf (s.fwRuns && (50 ≤ s.bnw.crossings || s.met.hold)) s fun s =>
    { s with bnw := { s.bnw with copy := units (s.accOf s.bnwO.val 21) / 100000 % 2 ^ 32, crossings := 0 } }

/-- A write to HPC_BNW_OUTLET: the first one locks it; a later one is dropped and latches LOCKVIOL (R7, R62). -/
def State.bnwSelect (s : State) (v : Nat) : State :=
  if s.host.bnwLocked then s.raise 18 0xFFFF 0x34
  else { s with host := { s.host with bnwOutlet := v % 32, bnwLocked := true } }

end Sys2Proof.Machine
end

