-- ==== Sys2Proof/Machine/Faults.lean ====
section
/-! DEFINITION. The FLT block and changes of severity (20). -/

namespace Sys2Proof.Machine

/-- Sources whose severity has a floor of MAJOR (R611, R212). -/
def floorSource (src : Nat) : Bool := (42 ≤ src && src ≤ 50) || 112 ≤ src

/-- Sources that a chapter marks retryable (R619). -/
def retryable (src : Nat) : Bool :=
  [1, 11, 23, 47, 50, 51, 64, 65, 74, 75, 80, 84, 85, 92, 93, 96, 102].contains src

/-- The openings of R613 for the latched occurrences of a source that was raised to MAJOR or CRITICAL (R614). -/
def openOccs (s : State) (src : Nat) : List Occ → State
  | [] => s
  | x :: t =>
    openOccs (if x.src == src && !x.forced && outletSource src then s.outletFault src x.qual else s) src t

/-- The severity of a source changed, with the reactions that the old severity lacked (R614). -/
def setSev (s : State) (src new : Nat) : State :=
  let old := s.sev src
  let s := { s with flt := { s.flt with sev := s.flt.sev.set src new } }
  if !s.latched src then s
  else
    let nmiOf (k : Nat) : Bool := (k == 1 && bit s.flt.react 0) || (k == 2 && bit s.flt.react 2) || (k == 3 && bit s.flt.react 4)
    let s := { s with flt := { s.flt with
      unread := if old = 0 && 1 ≤ new then s.flt.unread ||| 2 ^ src else s.flt.unread
      nmi := s.flt.nmi || (nmiOf new && !nmiOf old) } }
    let s := if old < 2 && 2 ≤ new then openOccs s src s.flt.occ else s
    let s := if s.opensAll new && !s.opensAll old then s.openList 21 outlets else s
    if old < 2 && 2 ≤ new then s.wake 1 else s

/-- The fields of a FLT_SEVm word written one after another; reserved fields read 0 and floors hold (R610, R611). -/
def sevWrite (s : State) (m v : Nat) : Nat → State
  | 0 => s
  | k + 1 =>
    let s := sevWrite s m v k
    let src := 16 * m + k
    let x := field v (2 * k) 2
    if reservedSrc src || (floorSource src && x < 2) || x = s.sev src then s else setSev s src x

/-- The bits of a FLT_SEVm word whose fields take the write (R610, R611). -/
def sevAccepted (m v : Nat) : Nat :=
  (((List.range 16).filter fun k =>
    !reservedSrc (16 * m + k) && !(floorSource (16 * m + k) && decide (field v (2 * k) 2 < 2))).map fun k => 3 * 4 ^ k).foldl (· + ·) 0

/-- The sources of a FLT_FORCEm word raised (R618). -/
def forceWrite (s : State) (m v : Nat) : Nat → State
  | 0 => s
  | k + 1 =>
    let s := forceWrite s m v k
    let src := 32 * m + k
    if bit v k && !(112 ≤ src && s.store.safeMode != 2) then s.raiseWith src 0xFFFF 0 true false else s

/-- Unread bits of word `m` acknowledged (FLT_UNREADm, W1C). -/
def unreadAck (s : State) (m v : Nat) : State :=
  { s with flt := { s.flt with unread := clearBits s.flt.unread (v % 2 ^ 32 * 2 ^ (32 * m)) } }

/-- The mask of latched sources (FLT_STATm). -/
def latchedMask (s : State) : Nat := maskOf (s.flt.occ.map fun x => x.src)

/-- FLT_SUMMARY. -/
def fltSummary (s : State) : Nat :=
  let l := latchedMask s
  (bitsOf 128 s.flt.unread).length * 65536 + (bitsOf 128 l).length * 256 + 4 * b2n (l != 0)
    + maxOf ((bitsOf 128 l).map s.sev)

/-- Severity word `m`. -/
def sevWord (s : State) (m : Nat) : Nat :=
  ((List.range 16).map fun i => s.sev (16 * m + i) * 4 ^ i).foldl (· + ·) 0

/-- A word of the FLT block at offset `off` from 0x2000. -/
def fltRead (s : State) (off : Nat) : Nat :=
  if off = 0 then b2n s.flt.evtNote
  else if off = 4 then fltSummary s
  else if off = 8 then s.store.fltNext
  else if off = 0xC then s.flt.ovf
  else if 0x10 ≤ off && off < 0x20 then field (latchedMask s) (8 * (off - 0x10)) 32
  else if 0x20 ≤ off && off < 0x30 then field s.flt.unread (8 * (off - 0x20)) 32
  else if 0x40 ≤ off && off < 0x60 then sevWord s ((off - 0x40) / 4)
  else if off = 0x60 then s.flt.react
  else if 0x80 ≤ off && off < 0x100 then
    ((List.range 4).map fun i => lookupD s.flt.cnt (off - 0x80 + i) 0 * 256 ^ i).foldl (· + ·) 0
  else if 0x800 ≤ off && off < 0x1000 then
    match s.flt.log[(off - 0x800) / 32]? with
    | some e => u32 e.bytes ((off - 0x800) % 32)
    | none => 0
  else 0

/-- A write to a word of the FLT block. -/
def fltWrite (s : State) (off v : Nat) : State :=
  if off = 0 then { s with flt := { s.flt with evtNote := bit v 0 } }
  else if off = 0xC then { s with flt := { s.flt with ovf := v % 65536 } }
  else if 0x20 ≤ off && off < 0x30 then unreadAck s ((off - 0x20) / 4) v
  else if 0x30 ≤ off && off < 0x40 then forceWrite s ((off - 0x30) / 4) v 32
  else if 0x40 ≤ off && off < 0x60 then
    (sevWrite s ((off - 0x40) / 4) v 16).tmrWrite (0x2000 + off / 4 * 4) (sevAccepted ((off - 0x40) / 4) v) v
  else if off = 0x60 then ({ s with flt := { s.flt with react := v % 32 } }).tmrWritten 0x2060
  else s

/-- The islands, as a mask in the order of CLK_SEL, that PLL `k` feeds (R636; order of CLK_STATUS.LOCK). -/
def pllIslands (k : Nat) : Nat := [12, 2, 1, 16, 32].getD k 0

/-- PLL `k` locks again and its islands return to it through the ordinary multiplexer (R642). -/
def State.relocked (s : State) (k : Nat) : State :=
  if k < 5 then
    { s with clk := { s.clk with
      lock := s.clk.lock ||| 2 ^ k
      actual := clearBits s.clk.actual (pllIslands k), emerg := clearBits s.clk.emerg (pllIslands k)
      metaRc := if k = 2 then !s.clk.xtalOk else s.clk.metaRc } }
  else s

/-- FAULT_RETRY (R619): the outcome of the repeated operation of a retryable source. -/
def execFaultRetry (src qual data : Nat) (ok : Bool) (s : State) : Out :=
  .next (
    if !retryable src then s
    else if ok then (if src = 1 then s.relocked qual else s).transient src qual data
    else s.raiseRetried src qual data)

/-- FLT_SEVERITY_SET (R630). -/
def execFltSeveritySet (q : Req) (s : State) : Out :=
  let src := u8 q.payload 0
  let new := u8 q.payload 1
  mail { op := 0x1102, pair := 0, lo := 2, hi := 2 } q s (src < 128 && !reservedSrc src && new ≤ 3) fun s =>
    if floorSource src && new < 2 then s.no 0x04 else ((if new = s.sev src then s else setSev s src new).tmrWrite (0x2040 + src / 16 * 4) (3 * 4 ^ (src % 16))
      (new * 4 ^ (src % 16))).ok

/-- FLT_LOG_READ (R631, R733). -/
def execFltLogRead (q : Req) (s : State) : Out :=
  let first := u32 q.payload 0
  let count := u8 q.payload 4
  let r := q.bulk.getD (0, 0)
  mail { op := 0x1103, pair := 0, lo := 5, hi := 5, bulk := 1 } q s
    (1 ≤ count && count ≤ 128) fun s =>
    let log := s.store.fltLog
    let oldest := (log.getLastD { seq := s.store.fltNext }).seq
    if !log.isEmpty && (first + 2 ^ 32 - oldest) % 2 ^ 32 ≥ 2 ^ 31 then s.no 0x0B
    else if r.2 < 32 * count then s.no 0x05
    else
      let es := (log.reverse.filter fun e => (e.seq + 2 ^ 32 - first) % 2 ^ 32 < 2 ^ 31).take count
      { st := s.bulkPut 0 r (es.map LogEntry.bytes).flatten, payload := toLE 1 es.length ++ toLE 4 oldest, bulk := some r }

end Sys2Proof.Machine
end

