-- ==== Sys2Proof/Machine/ClearOps.lean ====
section
/-! DEFINITION. Occurrences from the sources themselves and FLT_CLEAR (20). -/

namespace Sys2Proof.Machine

/-- FAULT_OCCURRENCE (R615): a retryable source latches nothing before its retry has failed (R619). -/
def execFaultOccurrence (src qual data : Nat) (s : State) : Out :=
  .next (if retryable src then s else s.raise src qual data)

/-- The cause of an unforced occurrence persists, as the chapter of its source defines it (R616, R231, R225; for the others
DEDUCED from the condition that the source names, log entry 33). -/
def State.faultHolds (s : State) (src qual : Nat) : Bool :=
  match src with
  | 0 => bit s.clk.trip qual
  | 1 => !bit s.clk.lock qual
  | 3 => !s.clk.lfxoOk
  | 8 => decide (s.pwr.vbak < 2200)
  | 9 => !bit s.pwr.railGood qual
  | 10 => !bit s.pwr.railGood qual && decide (36 < (if qual = 4 then s.pwr.vpp12 - 1200 else s.pwr.vpn12 + 1200 : Int).natAbs)
  | 11 => bit s.pwr.lost qual
  | 66 => (s.met.ntcs.getD qual {}).fallback
  | 67 => s.met.uncal
  | 69 => s.met.hold
  | 70 => s.tamperActive 0 qual
  | 71 => s.tamperActive 1 qual
  | 72 => s.tamperActive 2 qual
  | 73 => s.tamperActive (3 + qual) 0
  | 75 => s.bill.chainBad
  | 79 => s.bill.calBad
  | 83 => s.lat.floor
  | 91 => s.net.sync == 3
  | 112 => s.isl.safeState
  | 113 => s.isl.cfgFail
  | 114 => !decide ((s.sin qual).cycle = 2)
  | 115 => s.isl.safeState
  | 119 => !(s.pair (24 + qual)).on && (s.site qual).mirrorOpen
  | 120 => (s.sin qual).demand
  | 121 => (s.sin qual).demand
  | _ => false

/-- FLT_CLEAR may clear an occurrence (R136, R616, R629): forced ones always, others while their cause has ended and R136 gives
them no other way. -/
def State.mayClear (s : State) (x : Occ) : Bool :=
  x.forced || !((outletFaultSource x.src && decide (x.qual < 24)) || s.faultHolds x.src x.qual)

/-- What follows the clear of an unforced occurrence: the end of a demand (R230), FAULTED left (R135). -/
def State.afterClear (s : State) (x : Occ) : State :=
  if x.forced then s
  else if x.src = 114 then s.sfSettle x.qual
  else if h : x.qual < 24 then
    if outletSource x.src then s.faultedExit ⟨x.qual, h⟩ false 14 else s
  else s

/-- Occurrences of a list cleared one after another. -/
def State.clearList (s : State) : List Occ → State
  | [] => s
  | x :: t => State.clearList ((s.clearOcc x.src x.qual).afterClear x) t

/-- FLT_CLEAR (R629, R616). -/
def execFltClear (q : Req) (s : State) : Out :=
  let src := u8 q.payload 0
  let qual := u16 q.payload 2
  mail { op := 0x1101, pair := 0, lo := 4, hi := 4 } q s (src < 128) fun s =>
    let l := s.flt.occ.filter fun x => x.src == src && (qual == 0xFFFF || x.qual == qual)
    let may := l.filter s.mayClear
    if l.isEmpty then s.no 0x06
    else if may.isEmpty then s.no 0x03
    else
      let s := s.clearList may
      s.ok (toLE 1 (s.flt.occ.filter fun x => x.src == src).length)

end Sys2Proof.Machine
end

