-- ==== Sys2Proof/Machine/Clocks.lean ====
section
/-! DEFINITION. Clock monitor, island source selection, clock meter and gates (21). -/

namespace Sys2Proof.Machine

/-- The code of a start step written into the current start record (R648). -/
def State.markStep (s : State) (step code : Nat) : State :=
  let r := s.bak.recs.headD 0
  { s with bak := { s.bak with recs := (clearBits r (3 * 4 ^ step) ||| code * 4 ^ step) :: s.bak.recs.tail } }

/-- A non-maskable event to the control complex (R642, R644). -/
def State.nonMaskable (s : State) : State := { s with flt := { s.flt with nmi := true } }

/-- The islands of a mask moved to the primary RC48 through the emergency path, whatever switch was pending (R640, R642). -/
def State.emergency (s : State) (islands : Nat) : State :=
  let hit := clearBits islands s.clk.actual
  { s with clk := { s.clk with
    actual := s.clk.actual ||| hit, emerg := s.clk.emerg ||| hit, pend := clearBits s.clk.pend hit } }

/-! ### The clock monitor -/

/-- The reference of the monitor: 0 primary RC48, 1 spare RC48, 2 LFXO, 3 LPRC (R641, R643). -/
def State.monitorRef (s : State) : Nat :=
  if s.pwr.state == .quiet && !s.clk.rcStarting && s.clk.emerg = 0 then (if s.clk.lfxoOk then 2 else 3) else s.clk.monRef

/-- The count of a monitored clock lies outside its tolerance (R641): of XTAL, or of the reference of a PLL, which in RC-only operation is the
primary RC48 (R637), at 25 or 48 MHz; over 1,024 cycles of the RC48 ±6 %, over 31.25 ms of the LFXO ±6 %, of the LPRC ±12 %. -/
def State.countOut (s : State) (clk count : Nat) : Bool :=
  let mhz := if clk ≠ 0 && s.clk.rcOnly then 48 else 25
  let r := s.monitorRef
  let n := if r ≤ 1 then 48 * count else count
  let nominal := if r ≤ 1 then 1024 * mhz else 31250 * mhz
  decide ((if r = 3 then 12 else 6) * nominal < 100 * ((n : Int) - nominal).natAbs)

/-- CLKMON_WINDOW (R641): `clk` in the order of CLK_MON_EN, with its count and its lock detector. A PLL that is not started is not watched
(R637). A primary RC48 that a trip in Quiet has enabled is ready by now. -/
def execClkmonWindow (clk count : Nat) (lockLow : Bool) (s : State) : Out :=
  onlyIf (clk < 6 && bit s.clk.monEn clk && !(clk == 4 && s.clk.rcOnly)) s fun s =>
    let bad := s.countOut clk count || (lockLow && clk != 0)
    { s with clk := { s.clk with
      bad := s.clk.bad.set clk (if bad then min 2 (s.clk.bad.getD clk 0 + 1) else 0), rcStarting := false } }

/-- The islands that monitored clock `clk` feeds: XTAL feeds every PLL, except in RC-only operation (R636, R637). -/
def State.fedBy (s : State) (clk : Nat) : Nat :=
  if clk = 0 then (if s.clk.rcOnly then 0 else 0x3F) else pllIslands (clk - 1)

/-- What the firmware does after XTAL has failed (R642, 21 Example): the PLLs that were locked, except PLL_NET, on the primary
RC48, their islands returned to them, and NET switched off. -/
def State.relockAll (s : State) (was : Nat) : State :=
  let lock := clearBits was 8
  let back := ((List.range 5).map fun k => if bit lock k then pllIslands k else 0).foldl (fun a b => a ||| b) 0
  let old := s.pwr.on
  let s := { s with clk := { s.clk with
    lock := lock, actual := clearBits s.clk.actual back, emerg := clearBits s.clk.emerg back } }
  if s.netOn then (s.setDomains (clearBits old 0x100)).evtDomain old 2 else s

/-- CLOCK_TRIP (R642, R644). -/
def execClockTrip (clk : Nat) (s : State) : Out :=
  onlyIf (clk < 6 && bit s.clk.monEn clk && 2 ≤ s.clk.bad.getD clk 0) s fun s =>
    let starting := s.pwr.state == .quiet && s.clk.emerg = 0
    let was := s.clk.lock
    let s := s.emergency (s.fedBy clk)
    let s := { s with clk := { s.clk with
      xtalOk := s.clk.xtalOk && clk != 0
      lock := if clk = 0 then (if s.clk.rcOnly then s.clk.lock else 0) else putBit s.clk.lock (clk - 1) false
      metaRc := s.clk.metaRc || clk == 0 || clk == 3
      trip := s.clk.trip ||| 2 ^ clk, bad := s.clk.bad.set clk 0, rcStarting := s.clk.rcStarting || starting } }
    let s := ((s.raise 0 clk 0).markStep (if clk = 0 then 2 else 3) 3).nonMaskable
    if clk = 0 && s.fwRuns && !s.clk.rcOnly then s.relockAll was else s

/-- AON, PANEL and the monitor on the spare RC48, the primary stopped, ST1 marked failed (R643, R644). -/
def State.toSpare (s : State) : State :=
  let b := s.clk.primaryB
  ({ s with clk := { s.clk with
    rc48aOn := b, rc48bOn := !b, monRef := 1, rcStarting := false, devPrimary := 0 } }).markStep 1 3

/-- The primary RC48 has stopped: the spare takes over, and RC48_FAIL latches with the clock code of R645. -/
def State.primaryStopped (s : State) : State :=
  if s.clk.monRef = 1 then s
  else (s.toSpare).raise 2 (if s.clk.primaryB then 3 else 2) 0

/-- RC48_STOP (R643). -/
def execRc48Stop (s : State) : Out := onlyIf (s.powered && s.monitorRef == 0) s State.primaryStopped

/-- CLOCK_SELFCHECK (R643): deviations in 0.01 %; the spare's is 0 while it is stopped. -/
def execClockSelfcheck (prim spare : Int) (s : State) : Out :=
  onlyIf (s.powered && s.clk.monRef == 0) s fun s =>
    let spareOn := if s.clk.primaryB then s.clk.rc48aOn else s.clk.rc48bOn
    let s := { s with clk := { s.clk with devPrimary := prim, devSpare := if spareOn then spare else 0 } }
    if 300 < prim.natAbs then s.primaryStopped else s

/-- RC48_START_TIMEOUT (R644): `spare` says that the spare became ready; with neither, a reset with cause CLOCK, after the
hardware shedding steps and without a commit (R647). -/
def execRc48StartTimeout (spare : Bool) (s : State) : Out :=
  onlyIf s.clk.rcStarting s fun s =>
    if spare then s.toSpare.nonMaskable
    else if s.resetBusy then s
    else ((((s.gasp1).gasp2).gasp4).gasp5).resetTo 7

/-- LFXO_LOSS (R641, R28): the reference of Quiet and of the trims goes with it. -/
def execLfxoLoss (s : State) : Out :=
  onlyIf s.clk.lfxoOk s fun s => ({ s with clk := { s.clk with lfxoOk := false } }).raise 3 0xFFFF 0

/-- PILOT_PERIOD_TRIM (R28): a trim of the pilot period, counted. -/
def execPilotPeriodTrim (s : State) : Out :=
  onlyIf (s.clk.metaRc && s.clk.lfxoOk) s fun s => { s with clk := { s.clk with trimRuns := s.clk.trimRuns + 1 } }

/-! ### Island source selection -/

/-- A write to CLK_SEL (R639): an island whose selection differs from its source switches; one that selects its source again has
nothing pending. -/
def selWrite (s : State) (v : Nat) : State :=
  let sel := v % 64
  let pend := sel ^^^ s.clk.actual
  { s with clk := { s.clk with
    sel := sel, pend := pend
    pendAt := s.clk.pendAt.mapIdx fun i t => if bit pend i && !bit s.clk.pend i then s.up else t } }

/-- The source of island `i` runs: its PLL is locked, or the primary RC48 (R639). -/
def State.sourceRuns (s : State) (i : Nat) (rc : Bool) : Bool :=
  if rc then s.monitorRef ≤ 1 else (List.range 5).any fun k => bit (pllIslands k) i && bit s.clk.lock k

/-- CLK_SWITCH_DONE (R639): after low phases of both clocks; with one of them stopped the switch never completes. -/
def execClkSwitchDone (i : Nat) (s : State) : Out :=
  onlyIf (i < 6 && bit s.clk.pend i && s.sourceRuns i true && s.sourceRuns i false) s fun s =>
    { s with clk := { s.clk with
      actual := putBit s.clk.actual i (bit s.clk.sel i)
      emerg := putBit s.clk.emerg i false, pend := putBit s.clk.pend i false } }

/-- CLK_SWHANG (R639): a switch that has been pending for 1 ms. -/
def execClkSwhang (i : Nat) (s : State) : Out :=
  onlyIf (i < 6 && bit s.clk.pend i && decide (s.clk.pendAt.getD i 0 + 1 ≤ s.up)) s fun s => s.raise 4 i 0

/-- A write to CLK_FORCE (R640). -/
def forceClkWrite (s : State) (v : Nat) : State :=
  let m := v % 64
  let to_ := s.clk.sel &&& m
  { s with clk := { s.clk with
    actual := clearBits s.clk.actual m ||| to_, emerg := clearBits s.clk.emerg m ||| to_, pend := clearBits s.clk.pend m } }

/-! ### Clock meter and gates -/

/-- An access of the host to `addr` that a closed gate answers with silent zeros (R53). -/
def State.zeroAccess (s : State) (addr : Nat) : State :=
  { s with host := { s.host with zeroReads := satInc 16 s.host.zeroReads, zeroAddr := addr } }

/-- A write to CLK_METER_CTRL (R645). A reserved code does not start; START is ignored while BUSY. -/
def meterWrite (s : State) (v : Nat) : State :=
  let t := v / 256 % 16
  let r := v % 16
  let c := { s.clk with meterTgt := t, meterRef := r }
  if bit v 31 && !s.clk.meterBusy && t ≤ 10 && r ≤ 10 then
    { s with clk := { c with meterBusy := true, meterDone := false, meterStopped := false } }
  else { s with clk := c }

/-- CLK_METER_DONE (R645): `count` edges of the target, or STOPPED. -/
def execClkMeterDone (count : Nat) (stopped : Bool) (s : State) : Out :=
  onlyIf s.clk.meterBusy s fun s =>
    { s with clk := { s.clk with
      meterBusy := false, meterDone := true, meterStopped := stopped, meterResult := min count 0xFFFFFFFF } }

/-- The host is inside an access to the block of gate `g`: of the gated blocks only TIME and the clock meter have registers
that it reads across an island (R44, R646). -/
def State.gateInUse (s : State) (g : Nat) : Bool :=
  match s.host.xact with
  | some x => (g == 3 && x.addr / 4096 == 7) || (g == 5 && x.addr / 4096 == 3)
  | none => false

/-- A write to CLK_GATE0 (R646): the bits that MASK selects; a gate whose block is inside an access waits. -/
def gateWrite (s : State) (v : Nat) : State :=
  let mask := v / 65536 % 64
  let val := v % 64
  let closing := clearBits (mask &&& s.clk.gate) val
  let waits := ((List.range 6).filter fun g => bit closing g && s.gateInUse g).foldl (fun a g => a + 2 ^ g) 0
  { s with clk := { s.clk with
    gate := clearBits s.clk.gate (clearBits closing waits) ||| (val &&& mask)
    gateWait := clearBits s.clk.gateWait mask ||| waits } }

end Sys2Proof.Machine
end

