-- ==== Sys2Proof/Machine/Credit.lean ====
section
/-! DEFINITION. Exhaustion and grace, vouchers, the keypad, and the credit commands (13). -/

namespace Sys2Proof.Machine

/-- The state with the credit block changed. -/
def State.modCr (s : State) (f : Credit → Credit) : State := { s with cr := f s.cr }

/-- Accounts, bindings and voucher memories as they will be once the waiting changes are committed. -/
def State.projected (s : State) : State := s.cr.ops.foldl (fun s w => (s.applyCredit w.op).1) s

/-- A change of an account waits for the next commit, and the command that asked for it with it (13, Commands). -/
def State.queueCredit (s : State) (op : CreditOp) (cmd : Option (Nat × Nat)) : State :=
  (s.modCr fun c => { c with ops := c.ops ++ [({ op := op, cmd := cmd } : CreditWait)] }).trigger 8

/-! ### Exhaustion -/

/-- Every followed account on its provisional balance (R446). -/
def State.evaluateAll (s : State) : State :=
  s.followed.foldl (fun s a => s.followCredit a ((s.acct a).balance - s.pendingCost a)) s

/-- CREDIT_EVALUATE (R446 to R448). -/
def execCreditEvaluate (s : State) : Out :=
  onlyIf s.fwRuns s fun s => (s.modCr fun c => { c with friendly := c.friendly || s.inFriendly }).evaluateAll

/-- GRACE_EXPIRY (R447): cap 0 at the next step instant, then ENDING with cause 10. -/
def execGraceExpiry (a : Nat) (s : State) : Out :=
  onlyIf (s.fwRuns && s.cr.grace.any fun g => g.1 == a && decide (g.2 ≤ s.bak.rtc)) s fun s =>
    s.modCr fun c => { c with
      grace := c.grace.filter fun g => g.1 != a
      ranOut := if lookupD c.seen a 2 = 2 then c.ranOut ++ [a] else c.ranOut }

/-- FRIENDLY_WINDOW_END (R448): an account that is still EXHAUSTED starts its grace. -/
def execFriendlyWindowEnd (s : State) : Out :=
  onlyIf (s.fwRuns && s.cr.friendly && !s.inFriendly) s fun s => (s.modCr fun c => { c with friendly := false }).evaluateAll

/-! ### Vouchers -/

/-- The present hour (R451). -/
def State.hourNow (s : State) : Nat :=
  let h := (s.bill.time - s.store.epoch) / 3600000
  if s.bill.unver then max h s.store.hourMax else h

/-- CREDIT_EPOCH_CHECK (R454): once per start and once per day. -/
def execCreditEpochCheck (s : State) : Out :=
  let h := s.hourNow
  let day := s.bill.time / dayMs
  let gone := decide (99999 < h)
  onlyIf (s.fwRuns && decide (99000 ≤ h) && (s.cr.epochDay != some day || (gone && !s.cr.epochDone))) s fun s =>
    (s.modCr fun c => { c with epochDay := some day, epochDone := c.epochDone || gone }).emit 6 0x0A83
      (toLE 1 (b2n gone) ++ zeros 3 ++ toLE 4 h)

/-- A voucher's plaintext: CLASS, ACCOUNT, VALUE and HOUR (R449). -/
structure Voucher where
  cls : Nat
  account : Nat
  value : Nat
  hour : Nat
  deriving DecidableEq, Repr

/-- The number that decimal digits spell. -/
def digitsNat (l : List Nat) : Nat := l.foldl (fun v d => v * 10 + d) 0

/-- Decryption and CHECK (R449, R450). -/
def State.openVoucher (s : State) (digits : List Nat) : Option Voucher :=
  let id := toLE 8 Config.uid.toNat
  let p := Config.ff1Decrypt (s.slot (u8 s.cfg.credit 66)).mat id digits
  let text := (p.take 15).map fun d => BitVec.ofNat 8 (48 + d)
  let mac := Config.cmac (s.slot (u8 s.cfg.credit 67)).mat (id ++ text)
  if p.length = 20 && digitsNat (p.drop 15) = fld mac 0 8 % 100000 then
    some { cls := p.getD 0 0, account := digitsNat ((p.drop 1).take 4), value := digitsNat ((p.drop 5).take 5)
           hour := digitsNat ((p.drop 10).take 5) }
  else none

/-- The memory of used hours that a voucher meets (R440, R451). -/
def State.hourMemory (s : State) (v : Voucher) : Account := if v.cls = 2 then s.store.siteMem else s.acct v.account

/-- The RESULT of a voucher, and its plaintext where CHECK matched (R451, R453). -/
def State.judgeVoucher (s : State) (digits : List Nat) (route : Nat) : Nat × Option Voucher :=
  let p := s.projected
  if route = 0 && s.bak.kpLock then (7, none)
  else if (s.slotRefuses (u8 s.cfg.credit 66) 4 1).isSome || (s.slotRefuses (u8 s.cfg.credit 67) 3 3).isSome then (9, none)
  else if 99999 < s.hourNow then (6, none)
  else match s.openVoucher digits with
    | none => (1, none)
    | some v =>
      let acctOk := if v.cls = 2 then v.account == 9999 else decide (v.account < 1024) && (p.acct v.account).enabled
      let valOk := v.cls != 2 || (voucherTampers v.value).isSome
      let mem := p.hourMemory v
      if 2 < v.cls || !acctOk || !valOk then (2, some v)
      else if v.hour < mem.lwm then (4, some v)
      else if s.hourNow + 24 < v.hour then (5, some v)
      else if mem.used.contains v.hour then (3, some v)
      else if v.cls == 2 && ((voucherTampers v.value).getD []).any (fun k => s.tamperActive k.1 k.2) then (8, some v)
      else (0, some v)

/-- One more invalid keypad entry (R455): from the third on the keypad is locked, for 1 min doubling up to 64 min. -/
def State.badEntry (s : State) : State :=
  let n := min 255 (s.bak.kpFails + 1)
  let s := { s with bak := { s.bak with kpFails := n } }
  if n < 3 then s
  else { s with bak := { s.bak with kpLock := true, kpUntil := s.bak.rtc + 60000 * 2 ^ (min 6 (n - 3)) } }

/-- VOUCHER_RESULT of a voucher that is not accepted; what it did not reach is a free value (log entry 25). -/
def State.evtVoucher (s : State) (result route : Nat) (v : Option Voucher) : State :=
  match v with
  | some v => s.emit 6 0x0A81 (toLE 1 result ++ toLE 1 route ++ toLE 2 v.account ++ toLE 1 v.cls ++ zeros 3 ++ toLE 4 v.hour
      ++ toLE 4 (if v.cls = 0 then 100 * v.value else 0))
  | none =>
    let (x, s) := s.draw
    s.emit 6 0x0A81 (toLE 1 result ++ toLE 1 route ++ toLE 3 x ++ zeros 3 ++ toLE 8 (x / 2 ^ 24))

/-- A voucher entered over a route: 0 keypad, 1 host, 2 DLMS (R451 to R453, R455): its RESULT, and the state with its effect
waiting for the commit, or with its refusal noted. -/
def State.enterVoucher (s : State) (digits : List Nat) (route : Nat) (cmd : Option (Nat × Nat)) : Nat × Option Voucher × State :=
  let (r, v) := s.judgeVoucher digits route
  match r, v with
  | 0, some x => (0, v, s.queueCredit (.voucher x.cls x.account x.value x.hour route) cmd)
  | _, _ =>
    let s := s.evtVoucher r route v
    (r, v, if route = 0 && (r = 1 || r = 2) then s.badEntry else s)

/-! ### Keypad -/

/-- KEYPAD_SCAN (R457): the columns read low on the row driven; the matrix is judged once its four rows are read. -/
def execKeypadScan (cols : Nat) (s : State) : Out :=
  onlyIf (s.domOn 11 && s.fwRuns) s fun s =>
    let r := s.cr.row % 4
    let rows := s.cr.cols.set r (cols % 16)
    let s := s.modCr fun c => { c with row := (r + 1) % 4, cols := rows }
    if r ≠ 3 then s
    else
      let down := (List.range 16).filter fun k => bit (rows.getD (k / 4) 0) (k % 4)
      match down with
      | [] => s.modCr fun c => { c with cand := none, run := 0, multi := false, taken := false }
      | [k] =>
        if s.cr.multi then s
        else if s.cr.cand = some k then s.modCr fun c => { c with run := min 255 (c.run + 1) }
        else s.modCr fun c => { c with cand := some k, run := 1, taken := false }
      | _ => s.modCr fun c => { c with cand := none, run := 0, multi := true }

/-- An entry discarded (R458). -/
def State.dropEntry (s : State) : State := s.modCr fun c => { c with mode := 0, digits := [], ecReq := false }

/-- A PIN entered (R443, R455, R458): for emergency credit, or as an identification on the selected outlet. -/
def State.enterPin (s : State) (ds : List Nat) (ec : Bool) : State :=
  let id := ds.map fun d => BitVec.ofNat 8 (48 + d)
  let s := s.modCr fun c => { c with mode := 0, digits := [] }
  if s.bak.kpLock then s
  else match s.bindingOf 1 id with
    | none => (s.modCr fun c => { c with ecReq := false }).badEntry
    | some a =>
      let s := { s with bak := { s.bak with kpFails := 0, kpLock := false } }
      if ec then s.askEmergency a
      else match s.cr.sel with
        | some o => s.identify o { src := 1, id := id }
        | none => s

/-- ENTER ends an entry (R458). -/
def State.keyEnter (s : State) : State :=
  let ds := s.cr.digits
  if s.cr.mode = 1 then
    let n := digitsNat ds
    let s := s.dropEntry
    if h : n < 24 then (if ds.length = 2 then s.modCr fun c => { c with sel := some ⟨n, h⟩, selAt := s.up } else s) else s
  else if s.cr.mode = 2 then
    let s := s.dropEntry
    if ds.length = 20 then (s.enterVoucher ds 0 none).2.2 else s
  else if ds.length = 5 && (s.cr.ecReq || s.cr.sel.isSome) then s.enterPin ds s.cr.ecReq
  else s.dropEntry

/-- KEY_ACCEPT (R249, R457, R458): a key that has agreed over 4 scans. -/
def execKeyAccept (key : Nat) (s : State) : Out :=
  onlyIf (s.fwRuns && s.domOn 11 && s.cr.cand == some key && decide (4 ≤ s.cr.run) && !s.cr.taken && !s.cr.multi
      && decide (key < 16)) s fun s =>
    let s := s.modCr fun c => { c with taken := true, keyAt := s.up }
    if s.confirmPending then s.confirmKey key
    else if u8 s.cfg.credit 68 = 1 then s.emit 6 0x0A82 (toLE 1 key ++ zeros 3 ++ toLE 8 s.bak.rtc)
    else if key ≤ 9 then
      s.modCr fun c => { c with
        mode := if c.mode = 0 then (if c.ecReq then 4 else 3) else c.mode, digits := (c.digits ++ [key]).take 24 }
    else if key = 10 then s.dropEntry
    else if key = 11 then s.keyEnter
    else if key = 12 then s.modCr fun c => { c with mode := 1, digits := [], ecReq := false }
    else if key = 13 then s.modCr fun c => { c with mode := 2, digits := [], ecReq := false }
    else if key = 14 then s.modCr fun c => { c with mode := 4, digits := [], ecReq := true }
    else s.modCr fun c => { c with
      mode := 0, digits := []
      shown := c.sel.bind fun o => if (s.o o).ses.num = 0 then none else some (s.o o).ses.account }

/-- KEYPAD_ENTRY_TIMEOUT (R458): 10 s without a key. -/
def execKeypadEntryTimeout (s : State) : Out := onlyIf (decide (s.cr.keyAt + 10000 ≤ s.up)) s fun s => s.dropEntry

/-- OUTLET_SELECT_EXPIRY (R458): 60 s after the selection. -/
def execOutletSelectExpiry (s : State) : Out :=
  onlyIf (decide (s.cr.selAt + 60000 ≤ s.up)) s fun s => s.modCr fun c => { c with sel := none }

/-- KEYPAD_LOCKOUT_END (R455). -/
def execKeypadLockoutEnd (s : State) : Out :=
  onlyIf (decide (s.bak.kpUntil ≤ s.bak.rtc)) s fun s => { s with bak := { s.bak with kpLock := false } }

/-- KEYPAD_QUIET_WAKE (R17, R457): the press that wakes is discarded. -/
def execKeypadQuietWake (s : State) : Out :=
  onlyIf (s.pwr.state == .quiet) s fun s =>
    (s.modCr fun c => { c with taken := true, multi := true, cand := none, run := 0 }).wake 1

/-! ### Commands -/

/-- CREDIT_ACCOUNT_SET (R459). -/
def execCreditAccountSet (q : Req) (s : State) : Out :=
  let p := q.payload
  mail { op := 0x0A01, pair := 6, lo := 12, hi := 12 } q s (u16 p 0 ≤ 1023 && u8 p 2 ≤ 15 && u32 p 4 ≤ 100000000) fun s =>
    (s.queueCredit (.set (u16 p 0) (u8 p 2) (u32 p 4) (u32 p 8)) (some (6, q.tag))).wait

/-- Sessions on account `a`. -/
def State.sessionsOn (s : State) (a : Nat) : Nat :=
  (outlets.filter fun o => (s.o o).ses.num != 0 && (s.o o).ses.account == a).length

/-- CREDIT_ACCOUNT_GET (R459). -/
def execCreditAccountGet (q : Req) (s : State) : Out :=
  let a := u16 q.payload 0
  mail { op := 0x0A02, pair := 6, lo := 2, hi := 2 } q s (a ≤ 1023) fun s =>
    let x := s.acct a
    s.ok (toLE 2 a ++ toLE 1 x.flags ++ zeros 1 ++ toLE 4 x.ecLimit ++ toLE 4 x.minStart ++ toLEs 8 x.balance
      ++ toLE 1 (s.creditState a) ++ toLE 1 (s.sessionsOn a) ++ zeros 2 ++ toLE 4 x.lwm ++ toLE 4 x.usedMax)

/-- A balance fits 64 bits. -/
def balanceOk (b : Int) : Bool := decide (-(2 : Int) ^ 63 ≤ b) && decide (b < (2 : Int) ^ 63)

/-- CREDIT_ADJUST (R460). -/
def execCreditAdjust (q : Req) (s : State) : Out :=
  let p := q.payload
  let a := u16 p 0
  mail { op := 0x0A03, pair := 6, lo := 16, hi := 16 } q s
    (a ≤ 1023 && balanceOk ((s.projected.acct a).balance + sfld p 4 8)) fun s =>
    (s.queueCredit (.adjust a (sfld p 4 8) (u32 p 12)) (some (6, q.tag))).wait

/-- CREDIT_BIND fields in range (R443, R461): a PIN is 5 decimal digits. -/
def bindOk (p : Bytes) : Bool :=
  u8 p 0 ≤ 1 && u8 p 1 ≤ 2 && 1 ≤ u8 p 2 && u8 p 2 ≤ 20 && u16 p 4 ≤ 1023
    && (u8 p 1 != 1 || (u8 p 2 == 5 && ((p.drop 8).take 5).all fun b => 48 ≤ b.toNat && b.toNat ≤ 57))

/-- CREDIT_BIND (R461). -/
def execCreditBind (q : Req) (s : State) : Out :=
  let p := q.payload
  mail { op := 0x0A04, pair := 6, lo := 28, hi := 28 } q s (bindOk p) fun s =>
    let type := u8 p 1
    let id := (p.drop 8).take (u8 p 2)
    let proj := s.projected
    let has := proj.bindingOf type id
    if u8 p 0 = 1 then
      if has.isNone then s.no 6 else (s.queueCredit (.unbind type id) (some (6, q.tag))).wait
    else if has.isSome && has != some (u16 p 4) then s.no 3
    else if has.isNone && 4096 ≤ proj.store.binds.length then s.no 0x0C
    else (s.queueCredit (.bind type id (u16 p 4)) (some (6, q.tag))).wait

/-- CREDIT_CONFIG_SET fields in range (R444, R447, R448, R462). -/
def creditCfgOk (p : Bytes) : Bool :=
  ((List.range 16).all fun k => u32 p (4 * k) ≤ 10000000) && u16 p 64 ≤ 600 && u8 p 68 ≤ 1
    && (List.range 4).all fun w =>
      let a := u16 p (76 + 8 * w)
      let b := u16 p (78 + 8 * w)
      (b == 0xFFFF || (a ≤ 1440 && b ≤ 1440)) && u8 p (80 + 8 * w) ≤ 127 && u8 p (81 + 8 * w) ≤ 1

/-- CREDIT_CONFIG as it is kept: reserved bytes 0 (R9, R462). -/
def creditStored (p : Bytes) : Bytes :=
  (List.range 4).foldl (fun b w => overlay b (82 + 8 * w) [0, 0]) (overlay p 69 [0, 0, 0])

/-- CREDIT_CONFIG_SET (R462). -/
def execCreditConfigSet (q : Req) (s : State) : Out :=
  let p := q.payload
  mail { op := 0x0A05, pair := 6, lo := 108, hi := 108, chain := true } q s (creditCfgOk p) fun s =>
    if !s.slotHas (u8 p 66) 4 || !s.slotHas (u8 p 67) 3 then s.no 4
    else (({ s with cfg := { s.cfg with credit := creditStored p } }).effect 6 q.tag 0x0A05).ok

/-- CREDIT_CONFIG_GET (R462). -/
def execCreditConfigGet (q : Req) (s : State) : Out :=
  mail { op := 0x0A06, pair := 6 } q s true fun s => s.ok s.cfg.credit

/-- VOUCHER_ENTER (R451 to R453, R463): RESULT 0 follows the commit; RESULT 9 is REVOKED instead. -/
def execVoucherEnter (q : Req) (s : State) : Out :=
  let p := q.payload
  let text := (p.drop 4).take 20
  mail { op := 0x0A07, pair := 6, lo := 24, hi := 24 } q s
    ((u8 p 0 < 24 || u8 p 0 == 0xFF) && text.all fun b => 48 ≤ b.toNat && b.toNat ≤ 57) fun s =>
    let (r, v, s) := s.enterVoucher (text.map fun b => b.toNat - 48) 1 (some (6, q.tag))
    if r = 0 then s.wait
    else if r = 9 then s.no 7
    else match v with
      | some v => s.ok (toLE 1 r ++ toLE 1 v.cls ++ toLE 2 v.account ++ toLEs 8 (s.acct v.account).balance)
      | none =>
        let (x, s) := s.draw
        s.ok (toLE 1 r ++ toLE 11 x)

/-- VOUCHER_STATUS (R464). -/
def execVoucherStatus (q : Req) (s : State) : Out :=
  mail { op := 0x0A08, pair := 6 } q s true fun s =>
    s.ok (toLE 8 s.store.epoch ++ toLE 4 s.hourNow ++ toLE 1 s.bak.kpFails ++ zeros 3
      ++ toLE 4 (if s.bak.kpLock then (s.bak.kpUntil - s.bak.rtc + 999) / 1000 else 0))

end Sys2Proof.Machine
end

