-- ==== Sys2Proof/Machine/Dlms.lean ====
section
/-! DEFINITION. The DLMS/COSEM server (12): associations, rights, objects, the writes that mirror mailbox commands, and the
DLMS commands. Requests come decoded, with their invocation counter; responses leave as a result and values. -/

namespace Sys2Proof.Machine

/-- An OBIS code as one number, A first. -/
def obis (a b c d e f : Nat) : Nat := ((((a * 256 + b) * 256 + c) * 256 + d) * 256 + e) * 256 + f

/-! ### Responses -/

/-- Data bytes of one block (R434, R435; 12, Reading at scale): the maximum PDU size of the transport less 12 of datablock header and, where
the association is ciphered, 21. -/
def blockSize (client transport : Nat) : Nat := (if transport = 0 then 384 else 2048) - 12 - (if client = 16 then 0 else 21)

/-- A response cut into blocks of at most `n` bytes; `fuel` is its length. -/
def cutBlocks (n : Nat) : Nat → Bytes → List Bytes
  | 0, _ => []
  | fuel + 1, b => if b.isEmpty then [] else b.take n :: cutBlocks n fuel (b.drop n)

/-- A request that a transport delivers: executed while firmware runs, held for the time after a handover pause (R433). -/
def State.apdu (s : State) (i : Instr) (f : State → State) : Out :=
  .next (if s.fwRuns then f s else if s.rings.pause then s.modDl fun d => { d with wait := d.wait ++ [i] } else s)

/-- DLMS_ASSOC (12). -/
def State.evtAssoc (s : State) (ev client server transport channel : Nat) : State :=
  s.emit 5 0x0980 (toLE 1 ev ++ toLE 1 client ++ toLE 1 server ++ toLE 1 transport ++ toLE 1 channel ++ zeros 3 ++ toLE 8 s.bak.rtc)

/-- DLMS_SECURITY (12). -/
def State.evtSecurity (s : State) (kind client : Nat) : State :=
  s.emit 5 0x0982 (toLE 1 kind ++ toLE 1 client ++ zeros 6 ++ toLE 8 s.bak.rtc)

/-! ### Associations -/

/-- Number of a client: 0 Public, 1 Reader, 2 Operator, 3 Installer, 4 Manufacturer (R419). -/
def clientIdx (sap : Nat) : Option Nat :=
  match sap with
  | 16 => some 0
  | 32 => some 1
  | 48 => some 2
  | 64 => some 3
  | 96 => some 4
  | _ => none

/-- A byte of DLMS_CONFIG for client number `r` from 1 on: 0 SUITE, 1 MECH7, 2 EKSLOT, 3 AKSLOT (R437). -/
def State.dlCfg (s : State) (r k : Nat) : Nat := u8 s.cfg.dlms (4 * r + k)

/-- The transport is open (R434, R437). -/
def State.transportOpen (s : State) (t : Nat) : Bool :=
  if t = 0 then bit (u8 s.cfg.dlms 0) 1 && s.lineOn else bit (u8 s.cfg.dlms 0) 2

/-- The server SAP names a logical device (R418); an outlet's only where it is fitted. -/
def State.serverOk (s : State) (sap : Nat) : Bool :=
  sap == 1 || (16 ≤ sap && sap < 40 && s.fitted (outletArg [BitVec.ofNat 8 (sap - 16)] 0))

/-- The authentication mechanism is one that the client may use (R419). -/
def State.mechOk (s : State) (r mech : Nat) : Bool :=
  if r = 0 then mech == 0
  else mech == 5 || (mech == 7 && s.dlCfg r 0 == 1 && (r == 4 || s.dlCfg r 1 == 1))

/-- AARQ rejected (R418, R420, R421): 1 permanent, 2 transient. The answer is not ciphered. -/
def State.rejectAarq (s : State) (client server transport channel result : Nat) : State :=
  ((s.evtAssoc 3 client server transport channel).modDl fun d => { d with resp := [(result, [])] }).carry client server transport channel
    (Config.dlmsResponse client [(result, [])])

/-- The HLS exchange proves client number `r` (R419): GMAC of the server's challenge under its keys, or with mechanism 7 a signature of it
under a certificate that a DLMS trust anchor vouches for. -/
def State.hlsOk (s : State) (r : Nat) (h : Hls) (challenge : Bytes) : Bool :=
  if h.mech = 7 then
    s.chainValid 6 10 h.chain && match h.chain with
      | c :: _ => Config.verify c.pub challenge h.proof
      | [] => false
  else h.proof == Config.gmac (s.slot (s.dlCfg r 2)).mat (s.slot (s.dlCfg r 3)).mat challenge

/-- DLMS_AARQ (R416, R418 to R421). The server's challenge is a free value (log entry 8). -/
def State.aarq (s : State) (client server transport channel : Nat) (hls : Hls) : State :=
    let mech := hls.mech
    if !s.transportOpen transport then s.tunnelEnd channel [] else
    match clientIdx client with
    | none => s.rejectAarq client server transport channel 1
    | some r =>
      let open_ := s.dl.assocs.any fun a =>
        a.client == client && a.server == server && a.transport == transport && a.channel == channel
      let slots := r != 0 && ((s.slotRefuses (s.dlCfg r 2) 1 1).isSome || (s.slotRefuses (s.dlCfg r 3) 1 1).isSome)
      if (r = 0 && !bit (u8 s.cfg.dlms 0) 0) || !s.serverOk server || !s.mechOk r mech || open_ || slots
          || s.bak.dlLock.getD r false then
        s.rejectAarq client server transport channel 1
      else if 8 ≤ s.dl.assocs.length then s.rejectAarq client server transport channel 2
      else
        let d := s.draw
        let auth := r == 0 || d.2.hlsOk r hls (toLE 8 d.1)
        let s := if r = 0 then s else d.2
        if !auth then
        let n := s.bak.dlFails.getD r 0 + 1
        let s := { s with bak := { s.bak with
          dlFails := s.bak.dlFails.set r n, dlLock := if 5 ≤ n then s.bak.dlLock.set r true else s.bak.dlLock } }
        let s := s.evtSecurity 0 client
        (if 5 ≤ n then s.evtSecurity 2 client else s).rejectAarq client server transport channel 1
        else
        let a : Assoc := {
          client := client, server := server, transport := transport, channel := channel, last := s.up
          ek := s.dlCfg r 2, ak := s.dlCfg r 3 }
        let s := { s with bak := { s.bak with dlFails := s.bak.dlFails.set r 0 } }
        ((s.modDl fun d => { d with assocs := d.assocs ++ [a] }).evtAssoc 0 client server transport channel).respond client server
          transport channel 0 []

/-- DLMS_AARQ. -/
def execDlmsAarq (client server transport channel : Nat) (h : Hls) (s : State) : Out :=
  s.apdu (.dlmsAarq client server transport channel h) fun s => s.aarq client server transport channel h

/-- Association `a` ends (R420, R423, R439), its draft with it. -/
def State.endAssoc (s : State) (a ev : Nat) : State :=
  match s.dl.assocs[a]? with
  | none => s
  | some x => (s.modDl fun d => { d with assocs := d.assocs.eraseIdx a }).evtAssoc ev x.client x.server x.transport x.channel

/-- DLMS_RLRQ (R416, R427). -/
def execDlmsRlrq (a : Nat) (s : State) : Out :=
  s.apdu (.dlmsRlrq a) fun s =>
    match s.dl.assocs[a]? with
    | none => s
    | some x => (s.endAssoc a 1).respond x.client x.server x.transport x.channel 0 []

/-- The key of slot `n` was revoked (R423): an association that uses it ends at its next APDU boundary. -/
def State.dlRevoked (s : State) (n : Nat) : State :=
  s.modDl fun d => { d with assocs := d.assocs.map fun a => { a with dead := a.dead || a.client != 16 && (a.ek == n || a.ak == n) } }

/-- DLMS_IDLE_RELEASE (R420): no APDU for 300 s. -/
def execDlmsIdleRelease (a : Nat) (s : State) : Out :=
  onlyIf (s.fwRuns && s.dl.assocs[a]?.any fun x => decide (x.last + 300000 ≤ s.up)) s fun s => s.endAssoc a 2

/-- DLMS_LOCKOUT_END (R421). -/
def execDlmsLockoutEnd (client : Nat) (s : State) : Out :=
  match clientIdx client with
  | none => .next s
  | some r => .next { s with bak := { s.bak with dlFails := s.bak.dlFails.set r 0, dlLock := s.bak.dlLock.set r false } }

/-! ### Objects and rights -/

/-- The groups of objects that R432 grants together. -/
inductive DlGroup where
  | common
  | clock
  | energy
  | tamper
  | closePeriod
  | calendar
  | monitor
  | disconnect
  | limiter
  | account
  | token
  | security
  | hidden
  deriving DecidableEq, Repr

/-- The rights of a client on a group: read, write, act (R432). -/
def rightsOf (r : Nat) (g : DlGroup) : Bool × Bool × Bool :=
  let none_ := (false, false, false)
  let ro := (true, false, false)
  let pick (l : List (Bool × Bool × Bool)) : Bool × Bool × Bool := l.getD r none_
  match g with
  | .common => ro
  | .clock => pick [ro, ro, (true, true, true), (true, true, true), ro]
  | .energy => pick [none_, ro, ro, ro, none_]
  | .tamper => pick [none_, (true, false, true), ro, (true, false, true), none_]
  | .closePeriod => pick [none_, (true, false, true), ro, ro, none_]
  | .calendar => pick [none_, ro, (true, true, true), ro, none_]
  | .monitor => pick [none_, (true, true, false), (true, true, false), ro, none_]
  | .disconnect => pick [none_, (true, false, true), (true, false, true), ro, none_]
  | .limiter => pick [none_, ro, (true, true, false), ro, none_]
  | .account => pick [none_, ro, (true, true, false), none_, none_]
  | .token => pick [none_, (false, false, true), (false, false, true), none_, none_]
  | .security => pick [none_, (true, false, true), (true, false, true), (true, false, true), (true, false, true)]
  | .hidden => none_

/-- One object: class, OBIS code, where it lives (0 all, 1 management, 2 outlet), group. -/
abbrev DlObj := Nat × Nat × Nat × DlGroup

/-- The objects of every logical device (12, Objects). -/
def dlObjects : List DlObj :=
  [(1, obis 0 0 42 0 0 255, 0, .common), (1, obis 0 0 96 5 0 255, 0, .tamper), (1, obis 0 0 97 98 0 255, 1, .monitor)]
  ++ ((List.range 2).map fun d => [(3, obis 1 0 (1 + d) 8 0 255, 0, DlGroup.energy)]
      ++ (List.range 8).map fun t => (3, obis 1 0 (1 + d) 8 (t + 1) 255, 0, DlGroup.energy)).flatten
  ++ ((List.range 5).map fun k => (3, obis 1 0 (5 + k) 8 0 255, 0, DlGroup.energy))
  ++ [(3, obis 1 0 1 7 0 255, 0, .energy), (3, obis 1 0 2 7 0 255, 0, .energy),
      (5, obis 1 0 1 4 0 255, 0, .energy), (5, obis 1 0 2 4 0 255, 0, .energy),
      (4, obis 1 0 1 6 0 255, 0, .energy), (4, obis 1 0 2 6 0 255, 0, .energy),
      (7, obis 1 0 99 1 0 255, 0, .energy), (7, obis 0 0 98 1 0 255, 0, .energy), (7, obis 0 0 99 98 0 255, 1, .energy),
      (8, obis 0 0 1 0 0 255, 1, .clock), (9, obis 0 0 10 0 1 255, 1, .closePeriod), (9, obis 0 0 10 0 106 255, 0, .tamper),
      (9, obis 0 0 10 0 107 255, 1, .hidden), (11, obis 0 0 11 0 0 255, 1, .calendar)]
  ++ [(15, obis 0 0 40 0 0 255, 0, .common), (17, obis 0 0 41 0 0 255, 1, .common), (20, obis 0 0 13 0 0 255, 1, .calendar),
      (21, obis 0 0 16 0 1 255, 1, .monitor), (22, obis 0 0 15 0 0 255, 1, .closePeriod),
      (70, obis 0 0 96 3 10 255, 2, .disconnect), (71, obis 0 0 17 0 0 255, 2, .limiter),
      (111, obis 0 0 19 0 0 255, 2, .account), (112, obis 0 0 19 10 0 255, 2, .account), (113, obis 0 0 19 20 0 255, 2, .account),
      (115, obis 0 0 19 40 0 255, 1, .token)]
  ++ (List.range 5).map (fun e => (15, obis 0 0 40 0 (e + 1) 255, 0, DlGroup.hidden))
  ++ (List.range 4).map fun e => (64, obis 0 0 43 0 (e + 2) 255, 0, DlGroup.security)

/-- The group of an object in a logical device as client `r` sees it: only its own security setup, and its own association. -/
def groupIn (r server ic ob : Nat) : Option DlGroup :=
  match dlObjects.find? fun x => x.1 == ic && x.2.1 == ob && (x.2.2.1 == 0 || (x.2.2.1 == 1) == (server == 1)) with
  | none => none
  | some x =>
    if ic = 64 then some (if ob = obis 0 0 43 0 (r + 1) 255 then .security else .hidden)
    else if ic = 15 && ob = obis 0 0 40 0 (r + 1) 255 then some .common
    else some x.2.2.2

/-- The client sees the object: it may read it or act on it (R432). -/
def sees (r : Nat) (g : DlGroup) : Bool := (rightsOf r g).1 || (rightsOf r g).2.2

/-! ### Values -/

/-- Bytes as values. -/
def octets (b : Bytes) : List Int := b.map fun x => (x.toNat : Int)

/-- Upper-case hexadecimal digits of `n` in ASCII. -/
def hexDigits (k n : Nat) : Bytes :=
  (List.range k).map fun i =>
    let d := n / 16 ^ (k - 1 - i) % 16
    BitVec.ofNat 8 (if d < 10 then 48 + d else 55 + d)

/-- Logical device name (R418). -/
def ldName (server : Nat) : Bytes :=
  ascii "MZA" ++ hexDigits 11 (Config.uid.toNat % 2 ^ 44) ++ (if server = 1 then ascii "MG" else asciiDigits 2 (server - 16))

/-- System title (R417). -/
def systemTitle : Bytes := ascii "MZA" ++ (toLE 5 Config.uid.toNat).reverse

/-- The outlet of a logical device, 24 for the site. -/
def ldOutlet (server : Nat) : Nat := if 16 ≤ server && server < 40 then server - 16 else 24

/-- An entry of the load profile (R425): boundary time, status, +A, −A, Q1 to Q4. -/
def loadProfile (k : Nat) (ledger : List LRec) : List (List Int) :=
  let want := if k < 24 then k else 0xFF
  let step (acc : Bytes × List (List Int)) (r : LRec) : Bytes × List (List Int) :=
    if r.type = 0x01 && r.outlet = want then (r.payload, acc.2)
    else if r.type = 0x04 && r.outlet = 0xFF then
      let st := b2n (bit (u8 r.payload 20) 0) + 2 * b2n (bit r.flags 0) + 4 * b2n (bit r.flags 5) + 8 * b2n (bit r.flags 1)
      (acc.1, acc.2 ++ [[(r.time : Int), st] ++ (List.range 6).map fun i => ((fld acc.1 (8 * i) 8 : Nat) : Int)])
    else acc
  (ledger.reverse.foldl step ([], [])).2

/-- The billing profile (R425). -/
def billProfile (k : Nat) (periods : List PeriodRec) : List (List Int) :=
  periods.reverse.map fun c =>
    let m := c.max.getD k (0, 0, 0, 0)
    [(c.fin : Int), c.period] ++ ((c.tregI.getD k []).map fun v => (v : Int)) ++ ((c.tregE.getD k []).map fun v => (v : Int))
      ++ [(m.1 : Int), m.2.1, m.2.2.1, m.2.2.2]

/-- Scaler and unit of a register (12, Objects): mWh, mvarh, mVAh or W. The unit codes are those of IEC 62056 (PRESUMED, log
entry 26). -/
def scalerUnit (c d : Nat) : List Int :=
  if d = 7 then [0, 27] else if c ≤ 2 then [-3, 30] else if c ≤ 8 then [-3, 32] else [-3, 31]

/-- An energy register in mWh, mvarh or mVAh as of the last commit; instantaneous power in W (R424). -/
def State.regValue (s : State) (k c d e : Nat) : Int :=
  let reg (i : Nat) : Nat := if k < 24 then (regOf s.bill.regs k).getD i 0 else siteSum (regOf s.bill.regs) i
  if d = 7 then
    let p := sumI ((outlets.filter fun o => k == 24 || o.val == k).map s.pOut)
    if c = 1 then (if 0 < p then p / 1000 else 0) else if p < 0 then (-p) / 1000 else 0
  else if e ≠ 0 then
    (((tregSite (if c = 1 then s.bill.tregI else s.bill.tregE) k).getD (e - 1) 0 / 1000 : Nat) : Int)
  else if c = 9 then
    (((if k < 24 then units (s.latOf k 27) else ((List.range 24).map fun o => units (s.latOf o 27)).foldl (· + ·) 0) / 1000 : Nat) : Int)
  else ((reg (if c ≤ 2 then c - 1 else c - 3) / 1000 : Nat) : Int)

/-- A DST rule as a date: month, day of month, weekday, hour (R426). -/
def dstDate (r : Bytes) : List Int :=
  [(u8 r 0 : Int), if u8 r 1 = 5 then 0xFE else 7 * ((u8 r 1 : Int) - 1) + 1, u8 r 2, u8 r 3]

/-- The account of the present or last session of an outlet (12, Objects). -/
def State.ldAccount (s : State) (k : Nat) : Nat :=
  let x := (s.o (outletArg [BitVec.ofNat 8 k] 0)).ses
  if x.num = 0 then x.lastAccount else x.account

/-- HOSTCAP of an outlet in W (R431). -/
def State.limitW (s : State) (k : Nat) : Int :=
  let o := outletArg [BitVec.ofNat 8 k] 0
  let cap := u16 (s.cfg.budOut.get o) 2
  if cap = 0xFFFF then 0 else ((cap * s.phases o * s.unom / 10 : Nat) : Int)

/-- The registers of every outlet now (R424): import and export. -/
def State.liveRegs (s : State) : List (List Nat) := (List.range 24).map fun o => [units (s.accOf o 21), units (s.accOf o 22)]

/-- The entries of a profile, oldest first (R425; 12, Objects): load profile, billing profile, or the TIME, TAMPER and GAP records. -/
def State.profileRows (s : State) (k ob : Nat) : List (List Int) :=
  if ob = obis 1 0 99 1 0 255 then loadProfile k s.store.ledger
  else if ob = obis 0 0 98 1 0 255 then billProfile k s.store.periods
  else (s.store.ledger.reverse.filter fun x => x.type == 0x0B || x.type == 0x0C || x.type == 0x0A).map fun x =>
    [(x.time : Int), x.type] ++ octets x.payload

/-- Selective access (R416): the entries whose clock, the first column, lies in a range, or entries by number; then the columns selected. -/
def pickRows (sel : DlSel) (rows : List (List Int)) : List (List Int) :=
  let cut (cols : List Nat) (r : List Int) : List Int := if cols.isEmpty then r else cols.map fun c => r.getD (c - 1) 0
  match sel with
  | .range lo hi cols => (rows.filter fun r => decide ((lo : Int) ≤ r.headD 0) && decide (r.headD 0 ≤ (hi : Int))).map (cut cols)
  | .entry first last cols => (((if last = 0 then rows else rows.take last).drop (first - 1)).map (cut cols))

/-- The value of an attribute above 1 in a logical device; none where the object has no such value. -/
def State.dlValue (s : State) (r server ic ob attr : Nat) : Option (List Int) :=
  let k := ldOutlet server
  let c := ob / 2 ^ 24 % 256
  let d := ob / 2 ^ 16 % 256
  let e := ob / 2 ^ 8 % 256
  let dem (f : Nat × Nat → Nat) : Int := (f ((s.runDemand s.liveRegs).getD k (0, 0)) : Int)
  let mx := s.bill.dem.max.getD k (0, 0, 0, 0)
  match ic, attr with
  | 1, 2 =>
    if ob = obis 0 0 42 0 0 255 then some (octets (ldName server))
    else if ob = obis 0 0 97 98 0 255 then some [(s.dl.alarm : Int)]
    else if k < 24 then some [((b2n (s.tamperSet 0 k) + 2 * b2n (s.tamperSet 1 k) : Nat) : Int)]
    else some [((4 * b2n (s.tamperSet 2 0) + 8 * b2n (s.tamperSet 2 1) + 16 * b2n (s.tamperSet 3 0) + 32 * b2n (s.tamperSet 4 1) : Nat) : Int)]
  | 3, 2 => some [s.regValue k c d e]
  | 3, 3 => some (scalerUnit c d)
  | 5, 2 => some [dem (if c = 1 then (·.1) else (·.2))]
  | 5, 4 => some (scalerUnit c 7)
  | 5, 8 => some [((s.demStep / 1000 : Nat) : Int)]
  | 5, 9 => some [(s.demSubs : Int)]
  | 4, 2 => some [((if c = 1 then mx.1 else mx.2.2.1 : Nat) : Int)]
  | 4, 3 => some (scalerUnit c 7)
  | 4, 5 => some [((if c = 1 then mx.2.1 else mx.2.2.2 : Nat) : Int)]
  | 7, 2 => some (s.profileRows k ob).flatten
  | 7, 3 => some (Config.captureObjects ob)
  | 7, 4 => some [if ob = obis 1 0 99 1 0 255 then ((s.demStep / 1000 : Nat) : Int) else 0]
  | 7, 5 => some [1]
  | 7, 7 => some [((s.profileRows k ob).length : Int)]
  | 7, 8 => some [((s.profileRows k ob).length : Int)]
  | 8, 2 => some [(s.bill.time : Int)]
  | 8, 3 => some [sfld s.cfg.bill 8 2]
  | 8, 4 => some [((b2n s.bill.unver : Nat) : Int)]
  | 8, 5 => some (dstDate ((s.cfg.bill.drop 12).take 4))
  | 8, 6 => some (dstDate ((s.cfg.bill.drop 16).take 4))
  | 8, 7 => some [(u8 s.cfg.bill 10 : Int)]
  | 8, 8 => some [if u8 s.cfg.bill 10 = 0 then 0 else 1]
  | 9, 2 => some (if ob = obis 0 0 10 0 1 255 then [1] else if k < 24 then [1, 2] else [3, 4, 5, 6])
  | 11, 2 => some (octets ((s.cfg.calActive.drop 2192).take (8 * u8 s.cfg.calActive 4)))
  | 15, 2 => some ((dlObjects.filter fun x =>
      match groupIn r server x.1 x.2.1 with
      | some g => sees r g && (x.2.2.1 == 0 || (x.2.2.1 == 1) == (server == 1))
      | none => false).map fun x => [(x.1 : Int), x.2.1]).flatten
  | 15, 3 => some [[16, 32, 48, 64, 96].getD r 0, (server : Int)]
  | 17, 2 => some ([1] ++ (List.range 24).map fun n => 16 + (n : Int))
  | 20, 2 => some (octets ((s.cfg.calActive.drop 8).take 4))
  | 20, 3 => some (octets ((s.cfg.calActive.drop 16).take 64))
  | 20, 4 => some (octets ((s.cfg.calActive.drop 80).take 64))
  | 20, 5 => some (octets ((s.cfg.calActive.drop 144).take 2048))
  | 20, 6 => some (octets ((s.cfg.calPassive.drop 8).take 4))
  | 20, 7 => some (octets ((s.cfg.calPassive.drop 16).take 64))
  | 20, 8 => some (octets ((s.cfg.calPassive.drop 80).take 64))
  | 20, 9 => some (octets ((s.cfg.calPassive.drop 144).take 2048))
  | 20, 10 => some [((s.store.activateAt.getD 0 : Nat) : Int)]
  | 21, 2 => some (s.store.thrs.map fun v => (v : Int))
  | 21, 4 => some ((List.range 4).map fun i => [(obis 0 0 10 0 107 255 : Int), (i : Int) + 1]).flatten
  | 21, 3 => some [5, (obis 1 0 1 4 0 255 : Int), 2]
  | 22, 4 => some [(u8 s.cfg.bill 4 : Int), u8 s.cfg.bill 3]
  | 64, 2 => some [3]
  | 64, 3 => some [(s.dlCfg r 0 : Int)]
  | 64, 5 => some (octets systemTitle)
  | 70, 2 => some [if s.store.disc.getD k 1 = 1 then 1 else 0]
  | 70, 3 => some [(s.store.disc.getD k 1 : Int)]
  | 70, 4 => some [4]
  | 71, 3 => some [s.limitW k]
  | 71, 4 => some [s.limitW k]
  | 111, 2 => some [(s.creditState (s.ldAccount k) : Int)]
  | 111, 5 =>
    let x := s.acct (s.ldAccount k)
    some [x.balance + if bit x.flags 3 then (x.ecLimit : Int) else 0]
  | 112, 2 => some [(s.acct (s.ldAccount k)).balance]
  | 112, 6 => some [((s.acct (s.ldAccount k)).ecLimit : Int)]
  | 113, 2 => some [(s.o (outletArg [BitVec.ofNat 8 k] 0)).ses.debited]
  | _, _ => none

/-! ### Requests -/

/-- What stands before a request (R419 to R423): its association, that its key stands, its protection (bit 0 authenticated, bit 1
encrypted), and that its invocation counter is newer than the last under the key. The request is then given the client's number, the association and the state. -/
def State.request (s : State) (a prot ivc : Nat) (f : Nat → Assoc → State → State) : State :=
  match s.dl.assocs[a]? with
  | none => match s.dl.tunnel with
    | some t => s.tunnelEnd t.channel []
    | none => s
  | some x =>
    let r := (clientIdx x.client).getD 0
    if !s.transportOpen x.transport then s.tunnelEnd x.channel []
    else if r ≠ 0 && (x.dead || !s.slotValid x.ek || !s.slotValid x.ak) then (s.endAssoc a 4).tunnelEnd x.channel []
    else if r ≠ 0 && prot ≠ 3 then
      (s.evtSecurity 3 x.client).respond x.client x.server x.transport x.channel 0xFD []
    else
      let s := s.modDl fun d => { d with assocs := d.assocs.set a { x with last := s.up } }
      let old := s.dl.ivc.find? fun e => e.1 == x.ek
      if r ≠ 0 && (match old with
          | some e => decide (ivc ≤ e.2)
          | none => false) then
        (s.evtSecurity 1 x.client).respond x.client x.server x.transport x.channel 0xFE []
      else
        let s := if r = 0 then s else s.modDl fun d => { d with ivc := assocPut d.ivc x.ek ivc }
        f r { x with last := s.up } s

/-- The response of an association's request. -/
def State.answer (s : State) (x : Assoc) (result : Nat) (vals : List Int) : State :=
  s.respond x.client x.server x.transport x.channel result vals

/-- A write that took effect commits the invocation counter it came with (R422). -/
def State.commitIvc (s : State) (x : Assoc) : State :=
  { s with store := { s.store with ivc := match s.dl.ivc.find? fun e => e.1 == x.ek with
    | some e => assocPut s.store.ivc e.1 e.2
    | none => s.store.ivc } }

/-- The result and the value of one item of a GET (R424 to R426, R432): 3 where the client has no right, 4 for an unknown object, 11 for an
attribute without a value. Of the activity calendar only the passive attributes are readable. -/
def State.dlGet (s : State) (r : Nat) (x : Assoc) (i : DlItem) : Nat × List Int :=
  match groupIn r x.server i.ic i.obis with
  | none => (4, [])
  | some g =>
    if i.attr = 1 then (if sees r g then (0, octets (toLE 6 i.obis).reverse) else (3, []))
    else if !(rightsOf r g).1 || (i.ic = 20 && i.attr < 6) then (3, [])
    else
      let v := match i.ic, i.attr, i.sel with
        | 7, 2, some sel => some (pickRows sel (s.profileRows (ldOutlet x.server) i.obis)).flatten
        | _, _, _ => s.dlValue r x.server i.ic i.obis i.attr
      match v with
      | some v => (0, v)
      | none => (11, [])

/-- The state with the blocks of association `a` that are still to be fetched. -/
def State.setBlocks (s : State) (a : Nat) (n : Nat) (l : List Bytes) : State :=
  let f (x : Assoc) : Assoc := { x with blocks := l, blockNo := n }
  s.modDl fun d => { d with assocs := modAt d.assocs a f }

/-- The response to a GET: whole where it fits the PDU of the transport, else by block transfer (R416, R434, R435). -/
def State.answerAll (s : State) (a : Nat) (x : Assoc) (l : List (Nat × List Int)) : State :=
  let n := blockSize x.client x.transport
  let b := Config.dlmsResponse x.client l
  if b.length ≤ n + 12 then (s.setBlocks a 0 []).respondAll x.client x.server x.transport x.channel l
  else
    let bs := cutBlocks n b.length b
    ((s.setBlocks a 1 (bs.drop 1)).modDl fun d => { d with resp := l }).sendApdu x.client x.server x.transport x.channel
      (Config.dlmsBlock x.client false 1 (bs.headD []))

/-- The next block of a long response (R416): 15 where none is in progress, 19 for another block number. -/
def State.nextBlock (s : State) (a : Nat) (x : Assoc) (n : Nat) : State :=
  match x.blocks with
  | [] => s.answer x 15 []
  | b :: t =>
    if n ≠ x.blockNo then s.answer x 19 []
    else (s.setBlocks a (n + 1) t).sendApdu x.client x.server x.transport x.channel (Config.dlmsBlock x.client t.isEmpty (n + 1) b)

/-- DLMS_GET (R416, R424 to R426, R432). -/
def execDlmsGet (a : Nat) (g : DlGet) (prot ivc : Nat) (s : State) : Out :=
  s.apdu (.dlmsGet a g prot ivc) fun s => s.request a prot ivc fun r x s =>
    match g with
    | .items l => if l.isEmpty || 10 < l.length then s.answer x 250 [] else s.answerAll a x (l.map (s.dlGet r x))
    | .next n => s.nextBlock a x n

/-- A mailbox status as a DLMS result (R433). -/
def dlResult (status : Nat) : Nat :=
  match status with
  | 0 => 0
  | 2 => 2
  | 3 => 2
  | 6 => 2
  | 4 => 3
  | 7 => 3
  | 5 => 12
  | 9 => 1
  | _ => 250

/-- The draft of an association: a copy of the passive image at its first use (R427). -/
def State.draftOf (s : State) (x : Assoc) : Bytes :=
  x.draft.getD (if s.cfg.calPassive.isEmpty then [1] ++ zeros 2703 else s.cfg.calPassive)

/-- A calendar image with its CRC set (R396). -/
def withCrc (c : Bytes) : Bytes := overlay c 12 (toLE 4 (crc32c (c.take 12 ++ c.drop 16)))

/-- A SET of a passive attribute of the activity calendar: into the draft (R427). -/
def draftSet (c : Bytes) (attr : Nat) (val : Bytes) : Bytes :=
  match attr with
  | 6 => overlay c 8 (padTo 4 val)
  | 7 => overlay (overlay c 1 (val.take 1)) 16 (padTo 64 (val.drop 1))
  | 8 => overlay (overlay c 2 (val.take 1)) 80 (padTo 64 (val.drop 1))
  | _ => overlay (overlay c 3 (val.take 1)) 144 (padTo 2048 (val.drop 1))

/-- A SET on an object of the client's rights: its result, and the state after it (R426, R427, R431). -/
def State.dlSet (s : State) (a : Nat) (x : Assoc) (ic ob attr : Nat) (val : Bytes) : Nat × State :=
  let k := ldOutlet x.server
  let n := ofLE val
  match ic with
  | 8 =>
    if attr ≠ 2 then (3, s)
    else if u8 s.cfg.bill 5 = 0 || s.bill.stepBusy then (2, s)
    else (0, s.setTime n 2)
  | 20 =>
    if 6 ≤ attr && attr ≤ 9 then
      (0, s.modDl fun d => { d with assocs := d.assocs.set a { x with draft := some (draftSet (s.draftOf x) attr val) } })
    else if attr = 10 then
      let c := withCrc (s.draftOf x)
      if s.store.activateAt.isSome then (2, s)
      else if !calendarOk c then (250, s)
      else if n ≤ s.bill.time then (12, s)
      else (0, ({ s with cfg := { s.cfg with calPassive := c }, store := { s.store with activateAt := some n } }).armBoundary)
    else (3, s)
  | 21 =>
    if attr ≠ 2 then (3, s)
    else (0, { s with store := { s.store with thrs := (List.range 4).map fun i => u32 val (4 * i) } })
  | 1 => if ob = obis 0 0 97 98 0 255 && attr = 2 then (0, s.modDl fun d => { d with alarm := n % 16 }) else (3, s)
  | 71 =>
    if attr ≠ 4 then (250, s)
    else
      let o := outletArg [BitVec.ofNat 8 k] 0
      let cap := if n = 0 then 0xFFFF else n * 10 / (max 1 (s.phases o * s.unom))
      if cap ≠ 0xFFFF && 400 < cap then (12, s)
      else (0, { s with cfg := { s.cfg with
        budOut := s.cfg.budOut.set o.val (overlay (s.cfg.budOut.get o) 2 (toLE 2 cap)) o.isLt } })
  | 112 =>
    if attr ≠ 6 then (3, s)
    else if 100000000 < n || 1024 ≤ s.ldAccount k then (12, s)
    else (0, s.queueCredit (.limit (s.ldAccount k) n) none)
  | _ => (3, s)

/-- The items of a SET one after another: their results, whether one took effect, and the state after them (R416, R432). -/
def State.dlSets (s : State) (a r : Nat) (x : Assoc) (l : List DlWrite) : List Nat × State :=
  l.foldl (fun (acc : List Nat × State) (w : DlWrite) =>
    let x := (acc.2.dl.assocs[a]?).getD x
    match groupIn r x.server w.ic w.obis with
    | none => (acc.1 ++ [4], acc.2)
    | some g =>
      if !(rightsOf r g).2.1 then (acc.1 ++ [3], acc.2)
      else
        let y := acc.2.dlSet a x w.ic w.obis w.attr w.val
        (acc.1 ++ [y.1], y.2)) ([], s)

/-- DLMS_SET (R416, R422, R426, R427, R431 to R433). -/
def execDlmsSet (a : Nat) (l : List DlWrite) (prot ivc : Nat) (s : State) : Out :=
  s.apdu (.dlmsSet a l prot ivc) fun s => s.request a prot ivc fun r x s =>
    if l.isEmpty || 10 < l.length then s.answer x 250 []
    else
      let y := s.dlSets a r x l
      (if y.1.contains 0 then y.2.commitIvc x else y.2).replyAfter s.cr.ops.length
        { client := x.client, server := x.server, transport := x.transport, channel := x.channel, results := y.1.map fun e => (e, []) }

/-- A tamper clear script: the kind and the index of its flag (12, Objects). -/
def tamperScript (k n : Nat) : Option (Nat × Nat) :=
  if k < 24 then (if n = 1 then some (0, k) else if n = 2 then some (1, k) else none)
  else match n with
    | 3 => some (2, 0)
    | 4 => some (2, 1)
    | 5 => some (3, 0)
    | 6 => some (4, 1)
    | _ => none

/-- The special days of a calendar image with one entry more, or without the entry at an index (R428); none where there is no
room or no such entry. -/
def specialEdit (c : Bytes) (insert : Bool) (val : Bytes) : Option Bytes :=
  let n := u8 c 4
  let tab := (c.drop 2192).take (8 * n)
  if insert then
    if 64 ≤ n then none
    else some (withCrc (overlay (overlay c 4 (toLE 1 (n + 1))) (2192 + 8 * n) (padTo 8 (val.take 5))))
  else
    let i := ofLE (val.take 2)
    if n ≤ i then none
    else some (withCrc (overlay (overlay c 4 (toLE 1 (n - 1))) 2192 (padTo 512 (tab.take (8 * i) ++ tab.drop (8 * i + 8)))))

/-- The special-day entry is dated on the present local date (R428). -/
def State.isToday (s : State) (e : Bytes) : Bool :=
  let (y, m, d) := civilDate (s.localTime s.bill.time / dayMs)
  (u16 e 0 == 0 || u16 e 0 == y) && u8 e 2 == m && u8 e 3 == d

/-- An ACTION on an object of the client's rights: its result, and the state after it (R423, R425 to R430, 13 R456). -/
def State.dlAct (s : State) (x : Assoc) (ic ob method : Nat) (val : Bytes) : Nat × State :=
  let k := ldOutlet x.server
  let o := outletArg [BitVec.ofNat 8 k] 0
  match ic with
  | 8 =>
    if method ≠ 6 then (3, s)
    else if u8 s.cfg.bill 5 = 0 || s.bill.stepBusy then (2, s)
    else (0, s.setTime ((s.bill.time : Int) + 1000 * sfld val 0 2).toNat 2)
  | 9 =>
    if method ≠ 1 then (3, s)
    else if ob = obis 0 0 10 0 1 255 then
      if ofLE val ≠ 1 then (12, s) else if s.bill.closeAt.isSome then (2, s) else (0, s.armClose 2 none)
    else match tamperScript k (ofLE val) with
      | none => (12, s)
      | some f =>
        if s.tamperActive f.1 f.2 then (2, s)
        else (0, if s.tamperSet f.1 f.2 then s.tamperClear 1 f else s)
  | 11 =>
    if s.store.activateAt.isSome then (2, s)
    else
      let ins := method == 1
      let e := if ins then val else (s.cfg.calActive.drop (2192 + 8 * ofLE (val.take 2))).take 8
      if s.isToday e then (2, s)
      else match specialEdit s.cfg.calActive ins val with
        | none => (250, s)
        | some c =>
          if !calendarOk c then (12, s)
          else if ins && !s.cfg.calPassive.isEmpty && (specialEdit s.cfg.calPassive ins val).isNone then (250, s)
          else
            let p := (specialEdit s.cfg.calPassive ins val).getD s.cfg.calPassive
            (0, ({ s with cfg := { s.cfg with
              calActive := c, calPassive := if s.cfg.calPassive.isEmpty then [] else p } }).armBoundary)
  | 20 =>
    if method ≠ 1 then (3, s)
    else if s.store.activateAt.isSome || s.cfg.calPassive.isEmpty then (2, s)
    else (0, ({ s with store := { s.store with activateAt := some (s.bill.time / 1000 * 1000 + 1000) } }).armBoundary)
  | 70 =>
    if method = 1 then
      if s.control o = 0 then (0, s) else (0, (s.setControl o 0).sessTo o .outOfService 14)
    else if method = 2 then (if s.control o = 0 then (0, s.setControl o 2) else (2, s))
    else (3, s)
  | 64 => if method = 1 && bit (u8 val 0) 0 && bit (u8 val 0) 1 then (0, s) else (250, s)
  | 115 =>
    if method ≠ 1 then (3, s)
    else if val.length ≠ 20 || !(val.all fun b => 48 ≤ b.toNat && b.toNat ≤ 57) then (12, s)
    else
      let y := s.enterVoucher (val.map fun b => b.toNat - 48) 2 none
      (if y.1 = 0 then 0 else if y.1 = 7 || y.1 = 9 then 2 else 250, y.2.2)
  | 7 => (250, s)
  | _ => (3, s)

/-- DLMS_ACTION (R422, R423, R426 to R430, R432, R433). Methods capture and reset of a profile, and key_transfer of a security
setup, are refused with other-reason whoever asks (R423, R425). -/
def execDlmsAction (a ic ob method : Nat) (val : Bytes) (prot ivc : Nat) (s : State) : Out :=
  s.apdu (.dlmsAction a ic ob method val prot ivc) fun s =>
    s.request a prot ivc fun r x s =>
      match groupIn r x.server ic ob with
      | none => s.answer x 4 []
      | some g =>
        if !(rightsOf r g).2.2 && !(ic = 7 && sees r g) then s.answer x 3 []
        else
          let y := s.dlAct x ic ob method val
          (if y.1 = 0 then y.2.commitIvc x else y.2).replyAfter s.cr.ops.length
            { client := x.client, server := x.server, transport := x.transport, channel := x.channel, results := [(y.1, [])] }

/-! ### Commands -/

/-- The wrapper header of a tunnelled APDU is well formed (R434, R436). -/
def wrapperOk (b : Bytes) : Bool :=
  8 ≤ b.length && b.take 2 == [0, 1] && ofBE ((b.drop 6).take 2) + 8 ≤ b.length

/-- DLMS_TUNNEL (R436): the request is answered by the row of its service; LEN 0 where no response is due. -/
def execDlmsTunnel (q : Req) (s : State) : Out :=
  let r := q.bulk.getD (0, 0)
  mail { op := 0x0901, pair := 5, lo := 4, hi := 4, bulk := 1 } q s (u8 q.payload 0 ≤ 7) fun s =>
    if !wrapperOk (s.bulkGet 5 r) then s.no 5
    else if !bit (u8 s.cfg.dlms 0) 2 then s.no 6
    else (s.modDl fun d => { d with tunnel := some { tag := q.tag, channel := u8 q.payload 0, boff := r.1, blen := r.2 } }).wait

/-- DLMS_CONFIG_SET fields in range (R437). -/
def dlmsCfgOk (p : Bytes) : Bool :=
  u8 p 0 ≤ 7 && (List.range 4).all fun r => u8 p (4 + 4 * r) ≤ 1 && u8 p (5 + 4 * r) ≤ 1

/-- DLMS_CONFIG_SET (R437). -/
def execDlmsConfigSet (q : Req) (s : State) : Out :=
  let p := q.payload
  mail { op := 0x0902, pair := 5, lo := 20, hi := 20 } q s (dlmsCfgOk p) fun s =>
    if (List.range 4).any fun r => !s.slotHas (u8 p (6 + 4 * r)) 1 || !s.slotHas (u8 p (7 + 4 * r)) 1 then s.no 4
    else (({ s with cfg := { s.cfg with dlms := p.take 1 ++ zeros 3 ++ p.drop 4 } }).effect 5 q.tag 0x0902).ok

/-- DLMS_CONFIG_GET (R437). -/
def execDlmsConfigGet (q : Req) (s : State) : Out :=
  mail { op := 0x0903, pair := 5 } q s true fun s => s.ok s.cfg.dlms

/-- DLMS_ASSOC_LIST (R438). -/
def execDlmsAssocList (q : Req) (s : State) : Out :=
  mail { op := 0x0904, pair := 5 } q s true fun s =>
    let row (a : Assoc) : Bytes :=
      toLE 1 a.client ++ toLE 1 a.server ++ toLE 1 a.transport ++ toLE 1 a.channel ++ toLE 2 ((s.up - a.last) / 1000)
    s.ok (toLE 1 s.dl.assocs.length ++ zeros 1 ++ (s.dl.assocs.map row).flatten)

/-- DLMS_ASSOC_ABORT (R439). -/
def execDlmsAssocAbort (q : Req) (s : State) : Out :=
  let t := u8 q.payload 0
  let c := u8 q.payload 1
  mail { op := 0x0905, pair := 5, lo := 2, hi := 2 } q s true fun s =>
    let hit (a : Assoc) : Bool := (t == 0xFF || a.transport == t) && (c == 0xFF || a.channel == c)
    let gone := s.dl.assocs.filter hit
    let s := s.modDl fun d => { d with assocs := d.assocs.filter fun a => !hit a }
    (gone.foldl (fun s a => s.evtAssoc 5 a.client a.server a.transport a.channel) s).ok (toLE 1 gone.length)

end Sys2Proof.Machine
end

