-- ==== Sys2Proof/Machine/Maint.lean ====
section
/-! DEFINITION. Maintenance activities and their arbiter (20). -/

namespace Sys2Proof.Machine

/-- What an activity claims (20, claims): 0 O(n), 1 T(n), 2 G(n), 3 LN, 4 NB, 5 P, 6 B(k). -/
def MaAct.resources (a : MaAct) : List (Nat × Nat) :=
  match a.act with
  | 1 => [(0, a.index), (1, a.index)]
  | 2 => [(0, a.index), (1, a.index)]
  | 3 => [(0, a.index), (1, a.index)]
  | 4 => (2, a.index) :: (if a.mode = 0 && a.index < 24 then [(0, a.index)] else [])
  | 5 => [(0, a.index)]
  | 6 => [(3, 0)]
  | 7 => [(4, 0)]
  | 8 => [(5, 0)]
  | 9 => [(6, a.index)]
  | _ => []

/-- The claims of two activities overlap (R625). -/
def MaAct.meets (a b : MaAct) : Bool := a.resources.any fun r => b.resources.contains r

/-- The outlet that an activity names, outlet 0 where it names none. -/
def MaAct.outlet (a : MaAct) : ONum := if h : a.index < 24 then ⟨a.index, h⟩ else 0

/-- One row of R626 in one direction. -/
def MaAct.row (a b : MaAct) : Bool :=
  (a.act == 1 && b.act == 4 && a.index == b.index)
    || (a.act == 6 && b.act == 4 && 24 ≤ b.index)
    || (a.act == 8 && b.act == 4 && b.mode == 0)

/-- A pair of the conflict table (R626). -/
def MaAct.conflicts (a b : MaAct) : Bool := a.row b || b.row a

/-- Test 1 of R625. -/
def MaAct.inRange (a : MaAct) : Bool :=
  match a.act with
  | 1 => a.index < 24
  | 2 => a.index < 24
  | 3 => a.index < 24
  | 4 => a.index < 26 && a.mode ≤ 1 && (a.mode == 1 || (1 ≤ a.param && a.param ≤ 600))
  | 5 => a.index < 24
  | 6 => true
  | 7 => a.index < 4
  | 8 => true
  | 9 => a.index < 4
  | _ => false

/-- The domains that an activity needs are on (R628 cause 5). -/
def State.maPowered (s : State) (a : MaAct) : Bool := a.domains.all s.domOn

/-- The precondition of an activity (20, Allowed when; test 4 of R625). -/
def State.maAllowed (s : State) (a : MaAct) : Bool :=
  match a.act with
  | 1 => !s.coil a.outlet && !(s.o a.outlet).sw.sswen && !(s.o a.outlet).prot.stRun
  | 2 => s.pilotState a.outlet == 0
  | 3 => !s.coil a.outlet
  | 4 => a.mode == 1 || 24 ≤ a.index || !s.energised a.outlet
  | 5 => s.pilotState a.outlet == 0
  | 8 => !s.confirmPending
  | 9 => !s.limpOn
  | _ => true

/-- Tests 2 to 4 of R625: the status of the first that fails. -/
def State.maRefuses (s : State) (a : MaAct) : Option Nat :=
  if a.resources.contains (0, a.index) && ((s.o a.outlet).ses.st == .energising || s.coil a.outlet) then some 3
  else if s.maint.any fun b => b.tag != a.tag && a.conflicts b then some 3
  else if !(s.maPowered a && s.maAllowed a) then some 6
  else none

/-- MA_STATE (20). -/
def State.evtMaint (s : State) (a : MaAct) (st : Nat) : State :=
  s.emit 13 0x1181 (toLE 2 a.tag ++ toLE 1 a.act ++ toLE 1 st ++ toLE 8 s.bak.rtc)

/-- The claims of an activity overlap no running one (R625). -/
def State.maFree (s : State) (a : MaAct) : Bool := !(s.maint.any fun b => b.running && a.meets b)

/-- An activity starts; reference calibration abandons a visit of its group (R322). -/
def State.maBegin (s : State) (a : MaAct) : State :=
  let s := { s with maint := s.maint.map fun (b : MaAct) => if b.tag == a.tag then { b with running := true } else b }
  let s := if a.act = 4 && a.mode = 0 && s.met.visitG == some a.index then s.abandonVisit else s
  s.evtMaint a 0

/-- The final completion of an MA_START, with results in the completion or in its bulk region; none where it is not in flight. -/
def State.maReply (s : State) (a : MaAct) (status : Nat) (head data : Bytes) : State :=
  match a.bulk with
  | some r => (s.bulkPut 13 r data).finishWith 13 a.tag status head (if data.isEmpty then none else some r)
  | none => s.finish 13 a.tag status (head ++ data)

/-- An activity leaves the arbiter with OK and a RESULT (R632); a running one emits MA_STATE. -/
def State.maFinish (s : State) (a : MaAct) (result cause : Nat) (data : Bytes) : State :=
  let s := { s with maint := s.maint.filter fun b => b.tag != a.tag }
  let s := s.maReply a 0 (toLE 1 result ++ toLE 1 cause ++ zeros 2) data
  if a.running then s.evtMaint a 1 else s

/-- An activity leaves the queue with a final status (R625). -/
def State.maReject (s : State) (a : MaAct) (status : Nat) : State :=
  ({ s with maint := s.maint.filter fun b => b.tag != a.tag }).maReply a status [] []

/-- Every activity of a list ends early with a cause (R628). -/
def State.maAbortAll (s : State) (cause : Nat) : List MaAct → State
  | [] => s
  | a :: t => State.maAbortAll (s.maFinish a 2 cause []) cause t

/-- DG and DP of the channels of a group as a background calibration window left them (20, code 4), within the limits of a visit. -/
def State.maTerms (s : State) : List (Nat × Int × Int) → State
  | [] => s
  | (c, dg, dp) :: t =>
    let k := s.gainOf c
    State.maTerms (if -2000 ≤ dg && dg ≤ 2000 && -200 ≤ dp && dp ≤ 200 then
        s.modCh c fun x => { x with dg := x.dg.set k dg, dp := x.dp.set k dp, visit := x.visit.set k s.bak.rtc }
      else s) t

/-- The measurements are those of the activity. -/
def MaAct.fits (a : MaAct) (m : MaMeas) : Bool :=
  match m with
  | .rcd _ _ _ _ => a.act == 1
  | .weld _ _ _ _ _ _ => a.act == 2
  | .ssw _ _ _ => a.act == 3
  | .reference _ => a.act == 4 && a.mode == 0
  | .window _ => a.act == 4 && a.mode == 1
  | .pilot _ => a.act == 5
  | .loop _ _ => a.act == 6
  | .nand _ _ => a.act == 7
  | .panel _ => a.act == 8
  | .lamp _ => a.act == 9

/-- What step a or b of the pair test of MA_WELDTEST finds (R232). -/
def State.maPair (s : State) (a b : Nat × Nat × Nat) : Option Nat :=
  match pairVerdict false a.1 a.2.1 a.2.2 s.pwr.vkc with
  | some f => some f
  | none => pairVerdict true b.1 b.2.1 b.2.2 s.pwr.vkc

/-- The activity passes (20, table of activities): MA_RCDTEST against R195, R199 and R200; MA_LAMPTEST against R556. For the activities to which
the table gives no limit the model takes the outcome of the work itself (log entry 32). -/
def State.maPass (s : State) (a : MaAct) (m : MaMeas) : Bool :=
  match m with
  | .rcd dc fast ac apex =>
    decide (30 ≤ dc) && decide (dc ≤ 60) && decide (fast ≤ 80) && decide (5 * s.rcAc a.outlet ≤ ac) && decide (ac ≤ 10 * s.rcAc a.outlet) && apex
  | .weld before x y _ pres after =>
    before == 0 && (s.maPair x y).isNone && pres &&& s.phaseMask a.outlet == s.phaseMask a.outlet && after == 0
  | .ssw ready apex _ => decide (ready ≤ 100) && apex
  | .loop ok _ => ok
  | .panel dead => dead.isEmpty
  | .lamp cur => (List.range 6).all fun i =>
    let thr := u8 (s.cfg.lsw.getD (6 * a.index + i) []) 4
    thr == 0 || decide (thr ≤ cur.getD i 0)
  | _ => true

/-- What an activity reports, in the order of the table (R632). -/
def measData (m : MaMeas) : Bytes :=
  match m with
  | .rcd dc fast ac apex => Config.maReport 1 [(dc : Int), fast, ac, b2n apex]
  | .weld _ _ _ kfb pres _ => Config.maReport 2 [(kfb : Int), pres]
  | .ssw ready _ fall => Config.maReport 3 [(ready : Int), fall]
  | .reference vals => Config.maReport 4 vals.flatten
  | .window terms => Config.maReport 4 (terms.flatMap fun t => [t.1, t.2])
  | .pilot offs => Config.maReport 5 offs
  | .loop _ terms => Config.maReport 6 (terms.flatMap fun t => [t.1, t.2])
  | .nand r w => Config.maReport 7 [(r : Int), w]
  | .panel dead => (List.range 960).map fun i => BitVec.ofNat 8 (maskOf ((dead.filter fun p => p / 8 == i).map fun p => p % 8))
  | .lamp cur => Config.maReport 9 (cur.map fun c => (c : Int))

/-- What the work of an activity leaves beside its report (20, table of activities): a failed pair test its fault (R232), a weld WELD and SF3, a
failed SSW test SSW_DRV, a background calibration its terms, a loopback the modem's calibration. -/
def State.maEffect (s : State) (a : MaAct) (m : MaMeas) : State :=
  match m with
  | .weld _ x y _ _ after =>
    let s := match s.maPair x y with
      | some f => if f = 0 then s else s.raise f a.index x.2.2
      | none => s
    if after ≠ 0 then s.weld a.outlet after else s
  | .ssw _ _ _ => if s.maPass a m then s else s.raise 47 a.index 0
  | .window terms => s.maTerms (List.zipWith (fun c t => (c, t.1, t.2)) (chansOf a.index) terms)
  | .loop ok _ => if ok then { s with line := { s.line with cal := true } } else s
  | _ => s

/-- The cause for which a running activity has to end early, if there is one (R628). -/
def State.maLost (s : State) (a : MaAct) : Option Nat :=
  match a.abort with
  | some c => some c
  | none =>
    if !s.maPowered a then some 5
    else if !(a.act == 1 || a.act == 3) && !s.maAllowed a then some 4
    else none

/-- MA_ACTIVITY_END (R628, R632): the work of an activity ends with its measurements, or it ends early. -/
def execMaActivityEnd (tag : Nat) (m : MaMeas) (s : State) : Out :=
  match s.maint.find? fun a => a.tag == tag && a.running with
  | none => .next s
  | some a => .next (match s.maLost a with
    | some c => s.maFinish a 2 c []
    | none => if a.fits m then (s.maEffect a m).maFinish a (b2n (!s.maPass a m)) 0 (measData m) else s)

/-- The first queued activity whose claims are free (R625). -/
def State.maNext (s : State) : Option MaAct := s.maint.find? fun a => !a.running && s.maFree a

/-- MA_ACTIVITY_START (R625): tests 2 to 4 are applied again. -/
def execMaActivityStart (s : State) : Out :=
  .next (match s.maNext with
    | none => s
    | some a => match s.maRefuses a with
      | some st => s.maReject a st
      | none => s.maBegin a)

/-- MA_QUEUE_TIMEOUT (R625): 600 s in the queue. -/
def execMaQueueTimeout (tag : Nat) (s : State) : Out :=
  .next (match s.maint.find? fun a => a.tag == tag && !a.running && decide (a.since + 600000 ≤ s.up) with
    | none => s
    | some a => s.maReject a 8)

/-- The activities that take a bulk region: 4 and 8 (R632). -/
def MaAct.bulkFits (a : MaAct) : Bool := a.bulk.isSome == (a.act == 4 || a.act == 8)

/-- The region of the panel scan is too short for one bit for each pixel (R632, R733). -/
def MaAct.regionShort (a : MaAct) : Bool :=
  match a.bulk with
  | none => false
  | some r => a.act == 8 && decide (r.2 < 960)

/-- MA_START (R625, R632): QUEUED, and the activity starts at once where its claims are free. -/
def execMaStart (q : Req) (s : State) : Out :=
  let p := q.payload
  let a : MaAct := {
    tag := q.tag, act := u8 p 0, index := u8 p 1, mode := u8 p 2, param := u32 p 4, bulk := q.bulk, since := s.up }
  let c : Cmd := { op := 0x1110, pair := 13, lo := 8, hi := 8, bulk := 2 }
  let fits := a.inRange && a.bulkFits
  let refused := if a.regionShort then some 5 else match s.maRefuses a with
    | some st => some st
    | none => if 8 ≤ (s.maint.filter fun b => !b.running).length then some 0x0C else none
  match refused with
  | some st => mail c q s fits fun s => s.no st
  | none => mailQ c q s fits fun s =>
    let s := { s with maint := s.maint ++ [a] }
    (if s.maFree a then s.maBegin a else s).wait

/-- MA_ABORT (R628 cause 1, R633). -/
def execMaAbort (q : Req) (s : State) : Out :=
  mail { op := 0x1111, pair := 13, lo := 2, hi := 2 } q s true fun s =>
    match s.maint.find? fun a => a.tag == u16 q.payload 0 with
    | none => s.no 6
    | some a => (s.maFinish a 2 1 []).ok

/-- The entries of MA_STATUS; the progress of a running activity is a free value (log entry 8). -/
def State.maEntries (s : State) : List MaAct → Bytes × State
  | [] => ([], s)
  | a :: t =>
    let d := if a.running then s.draw else (0, s)
    let r := State.maEntries d.2 t
    (toLE 2 a.tag ++ toLE 1 a.act ++ toLE 1 a.index ++ toLE 1 (b2n a.running) ++ toLE 1 (d.1 % 101) ++ r.1, r.2)

/-- MA_STATUS (R634). -/
def execMaStatus (q : Req) (s : State) : Out :=
  mail { op := 0x1112, pair := 13 } q s true fun s =>
    let e := s.maEntries s.maint
    e.2.ok (toLE 1 s.maint.length ++ zeros 1 ++ e.1)

end Sys2Proof.Machine
end

