-- ==== Sys2Proof/Machine/Keys.lean ====
section
/-! DEFINITION. The key store (19): slots, revocation, key update messages, derivation, and the key commands. -/

namespace Sys2Proof.Machine

/-- The state with the engines' state changed. -/
def State.modKey (s : State) (f : Keys → Keys) : State := { s with key := f s.key }

/-- KEY_CHANGED (19). -/
def State.evtKey (s : State) (n kind root : Nat) : State :=
  s.emit 11 0x1080 (toLE 1 n ++ toLE 1 kind ++ toLE 1 (s.slot n).cls ++ toLE 1 root ++ toLE 4 (s.slot n).gen ++ toLE 8 s.bak.rtc)

/-- `a` is an ancestor of slot `n` within `k` steps up (R590). -/
def State.isAncestor (s : State) (a : Nat) : Nat → Nat → Bool
  | 0, _ => false
  | k + 1, n =>
    let p := (s.slot n).parent
    (s.slot n).state != 0 && p != 0xFF && (p == a || State.isAncestor s a k p)

/-- The valid descendants of slot `n`, in slot order (R590, R602). -/
def State.descendants (s : State) (n : Nat) : List Nat :=
  (List.range 256).filter fun m => m != n && (s.slot m).state == 1 && s.isAncestor n 256 m

/-- What holds the key of slot `n` reacts to its revocation (R603). -/
def State.keyRevoked (s : State) (n : Nat) : State :=
  (((s.v2gRevoked n).dlRevoked n).lineRevoked n).tagRevoked n

/-- A slot revoked, its material erased (R602). -/
def State.revokeSlot (s : State) (n : Nat) : State := s.setSlot n { s.slot n with state := 2, mat := [] }

/-- A slot and its descendants revoked in the same instant; then their holders react (R602, R603). `root` goes with KIND `kind`. -/
def State.revokeTree (s : State) (n kind : Nat) : State :=
  let l := s.descendants n
  let was := s.slot n
  let s := if was.state = 1 then s.keyRevoked n else s
  let s := l.foldl (fun s m => s.keyRevoked m) s
  let s := if kind = 4 then s.setSlot n { gen := was.gen } else if was.state = 1 then s.revokeSlot n else s
  let s := l.foldl State.revokeSlot s
  let s := if was.state = 1 || (kind = 4 && was.state ≠ 0) then s.evtKey n kind n else s
  l.foldl (fun s m => s.evtKey m 3 n) s

/-- One change of the store (R594): the generation advances, and the mirror in BAK takes the counters over. -/
def State.keyCommit (s : State) : State :=
  { s with
    store := { s.store with keyGen := wrapInc 32 s.store.keyGen }
    bak := { s.bak with keyCtr := s.store.keyCtr } }

/-- The attributes of a child of slot `parent` agree with it, and slot `n` is no ancestor of it (R590). -/
def State.childOf (s : State) (n parent engines uses cls : Nat) : Bool :=
  let p := s.slot parent
  parent != n && p.state == 1 && engines &&& p.engines == engines && uses &&& p.uses == uses && p.cls == cls
    && !s.isAncestor n 256 parent

/-- The USES of a trust anchor (R587). -/
def isAnchor (uses : Nat) : Bool := bit uses 8 || bit uses 9 || bit uses 10

/-- PARENT of an installation of a TYPE in slot `n` holds against R590: a trust anchor has none, a certificate names the key it certifies or the
certificate below it, and any child agrees with its parent. -/
def State.childOk (s : State) (n type parent engines uses cls : Nat) : Bool :=
  if parent = 0xFF then type != 16 || isAnchor uses
  else
    let t := (s.slot parent).type
    !isAnchor uses && (type != 16 || (3 ≤ t && t ≤ 10) || t == 16) && s.childOf n parent engines uses cls

/-- Bytes of material in the store. -/
def State.keyBytes (s : State) : Nat := (s.store.keys.map fun e => e.2.mat.length).foldl (· + ·) 0

/-- The revocation of an installation, without its events, which follow the event of the root. -/
def State.revokeQuiet (s : State) (n : Nat) (l : List Nat) : State :=
  let s := if (s.slot n).state = 1 then s.keyRevoked n else s
  let s := l.foldl (fun s m => s.keyRevoked m) s
  l.foldl State.revokeSlot s

/-- Slot `n` written with a new key (R599, R601): the old key and its descendants are revoked first, and GEN is one higher. -/
def State.installKey (s : State) (n kind : Nat) (x : Slot) : State :=
  let l := s.descendants n
  let s := s.revokeQuiet n l
  let s := s.setSlot n { x with state := 1, gen := wrapInc 32 (s.slot n).gen }
  l.foldl (fun s m => s.evtKey m 3 n) (s.evtKey n kind n)

/-! ### Key update messages -/

/-- A key update message (R596). -/
structure KeyMsg where
  auth : Nat
  wrap : Nat
  slot : Nat
  device : Nat
  counter : Nat
  op : Nat
  type : Nat
  engines : Nat
  uses : Nat
  parent : Nat
  cls : Nat
  epoch : Nat
  klen : Nat
  elen : Nat
  raw : Bytes
  deriving DecidableEq, Repr

/-- The fields of a message. -/
def parseKeyMsg (b : Bytes) : KeyMsg := {
  auth := u8 b 1, wrap := u8 b 2, slot := u8 b 3, device := fld b 4 8, counter := fld b 12 8, op := u8 b 20, type := u8 b 21,
  engines := u16 b 22, uses := u16 b 24, parent := u8 b 26, cls := u8 b 27, epoch := fld b 28 8, klen := u16 b 36,
  elen := u16 b 38, raw := b }

/-- Length of a secret of a TYPE (R587): 0 for public material. -/
def secretLen (type : Nat) : Nat :=
  match type with
  | 1 => 16
  | 2 => 32
  | 3 => 32
  | 4 => 48
  | 5 => 66
  | 6 => 57
  | _ => 0

/-- Length of an uncompressed public key of a TYPE, public or private (R608); 0 where there is none. -/
def publicLen (type : Nat) : Nat :=
  match type with
  | 3 => 65
  | 4 => 97
  | 5 => 133
  | 6 => 57
  | 7 => 65
  | 8 => 97
  | 9 => 133
  | 10 => 57
  | _ => 0

/-- KLEN fits TYPE, WRAP and OP (R596; a wrapped key has the length of AES-KWP): slot 2 is regenerated with WRAP 2 and KLEN 0
(R591). -/
def KeyMsg.keyLenOk (m : KeyMsg) : Bool :=
  if m.op ≠ 0 then m.wrap == 2 && m.klen == 0
  else if m.slot = 2 then m.wrap == 2 && m.klen == 0 && m.type == 4
  else if m.type = 16 then m.wrap == 2 && decide (1 ≤ m.klen) && decide (m.klen ≤ 2048)
  else if secretLen m.type ≠ 0 then m.wrap != 2 && m.klen == (secretLen m.type + 7) / 8 * 8 + 8
  else publicLen m.type != 0 && m.wrap == 2 && m.klen == publicLen m.type

/-- Length of SIG (R596). -/
def KeyMsg.sigLen (m : KeyMsg) : Nat := if m.auth = 0 then 96 else 16

/-- Step 1 of R598. -/
def KeyMsg.ok (m : KeyMsg) : Bool :=
  u8 m.raw 0 == 1 && (m.type ≤ 10 || m.type == 16) && m.auth ≤ 1 && m.wrap ≤ 2 && m.op ≤ 2 && m.engines < 1024 && m.uses < 2048 && m.cls ≤ 7
    && m.elen == (if m.wrap = 0 then 97 else 0) && m.keyLenOk && m.raw.length == 40 + m.elen + m.klen + m.sigLen
    && (m.epoch == 0 || (m.op == 0 && bit m.engines 4))

/-- The bytes that SIG covers. -/
def KeyMsg.covered (m : KeyMsg) : Bytes := m.raw.take (m.raw.length - m.sigLen)

/-- SIG. -/
def KeyMsg.sig (m : KeyMsg) : Bytes := m.raw.drop (m.raw.length - m.sigLen)

/-- Step 3 of R598: AUTH is permitted for SLOT (R591), and the signature or CMAC is right. -/
def State.keyAuthOk (s : State) (m : KeyMsg) : Bool :=
  m.slot != 0 && (m.auth == 0 || 16 ≤ m.slot) &&
    (if m.auth = 0 then s.slotValid 1 && Config.verify (s.slot 1).mat m.covered m.sig
     else m.cls != 0 && (s.slotRefuses (8 + m.cls) 3 3).isNone && m.sig == padTo 16 (Config.cmac (s.slot (8 + m.cls)).mat m.covered))

/-- KEY. -/
def KeyMsg.key (m : KeyMsg) : Bytes := (m.raw.drop (40 + m.elen)).take m.klen

/-- The key-wrapping key of WRAP 0 (R597): 256 bits of the KDF keyed with SHA-256 of the x-coordinate of ECDH between EPHEM and slot 2, with the
label MZ-WRAP and the context DEVICE, COUNTER, SLOT. -/
def State.wrapKey (s : State) (m : KeyMsg) : Bytes :=
  let z := Config.ecdh (s.slot 2).mat ((m.raw.drop 40).take m.elen)
  kdf ((Config.sha256 z).take 32) (ascii "MZ-WRAP") ((m.raw.drop 4).take 16 ++ (m.raw.drop 3).take 1) 32

/-- The material of an installation (R591, R597): unwrapped, in the clear, or drawn anew for slot 2; none where the unwrap fails. -/
def State.keyMaterial (s : State) (m : KeyMsg) : Option Bytes :=
  if m.slot = 2 then some (toLE 48 s.draw.1)
  else if m.wrap = 2 then some m.key
  else if m.wrap = 0 then Config.kwp (s.wrapKey m) m.key
  else if m.cls = 0 || !s.slotValid (8 + m.cls) then none
  else Config.kwp (s.slot (8 + m.cls)).mat m.key

/-- The message takes effect in one change (R594, R598, R599). -/
def State.applyKeyMsg (s : State) (m : KeyMsg) (mat : Bytes) (tag : Nat) : State :=
  let s := { s with store := { s.store with keyCtr := s.store.keyCtr.set m.cls m.counter } }
  let s := match m.op with
    | 0 =>
      let s := if m.slot = 2 then s.draw.2 else s
      let s := s.installKey m.slot (if m.slot = 2 then 5 else 0) {
        type := m.type, engines := m.engines, uses := m.uses, parent := m.parent, cls := m.cls, mat := mat }
      if m.epoch = 0 then s
      else { s with store := { s.store with
        epoch := m.epoch
        accts := s.store.accts.map fun (e : Nat × Account) => (e.1, { e.2 with used := [], lwm := 0 })
        siteMem := { s.store.siteMem with used := [], lwm := 0 } } }
    | 1 => s.revokeTree m.slot 2
    | _ => s.revokeTree m.slot 4
  s.keyCommit.effect 11 tag 0x1002

/-- KEY_UPDATE (R598 to R600, R605). -/
def execKeyUpdate (q : Req) (s : State) : Out :=
  let r := q.bulk.getD (0, 0)
  let m := parseKeyMsg (s.bulkGet 11 r)
  mailQ { op := 0x1002, pair := 11, bulk := 1 } q s true fun s =>
    let s := s.openGates [0, 1, 2]
    let fail (s : State) : Ans := (s.raise 103 m.slot 0).no 4
    if !m.ok then s.no 5
    else if m.device ≠ Config.uid.toNat then fail s
    else if !s.keyAuthOk m then fail s
    else if m.counter ≤ s.store.keyCtr.getD m.cls 0 then s.no 0xB
    else if m.op = 0 && m.slot = 2 && !s.key.trngOk then s.no 6
    else
      let old := s.slot m.slot
      if m.op ≠ 0 then
        if old.state ≠ 0 && old.cls ≠ m.cls then s.no 3
        else
          let s := s.applyKeyMsg m [] q.tag
          s.ok (toLE 1 m.slot ++ toLE 4 (s.slot m.slot).gen)
      else match s.keyMaterial m with
        | none => s.no 4
        | some mat =>
          if !s.childOk m.slot m.type m.parent m.engines m.uses m.cls || (old.state ≠ 0 && old.cls ≠ m.cls) then s.no 3
          else if Config.keyRoom < s.keyBytes + mat.length then s.no 0xC
          else
            let s := s.applyKeyMsg m mat q.tag
            s.ok (toLE 1 m.slot ++ toLE 4 (s.slot m.slot).gen)

/-! ### Commands and events -/

/-- KEY_INFO (R604). -/
def execKeyInfo (q : Req) (s : State) : Out :=
  let n := u8 q.payload 0
  mail { op := 0x1001, pair := 11, lo := 1, hi := 1 } q s true fun s =>
    let x := s.slot n
    let len := if x.state ≠ 1 then 0 else if x.type = 16 then x.mat.length else publicLen x.type
    s.ok (toLE 1 x.type ++ toLE 1 x.state ++ toLE 2 x.engines ++ toLE 2 x.uses ++ toLE 1 x.parent ++ toLE 1 x.cls ++ toLE 4 x.gen
      ++ toLE 2 len)

/-- KEY_DERIVE (R590, R601, R606). -/
def execKeyDerive (q : Req) (s : State) : Out :=
  let p := q.payload
  let a := u8 p 0
  let c := u8 p 1
  let eng := u16 p 4
  let use := u16 p 6
  mail { op := 0x1003, pair := 11, lo := 40, hi := 40 } q s
    (1 ≤ u8 p 2 && u8 p 2 ≤ 2 && 1 ≤ u8 p 3 && u8 p 3 ≤ 16 && decide (eng < 1024) && decide (use < 2048)) fun s =>
    match s.slotRefuses a 9 7 with
      | some st => s.no st
      | none =>
        if c < 16 || !s.childOf c a eng use (s.slot a).cls || isAnchor use then s.no 3
        else
          let s := s.openGates [1]
          let mat := kdf (s.slot a).mat ((p.drop 8).take (u8 p 3)) ((p.drop 24).take 16) (secretLen (u8 p 2))
          let s := s.installKey c 1 {
            type := u8 p 2, engines := eng, uses := use, parent := a, cls := (s.slot a).cls, mat := padTo (secretLen (u8 p 2)) mat }
          (s.keyCommit.effect 11 q.tag 0x1003).ok (toLE 4 (s.slot c).gen)

/-- KEY_REVOKE (R602, R607). -/
def execKeyRevoke (q : Req) (s : State) : Out :=
  let n := u8 q.payload 0
  mail { op := 0x1004, pair := 11, lo := 1, hi := 1 } q s (16 ≤ n) fun s =>
    if !s.slotValid n then s.no 6
    else
      let k := (s.descendants n).length + 1
      (((s.revokeTree n 2).keyCommit).effect 11 q.tag 0x1004).ok (toLE 1 k)

/-- KEY_PUBLIC_READ (R589, R608). A region shorter than the key takes its first bytes (log entry 65). -/
def execKeyPublicRead (q : Req) (s : State) : Out :=
  let n := u8 q.payload 0
  let r := q.bulk.getD (0, 0)
  mail { op := 0x1005, pair := 11, lo := 1, hi := 1, bulk := 1 } q s true fun s =>
    let x := s.slot n
    let k := if x.type = 16 then x.mat.length else publicLen x.type
    if x.state ≠ 1 || k = 0 then s.no 6
    else
      let b := if 7 ≤ x.type then x.mat else padTo k (Config.publicOf x.type x.mat)
      { st := s.bulkPut 11 r b, bulk := some (r.1, min r.2 k) }

/-- KEY_STATUS (R609). -/
def execKeyStatus (q : Req) (s : State) : Out :=
  mail { op := 0x1006, pair := 11 } q s true fun s =>
    let used := s.store.keys.filter fun e => e.2.state != 0
    let rev := s.store.keys.filter fun e => e.2.state == 2
    s.ok (toLE 4 s.store.keyGen ++ toLE 2 used.length ++ toLE 2 rev.length
      ++ toLE 1 (b2n s.key.trngOk + 2 * b2n s.key.rebuilt + 4 * b2n s.key.repaired) ++ zeros 3
      ++ (s.store.keyCtr.map (toLE 8)).flatten)

/-- TRNG_HEALTH_FAIL (R586): a failed test restarts the source; a restart that passes is transient, one that fails again latches
TRNG_HEALTH, and no fresh randomness is served until a later start. -/
def execTrngHealthFail (again : Bool) (test : Nat) (s : State) : Out :=
  onlyIf (s.domOn 6 && s.key.trngOk) s fun s =>
    if again then (s.modKey fun k => { k with trngOk := false, trngRestart := true }).raiseRetried 102 0xFFFF test
    else (s.modKey fun k => { k with trngRestart := true }).transient 102 0xFFFF test

/-- The slots of a list under new masks (R592). -/
def State.remask (s : State) : List Nat → State
  | [] => s
  | n :: t => State.remask (s.draw.2.modKey fun k => { k with masks := assocPut k.masks n s.draw.1 }) t

/-- What the SRAM holds of the key in slot `n`: the key XORed with its mask (R592). -/
def State.maskedKey (s : State) (n : Nat) : Bytes :=
  let b := (s.slot n).mat
  List.zipWith (· ^^^ ·) b (toLE b.length (lookupD s.key.masks n 0))

/-- KEY_REMASK (R592): every slot under a new mask, where randomness is served. -/
def execKeyRemask (s : State) : Out :=
  onlyIf (s.domOn 6 && s.key.trngOk) s fun s =>
    s.remask ((List.range 256).filter fun n => s.slotValid n)

end Sys2Proof.Machine
end

