-- ==== Sys2Proof/Machine/Replay.lean ====
section
/-! DEFINITION. Ledger replay at start step ST11, with the retention mirror folded in (11 R388 to R390, R405; 10 R345). -/

namespace Sys2Proof.Machine

/-- Replay uses the records up to the last complete commit, before the break `brk` (a GEN) where there is one (R382, R390). -/
def replayed (l : List LRec) (brk : Nat) : List LRec :=
  (if brk = 0 then l else l.dropWhile fun r => !older32 r.gen brk).dropWhile fun r => r.type != 2

/-- Records in the order in which they speak for a register, the newest first: a carried record speaks last (R383). -/
def speaking (l : List LRec) : List LRec := (l.filter fun r => !bit r.flags 2) ++ l.filter fun r => bit r.flags 2

/-- +A, −A, Q1 to Q4 of each outlet as the ledger has them, at latch sequence `at_` where one is given (R388). -/
def ledgerRegs (l : List LRec) (at_ : Option Nat) : List (List Nat) :=
  let upTo (r : LRec) : Bool := match at_ with
    | some x => !older32 x r.lseq
    | none => true
  (List.range 24).map fun o =>
    match l.find? fun r => r.type == 1 && r.outlet == o && upTo r with
    | some r => (List.range 6).map fun k => fld r.payload (8 * k) 8
    | none => [0, 0, 0, 0, 0, 0]

/-- The tariff registers of one direction (0 import, 1 export) as the last checkpoint and the ENERGY records after it give them. -/
def ledgerTregs (l : List LRec) (dir : Nat) : List (List Nat) :=
  (List.range 24).map fun o => (List.range 8).map fun t =>
    match l.find? fun r => r.outlet == o && ((r.type == 1 && r.tariff == t + 1) || r.type == 7 + dir) with
    | some r => if r.type = 1 then fld r.payload (48 + 8 * dir) 8 else fld r.payload (8 * t) 8
    | none => 0

/-- The maxima of the open period out of its DEMAND records, per outlet and for the site (R399). -/
def ledgerMax (l : List LRec) (period : Nat) : List (Nat × Nat × Nat × Nat) :=
  (List.range 25).map fun k =>
    let own := (l.filter fun r => r.type == 4 && r.period == period && r.outlet == (if k < 24 then k else 0xFF)).reverse
    own.foldl (fun (m : Nat × Nat × Nat × Nat) (r : LRec) =>
      let a := (newMax (m.1, m.2.1) (u32 r.payload 12) (fld r.payload 0 8)).1
      let b := (newMax (m.2.2.1, m.2.2.2) (u32 r.payload 16) (fld r.payload 0 8)).1
      (a.1, a.2, b.1, b.2)) (0, 0, 0, 0)

/-- The open demand interval after a start: from the last demand boundary on, irregular (R399). -/
def ledgerDemand (l : List LRec) (period now : Nat) : Demand :=
  let last := l.find? fun r => r.type == 4
  let base := ledgerRegs l (last.map fun r => r.lseq)
  { start := (last.map fun r => r.time).getD now
    irregular := true
    imp0 := base.map fun r => r.getD 0 0
    exp0 := base.map fun r => r.getD 1 0
    max := ledgerMax l period }

/-- The banks with the newer and the older LSEQ among banks 0 and 1 (R388). -/
def mirrorBanks (a b : Bank) : Option Bank × Option Bank :=
  match a.ok, b.ok with
  | true, true => if older32 a.lseq b.lseq then (some b, some a) else (some a, some b)
  | true, false => (some a, none)
  | false, true => (some b, none)
  | false, false => (none, none)

/-- Registers with deltas added and an adjustment taken off, import and export (R388). -/
def folded (v : List (List Nat)) (imp exp : Nat → Nat) (adj : List (Nat × Nat)) : List (List Nat) :=
  (List.range 24).map fun o =>
    let r := regOf v o
    let a := adj.getD o (0, 0)
    [r.getD 0 0 + imp o - a.1, r.getD 1 0 + exp o - a.2] ++ r.drop 2

/-- GAP records and the outlets that they name; 0xFFFF where both banks fail (R388, R389). -/
def State.gapRecs (s : State) (m o : Option Bank) : State × List LRec × List Nat :=
  let cut := s.bak.cut
  let rec_ (out from_ imp exp flags : Nat) : LRec :=
    { type := 0x0A, flags := 2, outlet := out, payload := padTo 64 (toLE 8 from_ ++ toLE 8 cut ++ toLE 8 imp ++ toLE 8 exp ++ toLE 1 flags) }
  match m with
  | none => (s, [rec_ 0xFF 0 0 0 3], [0xFFFF])
  | some m =>
    if m.lseq = s.bak.lgSeq then (s, [], [])
    else
      let dt := min (cut - m.time) (u16 s.cfg.energy 0 * 1000 / u8 s.cfg.metro 2)
      let one (acc : State × List LRec × List Nat) (k : Nat) : State × List LRec × List Nat :=
        let s := acc.1
        let i := m.imp.getD k 0
        let e := m.exp.getD k 0
        match o with
        | some o =>
          if o.baseSeq = m.baseSeq then
            let di := i - o.imp.getD k 0
            let de := e - o.exp.getD k 0
            let span := max 1 (m.time - o.time)
            if di = 0 && de = 0 then acc
            else (s, acc.2.1 ++ [rec_ k m.time (di * dt / span) (de * dt / span) 1], acc.2.2 ++ [k])
          else if i = 0 && e = 0 then acc
          else
            let a := s.draw
            let b := a.2.draw
            (b.2, acc.2.1 ++ [rec_ k m.time (a.1 * dt) (b.1 * dt) 1], acc.2.2 ++ [k])
        | none =>
          if i = 0 && e = 0 then acc
          else
            let a := s.draw
            let b := a.2.draw
            (b.2, acc.2.1 ++ [rec_ k m.time (a.1 * dt) (b.1 * dt) 1], acc.2.2 ++ [k])
      (List.range 24).foldl one (s, [], [])

/-- BILL_GAP for the GAP records of a replay (01 R30; 11, events on RP5): the estimates summed. Which outlets have a gap is a free
value where both banks fail (log entry 8). -/
def State.evtGap (s : State) (recs : List LRec) : State :=
  match recs with
  | [] => s
  | r :: _ =>
    let sum (off : Nat) : Nat := (recs.map fun x => fld x.payload off 8).foldl (· + ·) 0
    let d := if r.outlet = 0xFF then s.draw else (maskOf (recs.map fun x => x.outlet), s)
    d.2.emit 5 0x0882 (toLE 4 (d.1 % 2 ^ 24) ++ toLE 1 (u8 r.payload 32) ++ zeros 3 ++ r.payload.take 16 ++ toLE 8 (sum 16)
      ++ toLE 8 (sum 24))

/-- A break of the chain found by the start: LEDGER_CHAIN, and the record marked (R390). -/
def State.chainBreak (s : State) (brk : Nat) : State :=
  if brk = 0 then s
  else
    ({ s with
      store := { s.store with ledger := s.store.ledger.map fun (r : LRec) => if r.gen = brk then { r with bad := true } else r }
      bill := { s.bill with chainBad := true } }).raise 75 0xFFFF brk

/-- A record whose CRC is wrong once and good at the second read: a transient LEDGER_CHAIN (R390). -/
def State.reread (s : State) (gen : Nat) : State := if gen = 0 then s else s.transient 75 0xFFFF gen

/-- The ledger can be replayed: it is empty, or holds a complete commit (R390). -/
def State.replayOk (s : State) (brk : Nat) : Bool := s.store.ledger.isEmpty || !(replayed s.store.ledger brk).isEmpty

/-- The last checkpoint loaded and every ENERGY record after it applied, with what the records say of demand, period and
tariff; a period index and a horizon that BAK has lost come from the ledger (R388, R400, R403). -/
def State.loadLedger (s : State) (l : List LRec) : State :=
  let sp := speaking l
  let period := (l.find? fun r => r.type == 6).map fun r => wrapInc 32 (u32 r.payload 0)
  let horizon := (l.find? fun r => 4 ≤ r.type && r.type ≤ 6).map fun r => r.time
  let now := s.bak.rtc
  let period := max s.bak.period (period.getD 1)
  let since (t : Nat) : Nat := (l.findIdx? fun r => r.type == t).getD l.length
  { s with
    bak := { s.bak with period := period, horizon := max s.bak.horizon (horizon.getD 0) }
    bill := { s.bill with
      regs := ledgerRegs sp none, tregI := ledgerTregs sp 0, tregE := ledgerTregs sp 1
      time := now, unver := !s.bak.timeValid, demCfg := s.store.demCfg
      dem := ledgerDemand sp period now
      tariff := ((l.find? fun r => r.type == 5).map fun r => u8 r.payload 1).getD 1
      periodStart := ((l.find? fun r => r.type == 6).map fun r => fld r.payload 12 8).getD
        ((l.getLast?.map fun r => r.time).getD now)
      sinceCp := since 7, sinceSeal := since 0x0E
      calBad := !s.cfg.calActive.isEmpty && !calendarOk s.cfg.calActive } }

/-- The open sessions closed with cause 19, at the latch time of the retention mirror (R140, R149). -/
def State.closeOpen (s : State) (fin : Nat) : State :=
  { s with bill := { s.bill with sess := s.store.openSess.map fun (r : SessRec) =>
      { r with cause := 19, fin := fin, replay := true } } }

/-- A boundary worked out at replay put in force: its records, registers and tariff (R402). -/
def State.replayPlan (s : State) (p : BPlan) : State × List LRec :=
  let src := s.bill.tariff
  let old := s.bill.regs
  let tI := booked s.bill.tregI old p.vals 0 src
  let tE := booked s.bill.tregE old p.vals 1 src
  let recs := (energyRecs old p.vals tI tE src p.lseq).map fun (r : LRec) =>
    { r with time := p.time, period := s.bak.period }
  let s := s.enforce p
  ({ s with bill := { s.bill with regs := p.vals, tregI := tI, tregE := tE } }, (recs ++ p.recs).map p.mark)

/-- Boundaries that passed while the H24 was off, as one boundary instant at the start with KINDS bit 5 (R405). -/
def State.catchUp (s : State) (from_ lseq : Nat) : Option BPlan :=
  let now := s.bill.time
  let kinds := if from_ < now then s.crossed from_ now else 0
  if kinds = 0 then none else some (s.planFor now (kinds ||| 32) (s.tariffAt now) lseq false s.bill.regs)

/-- BILL_BOUNDARY and BILL_PERIOD of a boundary committed at replay. -/
def State.planEvents (s : State) (p : Option BPlan) (src gen : Nat) : State :=
  match p with
  | some p => (s.evtBoundary p src (b2n p.late + 2) gen).periodDone p gen
  | none => s

/-- The accumulators, the latch sequence and the commit base loaded from the result (R345). -/
def State.loadAccumulators (s : State) (lseq newest : Nat) : State :=
  let acc := vmapi (fun o (_ : List Nat) =>
    List.replicate 21 0 ++ ((regOf s.bill.regs o).map fun v => v * 65536) ++ [0]) s.en.acc
  let base := (List.range 24).map fun o => ((regOf s.bill.regs o).getD 0 0, (regOf s.bill.regs o).getD 1 0)
  { s with
    en := { s.en with acc := acc, loaded := true, latch := { s.en.latch with seq := wrapInc 32 newest } }
    bill := { s.bill with
      baseSeq := lseq, base := base, latchTariff := s.bill.tariff, newBase := none, armFrom := s.bill.time }
    bak := { s.bak with lgSeq := 0, bPending := false } }

/-- The end of replay (R407, R411), from the register `v` of latch `lseq` on: open sessions closed and charged, the boundaries passed
while off, the commit of the collected records, and the events. `fin` ends the sessions; `newest` is the newest record that was replayed. -/
def State.replayEnd (s : State) (newest : Option LRec) (p1 : Option BPlan) (src1 : Nat) (recs : List LRec)
    (segs : List (List (List Nat) × Nat)) (v : List (List Nat)) (lseq fin : Nat) : State :=
  -- sessions, then the boundaries passed while off
  let x3 := (s.closeOpen fin).chargeAll segs
  let s := x3.1
  let ended := s.bill.sess
  let recs3 := ended.map fun r => r.record v lseq
  let from_ := max s.bak.horizon ((newest.map fun r => r.time).getD s.bill.time)
  let src2 := s.bill.tariff
  let p2 := s.catchUp from_ lseq
  let s := match p2 with
    | some p => s.enforce p
    | none => s
  let recs4 := (p2.map fun p => p.recs.map p.mark).getD []
  let s := { s with bill := { s.bill with sess := [], recs := [], trig := [], cmds := [] } }
  let closing := ((p1.bind fun p => p.closed).isSome || (p2.bind fun p => p.closed).isSome)
  let x := s.appendCommit (recs ++ recs3 ++ x3.2 ++ recs4) closing lseq
    { cause := 4, flags := 8
      boundary := match p1, p2 with
        | some p, _ => p.lseq
        | none, some p => p.lseq
        | none, none => 0
      kinds := ((p1.map fun p => p.kinds).getD 0) ||| (p2.map fun p => p.kinds).getD 0 }
  let s := x.1
  let gen := s.store.gen
  let gens := (x.2.filter fun r => r.type == 0x03).map fun r => r.gen
  let s := ended.zipIdx.foldl (fun s e => s.sessEnd e.1 v (gens.getD e.2 0)) s
  let s := (s.planEvents p1 src1 gen).planEvents p2 src2 gen
  let next (a : Nat) (k : Bank) : Nat := if k.ok && older32 a k.lseq then k.lseq else a
  let s := s.loadAccumulators lseq (next (next (next ((newest.map fun r => u32 r.payload 4).getD 0) s.bak.bank0) s.bak.bank1) s.bak.bank2)
  s.followAll

/-- The replay of ST11: one commit with CAUSE 4 and FLAGS bit 3 on every record (R388). -/
def State.replay (s : State) (brk : Nat) : State :=
  let s := s.chainBreak brk
  let l := replayed s.store.ledger brk
  let lc := (l.head?.map fun r => u32 r.payload 4).getD 0
  let banks := mirrorBanks s.bak.bank0 s.bak.bank1
  let m := banks.1
  let b := s.bak.bank2
  let s := s.loadLedger l
  let s := if s.bill.calBad then s.raise 79 0xFFFF 0 else s
  let regs0 := s.bill.regs
  let gap := s.gapRecs m banks.2
  let s := (gap.2.2.foldl (fun s o => s.raise 76 o 0) gap.1).evtGap gap.2.1
  let adj := match m with
    | none => []
    | some m =>
      if m.baseSeq = lc then []
      else
        let v := ledgerRegs (speaking l) (some m.baseSeq)
        (List.range 24).map fun o =>
          ((regOf regs0 o).getD 0 0 - (regOf v o).getD 0 0, (regOf regs0 o).getD 1 0 - (regOf v o).getD 1 0)
  let pending := m.isSome && b.ok && older32 lc b.lseq && !(l.any fun r => r.type == 2 && u32 r.payload 8 == b.lseq)
  let s := { s with bill := { s.bill with
    tariff := if pending then b.tariff else match m with
      | some m => if m.tariff = 0 then s.bill.tariff else m.tariff
      | none => s.bill.tariff } }
  -- the boundary latched and not committed
  let src1 := s.bill.tariff
  let p1 := if pending then
      some (s.planFor s.bak.armTime s.bak.armKinds s.bak.armTnew b.lseq (bit b.flags 0)
        (folded regs0 (b.imp.getD · 0) (b.exp.getD · 0) adj))
    else none
  let x1 := match p1 with
    | some p => s.replayPlan p
    | none => (s, [])
  let s := x1.1
  -- the newest latch
  let pv := s.bill.regs
  let v := match m with
    | none => pv
    | some m =>
      if pending then
        folded pv (fun o => m.imp.getD o 0 - b.imp.getD o 0) (fun o => m.exp.getD o 0 - b.exp.getD o 0) []
      else folded pv (m.imp.getD · 0) (m.exp.getD · 0) adj
  let lseq := (m.map fun m => m.lseq).getD lc
  let tI := booked s.bill.tregI pv v 0 s.bill.tariff
  let tE := booked s.bill.tregE pv v 1 s.bill.tariff
  let recs2 := energyRecs pv v tI tE s.bill.tariff lseq
  let segs := (if pending then [(pv, src1)] else []) ++ [(v, s.bill.tariff)]
  let s := { s with bill := { s.bill with regs := v, tregI := tI, tregE := tE } }
  s.replayEnd l.head? p1 src1 (x1.2 ++ recs2 ++ gap.2.1) segs v lseq ((m.map fun m => m.time).getD s.bak.rtc)

/-- The first start of a part, whose ledger and mirror were never written: there is no last commit, nothing to fold and no outcome to
write (R388; log entry 38), but for sessions that a reset before the first commit has left open (R140). -/
def State.firstLoad (s : State) : State :=
  let s := s.loadLedger []
  let s := if s.bill.calBad then s.raise 79 0xFFFF 0 else s
  if s.store.openSess.isEmpty then (s.loadAccumulators 0 0).followAll
  else s.replayEnd none none 1 [] [] [] 0 s.bak.rtc

/-- ST11 on the ledger and the mirror (R388). -/
def State.replayAll (s : State) (brk : Nat) : State :=
  if s.store.ledger.isEmpty && !s.bak.bank0.ok && !s.bak.bank1.ok then s.firstLoad else s.replay brk

/-- The supply interruption of a power-fail as a record of TYPE 3, from the latch time of the mirror to the first sample after
the start (R354). -/
def State.outageRecord (s : State) : State :=
  match (mirrorBanks s.bak.bank0 s.bak.bank1).1 with
  | some m =>
    if s.bak.pfSeen then
      s.pqStore { type := 3, start := m.time, half := 0xFFFFFFFF, dur := (s.bak.rtc - m.time + 5) / 10 * 10, flags := 2, phases := 7 }
    else s
  | none => s

end Sys2Proof.Machine
end

