-- ==== Sys2Proof/Machine/StartSeq.lean ====
section
/-! DEFINITION. The start sequence ST0 to ST15 with its records and alternatives, and ROM recovery entry (21, 23). -/

namespace Sys2Proof.Machine

/-! ### Records, alternatives and endings -/

/-- Code of step `k` in a start record (R648). -/
def stepCode (rec_ k : Nat) : Nat := rec_ / 4 ^ k % 4

/-- The steps that have an alternative (R649). -/
def stepsWithAlt : List Nat := [1, 2, 3, 4, 5, 6, 8, 9, 10, 12, 13, 14]

/-- STR_NEXT.ALT: the steps whose alternative the next start runs (R650). -/
def State.altMask (s : State) : Nat :=
  if s.bak.retry then 0
  else maskOf (stepsWithAlt.filter fun k => s.bak.recs.any fun r => stepCode r k == 3)

/-- A start under way: the alternatives it has to run, the world's part, and the reset that ends it early. -/
structure Boot where
  st : State
  alts : Nat
  inp : StartInput
  dead : Option Nat := none

/-- What one step leaves: the state, its code, whether its alternative ran, and the reset cause of a start that ends here. -/
structure StepEnd where
  st : State
  code : Nat
  dead : Option Nat := none

/-- Run a step, unless the start has ended; its code is written when it ends (R648). -/
def Boot.run (b : Boot) (k : Nat) (f : Boot → StepEnd) : Boot :=
  match b.dead with
  | some _ => b
  | none =>
    let x := f b
    { b with st := x.st.markStep k x.code, dead := x.dead }

/-- Code, alternative run, and end of a non-mandatory step whose primary fails as `fail` says (R650 to R652). -/
def Boot.outcome (b : Boot) (k : Nat) (fail : Bool) : Nat × Bool × Option Nat :=
  let due := bit b.alts k
  let altFail := bit b.inp.altFail k
  if !due && !fail then (1, false, none)
  else if altFail then (3, true, some 6)
  else (if due then 2 else 3, true, none)

/-- The primary of step `k` fails by the world's part. -/
def Boot.fails (b : Boot) (k : Nat) : Bool := bit b.inp.fail k

/-- A mandatory step failed: MFAIL, and the reset with cause START (R652). -/
def mandatoryEnd (s : State) : StepEnd :=
  { st := { s with bak := { s.bak with mfail := min 2 (s.bak.mfail + 1) } }, code := 3, dead := some 6 }

/-! ### The steps -/

/-- ST0: the rails, and the supplies as measured (R649, R656). -/
def stepRails (b : Boot) : StepEnd :=
  let s := b.st
  { st := { s with pwr := { s.pwr with
      vsup := b.inp.vsup, vkc := b.inp.vkc, vbak := b.inp.vbak, vbnk := b.inp.vbnk, railGood := 0x3F, src := 0 } }
    code := 1 }

/-- ST1: RC48A, or RC48B as primary; with neither ready a reset with cause CLOCK (R636, R647). -/
def stepRc (b : Boot) : StepEnd :=
  let o := b.outcome 1 (b.fails 1)
  let s := b.st
  { st := { s with clk := { s.clk with primaryB := o.2.1, rc48aOn := !o.2.1, rc48bOn := o.2.1, lfxoOk := b.inp.lfxo } }
    code := o.1
    dead := if b.fails 1 && bit b.inp.altFail 1 then some 7 else o.2.2 }

/-- ST2: XTAL, or RC-only operation (R637). -/
def stepXtal (b : Boot) : StepEnd :=
  let o := b.outcome 2 (b.fails 2)
  let s := b.st
  { st := { s with clk := { s.clk with rcOnly := o.2.1, xtalOk := !o.2.1, metaRc := o.2.1 } }, code := o.1, dead := o.2.2 }

/-- ST3: the PLLs, or reduced frequencies; a PLL other than PLL_APP that does not lock latches PLL_LOCK (R637, R638). -/
def stepPlls (b : Boot) : StepEnd :=
  let s := b.st
  let want := if s.clk.rcOnly then 0x17 else 0x1F
  let bad := b.inp.pllBad &&& want
  let o := b.outcome 3 (b.fails 3 || bad != 0)
  let lock := if o.2.1 then clearBits want (bad &&& 0x1E) else want
  let onPll := ((List.range 5).map fun k => if bit lock k then pllIslands k else 0).foldl (fun a b => a ||| b) 0
  let s := { s with clk := { s.clk with
    reduced := o.2.1, lock := lock, actual := clearBits 0x3F onPll, sel := clearBits 0x3F onPll
    emerg := if bit lock 2 then 0 else 1, metaRc := s.clk.metaRc || !bit lock 2 } }
  let s := (bitsOf 5 (clearBits want lock)).foldl (fun s k => s.raiseRetried 1 k 0) s
  { st := s, code := o.1, dead := o.2.2 }

/-- ST4: LPDDR training, or conservative timings. -/
def stepLpddr (b : Boot) : StepEnd :=
  let o := b.outcome 4 (b.fails 4)
  { st := b.st, code := o.1, dead := o.2.2 }

/-- ST5: NAND mount; THRESH is restored after POR, and the two copies of MIN_SVN agree on the higher (R670, R677, F099). -/
def stepMount (b : Boot) : StepEnd :=
  let o := b.outcome 5 (b.fails 5)
  let s := if o.2.1 then b.st.raise 99 0xFFFF 0 else b.st
  let por := s.bak.cause == 1
  let svn := max s.bak.minSvn s.store.minSvn
  { st := { s with
      bak := { s.bak with
        thresh := if por then s.cfg.pfThresh else s.bak.thresh, minSvn := svn
        confirmed := if por then s.store.safeConfirmed else s.bak.confirmed }
      store := { s.store with minSvn := svn } }
    code := o.1, dead := o.2.2 }

/-- A slot that may run (R677, R678). -/
def State.slotRuns (s : State) (k : Nat) : Bool :=
  match s.store.slots.getD k none with
  | some i => s.store.minSvn ≤ i.svn
  | none => false

/-- ST6: the slot of the marker, or the other one (R649, F106). -/
def stepImage (b : Boot) : StepEnd :=
  let s := b.st
  let m := s.store.marker
  if bit b.alts 6 then
    if bit b.inp.altFail 6 || !s.slotRuns (1 - m) then mandatoryEnd s
    else { st := ({ s with fw := { s.fw with run := 1 - m } }).raise 106 (1 - m) 0, code := 2 }
  else if b.fails 6 || !s.slotRuns m then mandatoryEnd s
  else { st := { s with fw := { s.fw with run := m } }, code := 1 }

/-- A class whose BAK counter is above that of the blob (R595). -/
def State.rolledBack (s : State) : Option Nat :=
  (List.range 8).find? fun c => decide (s.store.keyCtr.getD c 0 < s.bak.keyCtr.getD c 0)

/-- ST7: the key store; slot 2 is drawn at the first start (R590, R595, F100, F101). -/
def stepKeys (b : Boot) : StepEnd :=
  let s := b.st
  if b.fails 7 then mandatoryEnd (s.raise 100 0xFFFF 0)
  else match s.rolledBack with
    | some c => mandatoryEnd (s.raise 101 c 0)
    | none =>
      let s := { s with
        key := { s.key with rebuilt := s.bak.keyCtr != s.store.keyCtr, repaired := bit b.inp.altFail 7 }
        bak := { s.bak with keyCtr := s.store.keyCtr } }
      let s := if (s.slot 2).state = 0 then
          let d := s.draw
          d.2.setSlot 2 { type := 4, state := 1, engines := 32, uses := 64, gen := 1, mat := toLE 48 d.1 }
        else s
      { st := s, code := 1 }

/-- ST8: safety image, copy A or copy B; the reasons for a confirmation (R241, R247). -/
def stepSafe (b : Boot) : StepEnd :=
  let due := bit b.alts 8
  let s := b.st
  if (if due then bit b.inp.altFail 8 else b.fails 8) then mandatoryEnd s
  else
    let s := { s with isl := { s.isl with img := s.store.safeImg } }
    let reasons := 8 * b2n due + 32 * b2n (s.check != s.bak.confirmed) + 64 * b2n (s.bak.cause == 8 || s.bak.romMode)
      + 128 * b2n (s.bak.cause == 9)
    { st := ({ s with
        isl := { s.isl with reasons := reasons }
        bak := { s.bak with safeStart := if s.bak.cause = 9 then some s.bak.rtc else s.bak.safeStart } }).reloadDacs
      code := if due then 2 else 1 }

/-- A calibration set taken into use at a start (R311, R315). -/
def State.takeCal (s : State) (c : CalCopy) : State :=
  { s with met := { s.met with active := c.set, working := c.set, gen := c.gen } }

/-- ST9: the valid copy with the higher generation, or the secondary rewritten to the primary; with neither, the defaults and a
start that goes on; then the offset of every channel (R315, R316, R651). -/
def stepCal (b : Boot) : StepEnd :=
  let s := b.st
  let p := s.store.calP
  let q := s.store.calS
  let pv := p.valid && !b.fails 9
  let qv := q.valid && !bit b.inp.altFail 9
  let second := qv && (bit b.alts 9 || !pv || decide (p.gen < q.gen))
  let x : State × Nat :=
    if second then (({ s with store := { s.store with calP := q } }).takeCal q, 2)
    else if pv then (s.takeCal p, 1)
    else (({ s with met := { s.met with uncal := true } }).raise 67 0xFFFF 0, 3)
  let offs := b.inp.offs
  let s := calOrder.foldl (fun s e =>
    let i := calIdx e.1 e.2
    s.measureOffset e.1 e.2 (offs.getD i 0) (offs.getD (200 + i) 0)) x.1
  { st := s, code := x.2 }

/-- ST10: pilot sampler and pilot-line front ends, or their stored values (R176); lanes 0 to 7 demodulate and 8 to 15 transmit. -/
def stepPilot (b : Boot) : StepEnd :=
  let o := b.outcome 10 (b.fails 10)
  let s := b.st
  let afe := b.inp.afeBad.filter fun k => k < 24
  let bad := (b.inp.laneBad.filter (· < 16)).eraseDups
  let s := { s with plc := { s.plc with afe := maskOf afe, rxLanes := 8 - (bad.filter (· < 8)).length, txLanes := 8 - (bad.filter (8 ≤ ·)).length } }
  let s := afe.foldl (fun s k => s.raiseRetried 80 k 0) s
  let s := bad.foldl (fun s k => s.raise 81 k 0) s
  { st := s, code := o.1, dead := o.2.2 }

/-- The lattice member after a start: on its floor, at the round of the share that it last applied (08 R284, 01 R29; log entry 66). -/
def State.latAtStart (s : State) : Lattice :=
  let r := (s.store.latShare.map fun x => x.round).getD 0
  { round := r, applied := r, leader := ownId, gI := s.ownFloor.1, gE := s.ownFloor.2 }

/-- ST11: replay (R388 to R390), the supply interruption (R354), fresh blocks of counters (R422, R492), latch settings. -/
def stepLedger (b : Boot) : StepEnd :=
  let s := b.st
  if b.fails 11 || !s.replayOk b.inp.break_ then mandatoryEnd s
  else
    let s := { s with
      en := { s.en with latchN := u16 s.cfg.energy 0 }
      met := { s.met with refph := u8 s.cfg.metro 3 }
      bud := { s.bud with cfg := s.cfg.bud }
      lat := s.latAtStart
      dl := { s.dl with tx := s.store.txBlock, ivc := s.store.ivc }
      line := { s.line with
        fcnt := s.store.lineFcnt, seen := s.store.lineSeen.map fun (e : Nat × Nat) => (e.1, min 0xFFFFFFFF (e.2 + 256), 0) }
      store := { s.store with
        txBlock := s.store.txBlock + 4096, lineFcnt := min 0xFFFFFFFF (s.store.lineFcnt + 4096)
        lineSeen := s.store.lineSeen.map fun (e : Nat × Nat) => (e.1, min 0xFFFFFFFF (e.2 + 256)) } }
    { st := (((s.reread b.inp.reread).replayAll b.inp.break_).outageRecord).takeCovers, code := 1 }

/-- ST12: the PHYs, or NET off; not run in RC-only operation (R637, R649). -/
def stepPhy (b : Boot) : StepEnd :=
  if b.st.clk.rcOnly then { st := b.st, code := 0 }
  else
    let o := b.outcome 12 (b.fails 12 || !b.inp.phyBad.isEmpty)
    let s := if bit b.alts 12 then b.st else b.inp.phyBad.foldl (fun s p => s.raise 88 p 0) b.st
    { st := s, code := o.1 }

/-- ST13: the mains modem, or LINE off (R494). -/
def stepModem (b : Boot) : StepEnd :=
  let o := b.outcome 13 (b.fails 13 || !b.inp.lineBad.isEmpty)
  let s := if bit b.alts 13 then b.st else b.inp.lineBad.foldl (fun s c => s.raiseRetried 84 c 0) b.st
  { st := { s with line := { s.line with cal := !o.2.1 } }, code := o.1 }

/-- ST14: tag seed, stress load; or FIELD and PANEL off (R534, R577, F092). -/
def stepField (b : Boot) : StepEnd :=
  let o := b.outcome 14 (b.fails 14)
  let s := b.st
  let s := if b.fails 14 && !bit b.alts 14 && nfcFitted then s.raiseRetried 92 0xFFFF 0 else s
  { st := if o.2.1 then s else ((s.tagStart).loadStress).panelUp, code := o.1 }

/-! ### ST15 -/

/-- The domains on after the start (R637, R638, R649). -/
def State.startDomains (s : State) : Nat :=
  let r := s.bak.recs.headD 0
  let skipped (k : Nat) : Bool := decide (2 ≤ stepCode r k)
  let off := (if s.clk.rcOnly || !bit s.clk.lock 3 || skipped 12 then 0x100 else 0) + (if bit s.clk.lock 1 then 0 else 0x30)
    + (if !bit s.clk.lock 4 || skipped 13 then 0x200 else 0) + (if skipped 14 || !nfcFitted then 0x400 else 0)
    + (if skipped 14 then 0x800 else 0)
  clearBits 0xFFF off

/-- STEPS of SYS_STARTED: the steps that failed or used their alternative (R98). -/
def State.stepsMask (s : State) : Nat :=
  maskOf ((List.range 16).filter fun k => 2 ≤ stepCode (s.bak.recs.headD 0) k)

/-- What a power-fail before this start left to latch: PWR_FAIL, LASTGASP_SHORT, and the load breaks of its releases
(R665, R668). -/
def State.latchPowerFail (s : State) : State :=
  let s := if s.bak.pfSeen then s.raise 6 0xFFFF s.bak.pfCount else s
  let s := match s.bak.pfShort with
    | some k => s.raise 7 0xFFFF k
    | none => s
  let l := s.bak.pfFaults
  let s := { s with bak := { s.bak with pfSeen := false, pfShort := none, pfFaults := [] } }
  l.foldl (fun s e => s.raise e.1 e.2 0) s

/-- Outlets of a list that are disconnected, or not fitted, go out of service (07 R240, 12 R430). -/
def State.keepOut (s : State) : List ONum → State
  | [] => s
  | o :: t => State.keepOut (if s.control o != 1 || !s.fitted o then s.sessTo o .outOfService 14 else s) t

/-- The self-test of every outlet, before ST15 (R207). -/
def State.testAll (s : State) (l : List (RcdMeas × RcdMeas)) : State :=
  outlets.foldl (fun s o => s.testAtStart o (l.getD o.val ({}, {}))) s

/-- ST15: the host port, SYS_STARTED first, then what waited for it (R52, R98, R140, R236, F005). -/
def State.started15 (s : State) (gap boundary : Bool) : State :=
  let on := s.startDomains
  let s := { s with
    pwr := { s.pwr with on := on, pgood := on, shed := false, oneCore := false }
    bak := { s.bak with mfail := 0, romMode := false, tampPol := u8 s.cfg.energy 12 % 4 }
    host := { s.host with ready := true, rdyHold := true } }
  let s := s.markStep 15 1
  let steps := s.stepsMask
  let held := s.confirmPending
  let s := s.emitNow 0 0x0180 (toLE 1 s.bak.cause ++ toLE 1 s.fw.run ++ toLE 2 steps
    ++ toLE 1 (b2n gap + 2 * b2n boundary + 4 * b2n held) ++ zeros 3) none
  let s := s.flushDeferred
  let s := (bitsOf 16 steps).foldl (fun s k => s.raise 5 k 0) s
  let s := s.latchPowerFail
  let s := { s with isl := { s.isl with autoDue := held } }
  let s := if held then ((s.allOos 15 outlets).confirmReq) else (s.keepOut outlets).autoClose
  s.lastState

/-! ### The sequence -/

/-- The H24 enters ROM recovery mode in this start (R652). -/
def State.romDue (s : State) : Bool := 2 ≤ s.bak.mfail || s.bak.svcboot || s.bak.recover

/-- ROM recovery mode: five domains, every pilot at DC_NEG, HRDY low (R689); `noSeal`: the ROM cannot unseal the key store. -/
def State.enterRom (s : State) (noSeal : Bool) : State :=
  let neg (x : Outlet) : Outlet := { x with pilot := { x.pilot with mode := .dcNeg, duty := 0 } }
  { s with
    fw := { s.fw with rom := true, noSeal := noSeal }
    pwr := { s.pwr with on := 0x8F, pgood := 0x8F, shed := false, oneCore := true }
    bak := { s.bak with romMode := true }
    out := vmap neg s.out }

/-- The record of a new start: records shifted, causes and count (R647, R648, R690). -/
def State.beginStart (s : State) (cause : Nat) (svcboot : Bool) : State :=
  { s with
    pwr := { s.pwr with awaiting := none, shed := true }
    bak := { s.bak with
      prev := s.bak.cause, cause := cause, count := wrapInc 32 s.bak.count, svcboot := svcboot
      recs := (0 :: s.bak.recs).take 4, retry := false
      mfail := if cause = 8 then 0 else s.bak.mfail, recover := s.bak.recover && cause != 8
      timeValid := s.bak.timeValid && cause != 1 && cause != 2 } }

/-- The steps of one start on its world's part; the alternatives come from the records before it (R649). -/
def State.start (s : State) (cause : Nat) (r : StartInput) : State :=
  let alts := s.altMask
  let s := s.beginStart cause r.svcboot
  let b := Boot.mk s alts r none
  let b := (b.run 0 stepRails).run 1 stepRc
  let b := ((b.run 2 stepXtal).run 3 stepPlls).run 4 stepLpddr
  let b := b.run 5 stepMount
  if b.dead.isNone && b.st.romDue then b.st.enterRom (b.fails 7)
  else
    let b := ((b.run 6 stepImage).run 7 stepKeys).run 8 stepSafe
    let b := (b.run 9 stepCal).run 10 stepPilot
    let pend := b.st.bak.bank2
    let b := b.run 11 stepLedger
    let b := ((b.run 12 stepPhy).run 13 stepModem).run 14 stepField
    match b.dead with
    | some c => b.st.resetTo c
    | none =>
      let s := b.st.testAll r.rcd
      let boundary := pend.ok && s.store.ledger.any fun e =>
        e.type == 2 && bit e.flags 3 && decide (s.store.gen = e.gen) && u32 e.payload 8 == pend.lseq
      s.started15 (s.latched 76) boundary

/-- START_SEQUENCE (R649 to R652): not while HRST# is low (R58). -/
def execStartSequence (r : StartInput) (s : State) : Out :=
  .next (match s.pwr.awaiting with
    | some c => if s.pwr.hrstLow || !s.powered then s else s.start c r
    | none => s)

end Sys2Proof.Machine
end

