-- ==== Sys2Proof/Machine/Firmware.lean ====
section
/-! DEFINITION. Firmware staging, verification, handover and rollback, the service port and ROM recovery (23). -/

namespace Sys2Proof.Machine

/-! ### Images -/

/-- The image in the slot in force. -/
def State.running (s : State) : FwImg := (s.store.slots.getD s.fw.run none).getD {}

/-- The bytes before SIG_M: S of R675. -/
def signedLen (d : Bytes) : Nat := u32 d 24 - 96 * (1 + u8 d 5 % 2)

/-- Entry `i` of the segment table at byte 64 (R674). -/
def segOf (d : Bytes) (i : Nat) : Bytes := (d.drop (64 + 64 * i)).take 64

/-- Segments lie in order after the table, aligned, apart and inside the signed part (R674). -/
def segsOk (d : Bytes) : Nat → Nat → List Nat → Bool
  | _, _, [] => true
  | stop, from_, i :: t =>
    let g := segOf d i
    let off := u32 g 4
    let len := u32 g 8
    1 ≤ u8 g 0 && u8 g 0 ≤ 4 && off % 4096 == 0 && from_ ≤ off && off + len ≤ stop && (u8 g 0 ≤ 2 || u32 g 12 == 0)
      && segsOk d stop (off + len) t

/-- Step 1 of R678: length, header and segment table. -/
def imageShapeOk (d : Bytes) : Bool :=
  d.length == u32 d 24 && d.take 4 == ascii "BXI1" && u8 d 4 == 1 && 1 ≤ u16 d 6 && u16 d 6 ≤ 16
    && segsOk d (signedLen d) (64 + 64 * u16 d 6) (List.range (u16 d 6))

/-- Step 2 of R678: the device, and MINREV at or below the silicon revision B1. -/
def imageFits (d : Bytes) : Bool :=
  u16 d 8 == 0x0024 && (u8 d 10 < 0x42 || (u8 d 10 == 0x42 && u8 d 11 ≤ 1))

/-- SIG_M verifies under slot 3, or, in a ROM that could not unseal the key store, under the key in fuses (R675, R689). -/
def State.sigMOk (s : State) (d : Bytes) : Bool :=
  let n := signedLen d
  let sig := (d.drop n).take 96
  if s.fw.noSeal then Config.verify Config.fuseKey (d.take n) sig
  else (s.slotRefuses 3 8 5).isNone && Config.verify (s.slot 3).mat (d.take n) sig

/-- R676: with a valid key in slot 4 a co-signature that verifies under it. -/
def State.sigCOk (s : State) (d : Bytes) : Bool :=
  let n := signedLen d + 96
  s.fw.noSeal || !s.slotValid 4 ||
    (u8 d 5 % 2 == 1 && (s.slotRefuses 4 8 5).isNone && Config.verify (s.slot 4).mat (d.take n) ((d.drop n).take 96))

/-- Every segment has its DIGEST (R674). -/
def digestsOk (d : Bytes) : Bool :=
  (List.range (u16 d 6)).all fun i =>
    let g := segOf d i
    padTo 48 (Config.sha384 ((d.drop (u32 g 4)).take (u32 g 8))) == padTo 48 (g.drop 16)

/-- VSTEP (R678): the first failing test, 0 with none; `total` is the TOTAL of the staging. -/
def State.vstep (s : State) (d : Bytes) (total : Nat) : Nat :=
  if d.length ≠ total || !imageShapeOk d then 1
  else if !imageFits d then 2
  else if !s.sigMOk d then 3
  else if !s.sigCOk d then 4
  else if !digestsOk d then 5
  else if u32 d 20 < (if s.fw.rom then s.bak.minSvn else s.store.minSvn) then 6
  else 0

/-- The status of a VSTEP (R678). -/
def vstepStatus (v : Nat) : Nat := [0, 0x05, 0x0A, 0x04, 0x04, 0x09, 0x0B].getD v 0

/-- What is kept of a verified image (R673 to R676). -/
def State.imageOf (s : State) (d : Bytes) : FwImg :=
  let seg (t : Nat) : Bytes :=
    ((List.range (u16 d 6)).filterMap fun i => if u8 (segOf d i) 0 = t then some ((segOf d i).drop 16) else none).flatten
  { ver := u32 d 12, build := u32 d 16, svn := u32 d 20, commit := bit (u8 d 5) 1, co := bit (u8 d 5) 0 && s.slotValid 4
    hmin := u16 d 28, hmax := u16 d 30, micro := [seg 3, seg 4] }

/-! ### Staging -/

/-- FW_STAGE (23). -/
def State.evtStage (s : State) (st vstep route : Nat) : State :=
  s.emit 12 0x1280 (toLE 1 st ++ toLE 1 vstep ++ toLE 1 route ++ zeros 1 ++ toLE 8 s.bak.rtc)

/-- STAGED: 0 none, 1 receiving, 2 verified (R691). -/
def State.stagedCode (s : State) : Nat := if s.fw.rx.isSome then 1 else if s.store.staged.isSome then 2 else 0

/-- RECEIVED (R691). -/
def State.received (s : State) : Nat :=
  match s.fw.rx with
  | some x => x.data.length
  | none => if s.store.staged.isSome then s.store.stagedLen else 0

/-- The firmware region is held (R671). -/
def State.regionHeld (s : State) : Bool := s.fw.rx.isSome || s.fw.ho.isSome

/-- STAGE_BEGIN on a route (R671, R672, R692): a verified image is discarded. -/
def State.stageBegin (s : State) (route total : Nat) : Nat × State :=
  if 0x10000000 < total then (5, s)
  else if s.regionHeld then (2, s)
  else
    (0, ({ s with
      fw := { s.fw with rx := some { route := route, total := total, at_ := s.up } }
      store := { s.store with staged := none, stagedLen := 0 } }).evtStage 0 0 route)

/-- STAGE_DATA on a route (R672, R692). -/
def State.stageData (s : State) (route off : Nat) (d : Bytes) : Nat × State :=
  match s.fw.rx with
  | none => (if s.fw.ho.isSome then 2 else 6, s)
  | some x =>
    if x.route ≠ route || x.verify then (2, s)
    else if off ≠ x.data.length then (0x0B, s)
    else (0, { s with fw := { s.fw with rx := some { x with data := x.data ++ d, at_ := s.up } } })

/-- The start of a verification on a route (R672, R693). -/
def State.stageVerify (s : State) (route : Nat) (tag : Option Nat) : Nat × State :=
  match s.fw.rx with
  | none => (if s.fw.ho.isSome then 2 else 6, s)
  | some x =>
    if x.route ≠ route || x.verify then (2, s)
    else (0, { s with fw := { s.fw with rx := some { x with verify := true, tag := tag } } })

/-- The end of a verification (R678): its VSTEP, and header bytes 12 to 23. -/
def State.verified (s : State) (x : FwRx) : Nat × Bytes × State :=
  let v := s.vstep x.data x.total
  let s := { s with fw := { s.fw with rx := none } }
  let head := padTo 12 ((x.data.drop 12).take 12)
  if v = 0 then
    (0, head, ({ s with store := { s.store with
      staged := some (s.imageOf x.data), stagedLen := x.data.length } }).evtStage 1 0 x.route)
  else (v, head, (s.raise 104 0xFFFF v).evtStage 2 v x.route)

/-- STAGE_ABORT on a route (R671, R672, R693); a verification that runs ends with it, its command completing NOTREADY. -/
def State.stageAbort (s : State) (route : Nat) : Nat × State :=
  match s.fw.rx with
  | some x =>
    if x.route ≠ route then (2, s)
    else
      let s := ({ s with fw := { s.fw with rx := none } }).evtStage 3 0 route
      (0, match x.tag with
        | some t => s.finish 12 t 6 []
        | none => s)
  | none =>
    if s.fw.ho.isSome then (2, s)
    else if s.store.staged.isSome then
      (0, ({ s with store := { s.store with staged := none, stagedLen := 0 } }).evtStage 3 0 route)
    else (6, s)

/-- The tests of an activation (R671, R672, R679). -/
def State.activateRefused (s : State) : Option Nat :=
  if s.regionHeld then some 2
  else match s.store.staged with
    | none => some 6
    | some i =>
      if s.met.commit.isSome then some 2
      else if s.running.hmax < i.hmin || i.hmax < s.running.hmax then some 3
      else none

/-- Step 1 of R680, after its completion: running maintenance activities end with cause 2. -/
def State.activate (s : State) (route : Nat) : State :=
  let s := { s with fw := { s.fw with ho := some { route := route, step := 1, since := s.up } } }
  s.maAbortAll 2 (s.maint.filter fun a => a.running)

/-! ### Commands on RP12 -/

/-- FW_STATUS (R691). -/
def execFwStatus (q : Req) (s : State) : Out :=
  mail { op := 0x1201, pair := 12 } q s true fun s =>
    let route := match s.fw.rx, s.fw.ho with
      | some x, _ => x.route
      | none, some h => h.route
      | none, none => 0
    s.ok (toLE 1 s.fw.run ++ toLE 1 s.stagedCode ++ toLE 1 route ++ toLE 1 s.fw.lastHo ++ toLE 4 s.received
      ++ toLE 4 s.store.minSvn ++ toLE 4 ((s.store.staged.map fun i => i.ver).getD 0)
      ++ toLE 4 (((s.store.slots.getD (1 - s.fw.run) none).map fun i => i.ver).getD 0))

/-- FW_STAGE_BEGIN (R692). -/
def execFwStageBegin (q : Req) (s : State) : Out :=
  mail { op := 0x1202, pair := 12, lo := 4, hi := 4 } q s true fun s =>
    let x := s.stageBegin 1 (u32 q.payload 0)
    { st := x.2, status := x.1 }

/-- FW_STAGE_DATA (R692). -/
def execFwStageData (q : Req) (s : State) : Out :=
  mail { op := 0x1203, pair := 12, lo := 4, hi := 4, bulk := 1 } q s true fun s =>
    let x := s.stageData 1 (u32 q.payload 0) (s.bulkGet 12 (q.bulk.getD (0, 0)))
    if x.1 = 0 then x.2.ok (toLE 4 x.2.received) else { st := x.2, status := x.1 }

/-- FW_STAGE_VERIFY (R693). -/
def execFwStageVerify (q : Req) (s : State) : Out :=
  mail { op := 0x1204, pair := 12 } q s true fun s =>
    let x := s.stageVerify 1 (some q.tag)
    if x.1 = 0 then x.2.queued else { st := x.2, status := x.1 }

/-- FW_VERIFY_DONE (R678, R693) of the verification that RP12 started. -/
def execFwVerifyDone (s : State) : Out :=
  match s.fw.rx with
  | none => .next s
  | some x =>
    onlyIf (x.verify && x.route == 1 && s.fwRuns) s fun s =>
      let y := s.verified x
      match x.tag with
      | some t => y.2.2.finish 12 t (vstepStatus y.1) (if y.1 = 0 then toLE 1 0 ++ y.2.1 else [])
      | none => y.2.2

/-- FW_ACTIVATE (R679, R680): its OK is written first. -/
def execFwActivate (q : Req) (s : State) : Out :=
  let c : Cmd := { op := 0x1205, pair := 12 }
  if s.fwRuns && (s.screen c q true).isNone && s.activateRefused.isNone then
    .next ((s.complete 12 0x1205 q.tag 0 [] none).activate 1)
  else
    mail c q s true fun s =>
      match s.activateRefused with
      | some st => s.no st
      | none => s.ok

/-- FW_STAGE_ABORT (R693). -/
def execFwStageAbort (q : Req) (s : State) : Out :=
  mail { op := 0x1206, pair := 12 } q s true fun s =>
    let x := s.stageAbort 1
    { st := x.2, status := x.1 }

/-- STAGING_TIMEOUT (R671): 60 s without a data frame or command, not while a verification runs. -/
def execStagingTimeout (s : State) : Out :=
  match s.fw.rx with
  | none => .next s
  | some x => onlyIf (!x.verify && x.at_ + 60000 ≤ s.up) s fun s => ({ s with fw := { s.fw with rx := none } }).evtStage 4 0 x.route

/-! ### Handover -/

/-- The reduced set of setpoints (R22). -/
def State.reduction (s : State) : List Int :=
  let sp (k : Nat) : Int := (s.out.toList.getD k {}).pilot.setpoint
  let capsI := (List.range 24).map fun k => (sp k).toNat
  let capsE := (List.range 24).map fun k => (-(sp k)).toNat
  let eligI := s.bud.elig.filter fun k => 0 < sp k
  let eligE := s.bud.elig.filter fun k => sp k < 0
  let lim := if s.inLattice then s.ownFloor else (sub3 (fld3 s.bud.cfg 0) (fld3 s.bud.cfg 26), fld3 s.bud.cfg 6)
  signedGrants (s.allocate (s.limsI lim.1) capsI eligI fun _ => true) (s.allocate (s.limsE lim.2) capsE eligE fun _ => true)

/-- HANDOVER_RESTART (R22, R680): the reduced set at once, the record, and the ring service pause. -/
def execHandoverRestart (s : State) : Out :=
  match s.fw.ho with
  | none => .next s
  | some h =>
    onlyIf (h.step == 1 && s.fwRuns) s fun s =>
      let r := s.reduction
      let s := (s.setAll r outlets).abandonVisit
      { s with
        bud := { s.bud with reduced := true, rounds := [], shareSeen := false, reg := r }
        rings := { s.rings with pause := true, pauseOver := false }
        fw := { s.fw with ho := some { h with step := 3, since := s.up } } }

/-- IMAGE_COPY_DONE (R680, R684): steps 4 and 5; a slot whose copy or load failed is no valid slot. -/
def execImageCopyDone (copyok loadok : Bool) (s : State) : Out :=
  match s.fw.ho with
  | none => .next s
  | some h =>
    onlyIf (h.step == 3 && h.roll.isNone && s.rings.pause) s fun s =>
      let ok := copyok && loadok
      { s with
        store := { s.store with slots := s.store.slots.set (1 - s.fw.run) (if ok then s.store.staged else none) }
        fw := { s.fw with ho := some { h with step := if ok then 5 else 3 } } }

/-- HANDOVER_ROLLBACK (R684): the cores restart from the slot of the marker, and FW_HANDOVER latches with the failed step; where
that firmware fails too, the watchdog counts as expired (R560). -/
def execHandoverRollback (step : Nat) (s : State) : Out :=
  match s.fw.ho with
  | none => .next s
  | some h =>
    onlyIf (s.rings.pause && !h.dead) s fun s =>
      if h.roll.isSome then
        ({ s with fw := { s.fw with ho := some { h with dead := true } } }).setLimp s.lsw.lhpin true
      else ({ s with fw := { s.fw with ho := some { h with roll := some step } } }).raise 105 0xFFFF step

/-- The slot that an accepted handover puts in force, with MIN_SVN (R677, R681). -/
def State.takeSlot (s : State) : State :=
  let m := 1 - s.fw.run
  let i := (s.store.slots.getD m none).getD {}
  let svn := if i.commit then max s.store.minSvn i.svn else s.store.minSvn
  { s with
    store := { s.store with marker := m, minSvn := svn, staged := none, stagedLen := 0 }
    bak := { s.bak with minSvn := svn }
    fw := { s.fw with run := m, lastHo := 1 } }

/-- SYS_HANDOVER_DONE (R680, R684). -/
def State.evtHandover (s : State) (pause : Nat) : State :=
  let v := s.running.ver
  s.emit 0 0x0183 (toLE 1 v ++ toLE 1 (v / 256) ++ toLE 1 s.fw.run ++ zeros 1 ++ toLE 2 (min pause 0xFFFF))

/-- The openings that the safety island made meanwhile, in order (R139). -/
def State.applyFwActs (s : State) : List FwAct → State
  | [] => s
  | a :: t => State.applyFwActs (s.sessTo a.outlet a.goal a.cause) t

/-- The pilot states that changed meanwhile, on the outlets of a list (R135, R139). -/
def State.catchPilots (s : State) : List ONum → State
  | [] => s
  | o :: t => State.catchPilots (s.pilotSession o (s.o o).ses.closeCause) t

/-- A WAVE_EXPORT in flight completes TIMEOUT (R682). -/
def State.endExport (s : State) : State :=
  match s.en.exporting with
  | some x => ({ s with en := { s.en with exporting := none } }).finish 4 x.tag 8 []
  | none => s

/-- The record is accepted (R139, R174, R560, R680 to R684): by the new firmware, or by the one that a rollback resumed. -/
def State.resume (s : State) (h : Handover) (dropped : List Nat) : State :=
  let s := match h.roll with
    | some _ => { s with fw := { s.fw with lastHo := 2 } }
    | none => s.takeSlot
  let acts := s.fwAct
  let s := { s with
    fwAct := [], fw := { s.fw with ho := none }
    rings := { s.rings with pause := false, pauseOver := false } }
  let s := match h.roll with
    | some k => s.emitNow 12 0x1281 (toLE 1 k ++ toLE 1 s.fw.run ++ zeros 2 ++ toLE 8 s.bak.rtc) none
    | none => s
  let s := (s.evtHandover (s.up - h.since)).flushDeferred
  let s := (s.setLimp s.lsw.lhpin false).endExport
  let s := (outlets.foldl (fun s o => s.lockSession o) ((s.applyFwActs acts).catchPilots outlets))
  (outlets.filter fun o => dropped.contains o.val).foldl (fun s o => s.setFallback o 4) s

/-! ### Service port -/

/-- The 16 bytes of SYS_VERSION (R89). -/
def State.version (s : State) : Bytes :=
  let i := s.running
  toLE 4 i.ver ++ [0x42, 0x01] ++ toLE 1 s.fw.run ++ toLE 1 Config.romVersion.toNat ++ toLE 4 i.build ++ toLE 4 (b2n i.co)

/-- A response frame (R686). -/
def svcFrameOf (status seq : Nat) (payload : Bytes) : Bytes :=
  let b := toLE 1 status ++ toLE 1 seq ++ toLE 2 payload.length ++ payload
  b ++ toLE 4 (crc32c b)

/-- The response to the frame in hand, which has been executed (R686, R687). -/
def State.svcReply (s : State) (seq status : Nat) (payload : Bytes) : State :=
  { s with svc := { pend := none, last := some seq, resp := svcFrameOf status seq payload, srdy := true } }

/-- The port serves: the firmware runs, or the ROM does (R688, R689). -/
def State.svcServes (s : State) : Bool := s.fwRuns || (s.fw.rom && s.powered)

/-- The payload length of a service command (R688). -/
def svcLenOk (cmd n : Nat) : Bool :=
  match cmd with
  | 1 | 4 | 6 | 7 => n == 0
  | 2 => n == 4
  | 3 => 5 ≤ n && n ≤ 4096
  | 5 => n ≤ 1
  | _ => false

/-- A command frame has LEN bytes of payload, at most 4,096, and a right CRC (R686). A frame of another length counts as one with
a wrong CRC (log entry 56). -/
def svcFrameOk (b : Bytes) : Bool :=
  let n := u16 b 2
  decide (n ≤ 4096) && b.length == n + 8 && u32 b (n + 4) == crc32c (b.take (n + 4))

/-- SVC_FRAME (R686, R687) of the bytes on SMOSI: a wrong CRC has no effect, a repeated SEQ repeats the response, a sound frame waits for
execution. -/
def execSvcFrame (b : Bytes) (s : State) : Out :=
  onlyIf (s.svcServes && s.svc.srdy) s fun s =>
    let cmd := u8 b 0
    let seq := u8 b 1
    let payload := (b.drop 4).take (u16 b 2)
    if !svcFrameOk b then
      ({ s with svc := { s.svc with resp := svcFrameOf 5 seq [] } }).raise 107 0xFFFF cmd
    else if s.svc.last = some seq then s
    else if cmd = 0 || 7 < cmd then s.svcReply seq 0x0A []
    else if !svcLenOk cmd payload.length then s.svcReply seq 5 []
    else { s with svc := { s.svc with pend := some (cmd, seq, payload), srdy := false } }

/-- Execute the frame in hand where it has this command and payload; `f` answers status, response payload and state. -/
def State.svcRun (s : State) (cmd : Nat) (payload : Bytes) (f : State → Nat × Bytes × State) : State :=
  match s.svc.pend with
  | none => s
  | some p =>
    if p.1 = cmd && p.2.2 == payload && s.svcServes then
      let x := f s
      x.2.2.svcReply p.2.1 x.1 x.2.1
    else s

/-- INFO (R688). -/
def execSvcInfo (s : State) : Out :=
  .next (s.svcRun 1 [] fun s =>
    (0, s.version ++ toLE 1 (b2n s.fw.rom) ++ toLE 1 s.stagedCode ++ zeros 2 ++ toLE 4 s.received, s))

/-- STAGE_BEGIN on the service port (R688, R692). -/
def execSvcStageBegin (total : Nat) (s : State) : Out :=
  .next (s.svcRun 2 (toLE 4 total) fun s =>
    let x := s.stageBegin 2 total
    (x.1, [], x.2))

/-- STAGE_DATA on the service port (R688). -/
def execSvcStageData (offset : Nat) (data : Bytes) (s : State) : Out :=
  .next (s.svcRun 3 (toLE 4 offset ++ data) fun s =>
    let x := s.stageData 2 offset data
    (x.1, if x.1 = 0 then toLE 4 x.2.received else [], x.2))

/-- VERIFY on the service port (R678, R688). -/
def execSvcVerify (s : State) : Out :=
  .next (s.svcRun 4 [] fun s =>
    match s.fw.rx with
    | none => (if s.fw.ho.isSome then 2 else 6, [], s)
    | some x =>
      if x.route ≠ 2 then (2, [], s)
      else
        let y := s.verified x
        (vstepStatus y.1, toLE 1 y.1 ++ y.2.1, y.2.2))

/-- INSTALL: the verified image into each slot of the mask, the marker at the lowest (R690). -/
def State.install (s : State) (slots : Nat) : Nat × State :=
  if slots = 0 || 3 < slots then (5, s)
  else if s.fw.rx.isSome then (2, s)
  else match s.store.staged with
    | none => (6, s)
    | some i =>
      let put (k : Nat) (x : Option FwImg) : Option FwImg := if bit slots k then some i else x
      (0, { s with store := { s.store with
        slots := [put 0 (s.store.slots.getD 0 none), put 1 (s.store.slots.getD 1 none)], marker := if bit slots 0 then 0 else 1 } })

/-- ACTIVATE, or INSTALL in ROM recovery (R688, R690); `slots` is SLOTS, 0 for the form without it. -/
def execSvcActivate (slots : Nat) (s : State) : Out :=
  .next (
    let p := (s.svc.pend.map fun p => p.2.2).getD []
    if p.isEmpty && slots ≠ 0 then s
    else s.svcRun 5 (if p.isEmpty then [] else toLE 1 slots) fun s =>
      if s.fw.rom then
        if p.isEmpty then (5, [], s)
        else
          let x := s.install slots
          (x.1, [], x.2)
      else if !p.isEmpty then (6, [], s)
      else match s.activateRefused with
        | some st => (st, [], s)
        | none => (0, [], s.activate 2))

/-- ABORT on the service port (R688). -/
def execSvcAbort (s : State) : Out :=
  .next (s.svcRun 6 [] fun s =>
    let x := s.stageAbort 2
    (x.1, [], x.2))

/-- EXIT (R690): a reset with cause RECOVERY; firmware answers NOTREADY. -/
def execSvcExit (s : State) : Out :=
  .next (
    let t := s.svcRun 7 [] fun s => (if s.fw.rom then 0 else 6, [], s)
    if s.fw.rom && s.svc.pend.isSome && t.svc.pend.isNone then t.resetTo 8 else t)

end Sys2Proof.Machine
end

