-- ==== Sys2Proof/Decode.lean ====
section
/-! DEFINITION. What a submission's opcode names. The table of operations and events gives its rows no bits, so no word
spells a command; the opcodes of the mailbox commands are those of the chapters (03, Opcodes and pairs). -/

namespace Sys2Proof

/-- The pair that serves a high byte of an opcode (03, Opcodes and pairs); SYS_LOOPBACK only on RP15, maintenance
activities on RP13. -/
def pairOfOpcode (op : Nat) : PNum :=
  if op = 0x0110 then 15
  else if op / 256 = 0x11 then (if op % 256 < 0x10 then 0 else 13)
  else match op / 256 with
    | 0x01 => 0
    | 0x02 => 1
    | 0x03 => 1
    | 0x04 => 2
    | 0x05 => 2
    | 0x06 => 3
    | 0x07 => 4
    | 0x08 => 5
    | 0x09 => 5
    | 0x0A => 6
    | 0x0B => 7
    | 0x0C => 8
    | 0x0D => 9
    | 0x0E => 10
    | 0x0F => 10
    | 0x10 => 11
    | 0x12 => 12
    | _ => 0

/-- Commands with high byte 0x01. -/
def opcodes01 : List (Nat × (Req → Instr)) :=
  [(0x0101, .sysVersion),
   (0x0102, .sysIdentity),
   (0x0103, .sysPowerGet),
   (0x0104, .sysPowerSet),
   (0x0105, .sysDomainSet),
   (0x0106, .sysTimeSnapshot),
   (0x0107, .sysSeqQuery),
   (0x0110, .sysLoopback)]

/-- Commands with high byte 0x02. -/
def opcodes02 : List (Nat × (Req → Instr)) :=
  [(0x0201, .outletConfigSet),
   (0x0202, .outletConfigGet),
   (0x0203, .outletStatusGet),
   (0x0204, .outletAuth),
   (0x0205, .outletStop),
   (0x0206, .outletService),
   (0x0207, .outletUnlock)]

/-- Commands with high byte 0x03. -/
def opcodes03 : List (Nat × (Req → Instr)) :=
  [(0x0301, .hlcConfigSet),
   (0x0302, .hlcConfigGet),
   (0x0303, .hlcSlacSet),
   (0x0304, .hlcStatusGet),
   (0x0305, .hlcExportSet),
   (0x0306, .hlcCertFetch),
   (0x0307, .hlcCertReply),
   (0x0308, .hlcStatsGet)]

/-- Commands with high byte 0x04. -/
def opcodes04 : List (Nat × (Req → Instr)) :=
  [(0x0401, .protConfigSet),
   (0x0402, .protConfigGet),
   (0x0403, .protStatusGet),
   (0x0404, .protSelftest)]

/-- Commands with high byte 0x05. -/
def opcodes05 : List (Nat × (Req → Instr)) :=
  [(0x0501, .safeStatusGet),
   (0x0502, .safeConfigRead),
   (0x0503, .safeConfigWrite),
   (0x0504, .safeConfirm),
   (0x0505, .safeModeSet),
   (0x0506, .safePasswordSet),
   (0x0507, .safeLogRead),
   (0x0508, .safeWeldResolve),
   (0x0509, .safeSiteSet)]

/-- Commands with high byte 0x06. -/
def opcodes06 : List (Nat × (Req → Instr)) :=
  [(0x0601, .budConfigSet),
   (0x0602, .budConfigGet),
   (0x0603, .budOutletSet),
   (0x0604, .budOutletGet),
   (0x0605, .budStatusGet),
   (0x0606, .budExtload),
   (0x0607, .budStepAt),
   (0x0608, .latConfigSet),
   (0x0609, .latConfigGet),
   (0x060A, .latStatusGet)]

/-- Commands with high byte 0x07. -/
def opcodes07 : List (Nat × (Req → Instr)) :=
  [(0x0701, .metroConfigSet),
   (0x0702, .metroConfigGet),
   (0x0703, .metroScaleSet),
   (0x0704, .metroScaleGet),
   (0x0705, .metroCalWrite),
   (0x0706, .metroCalRead),
   (0x0707, .metroTableWrite),
   (0x0708, .metroTableRead),
   (0x0709, .metroCalDigest),
   (0x070A, .metroCalCommit),
   (0x070B, .metroCalRevert),
   (0x070C, .metroChStatus),
   (0x070D, .metroLineGet),
   (0x070E, .metroRaw),
   (0x0710, .energyConfigSet),
   (0x0711, .energyConfigGet),
   (0x0712, .energyRead),
   (0x0713, .energyInstant),
   (0x0714, .energyLatchNow),
   (0x0715, .pqLogRead),
   (0x0716, .waveList),
   (0x0717, .waveExport),
   (0x0718, .waveTrigger),
   (0x0719, .tamperStatus),
   (0x071A, .tamperClear)]

/-- Commands with high byte 0x08. -/
def opcodes08 : List (Nat × (Req → Instr)) :=
  [(0x0801, .billConfigSet),
   (0x0802, .billConfigGet),
   (0x0803, .billCalendarWrite),
   (0x0804, .billCalendarRead),
   (0x0805, .billCalendarActivate),
   (0x0806, .billTimeGet),
   (0x0807, .billTimeSet),
   (0x0808, .billRegistersGet),
   (0x0809, .billPeriodGet),
   (0x080A, .billPeriodClose),
   (0x080B, .ledgerRead),
   (0x080C, .ledgerStatus),
   (0x080D, .billCommitNow)]

/-- Commands with high byte 0x09. -/
def opcodes09 : List (Nat × (Req → Instr)) :=
  [(0x0901, .dlmsTunnel),
   (0x0902, .dlmsConfigSet),
   (0x0903, .dlmsConfigGet),
   (0x0904, .dlmsAssocList),
   (0x0905, .dlmsAssocAbort)]

/-- Commands with high byte 0x0A. -/
def opcodes0A : List (Nat × (Req → Instr)) :=
  [(0x0A01, .creditAccountSet),
   (0x0A02, .creditAccountGet),
   (0x0A03, .creditAdjust),
   (0x0A04, .creditBind),
   (0x0A05, .creditConfigSet),
   (0x0A06, .creditConfigGet),
   (0x0A07, .voucherEnter),
   (0x0A08, .voucherStatus)]

/-- Commands with high byte 0x0B. -/
def opcodes0B : List (Nat × (Req → Instr)) :=
  [(0x0B01, .lineConfigSet),
   (0x0B02, .lineConfigGet),
   (0x0B03, .lineStatusGet),
   (0x0B04, .linePeers),
   (0x0B05, .lineSend),
   (0x0B06, .lineMapGet),
   (0x0B07, .lineMapRequest),
   (0x0B08, .lineStatsGet)]

/-- Commands with high byte 0x0C. -/
def opcodes0C : List (Nat × (Req → Instr)) :=
  [(0x0C01, .netConfigSet),
   (0x0C02, .netConfigGet),
   (0x0C03, .netStatusGet),
   (0x0C04, .netToutSet),
   (0x0C05, .netToutGet),
   (0x0C06, .netTcapSet),
   (0x0C07, .netTcapRead),
   (0x0C08, .netTimeSet),
   (0x0C09, .netStats)]

/-- Commands with high byte 0x0D. -/
def opcodes0D : List (Nat × (Req → Instr)) :=
  [(0x0D01, .nfcConfigSet),
   (0x0D02, .nfcConfigGet),
   (0x0D03, .nfcTagRead),
   (0x0D04, .nfcTagWrite),
   (0x0D05, .nfcTagKey),
   (0x0D06, .nfcTagStatus)]

/-- Commands with high byte 0x0E. -/
def opcodes0E : List (Nat × (Req → Instr)) :=
  [(0x0E01, .lswChanSet),
   (0x0E02, .lswChanGet),
   (0x0E03, .lswOut),
   (0x0E04, .lswStatusGet),
   (0x0E05, .lswBankGet),
   (0x0E06, .lswClear)]

/-- Commands with high byte 0x0F. -/
def opcodes0F : List (Nat × (Req → Instr)) :=
  [(0x0F01, .panelConfigSet),
   (0x0F02, .panelConfigGet),
   (0x0F03, .panelWrite),
   (0x0F04, .panelFlip),
   (0x0F05, .panelCurveSet),
   (0x0F06, .panelCurveGet),
   (0x0F07, .panelStatusGet),
   (0x0F08, .panelStressRead)]

/-- Commands with high byte 0x10. -/
def opcodes10 : List (Nat × (Req → Instr)) :=
  [(0x1001, .keyInfo),
   (0x1002, .keyUpdate),
   (0x1003, .keyDerive),
   (0x1004, .keyRevoke),
   (0x1005, .keyPublicRead),
   (0x1006, .keyStatus)]

/-- Commands with high byte 0x11. -/
def opcodes11 : List (Nat × (Req → Instr)) :=
  [(0x1101, .fltClear),
   (0x1102, .fltSeveritySet),
   (0x1103, .fltLogRead),
   (0x1110, .maStart),
   (0x1111, .maAbort),
   (0x1112, .maStatus)]

/-- Commands with high byte 0x12. -/
def opcodes12 : List (Nat × (Req → Instr)) :=
  [(0x1201, .fwStatus),
   (0x1202, .fwStageBegin),
   (0x1203, .fwStageData),
   (0x1204, .fwStageVerify),
   (0x1205, .fwActivate),
   (0x1206, .fwStageAbort)]

/-- Every command opcode (R75). -/
def opcodes : List (Nat × (Req → Instr)) :=
  opcodes01 ++ opcodes02 ++ opcodes03 ++ opcodes04 ++ opcodes05 ++ opcodes06 ++ opcodes07 ++ opcodes08 ++ opcodes09 ++ opcodes0A ++ opcodes0B ++ opcodes0C ++ opcodes0D ++ opcodes0E ++ opcodes0F ++ opcodes10 ++ opcodes11 ++ opcodes12

/-- The command that a submission's opcode names; none for an unknown opcode (R76). -/
def commandOf (op : Nat) (q : Req) : Option Instr :=
  match opcodes.find? fun e => e.1 == op with
  | some e => some (e.2 q)
  | none => none

/-- The command that a word spells: none, because no row of the table gives bits. -/
def decodeTableWord (_nbits _w : Nat) : Option Instr := none

end Sys2Proof
end

