-- ==== Sys2Proof/Machine/Rings.lean ====
section
/-! DEFINITION. The RING block and the consumption of submissions (03). -/

namespace Sys2Proof.Machine

/-! ### Registers -/

/-- A field of 4 bits of RINGn_CFG. -/
def cfgDepthOk (k : Nat) : Bool := 3 ≤ k && k ≤ 9

/-- A ring of depth 2^k at `base`: aligned to its size and inside the ring memory (R65). -/
def ringFits (base k : Nat) : Bool :=
  base * 512 % (2 ^ k * 64) == 0 && base * 512 + 2 ^ k * 64 ≤ 196608

/-- Two rings share no byte. -/
def ringsApart (b1 k1 b2 k2 : Nat) : Bool :=
  b1 * 512 + 2 ^ k1 * 64 ≤ b2 * 512 || b2 * 512 + 2 ^ k2 * 64 ≤ b1 * 512

/-- The layout of pair `n` keeps R65 beside every other enabled ring. -/
def layoutOk (s : State) (n : PNum) (sq cq : Nat) : Bool :=
  let p := s.pr n
  cfgDepthOk sq && cfgDepthOk cq && ringFits p.sqBase sq && ringFits p.cqBase cq && ringsApart p.sqBase sq p.cqBase cq &&
    (List.finRange 16).all fun m =>
      let r := s.pr m
      m == n || r.state == 0 ||
        (ringsApart p.sqBase sq r.sqBase r.sqLog2 && ringsApart p.sqBase sq r.cqBase r.cqLog2 &&
          ringsApart p.cqBase cq r.sqBase r.sqLog2 && ringsApart p.cqBase cq r.cqBase r.cqLog2)

/-- A write to RINGn_CFG (R87, R88). -/
def ringCfgWrite (s : State) (n : PNum) (v : Nat) : State :=
  let p := s.pr n
  let en := bit v 0
  let sq := field v 4 4
  let cq := field v 8 4
  if p.state ≠ 0 then
    if sq ≠ p.sqLog2 || cq ≠ p.cqLog2 || (p.state == 2 && en) then s.setPr n { p with cfgErr := true }
    else if p.state = 1 && !en then
      { s.setPr n { p with state := 2, held := [] } with
        rings := { (s.setPr n { p with state := 2, held := [] }).rings with
          deferred := s.rings.deferred.filter fun e => e.pair != n || e.final.isSome } }
    else s
  else if en then
    if layoutOk s n sq cq then
      { s.setPr n { p with
          state := 1, sqLog2 := sq, cqLog2 := cq, sqHead := 0, sqTail := 0, cqTail := 0, cqHead := 0, evtSeq := 0, held := []
          bells := [] } with
        en := { s.en with chunkEnd := if n = 14 then none else s.en.chunkEnd } }
    else s.setPr n { p with sqLog2 := sq, cqLog2 := cq, cfgErr := true }
  else s.setPr n { p with sqLog2 := sq, cqLog2 := cq }

/-- A write to RINGn_BASE (R87). -/
def ringBaseWrite (s : State) (n : PNum) (v : Nat) : State :=
  let p := s.pr n
  let sb := field v 0 9
  let cb := field v 16 9
  if p.state ≠ 0 && (sb ≠ p.sqBase || cb ≠ p.cqBase) then s.setPr n { p with cfgErr := true }
  else s.setPr n { p with sqBase := sb, cqBase := cb }

/-- A doorbell write (R70, R88). -/
def doorbell (s : State) (n : PNum) (v : Nat) : State :=
  let p := s.pr n
  let t := v % 65536
  if p.state = 1 && ringCount p.sqTail t ≤ p.sqDepth - ringCount p.sqHead p.sqTail then
    s.setPr n { p with sqTail := t, bells := if t = p.sqTail then p.bells else p.bells ++ [t] }
  else (s.setPr n { p with dbErr := true }).raise 22 n.val v

/-- A completion head write (R71, R88). -/
def headWrite (s : State) (n : PNum) (v : Nat) : State :=
  let p := s.pr n
  let h := v % 65536
  if p.state = 1 && ringCount p.cqHead h ≤ ringCount p.cqHead p.cqTail then
    let s := s.setPr n { p with cqHead := h }
    let moved (x : Export) : Export := { x with headAt := s.up }
    if n = 14 ∧ h ≠ p.cqHead then { s with en := { s.en with exporting := s.en.exporting.map moved } } else s
  else (s.setPr n { p with headErr := true }).raise 22 n.val v

/-- A word of the RING block at offset `off` from 0x1000. -/
def ringRead (s : State) (off : Nat) : Nat :=
  if h : off / 64 < 16 then
    let p := s.pr ⟨off / 64, h⟩
    match off % 64 with
    | 0x00 => p.state * 16384 + p.cqLog2 * 256 + p.sqLog2 * 16 + b2n (p.state == 1)
    | 0x04 => p.cqBase * 65536 + p.sqBase
    | 0x08 => p.sqHead
    | 0x0C => p.sqTail
    | 0x10 => p.cqTail
    | 0x14 => p.cqHead
    | 0x18 => b2n p.cfgErr + 2 * b2n p.dbErr + 4 * b2n p.headErr + 8 * b2n p.parityErr + 16 * b2n p.evtLostFlag
        + 256 * b2n (s.bulkBusy ⟨off / 64, h⟩)
    | 0x1C => p.evtSeq
    | 0x20 => p.evtLost
    | 0x24 => p.done
    | _ => 0
  else 0

/-- A write to a word of the RING block. -/
def ringWrite (s : State) (off v : Nat) : State :=
  if h : off / 64 < 16 then
    let n : PNum := ⟨off / 64, h⟩
    match off % 64 with
    | 0x00 => ringCfgWrite s n v
    | 0x04 => ringBaseWrite s n v
    | 0x0C => doorbell s n v
    | 0x14 => headWrite s n v
    | 0x18 => s.modPr n fun p => { p with
        cfgErr := p.cfgErr && !bit v 0, dbErr := p.dbErr && !bit v 1, headErr := p.headErr && !bit v 2,
        parityErr := p.parityErr && !bit v 3, evtLostFlag := p.evtLostFlag && !bit v 4 }
    | 0x20 => s.modPr n fun p => { p with evtLost := v % 65536 }
    | _ => s
  else s

/-! ### Submissions -/

/-- The submission entry at ring index `i` of pair `n`. -/
def sqEntry (s : State) (n : PNum) (i : Nat) : Bytes :=
  Memory.readN s.rings.mem (slotOff (s.pr n).sqBase (s.pr n).sqDepth i) 64

/-- The entries from index `i` on, at most `k` of them: up to and including the first with MORE clear (R78), and whether
such an entry was found. -/
def chainFrom (s : State) (n : PNum) : Nat → Nat → List Bytes × Bool
  | 0, _ => ([], false)
  | k + 1, i =>
    let e := sqEntry s n i
    if bit (u8 e 4) 2 then
      let r := chainFrom s n k (i + 1)
      (e :: r.1, r.2)
    else ([e], true)

/-- Payload bytes that an entry uses. -/
def entryPayload (e : Bytes) : Bytes := (e.drop 8).take (u16 e 6)

/-- LEN within the limit of the entry's flags (03, Entries). -/
def entryLenOk (e : Bytes) : Bool := u16 e 6 ≤ (if bit (u8 e 4) 1 then 52 else 56)

/-- A chain that keeps the rules of R78: at most 8 entries, ended, all of them submitted with one doorbell write, which covers
`bell` entries, one opcode and tag, BULK only in the last entry. -/
def chainOk (es : List Bytes) (ended : Bool) (bell : Nat) : Bool :=
  ended && es.length ≤ 8 && es.length ≤ bell && (es.all fun e => u16 e 0 == u16 (es.headD []) 0 && u16 e 2 == u16 (es.headD []) 2) &&
    (es.all entryLenOk) && (es.dropLast.all fun e => !bit (u8 e 4) 1)

/-- The request of a well-formed chain. -/
def reqOf (es : List Bytes) : Req :=
  let last := es.getLastD []
  { tag := u16 (es.headD []) 2, chain := decide (1 < es.length), payload := (es.map entryPayload).flatten,
    bulk := if bit (u8 last 4) 1 then some (u16 last 60, u16 last 62) else none }

/-- The submission head moved past `k` entries, and the doorbell writes that this uses up dropped (R72, R78). -/
def Pair.consume (p : Pair) (k : Nat) : Pair :=
  { p with
    sqHead := (p.sqHead + k) % 65536
    bells := p.bells.filter fun b => k < ringCount p.sqHead b }

/-- Entries whose first read fails the parity test and whose second is clean log a transient fault each (R68). -/
def parityRetries (s : State) (n : PNum) (par : List Nat) : List Nat → State
  | [] => s
  | i :: t =>
    let p := s.pr n
    parityRetries (if par.getD i 0 = 1 then s.transient 23 n.val (0x10000 + slotOff p.sqBase p.sqDepth (p.sqHead + i)) else s) n par t

/-- Consume the next submission of pair `n` (R68, R72 to R74, R76, R78, R734): nothing while no completion slot can be
reserved, while the pair's last consumed command has not run, and after an accepted activation (R680). `par` says how each entry in
turn reads: 0 good, 1 good on the second read, 2 bad twice. An entry of a chain that reads bad twice ends the chain there, FAULTED;
the entries after it are new submissions, whatever its MORE says (log entry 63). -/
def fetch (s : State) (n : PNum) (par : List Nat) : State :=
  let p := s.pr n
  if !s.fwRuns || s.fw.ho.isSome || p.state ≠ 1 || ringCount p.sqHead p.sqTail = 0 || !p.held.isEmpty || s.startedOn n ≠ 0
    || s.cqFree n ≤ s.reserved n then s
  else
    let r := chainFrom s n (ringCount p.sqHead p.sqTail) p.sqHead
    let es := r.1
    match (List.range es.length).find? fun i => 2 ≤ par.getD i 0 with
    | some i =>
      let e := es.getD i []
      let s := parityRetries s n par (List.range i)
      let s := s.setPr n { (s.pr n).consume (i + 1) with parityErr := true }
      (s.raiseRetried 23 n.val (0x10000 + slotOff p.sqBase p.sqDepth (p.sqHead + i))).complete n (u16 e 0) (u16 e 2) 0x09 [] none
    | none =>
      let e := es.headD []
      let op := u16 e 0
      let tag := u16 e 2
      let s := parityRetries s n par (List.range es.length)
      let s := s.setPr n ((s.pr n).consume es.length)
      match commandOf op (reqOf es) with
      | none => s.complete n op tag 0x0A [] none
      | some c =>
        if pairOfOpcode op ≠ n || bit (u8 e 4) 0 || (op / 256 = 13 && Config.variantIN) then s.complete n op tag 0x0A [] none
        else if !chainOk es r.2 (ringCount p.sqHead (p.bells.headD p.sqTail)) then s.complete n op tag 0x05 [] none
        else { s with started := s.started ++ [{ pair := n, cmd := c, tag := tag, bulk := (reqOf es).bulk }] }

/-- Held units go into the ring in order while it has room (R83); completions may use the slots reserved for them. -/
def drainHeld (s : State) (n : PNum) : Nat → State
  | 0 => s
  | k + 1 =>
    match (s.pr n).held with
    | [] => s
    | h :: t =>
      if h.entries.length + (if h.event then s.reserved n else 0) ≤ s.cqFree n then
        drainHeld ((s.setPr n { s.pr n with held := t }).putUnit n h) n k
      else s

/-- STATE of a draining pair reaches off when its last command has ended (R88). -/
def drainEnd (s : State) (n : PNum) : State :=
  let p := s.pr n
  if p.state = 2 && p.inflight.isEmpty && s.startedOn n = 0 then s.setPr n { p with state := 0, held := [] } else s

/-! ### Meanings -/

/-- PAIR_DRAIN_END (R88). -/
def execPairDrainEnd (n : PNum) (s : State) : Out := .next (drainEnd s n)

/-- SUBMISSION_FETCH (R734): `par` as in `fetch`. -/
def execSubmissionFetch (n : PNum) (par : List Nat) (s : State) : Out := .next (fetch s n par)

/-- EVENT_QUEUE_DRAIN (R83). -/
def execEventQueueDrain (n : PNum) (s : State) : Out := .next (drainHeld s n (s.pr n).held.length)

end Sys2Proof.Machine
end

