-- ==== Sys2Proof/Machine/System.lean ====
section
/-! DEFINITION. System commands on RP0 and RP15, the scrub of TMR fields, and the posted writes to STR (00, 02, 03, 21). -/

namespace Sys2Proof.Machine

/-! ### System commands -/

/-- SYS_VERSION (R89). -/
def execSysVersion (q : Req) (s : State) : Out :=
  mail { op := 0x0101, pair := 0 } q s true fun s => s.ok s.version

/-- SYS_IDENTITY (R90). -/
def execSysIdentity (q : Req) (s : State) : Out :=
  mail { op := 0x0102, pair := 0 } q s true fun s =>
    s.ok (toLE 8 Config.uid.toNat ++ toLE 1 (b2n Config.variantIN) ++ zeros 3 ++ toLE 4 Config.lot.toNat
      ++ toLE 2 Config.date.toNat)

/-- SYS_SEQ_QUERY (R96). -/
def execSysSeqQuery (q : Req) (s : State) : Out :=
  let n := u8 q.payload 0
  mail { op := 0x0107, pair := 0, lo := 1, hi := 1 } q s (n ≤ 15) fun s =>
    let e := s.store.eff.toList.getD n {}
    s.ok (toLE 4 e.count ++ toLE 1 e.last.length ++ zeros 3 ++ padTo 16 (e.last.map fun x => toLE 2 x.1).flatten
      ++ padTo 16 (e.last.map fun x => toLE 2 x.2).flatten)

/-- SYS_LOOPBACK (R97). -/
def execSysLoopback (q : Req) (s : State) : Out :=
  mail { op := 0x0110, pair := 15, hi := 56, bulk := 2 } q s true fun s =>
    match q.bulk with
    | none => s.ok q.payload
    | some r => s.ok (toLE 4 (crc32c (s.bulkGet 15 r)))

/-! ### The scrub of TMR fields -/

/-- Channels as a changed limp-home map asks, while limp-home is active (R561). -/
def State.remap (s : State) : State :=
  if s.limpOn then plainChs.foldl (fun s c => (s.lswFollow c).lswApply c) s else s

/-- The severities of the sources of FLT_SEVm as the copies of the word read (R8). -/
def State.sevPut (s : State) (m v : Nat) : State :=
  ((List.range 16).filter fun k => !reservedSrc (16 * m + k) && field v (2 * k) 2 != s.sev (16 * m + k)).foldl
    (fun s k => setSev s (16 * m + k) (field v (2 * k) 2)) s

/-- The TMR fields at `addr` as their copies read; a WL register keeps its lock (R64), a failed ceiling is read from its cell. -/
def State.tmrPut (s : State) (addr v : Nat) : State :=
  if addr = 0 then { s with isl := { s.isl with img := toLE 512 v } }
  else if addr ≤ 24 then s
  else if addr = 0x2060 then { s with flt := { s.flt with react := v } }
  else if addr = 0x3010 then { s with clk := { s.clk with monEn := v } }
  else if addr = 0x4008 then { s with bak := { s.bak with thresh := v } }
  else if addr = 0x6000 then { s with lsw := { s.lsw with map0 := v } }.remap
  else if addr = 0x6004 then { s with lsw := { s.lsw with map1 := v } }.remap
  else s.sevPut ((addr - 0x2040) / 4) v

/-- What the TMR fields at `addr` hold now. -/
def State.tmrWord (s : State) (addr : Nat) : Nat :=
  if addr = 0 then ofLE s.isl.img
  else if h : addr ≤ 24 then s.ceilingOf ⟨addr - 1, by omega⟩
  else if addr = 0x2060 then s.flt.react
  else if addr = 0x3010 then s.clk.monEn
  else if addr = 0x4008 then s.bak.thresh
  else if addr = 0x6000 then s.lsw.map0
  else if addr = 0x6004 then s.lsw.map1
  else sevWord s ((addr - 0x2040) / 4)

/-- Every TMR field at `addr`: 0 the safety configuration, 1 to 24 the ceiling of outlet 0 to 23, else a register. -/
def tmrFieldsOf (addr : Nat) : List TmrField :=
  if addr = 0 then imageFields else if addr ≤ 24 then ceilingFields else tmrFields addr

/-- Byte address that the log entry of a TMR fault carries: 0 for a field without one (02 R735). -/
def tmrData (addr : Nat) : Nat := if addr ≤ 24 then 0 else addr

/-- A pilot whose ceiling has changed follows it at once (R15, R102). -/
def State.tmrFollow (s : State) (was : State) (addr : Nat) : State :=
  if h : 1 ≤ addr ∧ addr ≤ 24 then s.capPilot ⟨addr - 1, by omega⟩ (was.iol ⟨addr - 1, by omega⟩) else if addr = 0 then s.reloadDacs else s

/-- The background scrub of the fields at `addr`: single disagreements are corrected and raise TMR_CORR, a new failure raises
TMR_FAIL (R8). -/
def State.scrubFields (s : State) (addr : Nat) : State :=
  match s.tmr.find? fun c => c.addr == addr with
  | none => s
  | some c =>
    let l := tmrFieldsOf addr
    let s := s.putCell (c.scrubbed l)
    let s := (c.corrected l).foldl (fun s _ => s.raise 19 0xFFFF (tmrData addr)) s
    (c.untold l).foldl (fun s _ => s.raise 20 0xFFFF (tmrData addr)) s

/-- A failed field of the safety configuration makes the island reload the image from NAND, and a confirmation is pending
(R190, R247 reason 4). -/
def State.reloadImage (s : State) : State :=
  match s.tmr.find? fun c => c.addr == 0 with
  | some c =>
    if c.failed = 0 then s
    else
      let z := s
      let s := { s with
        isl := { s.isl with img := s.store.safeImg, cfgFail := true }
        tmr := s.tmr.filter fun c => c.addr != 0 }
      (((s.ceilingsFollow z outlets).reloadDacs).raise 113 0xFFFF 0).enterSafe
  | none => s

/-- Upsets strike the copies at `addr`; from then on every read votes on them (R8). -/
def State.strike (s : State) (addr : Nat) (x : List Nat) : State :=
  let l := tmrFieldsOf addr
  let c := (s.tmrCell addr (s.tmrWord addr)).strike l x
  (((if l.isEmpty then s else s.putCell c).tmrPut addr (c.word l))).tmrFollow s addr

/-- TMR_SCRUB (R8, R63, R64): the scrub of the fields at `addr`, then the upsets `x`, one word for each copy, that strike these
copies until the scrub comes to them again. -/
def execTmrScrub (addr : Nat) (x : List Nat) (s : State) : Out :=
  onlyIf (s.powered && !(tmrFieldsOf addr).isEmpty) s fun s =>
    let s := s.scrubFields addr
    let s := if addr = 0 then s.reloadImage else s
    if x.all fun m => m == 0 then s else s.strike addr x

/-! ### Posted writes to STR -/

/-- Protocol errors count, and HPC_PROTO latches with the first cause; later counts raise the count of its occurrence (R38, R735). -/
def State.proto (s : State) (cause addr : Nat) : State :=
  let s := { s with host := { s.host with protoCount := satInc 16 s.host.protoCount, protoCause := cause } }
  let q := match s.flt.occ.find? fun x => x.src == 16 with
    | some x => x.qual
    | none => cause
  s.raise 16 q addr

/-- A write to the STR block posted; a further one while it is posted is dropped and counted (R59). -/
def State.postStr (s : State) (addr v : Nat) : State :=
  if s.host.strPost.isSome then s.proto 4 addr
  else { s with host := { s.host with strPost := some (addr, v) } }

/-- STR_POST_COMPLETE (R59): STR_CTRL is the one writable register of the block. -/
def execStrPostComplete (s : State) : Out :=
  .next (match s.host.strPost with
    | none => s
    | some (addr, v) =>
      let s := { s with host := { s.host with strPost := none } }
      if addr = 0x501C then
        { s with bak := { s.bak with recover := s.bak.recover || bit v 1, retry := s.bak.retry || bit v 0 } }
      else s)

end Sys2Proof.Machine
end

