-- ==== Sys2Proof/Machine/HostPort.lean ====
section
/-! DEFINITION. The host port: the address map, register reads and writes, transactions, HRDY and attention (02). -/

namespace Sys2Proof.Machine

/-! ### Pins -/

/-- HPC_ATTN_SRC: the completion rings that hold entries, and an unread fault (R50). -/
def State.attnSrc (s : State) : Nat :=
  maskOf ((List.range 16).filter fun n =>
    let p := s.rings.pairs.toList.getD n {}
    ringCount p.cqHead p.cqTail != 0) + 65536 * b2n (s.flt.unread != 0)

/-- The attention condition (R50). -/
def State.attention (s : State) : Bool :=
  s.host.attnEn && (s.attnSrc &&& (s.host.maskRing + 65536 * b2n s.host.maskFault)) != 0

/-- HRDY: low before ST15, then high for the 10 µs of R52; busy while HCS# is low, all through a transaction that is ignored, for no
word of it is ever delivered or accepted; the inverted attention condition while HCS# is high (R44, R50, R52). -/
def State.hrdy (s : State) : Bool :=
  s.portServes &&
    (if s.host.hcsLow then s.host.xact.isNone && !s.host.ignored else s.host.rdyHold || !s.attention)

/-! ### Lanes -/

/-- Lanes of the address and data phases that a command names (R36); the command itself goes on HIO0. -/
def lanesOf (cmd : Nat) : Nat :=
  if cmd = 0x0B || cmd = 0x02 then 1 else if cmd = 0xBB || cmd = 0xA2 then 2 else 4

/-- A byte as the units that the lanes carry, one for each clock: most significant bits first, and in a unit the highest lane
carries the most significant bit (R37). -/
def byteUnits (lanes b : Nat) : List Nat :=
  (List.range (8 / lanes)).map fun i => b / 2 ^ (8 - lanes * (i + 1)) % 2 ^ lanes

/-- `k` bytes of a value on the lanes, least significant byte first (R37, R4). -/
def unitsOf (lanes k v : Nat) : List Nat :=
  ((List.range k).map fun j => byteUnits lanes (v / 256 ^ j % 256)).flatten

/-- The byte that a run of units spells (R37). -/
def unitsByte (lanes : Nat) (us : List Nat) : Nat := us.foldl (fun a u => a * 2 ^ lanes + u % 2 ^ lanes) 0

/-- The value that units spell, least significant byte first (R37, R4). -/
def ofUnits (lanes : Nat) (us : List Nat) : Nat :=
  ((List.range (us.length * lanes / 8)).map fun j =>
    unitsByte lanes ((us.drop (8 / lanes * j)).take (8 / lanes)) * 256 ^ j).foldl (· + ·) 0

/-- The levels that the H24 drives, HIO0 in bit 0 to HIO3 in bit 3, one element for each clock of the data phase: READ1 answers on
HIO1 (R36). A word of 4 bytes each, a byte in the Base-Note Window. -/
def State.hioLevels (s : State) (k : Nat) : List Nat :=
  (s.host.hio.map fun w => (unitsOf s.host.lanes k w).map fun u => if s.host.lanes = 1 then 2 * u else u).flatten

/-- FAULT# is driven low; not in Dormant or Off (R55, R56). -/
def State.faultPin (s : State) : Bool := s.powered && s.faultLow

/-- Drive strength of HIO and HRDY in mA (HPC_CTRL). -/
def State.driveMa (s : State) : Nat := if s.host.iodrv = 0 then 4 else if s.host.iodrv = 1 then 8 else 12

/-! ### The address map -/

/-- An access to a block whose gate is closed or whose domain is off (R53). -/
def State.zeroed (s : State) (addr : Nat) : Bool :=
  (addr / 4096 == 7 && !(s.netOn && bit s.clk.gate 3)) || (decide (0x3018 ≤ addr) && decide (addr < 0x3024) && !bit s.clk.gate 5)

/-- The island of the word at this address has a running clock: NET, the one island of a block of registers that is clocked by a
PLL (R12, R639). -/
def State.islandRuns (s : State) (addr : Nat) : Bool :=
  addr / 4096 != 7 || (s.sourceRuns 4 (bit s.clk.actual 4) &&
    (!bit s.clk.pend 4 || s.sourceRuns 4 (bit s.clk.sel 4)))

/-- The word lies in another island: TIME, the clock meter result, the supply monitor values (02, Host window map). -/
def State.crosses (s : State) (addr : Nat) : Bool :=
  !s.zeroed addr && (addr / 4096 == 7 || addr / 4 == 0x3020 / 4 || (decide (0x400C ≤ addr) && decide (addr < 0x4020)))

/-- The word waits for the end of a ring service pause (R48). -/
def State.heldBack (s : State) (addr : Nat) : Bool :=
  s.rings.pause && !s.rings.pauseOver && (addr / 4096 == 1 || (decide (0x10000 ≤ addr) && decide (addr < 0x50000)))

/-- Signed value as an unsigned field of `k` bits. -/
def sgn (k : Nat) (x : Int) : Nat := (x % (2 ^ k : Nat)).toNat

/-- A word of the HPC block (02, HPC registers). -/
def State.hpcRead (s : State) (off : Nat) : Nat :=
  let h := s.host
  match off with
  | 0x00 => 0x4D5A0024
  | 0x04 => 65536 * b2n Config.variantIN + 0x4201
  | 0x08 => Config.uid.toNat % 2 ^ 32
  | 0x0C => Config.uid.toNat / 2 ^ 32
  | 0x10 => 4 * h.iodrv + b2n h.attnEn
  | 0x14 => 8 * b2n h.bnwLocked + 4 * b2n (s.rings.pause && !s.rings.pauseOver) + 2 * b2n s.faultPin + b2n s.attention
  | 0x18 => 65536 * b2n h.maskFault + h.maskRing
  | 0x1C => s.attnSrc
  | 0x20 => h.zeroReads
  | 0x24 => h.zeroAddr
  | 0x28 => h.stalls
  | 0x2C => h.stallAddr
  | 0x30 => 65536 * h.protoCause + h.protoCount
  | 0x34 => h.bnwOutlet
  | 0x38 => h.bnwLate
  | 0x3C => h.scratch
  | _ => 0

/-- RC48A or RC48B runs; in Quiet the primary is stopped until a trip starts it (R644). -/
def State.rcOn (s : State) (b : Bool) : Bool :=
  (if b then s.clk.rc48bOn else s.clk.rc48aOn) && !(s.clk.primaryB == b && 2 ≤ s.monitorRef)

/-- A word of the CLK block (21, CLK registers). -/
def State.clkRead (s : State) (off : Nat) : Nat :=
  let c := s.clk
  match off with
  | 0x00 => 32768 * b2n c.primaryB + 16384 * b2n c.rcOnly + 8192 * b2n (s.rcOn true) + 4096 * b2n (s.rcOn false)
      + 2048 * b2n c.lfxoOk + 1024 * b2n c.xtalOk + c.lock
  | 0x04 => c.sel
  | 0x0C => 65536 * c.emerg + 256 * c.actual + c.pend
  | 0x10 => c.monEn
  | 0x14 => 65536 * s.monitorRef + c.trip
  | 0x18 => 2 ^ 30 * b2n c.meterBusy + 2 ^ 29 * b2n c.meterDone + 2 ^ 28 * b2n c.meterStopped + 256 * c.meterTgt + c.meterRef
  | 0x1C => c.meterWin
  | 0x20 => c.meterResult
  | 0x24 => 65536 * sgn 16 c.devSpare + sgn 16 c.devPrimary
  | 0x28 => c.gate
  | _ => 0

/-- A word of the PWR block (22, PWR registers). -/
def State.pwrRead (s : State) (off : Nat) : Nat :=
  let p := s.pwr
  match off with
  | 0x00 => 4 * b2n p.hold + s.powerCode
  | 0x04 => 65536 * p.pgood + p.on
  | 0x08 => 512 * b2n p.rej + s.bak.thresh
  | 0x0C => 65536 * p.vkc + p.vsup
  | 0x10 => 65536 * p.src + p.vbak
  | 0x14 => 65536 * p.vbnk.getD 1 0 + p.vbnk.getD 0 0
  | 0x18 => 65536 * p.vbnk.getD 3 0 + p.vbnk.getD 2 0
  | 0x1C => 65536 * sgn 16 p.vpn12 + p.vpp12
  | 0x20 => p.railGood
  | 0x24 => 2 ^ 18 * b2n s.bak.pfPending + 2 ^ 17 * b2n s.bak.pfCommitted + 2 ^ 16 * b2n s.bak.pfComplete + s.bak.pfCount
  | 0x28 => sgn 16 p.temp
  | _ => 0

/-- A word of the STR block (21, STR registers). -/
def State.strRead (s : State) (off : Nat) : Nat :=
  let b := s.bak
  match off with
  | 0x00 => 256 * b.prev + b.cause
  | 0x04 => b.recs.getD 0 0
  | 0x08 => b.recs.getD 1 0
  | 0x0C => b.recs.getD 2 0
  | 0x10 => b.recs.getD 3 0
  | 0x14 => b.count
  | 0x18 => 2 ^ 18 * b.mfail + 2 ^ 17 * b2n b.svcboot + 2 ^ 16 * b2n b.recover + s.altMask
  | _ => 0

/-- A word of the LSW block (17, LSW registers). -/
def State.lswRead (s : State) (off : Nat) : Nat :=
  match off with
  | 0x00 => s.lsw.map0
  | 0x04 => s.lsw.map1
  | 0x08 => s.limpStatus
  | 0x10 => chWord s.lswDriven 0
  | 0x14 => chWord s.lswDriven 1
  | 0x18 => chWord s.lswDriven 2
  | 0x1C => chWord s.lswStopped 0
  | 0x20 => chWord s.lswStopped 1
  | 0x24 => chWord s.lswStopped 2
  | 0x28 => s.lsw.snsSel
  | _ => 0

/-- A word of the TIME block (15, TIME registers). -/
def State.timeRead (s : State) (off : Nat) : Nat :=
  let n := s.net
  match off with
  | 0x04 => n.snapLo
  | 0x08 => 2 ^ 24 * n.snapEpoch + n.snapHi
  | 0x0C => n.snapNs
  | 0x10 => n.snapCycles
  | 0x14 => 2 ^ 24 * n.snapFlags + 65536 * n.snapRef + n.snapZc
  | 0x18 => n.snapSeq
  | _ => 0

/-- The 32-bit word at an aligned address; an unlisted address reads as 0 (R40, 02 Host window map). -/
def State.regRead (s : State) (addr : Nat) : Nat :=
  let off := addr % 4096
  if 0x40000 ≤ addr && addr < 0x50000 then ofLE (Memory.readN s.rings.bulk (addr - 0x40000) 4)
  else if 0x10000 ≤ addr && addr < 0x40000 then ofLE (Memory.readN s.rings.mem (addr - 0x10000) 4)
  else match addr / 4096 with
    | 0 => s.hpcRead off
    | 1 => ringRead s off
    | 2 => fltRead s off
    | 3 => s.clkRead off
    | 4 => s.pwrRead off
    | 5 => s.strRead off
    | 6 => s.lswRead off
    | 7 => s.timeRead off
    | _ => 0

/-- A write to a word of the HPC block (02, HPC registers). -/
def State.hpcWrite (s : State) (off v : Nat) : State :=
  match off with
  | 0x10 => { s with host := { s.host with iodrv := v / 4 % 4, attnEn := bit v 0 } }
  | 0x18 => { s with host := { s.host with maskFault := bit v 16, maskRing := v % 65536 } }
  | 0x20 => { s with host := { s.host with zeroReads := v % 65536 } }
  | 0x28 => { s with host := { s.host with stalls := v % 65536 } }
  | 0x30 => { s with host := { s.host with protoCount := v % 65536, protoCause := 0 } }
  | 0x34 => s.bnwSelect v
  | 0x38 => { s with host := { s.host with bnwLate := v % 65536 } }
  | 0x3C => { s with host := { s.host with scratch := v % 2 ^ 32 } }
  | _ => s

/-- A write to a word of the CLK block (21, CLK registers). -/
def State.clkWrite (s : State) (off v : Nat) : State :=
  match off with
  | 0x04 => selWrite s v
  | 0x08 => forceClkWrite s v
  | 0x10 => ({ s with clk := { s.clk with monEn := v % 64 } }).tmrWritten 0x3010
  | 0x14 => { s with clk := { s.clk with trip := clearBits s.clk.trip (v % 64) } }
  | 0x18 => meterWrite s v
  | 0x1C => { s with clk := { s.clk with meterWin := v % 2 ^ 25 } }
  | 0x28 => gateWrite s v
  | _ => s

/-- A write to a word of the LSW block; a map word takes one write and locks (R7, 17 LSW registers). -/
def State.lswWrite (s : State) (off v : Nat) : State :=
  match off with
  | 0x00 =>
    if s.lsw.lock0 then s.raise 18 0xFFFF 0x6000
    else (({ s with lsw := { s.lsw with map0 := v % 2 ^ 32, lock0 := true } }).tmrWritten 0x6000).remap
  | 0x04 =>
    if s.lsw.lock1 then s.raise 18 0xFFFF 0x6004
    else (({ s with lsw := { s.lsw with map1 := v % 2 ^ 32, lock1 := true } }).tmrWritten 0x6004).remap
  | 0x28 => { s with lsw := { s.lsw with snsSel := v % 2 ^ 32 &&& 0x7F7F7F7F } }
  | _ => s

/-- A write to the word at an aligned address; a write to an unlisted address or an RO register is dropped (R40, R61). -/
def State.regWrite (s : State) (addr v : Nat) : State :=
  let off := addr % 4096
  if 0x40000 ≤ addr && addr < 0x50000 then
    { s with rings := { s.rings with bulk := Memory.writeN s.rings.bulk (addr - 0x40000) (toLE 4 v) } }
  else if 0x10000 ≤ addr && addr < 0x40000 then
    { s with rings := { s.rings with mem := Memory.writeN s.rings.mem (addr - 0x10000) (toLE 4 v) } }
  else match addr / 4096 with
    | 0 => s.hpcWrite off v
    | 1 => ringWrite s off v
    | 2 => fltWrite s off v
    | 3 => s.clkWrite off v
    | 4 => if off = 8 then pfCfgWrite s v else s
    | 5 => if off = 0x1C then s.postStr addr v else s
    | 6 => s.lswWrite off v
    | 7 => if off = 0 && bit v 0 then s.snapshot else s
    | _ => s

/-! ### Slots and regions that belong to the H24 -/

/-- The slot at byte offset `off` of a ring at `base` with 2^k entries. -/
def slotAt (base k off : Nat) : Option Nat :=
  if base * 512 ≤ off && off < base * 512 + 2 ^ k * 64 then some ((off - base * 512) / 64) else none

/-- The H24 owns the slot of pair `n` at byte offset `off` of the ring memory: any completion slot, and a submission slot between
the head and the tail (R72). -/
def State.slotOwned (s : State) (n : PNum) (off : Nat) : Bool :=
  let p := s.pr n
  p.state != 0 && ((slotAt p.cqBase p.cqLog2 off).isSome ||
    match slotAt p.sqBase p.sqLog2 off with
    | some i => decide ((i + p.sqDepth - p.sqHead % p.sqDepth) % p.sqDepth < ringCount p.sqHead p.sqTail)
    | none => false)

/-- A region of a bulk slot holds the word at offset `off` of the slot. -/
def inRegion (off : Nat) : Option (Nat × Nat) → Bool
  | some r => decide (r.1 ≤ off + 3) && decide (off < r.1 + r.2)
  | none => false

/-- The bulk regions of submissions of pair `n` that the H24 has not consumed. -/
def State.queuedBulk (s : State) (n : PNum) : List (Option (Nat × Nat)) :=
  (List.range (ringCount (s.pr n).sqHead (s.pr n).sqTail)).map fun i =>
    let e := sqEntry s n ((s.pr n).sqHead + i)
    if bit (u8 e 4) 1 then some (u16 e 60, u16 e 62) else none

/-- A command that has not completed holds the word at offset `off` of the bulk slot of pair `n` (R80). -/
def State.bulkOwned (s : State) (n : PNum) (off : Nat) : Bool :=
  ((s.pr n).inflight.any fun x => inRegion off x.bulk) || (s.started.any fun x => x.pair == n && inRegion off x.bulk)
    || ((s.pr n).state != 0 && (s.queuedBulk n).any (inRegion off))

/-- A host write to this address breaks R72 or R80, so that R34 leaves the behaviour undefined. -/
def State.outside (s : State) (addr : Nat) : Bool :=
  if 0x10000 ≤ addr && addr < 0x40000 then (List.finRange 16).any fun n => s.slotOwned n (addr - 0x10000)
  else if h : 0x40000 ≤ addr ∧ addr < 0x50000 then
    s.bulkOwned ⟨(addr - 0x40000) / 4096, by omega⟩ (addr % 4096)
  else false

/-! ### Words of a transaction -/

/-- A word read, and the state after it: silent zeros are counted (R53); nothing else changes (R43). -/
def State.readWord (s : State) (addr : Nat) : Nat × State :=
  if s.zeroed addr then (0, s.zeroAccess addr) else (s.regRead addr, s)

/-- A word written (R53). -/
def State.writeWord (s : State) (addr v : Nat) : State := if s.zeroed addr then s.zeroAccess addr else s.regWrite addr (v % 2 ^ 32)

/-- The address of the word after this one (R40). -/
def nextWord (addr : Nat) : Nat := (addr + 4) % 2 ^ 32

/-- Words read from `addr` on, until one has to wait; words of block `ahead` have been prefetched (R46, 02 Example). -/
def State.readWords (s : State) (ahead : Option Nat) : Nat → Nat → State
  | 0, addr => { s with host := { s.host with nextAddr := addr } }
  | k + 1, addr =>
    if s.heldBack addr || (s.crosses addr && ahead != some (addr / 4096)) then
      { s with host := { s.host with nextAddr := addr, xact := some { read := true, addr := addr, wr := [], nrd := k + 1 } } }
    else
      let r := s.readWord addr
      State.readWords (r.2.driveHio r.1) ahead k (nextWord addr)

/-- Words written from `addr` on, in order, until one has to wait (R42). -/
def State.writeWords (s : State) : List Nat → Nat → Out
  | [], addr => .next { s with host := { s.host with nextAddr := addr } }
  | v :: t, addr =>
    if s.heldBack addr || s.crosses addr then
      .next { s with host := { s.host with
        nextAddr := addr, xact := some { read := false, addr := addr, wr := v :: t, nrd := 0 } } }
    else if s.outside addr then .fault .environment
    else State.writeWords (s.writeWord addr v) t (nextWord addr)

/-- The words of a pending access after its first one. An island that answered has prefetched the words that follow in its block; one
that did not answer has not (R46, 02 Example). -/
def State.goOn (s : State) (x : Xact) (answered : Bool) : Out :=
  if x.read then .next (s.readWords (if answered then some (x.addr / 4096) else none) (x.nrd - 1) (nextWord x.addr))
  else s.writeWords (x.wr.drop 1) (nextWord x.addr)

/-- Gates that waited for an access close (R646). -/
def State.closeWaiting (s : State) : State :=
  { s with clk := { s.clk with gate := clearBits s.clk.gate s.clk.gateWait, gateWait := 0 } }

/-- Read commands of R36. -/
def readCmds : List Nat := [0x0B, 0xBB, 0xEB]

/-- Write commands of R36. -/
def writeCmds : List Nat := [0x02, 0xA2, 0x38]

/-- An address of the Base-Note Window (24). -/
def inWindow (addr : Nat) : Bool := decide (0x80000 ≤ addr) && decide (addr < 0x80100)

/-- Read bytes `i` to `i + k - 1` of a window transaction (R697). -/
def State.windowReads (s : State) (off i : Nat) : Nat → State
  | 0 => s
  | k + 1 => State.windowReads (s.bnwAnswer off false i) off (i + 1) k

/-- Write bytes of a window transaction from number `i` on (R697). -/
def State.windowWrites (s : State) (off i : Nat) : List Nat → State
  | [] => s
  | v :: t => State.windowWrites (s.bnwPut off (v % 256) i) off (i + 1) t

/-- HOST_TRANSACTION (R36 to R40): HCS# falls; `addr` holds the units of the address phase, `wr` the units of each word (in the
Base-Note Window each byte) that the host writes, or `nrd` words follow. Before ST15 it is ignored (R52). -/
def execHostTransaction (cmd : Nat) (addr : List Nat) (wr : List (List Nat)) (nrd : Nat) (s : State) : Out :=
  if !s.portServes || s.host.hcsLow then .next s
  else
    let a := ofUnits (lanesOf cmd) addr % 2 ^ 32
    let wr := wr.map (ofUnits (lanesOf cmd))
    let w := writeCmds.contains cmd
    let s := { s with host := { s.host with
      hcsLow := true, ignored := false, hio := [], write := w, lanes := lanesOf cmd, nextAddr := a - a % 4, xact := none } }
    if !w && !readCmds.contains cmd then .next (({ s with host := { s.host with ignored := true } }).proto 1 0)
    else if inWindow a then .next (if w then s.windowWrites (a % 256) 0 wr else s.windowReads (a % 256) 0 nrd)
    else
      let s := if a % 4 = 0 then s else s.proto 2 a
      if w then s.writeWords wr (a - a % 4) else .next (s.readWords none nrd (a - a % 4))

/-- The word that waited is served, and the data phase goes on (R44). -/
def State.serveWord (s : State) (x : Xact) : Out :=
  let s := { s with host := { s.host with xact := none } }
  if x.read then
    let r := s.readWord x.addr
    ((r.2.driveHio r.1).closeWaiting).goOn x true
  else if s.outside x.addr then .fault .environment
  else ((s.writeWord x.addr (x.wr.headD 0)).closeWaiting).goOn x true

/-- ISLAND_CROSSING_DONE (R44, R48): not while the island's clock stands still (R12). -/
def execIslandCrossingDone (s : State) : Out :=
  match s.host.xact with
  | none => .next s
  | some x => if s.heldBack x.addr || !s.islandRuns x.addr then .next s else s.serveWord x

/-- A word that a ring service pause held is served once the pause is over (R48). -/
def State.serveHeld (s : State) : Out :=
  match s.host.xact with
  | none => .next s
  | some x => if s.heldBack x.addr || s.crosses x.addr then .next s else s.serveWord x

/-- The word that waited completes as 0, or is dropped (R47, R54). -/
def State.dropWord (s : State) (x : Xact) : State :=
  let s := { s with host := { s.host with xact := none } }
  if x.read then s.driveHio 0 else s

/-- STALL_LIMIT (R47): of a crossing; not for a word that a ring service pause holds or held (R48). -/
def execStallLimit (s : State) : Out :=
  match s.host.xact with
  | none => .next s
  | some x =>
    if s.heldBack x.addr || !s.crosses x.addr then .next s
    else
      let s := s.dropWord x
      let s := { s with host := { s.host with stalls := satInc 16 s.host.stalls, stallAddr := x.addr } }
      ((s.raise 17 0xFFFF x.addr).closeWaiting).goOn x false

/-- GATE_FORCE_CLOSE (R54, R646): 64 island cycles have passed. -/
def execGateForceClose (g : Nat) (s : State) : Out :=
  if !bit s.clk.gateWait g then .next s
  else
    let s := { s with clk := { s.clk with gate := putBit s.clk.gate g false, gateWait := putBit s.clk.gateWait g false } }
    match s.host.xact with
    | none => .next s
    | some x => (((s.dropWord x).zeroAccess x.addr).raise 21 0xFFFF x.addr).goOn x false

/-- HCS_RISE (R41, R49): `cut` says that it cuts a data word off. A word that waited has no effect. A write word cut off in a
transaction of words that has run on into the Base-Note Window is not counted: R39 and R41 speak of words outside it (log entry 58). -/
def execHcsRise (cut : Bool) (s : State) : Out :=
  onlyIf s.host.hcsLow s fun s =>
    let counts := cut && s.host.write && !s.host.ignored && s.host.xact.isNone && !inWindow s.host.nextAddr
    let s := { s with host := { s.host with hcsLow := false, ignored := false, xact := none } }
    let s := s.closeWaiting
    if counts then s.proto 3 s.host.nextAddr else s

/-! ### Rows of single registers -/

/-- One word that the host writes; a word that a ring service pause holds back waits as an open transaction (R48). -/
def State.hostWrite (s : State) (addr v : Nat) : Out :=
  if !s.portServes then .next s
  else if s.heldBack addr then
    .next (if s.host.hcsLow then s else
      { s with host := { s.host with
        hcsLow := true, ignored := false, hio := [], write := true, lanes := 4, nextAddr := addr
        xact := some { read := false, addr := addr, wr := [v], nrd := 0 } } })
  else if s.outside addr then .fault .environment
  else .next (s.writeWord addr v)

/-- REGISTER_WRITE (R6, R39, R61): one word at an address outside the Base-Note Window, whose writes are a row of their own. -/
def execRegisterWrite (addr v : Nat) (s : State) : Out :=
  let a := addr % 2 ^ 32
  (if a % 4 = 0 || !s.portServes || inWindow a then s else s.proto 2 a).hostWrite (a - a % 4) v

/-- BNW_OUTLET_WRITE (R7). -/
def execBnwOutletWrite (v : Nat) (s : State) : Out := s.hostWrite 0x34 v

/-- DOORBELL_WRITE (R70). -/
def execDoorbellWrite (n : PNum) (t : Nat) (s : State) : Out := s.hostWrite (0x100C + 64 * n.val) t

/-- CQ_HEAD_WRITE (R71). -/
def execCqHeadWrite (n : PNum) (h : Nat) (s : State) : Out := s.hostWrite (0x1014 + 64 * n.val) h

/-- RING_CFG_WRITE (R87): RINGn_BASE where `base` holds, else RINGn_CFG. -/
def execRingCfgWrite (n : PNum) (base : Bool) (v : Nat) (s : State) : Out :=
  s.hostWrite (0x1000 + 64 * n.val + if base then 4 else 0) v

/-- FLT_UNREAD_ACK (20 FLT_UNREADm). -/
def execFltUnreadAck (m v : Nat) (s : State) : Out := if m < 4 then s.hostWrite (0x2020 + 4 * m) v else .next s

/-- FLT_FORCE (R618). -/
def execFltForce (m v : Nat) (s : State) : Out := if m < 4 then s.hostWrite (0x2030 + 4 * m) v else .next s

/-- FLT_SEV_WRITE (R611, R614). -/
def execFltSevWrite (m v : Nat) (s : State) : Out := if m < 8 then s.hostWrite (0x2040 + 4 * m) v else .next s

/-- CLK_SEL_WRITE (R639). -/
def execClkSelWrite (v : Nat) (s : State) : Out := s.hostWrite 0x3004 v

/-- CLK_FORCE_WRITE (R640). -/
def execClkForceWrite (v : Nat) (s : State) : Out := s.hostWrite 0x3008 v

/-- CLK_METER_START (R645): a write to CLK_METER_CTRL. -/
def execClkMeterStart (v : Nat) (s : State) : Out := s.hostWrite 0x3018 v

/-- CLK_GATE_WRITE (R646). -/
def execClkGateWrite (v : Nat) (s : State) : Out := s.hostWrite 0x3028 v

/-- PWR_PF_CFG_WRITE (R670). -/
def execPwrPfCfgWrite (v : Nat) (s : State) : Out := s.hostWrite 0x4008 v

/-- STR_RECOVER (R652): a write to STR_CTRL. -/
def execStrRecover (s : State) : Out := s.hostWrite 0x501C 2

/-- STR_RETRY_PRIMARY (R650): a write to STR_CTRL. -/
def execStrRetryPrimary (s : State) : Out := s.hostWrite 0x501C 1

/-- TIME_SNAP_WRITE (R519): a write to TIME_CTRL. -/
def execTimeSnapWrite (v : Nat) (s : State) : Out := s.hostWrite 0x7000 v

end Sys2Proof.Machine
end

