-- ==== Sys2Proof/Machine/Handover.lean ====
section
/-! DEFINITION. The end of a ring service pause, after which a word that it held on the host port is served (01 R23; 02 R48; 23). -/

namespace Sys2Proof.Machine

/-- The outcome `f` of the pause, then the word that it held (R48). -/
def State.afterPause (s : State) (c : Bool) (f : State → State) : Out := if c then (f s).serveHeld else .next s

/-- HANDOVER_ACCEPT (R681): `dropped` has the outlets whose EV has dropped its session (R174). -/
def execHandoverAccept (dropped : List Nat) (s : State) : Out :=
  match s.fw.ho with
  | none => .next s
  | some h =>
    s.afterPause (s.rings.pause && !h.dead && s.powered && !s.pwr.hold && (h.roll.isSome || h.step == 5)) fun s => s.resume h dropped

/-- PAUSE_LIMIT (R683): 1.5 s after r. -/
def execPauseLimit (s : State) : Out :=
  let due := match s.fw.ho with
    | some h => decide (h.since + 1500 ≤ s.up)
    | none => true
  s.afterPause (s.rings.pause && due) fun s => { s with rings := { s.rings with pauseOver := true } }

end Sys2Proof.Machine
end

