-- ==== Sys2Proof/Machine/Dispatch.lean ====
section
/-! DEFINITION. One arm per command and event: its meaning. -/

namespace Sys2Proof.Machine

/-- The effect of a command or event on everything but the queue. -/
def exec (i : Instr) (s : State) : Host.Outcome State Fault Refusal :=
  match i with
  | .sysVersion q => Sys2Proof.Machine.execSysVersion q s
  | .sysIdentity q => Sys2Proof.Machine.execSysIdentity q s
  | .sysPowerGet q => Sys2Proof.Machine.execSysPowerGet q s
  | .sysPowerSet q => Sys2Proof.Machine.execSysPowerSet q s
  | .sysDomainSet q => Sys2Proof.Machine.execSysDomainSet q s
  | .sysTimeSnapshot q => Sys2Proof.Machine.execSysTimeSnapshot q s
  | .sysSeqQuery q => Sys2Proof.Machine.execSysSeqQuery q s
  | .sysLoopback q => Sys2Proof.Machine.execSysLoopback q s
  | .outletConfigSet q => Sys2Proof.Machine.execOutletConfigSet q s
  | .outletConfigGet q => Sys2Proof.Machine.execOutletConfigGet q s
  | .outletStatusGet q => Sys2Proof.Machine.execOutletStatusGet q s
  | .outletAuth q => Sys2Proof.Machine.execOutletAuth q s
  | .outletStop q => Sys2Proof.Machine.execOutletStop q s
  | .outletService q => Sys2Proof.Machine.execOutletService q s
  | .outletUnlock q => Sys2Proof.Machine.execOutletUnlock q s
  | .hlcConfigSet q => Sys2Proof.Machine.execHlcConfigSet q s
  | .hlcConfigGet q => Sys2Proof.Machine.execHlcConfigGet q s
  | .hlcSlacSet q => Sys2Proof.Machine.execHlcSlacSet q s
  | .hlcStatusGet q => Sys2Proof.Machine.execHlcStatusGet q s
  | .hlcExportSet q => Sys2Proof.Machine.execHlcExportSet q s
  | .hlcCertFetch q => Sys2Proof.Machine.execHlcCertFetch q s
  | .hlcCertReply q => Sys2Proof.Machine.execHlcCertReply q s
  | .hlcStatsGet q => Sys2Proof.Machine.execHlcStatsGet q s
  | .protConfigSet q => Sys2Proof.Machine.execProtConfigSet q s
  | .protConfigGet q => Sys2Proof.Machine.execProtConfigGet q s
  | .protStatusGet q => Sys2Proof.Machine.execProtStatusGet q s
  | .protSelftest q => Sys2Proof.Machine.execProtSelftest q s
  | .safeStatusGet q => Sys2Proof.Machine.execSafeStatusGet q s
  | .safeConfigRead q => Sys2Proof.Machine.execSafeConfigRead q s
  | .safeConfigWrite q => Sys2Proof.Machine.execSafeConfigWrite q s
  | .safeConfirm q => Sys2Proof.Machine.execSafeConfirm q s
  | .safeModeSet q => Sys2Proof.Machine.execSafeModeSet q s
  | .safePasswordSet q => Sys2Proof.Machine.execSafePasswordSet q s
  | .safeLogRead q => Sys2Proof.Machine.execSafeLogRead q s
  | .safeWeldResolve q => Sys2Proof.Machine.execSafeWeldResolve q s
  | .safeSiteSet q => Sys2Proof.Machine.execSafeSiteSet q s
  | .budConfigSet q => Sys2Proof.Machine.execBudConfigSet q s
  | .budConfigGet q => Sys2Proof.Machine.execBudConfigGet q s
  | .budOutletSet q => Sys2Proof.Machine.execBudOutletSet q s
  | .budOutletGet q => Sys2Proof.Machine.execBudOutletGet q s
  | .budStatusGet q => Sys2Proof.Machine.execBudStatusGet q s
  | .budExtload q => Sys2Proof.Machine.execBudExtload q s
  | .budStepAt q => Sys2Proof.Machine.execBudStepAt q s
  | .latConfigSet q => Sys2Proof.Machine.execLatConfigSet q s
  | .latConfigGet q => Sys2Proof.Machine.execLatConfigGet q s
  | .latStatusGet q => Sys2Proof.Machine.execLatStatusGet q s
  | .metroConfigSet q => Sys2Proof.Machine.execMetroConfigSet q s
  | .metroConfigGet q => Sys2Proof.Machine.execMetroConfigGet q s
  | .metroScaleSet q => Sys2Proof.Machine.execMetroScaleSet q s
  | .metroScaleGet q => Sys2Proof.Machine.execMetroScaleGet q s
  | .metroCalWrite q => Sys2Proof.Machine.execMetroCalWrite q s
  | .metroCalRead q => Sys2Proof.Machine.execMetroCalRead q s
  | .metroTableWrite q => Sys2Proof.Machine.execMetroTableWrite q s
  | .metroTableRead q => Sys2Proof.Machine.execMetroTableRead q s
  | .metroCalDigest q => Sys2Proof.Machine.execMetroCalDigest q s
  | .metroCalCommit q => Sys2Proof.Machine.execMetroCalCommit q s
  | .metroCalRevert q => Sys2Proof.Machine.execMetroCalRevert q s
  | .metroChStatus q => Sys2Proof.Machine.execMetroChStatus q s
  | .metroLineGet q => Sys2Proof.Machine.execMetroLineGet q s
  | .metroRaw q => Sys2Proof.Machine.execMetroRaw q s
  | .energyConfigSet q => Sys2Proof.Machine.execEnergyConfigSet q s
  | .energyConfigGet q => Sys2Proof.Machine.execEnergyConfigGet q s
  | .energyRead q => Sys2Proof.Machine.execEnergyRead q s
  | .energyInstant q => Sys2Proof.Machine.execEnergyInstant q s
  | .energyLatchNow q => Sys2Proof.Machine.execEnergyLatchNow q s
  | .pqLogRead q => Sys2Proof.Machine.execPqLogRead q s
  | .waveList q => Sys2Proof.Machine.execWaveList q s
  | .waveExport q => Sys2Proof.Machine.execWaveExport q s
  | .waveTrigger q => Sys2Proof.Machine.execWaveTrigger q s
  | .tamperStatus q => Sys2Proof.Machine.execTamperStatus q s
  | .tamperClear q => Sys2Proof.Machine.execTamperClear q s
  | .billConfigSet q => Sys2Proof.Machine.execBillConfigSet q s
  | .billConfigGet q => Sys2Proof.Machine.execBillConfigGet q s
  | .billCalendarWrite q => Sys2Proof.Machine.execBillCalendarWrite q s
  | .billCalendarRead q => Sys2Proof.Machine.execBillCalendarRead q s
  | .billCalendarActivate q => Sys2Proof.Machine.execBillCalendarActivate q s
  | .billTimeGet q => Sys2Proof.Machine.execBillTimeGet q s
  | .billTimeSet q => Sys2Proof.Machine.execBillTimeSet q s
  | .billRegistersGet q => Sys2Proof.Machine.execBillRegistersGet q s
  | .billPeriodGet q => Sys2Proof.Machine.execBillPeriodGet q s
  | .billPeriodClose q => Sys2Proof.Machine.execBillPeriodClose q s
  | .ledgerRead q => Sys2Proof.Machine.execLedgerRead q s
  | .ledgerStatus q => Sys2Proof.Machine.execLedgerStatus q s
  | .billCommitNow q => Sys2Proof.Machine.execBillCommitNow q s
  | .dlmsTunnel q => Sys2Proof.Machine.execDlmsTunnel q s
  | .dlmsConfigSet q => Sys2Proof.Machine.execDlmsConfigSet q s
  | .dlmsConfigGet q => Sys2Proof.Machine.execDlmsConfigGet q s
  | .dlmsAssocList q => Sys2Proof.Machine.execDlmsAssocList q s
  | .dlmsAssocAbort q => Sys2Proof.Machine.execDlmsAssocAbort q s
  | .creditAccountSet q => Sys2Proof.Machine.execCreditAccountSet q s
  | .creditAccountGet q => Sys2Proof.Machine.execCreditAccountGet q s
  | .creditAdjust q => Sys2Proof.Machine.execCreditAdjust q s
  | .creditBind q => Sys2Proof.Machine.execCreditBind q s
  | .creditConfigSet q => Sys2Proof.Machine.execCreditConfigSet q s
  | .creditConfigGet q => Sys2Proof.Machine.execCreditConfigGet q s
  | .voucherEnter q => Sys2Proof.Machine.execVoucherEnter q s
  | .voucherStatus q => Sys2Proof.Machine.execVoucherStatus q s
  | .lineConfigSet q => Sys2Proof.Machine.execLineConfigSet q s
  | .lineConfigGet q => Sys2Proof.Machine.execLineConfigGet q s
  | .lineStatusGet q => Sys2Proof.Machine.execLineStatusGet q s
  | .linePeers q => Sys2Proof.Machine.execLinePeers q s
  | .lineSend q => Sys2Proof.Machine.execLineSend q s
  | .lineMapGet q => Sys2Proof.Machine.execLineMapGet q s
  | .lineMapRequest q => Sys2Proof.Machine.execLineMapRequest q s
  | .lineStatsGet q => Sys2Proof.Machine.execLineStatsGet q s
  | .netConfigSet q => Sys2Proof.Machine.execNetConfigSet q s
  | .netConfigGet q => Sys2Proof.Machine.execNetConfigGet q s
  | .netStatusGet q => Sys2Proof.Machine.execNetStatusGet q s
  | .netToutSet q => Sys2Proof.Machine.execNetToutSet q s
  | .netToutGet q => Sys2Proof.Machine.execNetToutGet q s
  | .netTcapSet q => Sys2Proof.Machine.execNetTcapSet q s
  | .netTcapRead q => Sys2Proof.Machine.execNetTcapRead q s
  | .netTimeSet q => Sys2Proof.Machine.execNetTimeSet q s
  | .netStats q => Sys2Proof.Machine.execNetStats q s
  | .nfcConfigSet q => Sys2Proof.Machine.execNfcConfigSet q s
  | .nfcConfigGet q => Sys2Proof.Machine.execNfcConfigGet q s
  | .nfcTagRead q => Sys2Proof.Machine.execNfcTagRead q s
  | .nfcTagWrite q => Sys2Proof.Machine.execNfcTagWrite q s
  | .nfcTagKey q => Sys2Proof.Machine.execNfcTagKey q s
  | .nfcTagStatus q => Sys2Proof.Machine.execNfcTagStatus q s
  | .lswChanSet q => Sys2Proof.Machine.execLswChanSet q s
  | .lswChanGet q => Sys2Proof.Machine.execLswChanGet q s
  | .lswOut q => Sys2Proof.Machine.execLswOut q s
  | .lswStatusGet q => Sys2Proof.Machine.execLswStatusGet q s
  | .lswBankGet q => Sys2Proof.Machine.execLswBankGet q s
  | .lswClear q => Sys2Proof.Machine.execLswClear q s
  | .panelConfigSet q => Sys2Proof.Machine.execPanelConfigSet q s
  | .panelConfigGet q => Sys2Proof.Machine.execPanelConfigGet q s
  | .panelWrite q => Sys2Proof.Machine.execPanelWrite q s
  | .panelFlip q => Sys2Proof.Machine.execPanelFlip q s
  | .panelCurveSet q => Sys2Proof.Machine.execPanelCurveSet q s
  | .panelCurveGet q => Sys2Proof.Machine.execPanelCurveGet q s
  | .panelStatusGet q => Sys2Proof.Machine.execPanelStatusGet q s
  | .panelStressRead q => Sys2Proof.Machine.execPanelStressRead q s
  | .keyInfo q => Sys2Proof.Machine.execKeyInfo q s
  | .keyUpdate q => Sys2Proof.Machine.execKeyUpdate q s
  | .keyDerive q => Sys2Proof.Machine.execKeyDerive q s
  | .keyRevoke q => Sys2Proof.Machine.execKeyRevoke q s
  | .keyPublicRead q => Sys2Proof.Machine.execKeyPublicRead q s
  | .keyStatus q => Sys2Proof.Machine.execKeyStatus q s
  | .fltClear q => Sys2Proof.Machine.execFltClear q s
  | .fltSeveritySet q => Sys2Proof.Machine.execFltSeveritySet q s
  | .fltLogRead q => Sys2Proof.Machine.execFltLogRead q s
  | .maStart q => Sys2Proof.Machine.execMaStart q s
  | .maAbort q => Sys2Proof.Machine.execMaAbort q s
  | .maStatus q => Sys2Proof.Machine.execMaStatus q s
  | .fwStatus q => Sys2Proof.Machine.execFwStatus q s
  | .fwStageBegin q => Sys2Proof.Machine.execFwStageBegin q s
  | .fwStageData q => Sys2Proof.Machine.execFwStageData q s
  | .fwStageVerify q => Sys2Proof.Machine.execFwStageVerify q s
  | .fwActivate q => Sys2Proof.Machine.execFwActivate q s
  | .fwStageAbort q => Sys2Proof.Machine.execFwStageAbort q s
  | .dlmsAarq client server transport channel h => Sys2Proof.Machine.execDlmsAarq client server transport channel h s
  | .dlmsGet a g prot ivc => Sys2Proof.Machine.execDlmsGet a g prot ivc s
  | .dlmsSet a l prot ivc => Sys2Proof.Machine.execDlmsSet a l prot ivc s
  | .dlmsAction a ic obis method val prot ivc => Sys2Proof.Machine.execDlmsAction a ic obis method val prot ivc s
  | .dlmsRlrq a => Sys2Proof.Machine.execDlmsRlrq a s
  | .hostTransaction cmd addr wr nrd => Sys2Proof.Machine.execHostTransaction cmd addr wr nrd s
  | .hcsRise cut => Sys2Proof.Machine.execHcsRise cut s
  | .hrst low => Sys2Proof.Machine.execHrst low s
  | .registerWrite addr v => Sys2Proof.Machine.execRegisterWrite addr v s
  | .tmrScrub addr x => Sys2Proof.Machine.execTmrScrub addr x s
  | .bnwOutletWrite v => Sys2Proof.Machine.execBnwOutletWrite v s
  | .doorbellWrite n t => Sys2Proof.Machine.execDoorbellWrite n t s
  | .cqHeadWrite n h => Sys2Proof.Machine.execCqHeadWrite n h s
  | .ringCfgWrite n base v => Sys2Proof.Machine.execRingCfgWrite n base v s
  | .pairDrainEnd n => Sys2Proof.Machine.execPairDrainEnd n s
  | .submissionFetch n par => Sys2Proof.Machine.execSubmissionFetch n par s
  | .eventQueueDrain n => Sys2Proof.Machine.execEventQueueDrain n s
  | .domainSwitchTimeout d => Sys2Proof.Machine.execDomainSwitchTimeout d s
  | .timeSnapWrite v => Sys2Proof.Machine.execTimeSnapWrite v s
  | .pilotPeriod o pos neg => Sys2Proof.Machine.execPilotPeriod o pos neg s
  | .pilotStateAccept o => Sys2Proof.Machine.execPilotStateAccept o s
  | .pilotLevel o => Sys2Proof.Machine.execPilotLevel o s
  | .pilotDiode o => Sys2Proof.Machine.execPilotDiode o s
  | .ppSample o ohm => Sys2Proof.Machine.execPpSample o ohm s
  | .ppAccept o => Sys2Proof.Machine.execPpAccept o s
  | .mirrorContactChange p closed => Sys2Proof.Machine.execMirrorContactChange p closed s
  | .lockFeedbackChange o locked => Sys2Proof.Machine.execLockFeedbackChange o locked s
  | .closingStart o => Sys2Proof.Machine.execClosingStart o s
  | .closingConfirmed o => Sys2Proof.Machine.execClosingConfirmed o s
  | .closingTimeout o => Sys2Proof.Machine.execClosingTimeout o s
  | .sswReadyCheck o ready => Sys2Proof.Machine.execSswReadyCheck o ready s
  | .sswEnableRetry o => Sys2Proof.Machine.execSswEnableRetry o s
  | .openingStart o cause => Sys2Proof.Machine.execOpeningStart o cause s
  | .contactorRelease o => Sys2Proof.Machine.execContactorRelease o s
  | .weldWindowEnd o => Sys2Proof.Machine.execWeldWindowEnd o s
  | .presenceDetect o phases => Sys2Proof.Machine.execPresenceDetect o phases s
  | .deferredOpening o => Sys2Proof.Machine.execDeferredOpening o s
  | .lockPulse o => Sys2Proof.Machine.execLockPulse o s
  | .lockPulseEnd o => Sys2Proof.Machine.execLockPulseEnd o s
  | .lockFeedbackCheck o => Sys2Proof.Machine.execLockFeedbackCheck o s
  | .lockRetry o => Sys2Proof.Machine.execLockRetry o s
  | .identification o src id => Sys2Proof.Machine.execIdentification o src id s
  | .heldIdentExpiry o => Sys2Proof.Machine.execHeldIdentExpiry o s
  | .authTimeout o => Sys2Proof.Machine.execAuthTimeout o s
  | .plcFrameRx l ended => Sys2Proof.Machine.execPlcFrameRx l ended s
  | .plcTxGrant ended clear => Sys2Proof.Machine.execPlcTxGrant ended clear s
  | .plcTxDiscard o => Sys2Proof.Machine.execPlcTxDiscard o s
  | .beaconTx o => Sys2Proof.Machine.execBeaconTx o s
  | .cmSlacParmReq o runid mac => Sys2Proof.Machine.execCmSlacParmReq o runid mac s
  | .cmMnbcSoundInd o runid l sounds => Sys2Proof.Machine.execCmMnbcSoundInd o runid l sounds s
  | .slacDecision o => Sys2Proof.Machine.execSlacDecision o s
  | .cmValidateReq o window n => Sys2Proof.Machine.execCmValidateReq o window n s
  | .cmSlacMatchReq o runid mac => Sys2Proof.Machine.execCmSlacMatchReq o runid mac s
  | .slacInitExpiry o => Sys2Proof.Machine.execSlacInitExpiry o s
  | .sessionSetupTimeout o => Sys2Proof.Machine.execSessionSetupTimeout o s
  | .v2gSessionLost o => Sys2Proof.Machine.execV2gSessionLost o s
  | .sdpRequest o tls => Sys2Proof.Machine.execSdpRequest o tls s
  | .supportedAppProtocol o hello offers20 offers2 => Sys2Proof.Machine.execSupportedAppProtocol o hello offers20 offers2 s
  | .v2gRequest o m => Sys2Proof.Machine.execV2gRequest o m s
  | .serviceSelectionReq o service dynamic => Sys2Proof.Machine.execServiceSelectionReq o service dynamic s
  | .v2gStopRequest o kind => Sys2Proof.Machine.execV2gStopRequest o kind s
  | .certReq o kind exi => Sys2Proof.Machine.execCertReq o kind exi s
  | .certReplyTimeout o => Sys2Proof.Machine.execCertReplyTimeout o s
  | .apexTrip o cur wide => Sys2Proof.Machine.execApexTrip o cur wide s
  | .apexLatchSeen o => Sys2Proof.Machine.execApexLatchSeen o s
  | .dcEstimate o est sat => Sys2Proof.Machine.execDcEstimate o est sat s
  | .rcFrontend o => Sys2Proof.Machine.execRcFrontend o s
  | .dcSlowUpdate o mean => Sys2Proof.Machine.execDcSlowUpdate o mean s
  | .dcFastUpdate o mean => Sys2Proof.Machine.execDcFastUpdate o mean s
  | .rcWarn o => Sys2Proof.Machine.execRcWarn o s
  | .acResidualUpdate o rms => Sys2Proof.Machine.execAcResidualUpdate o rms s
  | .sswDesat o => Sys2Proof.Machine.execSswDesat o s
  | .overload o cur => Sys2Proof.Machine.execOverload o cur s
  | .selftestStart o trigger => Sys2Proof.Machine.execSelftestStart o trigger s
  | .selftestDone o m => Sys2Proof.Machine.execSelftestDone o m s
  | .islandSafeState src => Sys2Proof.Machine.execIslandSafeState src s
  | .sinSample n a b => Sys2Proof.Machine.execSinSample n a b s
  | .sinAccept n chan closed => Sys2Proof.Machine.execSinAccept n chan closed s
  | .sinDisc n => Sys2Proof.Machine.execSinDisc n s
  | .siteRelease j => Sys2Proof.Machine.execSiteRelease j s
  | .siteFbCheck j => Sys2Proof.Machine.execSiteFbCheck j s
  | .weldWatchEnd o seen => Sys2Proof.Machine.execWeldWatchEnd o seen s
  | .pairTestStepEnd p stepb khs kls coil => Sys2Proof.Machine.execPairTestStepEnd p stepb khs kls coil s
  | .pullinEnd p => Sys2Proof.Machine.execPullinEnd p s
  | .siteCloseCheck j => Sys2Proof.Machine.execSiteCloseCheck j s
  | .coilCheck p coil => Sys2Proof.Machine.execCoilCheck p coil s
  | .coilUndercurrent p => Sys2Proof.Machine.execCoilUndercurrent p s
  | .passwordLockoutEnd role => Sys2Proof.Machine.execPasswordLockoutEnd role s
  | .budgetRound reclaim => Sys2Proof.Machine.execBudgetRound reclaim s
  | .pauseHoldEnd o => Sys2Proof.Machine.execPauseHoldEnd o s
  | .latFrameRx frame => Sys2Proof.Machine.execLatFrameRx frame s
  | .metroSample x lfxo => Sys2Proof.Machine.execMetroSample x lfxo s
  | .gainDecision ch => Sys2Proof.Machine.execGainDecision ch s
  | .gainSwitch ch => Sys2Proof.Machine.execGainSwitch ch s
  | .zeroCrossing ch rising period since => Sys2Proof.Machine.execZeroCrossing ch rising period since s
  | .tempUpdate ntc die => Sys2Proof.Machine.execTempUpdate ntc die s
  | .ntcRestore k => Sys2Proof.Machine.execNtcRestore k s
  | .offsetRemeasure o offs => Sys2Proof.Machine.execOffsetRemeasure o offs s
  | .selfcalVisitEnd resp delay => Sys2Proof.Machine.execSelfcalVisitEnd resp delay s
  | .calCommitDone ok => Sys2Proof.Machine.execCalCommitDone ok s
  | .directionChange o => Sys2Proof.Machine.execDirectionChange o s
  | .halfCyclePq bus => Sys2Proof.Machine.execHalfCyclePq bus s
  | .reverseCurrent o => Sys2Proof.Machine.execReverseCurrent o s
  | .bypassDetect o => Sys2Proof.Machine.execBypassDetect o s
  | .bypassEnd o => Sys2Proof.Machine.execBypassEnd o s
  | .neutralMissing bus => Sys2Proof.Machine.execNeutralMissing bus s
  | .neutralEnd bus => Sys2Proof.Machine.execNeutralEnd bus s
  | .tamperSample t0 t1 => Sys2Proof.Machine.execTamperSample t0 t1 s
  | .ledgerCommit ok retried => Sys2Proof.Machine.execLedgerCommit ok retried s
  | .billTimeCorrection delta source => Sys2Proof.Machine.execBillTimeCorrection delta source s
  | .dlmsIdleRelease a => Sys2Proof.Machine.execDlmsIdleRelease a s
  | .dlmsLockoutEnd client => Sys2Proof.Machine.execDlmsLockoutEnd client s
  | .graceExpiry acct => Sys2Proof.Machine.execGraceExpiry acct s
  | .keypadScan cols => Sys2Proof.Machine.execKeypadScan cols s
  | .keyAccept key => Sys2Proof.Machine.execKeyAccept key s
  | .lineFrameRx f => Sys2Proof.Machine.execLineFrameRx f s
  | .lineAckTx ang => Sys2Proof.Machine.execLineAckTx ang s
  | .lineContentionSlot pre level draw => Sys2Proof.Machine.execLineContentionSlot pre level draw s
  | .lineFrameTx ang => Sys2Proof.Machine.execLineFrameTx ang s
  | .mapRequestTimeout peer => Sys2Proof.Machine.execMapRequestTimeout peer s
  | .robustHoldEnd peer => Sys2Proof.Machine.execRobustHoldEnd peer s
  | .mapExpiry peer gone => Sys2Proof.Machine.execMapExpiry peer gone s
  | .ethFrameRx port f residence => Sys2Proof.Machine.execEthFrameRx port f residence s
  | .ptpMessage x => Sys2Proof.Machine.execPtpMessage x s
  | .txTimestamp port ident sec ns => Sys2Proof.Machine.execTxTimestamp port ident sec ns s
  | .launchTime port => Sys2Proof.Machine.execLaunchTime port s
  | .toutEdge k => Sys2Proof.Machine.execToutEdge k s
  | .tcapEdge k rising frac => Sys2Proof.Machine.execTcapEdge k rising frac s
  | .phyLinkChange port up fast => Sys2Proof.Machine.execPhyLinkChange port up fast s
  | .addressAgeing mac => Sys2Proof.Machine.execAddressAgeing mac s
  | .nfcPoll field typeA typeB => Sys2Proof.Machine.execNfcPoll field typeA typeB s
  | .tagFieldOn h => Sys2Proof.Machine.execTagFieldOn h s
  | .tagReqa wupa => Sys2Proof.Machine.execTagReqa wupa s
  | .tagAnticollision nvb bits => Sys2Proof.Machine.execTagAnticollision nvb bits s
  | .tagSelect uid => Sys2Proof.Machine.execTagSelect uid s
  | .pageRead page off le mac => Sys2Proof.Machine.execPageRead page off le mac s
  | .pageWrite page off data mac => Sys2Proof.Machine.execPageWrite page off data mac s
  | .tagHello rndr => Sys2Proof.Machine.execTagHello rndr s
  | .tagProve pr => Sys2Proof.Machine.execTagProve pr s
  | .tagPageCommit ok retried => Sys2Proof.Machine.execTagPageCommit ok retried s
  | .pwmPeriod v cur temp bcur btemp => Sys2Proof.Machine.execPwmPeriod v cur temp bcur btemp s
  | .lswCurrentLimit ch ma => Sys2Proof.Machine.execLswCurrentLimit ch ma s
  | .lswBlankEnd ch => Sys2Proof.Machine.execLswBlankEnd ch s
  | .lswOvercurrent ch => Sys2Proof.Machine.execLswOvercurrent ch s
  | .lswRetry ch => Sys2Proof.Machine.execLswRetry ch s
  | .lswRetryConfirm ch => Sys2Proof.Machine.execLswRetryConfirm ch s
  | .lswThermalTrip bank k t => Sys2Proof.Machine.execLswThermalTrip bank k t s
  | .lswThermalRelease bank k t => Sys2Proof.Machine.execLswThermalRelease bank k t s
  | .lswOpenLoad ch => Sys2Proof.Machine.execLswOpenLoad ch s
  | .bankUndervoltage k mv10 => Sys2Proof.Machine.execBankUndervoltage k mv10 s
  | .bankRecover k mv10 => Sys2Proof.Machine.execBankRecover k mv10 s
  | .lockBrakeEnd o => Sys2Proof.Machine.execLockBrakeEnd o s
  | .limpHomeInput low => Sys2Proof.Machine.execLimpHomeInput low s
  | .lhinChange n high => Sys2Proof.Machine.execLhinChange n high s
  | .vpanLow v => Sys2Proof.Machine.execVpanLow v s
  | .vpanRecover v => Sys2Proof.Machine.execVpanRecover v s
  | .trngHealthFail again test => Sys2Proof.Machine.execTrngHealthFail again test s
  | .faultOccurrence src qual data => Sys2Proof.Machine.execFaultOccurrence src qual data s
  | .faultRetry src qual data ok => Sys2Proof.Machine.execFaultRetry src qual data ok s
  | .fltUnreadAck m v => Sys2Proof.Machine.execFltUnreadAck m v s
  | .fltForce m v => Sys2Proof.Machine.execFltForce m v s
  | .fltSevWrite m v => Sys2Proof.Machine.execFltSevWrite m v s
  | .maActivityEnd tag m => Sys2Proof.Machine.execMaActivityEnd tag m s
  | .maQueueTimeout tag => Sys2Proof.Machine.execMaQueueTimeout tag s
  | .clkmonWindow clk count lockLow => Sys2Proof.Machine.execClkmonWindow clk count lockLow s
  | .clockTrip clk => Sys2Proof.Machine.execClockTrip clk s
  | .clockSelfcheck prim spare => Sys2Proof.Machine.execClockSelfcheck prim spare s
  | .rc48StartTimeout spare => Sys2Proof.Machine.execRc48StartTimeout spare s
  | .clkSelWrite v => Sys2Proof.Machine.execClkSelWrite v s
  | .clkSwitchDone isl => Sys2Proof.Machine.execClkSwitchDone isl s
  | .clkSwhang isl => Sys2Proof.Machine.execClkSwhang isl s
  | .clkForceWrite v => Sys2Proof.Machine.execClkForceWrite v s
  | .clkMeterStart v => Sys2Proof.Machine.execClkMeterStart v s
  | .clkMeterDone count stopped => Sys2Proof.Machine.execClkMeterDone count stopped s
  | .clkGateWrite v => Sys2Proof.Machine.execClkGateWrite v s
  | .gateForceClose g => Sys2Proof.Machine.execGateForceClose g s
  | .startSequence r => Sys2Proof.Machine.execStartSequence r s
  | .powerFail t => Sys2Proof.Machine.execPowerFail t s
  | .vsupMinFall mv => Sys2Proof.Machine.execVsupMinFall mv s
  | .domainPgLoss d back => Sys2Proof.Machine.execDomainPgLoss d back s
  | .pilotRail vpn v => Sys2Proof.Machine.execPilotRail vpn v s
  | .bakSwitchover vbak => Sys2Proof.Machine.execBakSwitchover vbak s
  | .vbakLow mv => Sys2Proof.Machine.execVbakLow mv s
  | .pwrPfCfgWrite v => Sys2Proof.Machine.execPwrPfCfgWrite v s
  | .imageCopyDone copyok loadok => Sys2Proof.Machine.execImageCopyDone copyok loadok s
  | .handoverAccept dropped => Sys2Proof.Machine.execHandoverAccept dropped s
  | .handoverRollback step => Sys2Proof.Machine.execHandoverRollback step s
  | .svcFrame b => Sys2Proof.Machine.execSvcFrame b s
  | .svcStageBegin total => Sys2Proof.Machine.execSvcStageBegin total s
  | .svcStageData offset data => Sys2Proof.Machine.execSvcStageData offset data s
  | .svcActivate slots => Sys2Proof.Machine.execSvcActivate slots s
  | .bnwRead off late nth => Sys2Proof.Machine.execBnwRead off late nth s
  | .bnwEnergy0Read late => Sys2Proof.Machine.execBnwEnergy0Read late s
  | .bnwWrite off v nth => Sys2Proof.Machine.execBnwWrite off v nth s
  | .bnwSetpointWrite v => Sys2Proof.Machine.execBnwSetpointWrite v s
  | .faultedPresenceClear o => Sys2Proof.Machine.execFaultedPresenceClear o s
  | .lpddrEccError addr => Sys2Proof.Machine.execLpddrEccError addr s
  | .islandCrossingDone => Sys2Proof.Machine.execIslandCrossingDone s
  | .stallLimit => Sys2Proof.Machine.execStallLimit s
  | .strPostComplete => Sys2Proof.Machine.execStrPostComplete s
  | .strRecover => Sys2Proof.Machine.execStrRecover s
  | .strRetryPrimary => Sys2Proof.Machine.execStrRetryPrimary s
  | .dormantEntry => Sys2Proof.Machine.execDormantEntry s
  | .thresholdReload => Sys2Proof.Machine.execThresholdReload s
  | .safeStatePairsOff => Sys2Proof.Machine.execSafeStatePairsOff s
  | .safeStateReset => Sys2Proof.Machine.execSafeStateReset s
  | .vkcUv => Sys2Proof.Machine.execVkcUv s
  | .confirmKeypadTimeout => Sys2Proof.Machine.execConfirmKeypadTimeout s
  | .confirmKeypadLockoutEnd => Sys2Proof.Machine.execConfirmKeypadLockoutEnd s
  | .stepInstant => Sys2Proof.Machine.execStepInstant s
  | .extloadLapse => Sys2Proof.Machine.execExtloadLapse s
  | .timebaseToLine => Sys2Proof.Machine.execTimebaseToLine s
  | .timebaseToPtp => Sys2Proof.Machine.execTimebaseToPtp s
  | .latReportTx => Sys2Proof.Machine.execLatReportTx s
  | .latRoundClose => Sys2Proof.Machine.execLatRoundClose s
  | .latShareTx => Sys2Proof.Machine.execLatShareTx s
  | .referenceLost => Sys2Proof.Machine.execReferenceLost s
  | .selfcalVisit => Sys2Proof.Machine.execSelfcalVisit s
  | .periodicLatch => Sys2Proof.Machine.execPeriodicLatch s
  | .boundaryLatch => Sys2Proof.Machine.execBoundaryLatch s
  | .boundaryArm => Sys2Proof.Machine.execBoundaryArm s
  | .captureCut => Sys2Proof.Machine.execCaptureCut s
  | .waveChunkSend => Sys2Proof.Machine.execWaveChunkSend s
  | .waveExportTimeout => Sys2Proof.Machine.execWaveExportTimeout s
  | .periodicCommitTimer => Sys2Proof.Machine.execPeriodicCommitTimer s
  | .boundarySequence => Sys2Proof.Machine.execBoundarySequence s
  | .slewEnd => Sys2Proof.Machine.execSlewEnd s
  | .creditEvaluate => Sys2Proof.Machine.execCreditEvaluate s
  | .friendlyWindowEnd => Sys2Proof.Machine.execFriendlyWindowEnd s
  | .creditEpochCheck => Sys2Proof.Machine.execCreditEpochCheck s
  | .keypadEntryTimeout => Sys2Proof.Machine.execKeypadEntryTimeout s
  | .outletSelectExpiry => Sys2Proof.Machine.execOutletSelectExpiry s
  | .keypadLockoutEnd => Sys2Proof.Machine.execKeypadLockoutEnd s
  | .lineAckWaitExpiry => Sys2Proof.Machine.execLineAckWaitExpiry s
  | .sectorTimingLost => Sys2Proof.Machine.execSectorTimingLost s
  | .ptpSyncTimeout => Sys2Proof.Machine.execPtpSyncTimeout s
  | .netHoldover => Sys2Proof.Machine.execNetHoldover s
  | .nfcPollResume => Sys2Proof.Machine.execNfcPollResume s
  | .tagGuardEnd => Sys2Proof.Machine.execTagGuardEnd s
  | .tagFieldOff => Sys2Proof.Machine.execTagFieldOff s
  | .tagRats => Sys2Proof.Machine.execTagRats s
  | .tagHalt => Sys2Proof.Machine.execTagHalt s
  | .tagAuthLockEnd => Sys2Proof.Machine.execTagAuthLockEnd s
  | .tagHostLockTimeout => Sys2Proof.Machine.execTagHostLockTimeout s
  | .ccWatchdogExpiry => Sys2Proof.Machine.execCcWatchdogExpiry s
  | .watchdogReset => Sys2Proof.Machine.execWatchdogReset s
  | .panelFrame => Sys2Proof.Machine.execPanelFrame s
  | .stressSave => Sys2Proof.Machine.execStressSave s
  | .keyRemask => Sys2Proof.Machine.execKeyRemask s
  | .maActivityStart => Sys2Proof.Machine.execMaActivityStart s
  | .rc48Stop => Sys2Proof.Machine.execRc48Stop s
  | .powerfailRecovery => Sys2Proof.Machine.execPowerfailRecovery s
  | .vsupReturn => Sys2Proof.Machine.execVsupReturn s
  | .fwVerifyDone => Sys2Proof.Machine.execFwVerifyDone s
  | .stagingTimeout => Sys2Proof.Machine.execStagingTimeout s
  | .handoverRestart => Sys2Proof.Machine.execHandoverRestart s
  | .pauseLimit => Sys2Proof.Machine.execPauseLimit s
  | .svcInfo => Sys2Proof.Machine.execSvcInfo s
  | .svcVerify => Sys2Proof.Machine.execSvcVerify s
  | .svcAbort => Sys2Proof.Machine.execSvcAbort s
  | .svcExit => Sys2Proof.Machine.execSvcExit s
  | .bnwEnergyRefresh => Sys2Proof.Machine.execBnwEnergyRefresh s
  | .keypadQuietWake => Sys2Proof.Machine.execKeypadQuietWake s
  | .lfxoLoss => Sys2Proof.Machine.execLfxoLoss s
  | .pilotPeriodTrim => Sys2Proof.Machine.execPilotPeriodTrim s
  | .lastStateUpdate => Sys2Proof.Machine.execLastStateUpdate s

end Sys2Proof.Machine
end

