-- ==== Sys2Proof/Machine/Step.lean ====
section
/-! DEFINITION. One step: the command at the front of the queue, else a command consumed from a submission ring, else 1 ms of
time. -/

namespace Sys2Proof.Machine

/-- Network time 1 ms on, with at most 100 ns of an offset slewed (R509). -/
def Net.tick (n : Net) : Net :=
  let d : Int := clampI (-100) 100 n.slewNs
  let t := (n.ns : Int) + 1000000 + d
  { n with
    sec := if 1000000000 ≤ t then wrapInc 48 n.sec else n.sec
    ns := if 1000000000 ≤ t then (t - 1000000000).toNat else t.toNat, slewNs := n.slewNs - d }

/-- Billing time 1 ms on; a correction moves it by 1 ms in each 1,000 (R392). -/
def Billing.tick (b : Billing) : Billing :=
  if b.slew = 0 then { b with time := b.time + 1 }
  else if b.slewAcc < 999 then { b with time := b.time + 1, slewAcc := b.slewAcc + 1 }
  else if 0 < b.slew then { b with time := b.time + 2, slewAcc := 0, slew := b.slew - 1 }
  else { b with slewAcc := 0, slew := b.slew + 1 }

/-- The reaction and the FLT_EVENT of each new EVT_LOST (R83, R615; log entry 62). -/
def State.lostReact (s : State) : List Nat → State
  | [] => s
  | q :: t =>
    let sev := s.sev 24
    let s := s.react 24 q sev
    State.lostReact
      (if 1 ≤ sev || s.flt.evtNote then
        s.emit 0 0x1180 (((s.store.fltLog.find? fun e => e.src == 24 && e.qual == q).getD {}).bytes.take 24)
      else s) t

/-- 1 ms of time: what the clocks of the powered domains count, a domain switch that completes, and the presence that has stood in a weld
window (R123, R124; log entries 4, 35). -/
def State.tick (s : State) : State :=
  if s.pwr.state == .off then s
  else
    let s := { s with bak := { s.bak with rtc := s.bak.rtc + 1 } }
    if !s.powered then s
    else
      let s := { s with up := s.up + 1, host := { s.host with rdyHold := false } }
      if s.pwr.awaiting.isSome then s
      else
        let s := { s with bill := s.bill.tick, net := if s.netOn then s.net.tick else s.net }
        let l := s.flt.lost
        let s := (({ s with flt := { s.flt with lost := [] } }).lostReact l).domainsGood
        if s.domOn 2 then s.weldTick outlets else s

/-- One step: the command at the front of the queue; with an empty queue, the oldest command consumed from a submission ring,
once firmware runs (R682), then a DLMS request that a handover pause held (R433); else 1 ms of time (log entries 3, 4). -/
def step (s : State) : Host.Outcome State Fault Refusal :=
  match s.pending with
  | c :: t => exec c { s with pending := t }
  | [] =>
    match s.started with
    | x :: t => if s.fwRuns then exec x.cmd { s with started := t } else .next s.tick
    | [] =>
      match s.dl.wait with
      | c :: t => if s.fwRuns then exec c { s with dl := { s.dl with wait := t } } else .next s.tick
      | [] => .next s.tick

/-- The command that a word spells put at the front of the queue; the table gives no row any bits. -/
def State.withFetchWord (s : State) (nbits w : Nat) : State :=
  match Sys2Proof.decodeTableWord nbits w with
  | some c => { s with pending := c :: s.pending }
  | none => s

end Sys2Proof.Machine
end

