-- ==== Sys2Proof/Safety.lean ====
section
/-! DEFINITION. What the statements say about runs: a mailbox command that is served, a transaction that has begun, and the invariant of
every run. -/

namespace Sys2Proof.Machine

/-- A mailbox command that the firmware takes up and that passes every test of R734. -/
abbrev Served (c : Cmd) (q : Req) (s : State) (fits : Bool) : Prop := s.fwRuns = true ∧ s.screen c q fits = none

/-- The state once the command phase and the address phase of a transaction are over (R36 to R40). -/
def State.begun (s : State) (w : Bool) (cmd a : Nat) : State :=
  { s with host := { s.host with
    hcsLow := true, ignored := false, hio := [], write := w, lanes := lanesOf cmd, nextAddr := a - a % 4, xact := none } }

/-- A request in association `x` is taken up: its transport is open, and but for the public client the association lives under valid keys, and
the request is protected and has a fresh invocation counter (R419 to R422). -/
def State.dlGranted (s : State) (x : Assoc) (prot ivc : Nat) : Bool :=
  s.transportOpen x.transport && ((clientIdx x.client).getD 0 == 0 ||
    (!x.dead && s.slotValid x.ek && s.slotValid x.ak && prot == 3 && (s.dl.ivc.find? fun e => e.1 == x.ek).all fun e => decide (e.2 < ivc)))

/-- The state in which a request of association `a` is served: its idle time begins anew, and its invocation counter is used up. -/
def State.dlTaken (s : State) (a : Nat) (x : Assoc) (ivc : Nat) : State :=
  let s := s.modDl fun d => { d with assocs := d.assocs.set a { x with last := s.up } }
  if (clientIdx x.client).getD 0 = 0 then s else s.modDl fun d => { d with ivc := assocPut d.ivc x.ek ivc }

/-- SSWEN is high only while the sequencer is enabling the switch or has it on (R117, R119, R121). -/
abbrev SwOk (w : Switch) : Prop := w.sswen = true → w.phase = .enabling ∨ w.phase = .on

/-- The rule of SSWEN, and the interlock of the apex latch: while it is set, SSWEN is low (R187). -/
abbrev OutletOk (x : Outlet) : Prop := SwOk x.sw ∧ (x.prot.latch ≠ 0 → x.sw.sswen = false)

/-- Depths of R65, 8 to 512 entries, and no ring with more entries than its depth (R69, R70, R72). -/
abbrev RingBounds (p : Pair) : Prop :=
  (3 ≤ p.sqLog2 ∧ p.sqLog2 ≤ 9) ∧ (3 ≤ p.cqLog2 ∧ p.cqLog2 ≤ 9) ∧
    ringCount p.sqHead p.sqTail ≤ p.sqDepth ∧ ringCount p.cqHead p.cqTail ≤ p.cqDepth

/-- STATE is off, on or draining (R88), at most 32 entries of events are held (R83), and a pair that is not off keeps its ring bounds. -/
def PairOk (p : Pair) : Prop :=
  p.state ≤ 2 ∧ heldEntries p.held ≤ 32 ∧ (p.state ≠ 0 → RingBounds p)

/-- The ring memory and the bulk window are in canonical form, and every pair keeps its bounds. -/
def RingsOk (r : Rings) : Prop :=
  (Memory.wf r.mem = true ∧ Memory.wf r.bulk = true) ∧ ∀ n : PNum, PairOk (r.pairs.get n)

/-- No source with a floor has a severity below MAJOR (R611). -/
def SevOk (l : List Nat) : Prop := ∀ src, src < 128 → floorSource src = true → reservedSrc src = false → 2 ≤ l.getD src 0

/-- The fault log has at most 64 entries (R622). -/
def FltOk (f : Collector) : Prop := f.log.length ≤ 64

/-- Every outlet keeps the rules of its semiconductor switch. -/
def OutOk (v : Vector Outlet 24) : Prop := ∀ o : ONum, OutletOk (v.get o)

/-- Two rings that share no byte: bases in units of 512 bytes, depths as powers of two, entries of 64 bytes. -/
abbrev Apart (b1 k1 b2 k2 : Nat) : Prop := b1 * 512 + 2 ^ k1 * 64 ≤ b2 * 512 ∨ b2 * 512 + 2 ^ k2 * 64 ≤ b1 * 512

/-- The layout rule of R65 for pair `n` with depths `2 ^ a` and `2 ^ b`, and the depth fields of R87; a pair that is not off is
enabled. -/
abbrev RingLayout (s : State) (n : PNum) (a b : Nat) : Prop :=
  let p := s.pr n
  (3 ≤ a ∧ a ≤ 9) ∧ (3 ≤ b ∧ b ≤ 9) ∧
  (p.sqBase * 512 % (2 ^ a * 64) = 0 ∧ p.sqBase * 512 + 2 ^ a * 64 ≤ 0x30000) ∧
  (p.cqBase * 512 % (2 ^ b * 64) = 0 ∧ p.cqBase * 512 + 2 ^ b * 64 ≤ 0x30000) ∧ Apart p.sqBase a p.cqBase b ∧
  ∀ m : PNum, m ≠ n → (s.pr m).state ≠ 0 →
    Apart p.sqBase a (s.pr m).sqBase (s.pr m).sqLog2 ∧ Apart p.sqBase a (s.pr m).cqBase (s.pr m).cqLog2 ∧
    Apart p.cqBase b (s.pr m).sqBase (s.pr m).sqLog2 ∧ Apart p.cqBase b (s.pr m).cqBase (s.pr m).cqLog2

/-- What every step keeps: the four memories in canonical form, and the bounds that the spec gives. -/
structure State.Inv (s : State) : Prop where
  rings : RingsOk s.rings
  flt : FltOk s.flt
  out : OutOk s.out
  tag : Memory.wf s.store.tagMem = true
  panel : Memory.wf s.panel.mem = true

end Sys2Proof.Machine

namespace Sys2Proof

/-- The mailbox commands that only ask: they change no persistent state, and no state but the rings that carry the answer. -/
def Instr.query : Instr → Bool
  | .sysVersion _ | .sysIdentity _ | .sysPowerGet _ | .sysSeqQuery _ | .sysLoopback _ | .outletConfigGet _
  | .outletStatusGet _ | .hlcConfigGet _ | .hlcStatusGet _ | .hlcStatsGet _ | .protConfigGet _ | .protStatusGet _
  | .safeStatusGet _ | .safeConfigRead _ | .safeLogRead _ | .budConfigGet _ | .budOutletGet _ | .budStatusGet _
  | .latConfigGet _ | .latStatusGet _ | .metroConfigGet _ | .metroScaleGet _ | .metroCalRead _ | .metroTableRead _
  | .metroLineGet _ | .energyConfigGet _ | .energyRead _ | .energyInstant _ | .pqLogRead _ | .waveList _
  | .tamperStatus _ | .billConfigGet _ | .billCalendarRead _ | .billTimeGet _ | .billRegistersGet _ | .billPeriodGet _
  | .ledgerRead _ | .ledgerStatus _ | .dlmsConfigGet _ | .dlmsAssocList _ | .creditAccountGet _ | .creditConfigGet _
  | .voucherStatus _ | .lineConfigGet _ | .lineStatusGet _ | .linePeers _ | .lineMapGet _ | .lineStatsGet _
  | .netConfigGet _ | .netStatusGet _ | .netToutGet _ | .netStats _ | .nfcConfigGet _ | .nfcTagRead _ | .nfcTagStatus _
  | .lswChanGet _ | .lswStatusGet _ | .lswBankGet _ | .panelConfigGet _ | .panelCurveGet _ | .panelStatusGet _
  | .panelStressRead _ | .keyInfo _ | .keyPublicRead _ | .keyStatus _ | .fltLogRead _ | .fwStatus _ => true
  | _ => false

end Sys2Proof
end

