-- ==== Sys2Proof/Certificates/Slice0/Obligations.lean ====
section
/-! DEFINITION. The statements for the provers. Those named ...RowsComplete say, row by row, that a command or event answers a next
state and which state it is: the state with exactly the written updates, so that everything they do not name is as before. -/

open Sys2Proof Sys2Proof.Machine

/-- The block's step: the command at the front of the queue is run on the state with the queue's rest (log entry 3). -/
def Obligations.StepRunsFrontCommand : Prop :=
  ∀ (c : Instr) (t : List Instr) (s : State), step { s with pending := c :: t } = exec c { s with pending := t }

/-- The empty queue, the model's choice of log entries 3 and 4: a command consumed from a ring first, then a DLMS request that a pause held,
else 1 ms of time, in which the presence that stands in a weld window is judged too. -/
def Obligations.StepOnEmptyQueue : Prop :=
  (∀ (x : Started) (t : List Started) (s : State), s.pending = [] → s.started = x :: t → s.fwRuns = true →
    step s = exec x.cmd { s with started := t }) ∧
  (∀ (c : Instr) (t : List Instr) (s : State), s.pending = [] → s.started = [] → s.dl.wait = c :: t → s.fwRuns = true →
    step s = exec c { s with dl := { s.dl with wait := t } }) ∧
  (∀ s : State, s.pending = [] → (s.started = [] ∧ s.dl.wait = []) ∨ s.fwRuns = false → step s = .next s.tick) ∧
  (∀ s : State, s.pwr.state = .off → s.tick = s) ∧
  (∀ s : State, s.powered = true → s.pwr.awaiting = none → s.pwr.wait = none → s.flt.lost = [] →
    let t : State := { s with
      bak := { s.bak with rtc := s.bak.rtc + 1 }, up := s.up + 1, host := { s.host with rdyHold := false }, bill := s.bill.tick
      net := if s.netOn then s.net.tick else s.net }
    s.tick = if s.domOn 2 then t.weldTick outlets else t)

/-- The bounds of every run, and the floors of R611, hold right after reset. -/
def Obligations.InvAtReset : Prop := State.reset.Inv ∧ SevOk State.reset.flt.sev

/-- The bounds that the spec gives hold after every step that answers a next state, from any state in which they hold. So do the severity
floors of R611, but for upsets: two copies of a TMR field that flip alike outvote the third (R8). -/
def Obligations.StepKeepsInv : Prop :=
  (∀ s t : State, s.Inv → step s = .next t → t.Inv) ∧
  (∀ (c : Instr) (s t : State), (∀ a x, c = .tmrScrub a x → ∀ m ∈ x, m = 0) → SevOk s.flt.sev → exec c s = .next t → SevOk t.flt.sev) ∧
  (∀ s : State, SevOk s.flt.sev → SevOk s.tick.flt.sev)

/-- No command or event is refused, and only the rows that carry host words can meet the fault of R34. -/
def Obligations.StopsOnlyOnHostWords : Prop :=
  (∀ (c : Instr) (s : State) (r : Refusal), exec c s ≠ .refused r) ∧
  (∀ (c : Instr) (s : State) (f : Fault), exec c s = .fault f → f = .environment ∧
    ((∃ cmd a wr nrd, c = .hostTransaction cmd a wr nrd) ∨ (∃ a v, c = .registerWrite a v) ∨ c = .islandCrossingDone ∨
      c = .stallLimit ∨ (∃ g, c = .gateForceClose g) ∨ (∃ l, c = .handoverAccept l) ∨ c = .pauseLimit))

/-- A mailbox command has no effect before firmware takes it up (log entry 1). -/
def Obligations.MailboxWaitsForFirmware : Prop :=
  ∀ (op : Nat) (q : Req) (c : Instr) (s : State), commandOf op q = some c → s.fwRuns = false → exec c s = .next s

/-- Every effect of an outside event leaves the queue of waiting commands as it is. -/
def Obligations.ExecKeepsQueue : Prop :=
  ∀ (c : Instr) (s t : State), exec c s = .next t → t.pending = s.pending

/-- The layout of the ring memory after any reset of the AON domain: R66. -/
def Obligations.ResetRings : Prop :=
  ∀ (s t : State) (cause : Nat), (t = State.reset ∨ t = s.resetTo cause) → ∀ n : PNum,
    (t.pr n).sqDepth = 64 ∧ (t.pr n).cqDepth = 64 ∧
    0x10000 + slotOff (t.pr n).sqBase (t.pr n).sqDepth 0 = 0x10000 + n.val * 0x2000 ∧
    0x10000 + slotOff (t.pr n).cqBase (t.pr n).cqDepth 0 = 0x10000 + n.val * 0x2000 + 0x1000 ∧
    (t.pr n).state = (if n.val = 0 then 1 else 0) ∧
    (∀ i, 0x10000 + slotOff (t.pr n).sqBase (t.pr n).sqDepth i + 64 ≤ 0x30000 ∧
      0x10000 + slotOff (t.pr n).cqBase (t.pr n).cqDepth i + 64 ≤ 0x30000)

/-- A doorbell write: R70, with R69 for the number of entries. -/
def Obligations.DoorbellTail : Prop :=
  (∀ (n : PNum) (t : Nat) (s : State),
    s.portServes = true → s.rings.pause = false → t < 65536 → (s.pr n).state = 1 → RingBounds (s.pr n) →
    let p := s.pr n
    exec (.doorbellWrite n t) s = .next (
      if ((t : Int) - p.sqTail) % 65536 ≤ (p.sqDepth : Int) - ((p.sqTail : Int) - p.sqHead) % 65536 then
        s.setPr n { p with sqTail := t, bells := if t = p.sqTail then p.bells else p.bells ++ [t] }
      else (s.setPr n { p with dbErr := true }).raise 22 n.val t)) ∧
  State.reset.sev 22 = 1

/-- A write of the completion head: R71. On RP14 a head that moves puts off the end of a waveform export (R376). -/
def Obligations.CompletionHead : Prop :=
  ∀ (n : PNum) (h : Nat) (s : State),
    s.portServes = true → s.rings.pause = false → h < 65536 → (s.pr n).state = 1 →
    let p := s.pr n
    exec (.cqHeadWrite n h) s = .next (
      if ((h : Int) - p.cqHead) % 65536 ≤ ((p.cqTail : Int) - p.cqHead) % 65536 then
        { s.setPr n { p with cqHead := h } with en := { s.en with
          exporting := if n = 14 ∧ h ≠ p.cqHead then s.en.exporting.map fun x => { x with headAt := s.up } else s.en.exporting } }
      else (s.setPr n { p with headErr := true }).raise 22 n.val h)

/-- The write-locked registers: R7. The first write after reset takes effect and locks; a later one is dropped and latches LOCKVIOL
with the address of the register. -/
def Obligations.WriteLockedRegisters : Prop :=
  (∀ (s t : State) (cause : Nat), (t = State.reset ∨ t = s.resetTo cause) →
    t.host.bnwLocked = false ∧ t.lsw.lock0 = false ∧ t.lsw.lock1 = false) ∧
  (∀ (v : Nat) (s : State), s.portServes = true → v < 2 ^ 32 →
    (s.host.bnwLocked = false →
      exec (.registerWrite 0x34 v) s = .next { s with host := { s.host with bnwOutlet := v % 32, bnwLocked := true } }) ∧
    (s.host.bnwLocked = true → exec (.registerWrite 0x34 v) s = .next (s.raise 18 0xFFFF 0x34)) ∧
    (s.lsw.lock0 = false →
      exec (.registerWrite 0x6000 v) s = .next (({ s with lsw := { s.lsw with map0 := v, lock0 := true } }).tmrWritten 0x6000).remap) ∧
    (s.lsw.lock0 = true → exec (.registerWrite 0x6000 v) s = .next (s.raise 18 0xFFFF 0x6000)) ∧
    (s.lsw.lock1 = false →
      exec (.registerWrite 0x6004 v) s = .next (({ s with lsw := { s.lsw with map1 := v, lock1 := true } }).tmrWritten 0x6004).remap) ∧
    (s.lsw.lock1 = true → exec (.registerWrite 0x6004 v) s = .next (s.raise 18 0xFFFF 0x6004)))

/-- A command byte that is not in the table: R38. The transaction stays ignored until HCS# rises. -/
def Obligations.UnknownHostCommand : Prop :=
  ∀ (cmd nrd : Nat) (addr : List Nat) (wr : List (List Nat)) (s : State), s.portServes = true → s.host.hcsLow = false →
    cmd ∉ [0x0B, 0xBB, 0xEB, 0x02, 0xA2, 0x38] →
    let a := ofUnits (lanesOf cmd) addr % 2 ^ 32
    exec (.hostTransaction cmd addr wr nrd) s = .next (({ s.begun false cmd a with host := { (s.begun false cmd a).host with
      ignored := true, protoCount := satInc 16 s.host.protoCount, protoCause := 1 } }).raise 16
        (((s.flt.occ.find? fun (x : Occ) => x.src == 16).map Occ.qual).getD 1) 0) ∧
    ({ s.begun false cmd a with host := { (s.begun false cmd a).host with ignored := true } }).host.hio = []

/-- An address that is not a multiple of 4, outside the Base-Note Window: R39. -/
def Obligations.UnalignedAddress : Prop :=
  ∀ (cmd nrd : Nat) (addr : List Nat) (wr : List (List Nat)) (s : State), s.portServes = true → s.host.hcsLow = false →
    let a := ofUnits (lanesOf cmd) addr
    a < 2 ^ 32 → a % 4 ≠ 0 → ¬(0x80000 ≤ a ∧ a < 0x80100) →
    (cmd ∈ readCmds →
      exec (.hostTransaction cmd addr wr nrd) s = .next (((s.begun false cmd a).proto 2 a).readWords none nrd (a - a % 4))) ∧
    (cmd ∈ writeCmds →
      exec (.hostTransaction cmd addr wr nrd) s =
        ((s.begun true cmd a).proto 2 a).writeWords (wr.map (ofUnits (lanesOf cmd))) (a - a % 4))

/-- Reads at an aligned address outside the Base-Note Window have no side effect beyond the host port itself: R43. -/
def Obligations.ReadsHaveNoSideEffect : Prop :=
  ∀ (cmd nrd : Nat) (addr : List Nat) (wr : List (List Nat)) (s t : State), cmd ∈ readCmds →
    let a := ofUnits (lanesOf cmd) addr
    a < 2 ^ 32 → a % 4 = 0 → ¬(0x80000 ≤ a ∧ a < 0x80100) →
    exec (.hostTransaction cmd addr wr nrd) s = .next t → t = { s with host := t.host }

/-- Transactions, register writes and ring-register writes are ignored until ST15 completes: R52. -/
def Obligations.PortBeforeStart : Prop :=
  ∀ (s : State) (cmd a v nrd : Nat) (addr : List Nat) (wr : List (List Nat)) (n : PNum) (base : Bool), s.host.ready = false →
    exec (.hostTransaction cmd addr wr nrd) s = .next s ∧ exec (.registerWrite a v) s = .next s ∧
    exec (.bnwOutletWrite v) s = .next s ∧ exec (.doorbellWrite n v) s = .next s ∧ exec (.cqHeadWrite n v) s = .next s ∧
    exec (.ringCfgWrite n base v) s = .next s ∧ exec (.timeSnapWrite v) s = .next s

/-- A register write to a gated or unpowered block is dropped, latches nothing, and is counted with its address: R53. -/
def Obligations.SilentZeroWrite : Prop :=
  ∀ (a v : Nat) (s : State), s.portServes = true → a < 2 ^ 32 → a % 4 = 0 →
    (a / 4096 = 7 ∧ (s.netOn = false ∨ bit s.clk.gate 3 = false)) ∨ (0x3018 ≤ a ∧ a < 0x3024 ∧ bit s.clk.gate 5 = false) →
    exec (.registerWrite a v) s = .next { s with host := { s.host with
      zeroReads := satInc 16 s.host.zeroReads, zeroAddr := a } }

/-- A write of RINGn_CFG or RINGn_BASE: R87, with the layout rule of R65 spelled out in `RingLayout`. -/
def Obligations.RingConfiguration : Prop :=
  (∀ (n : PNum) (v : Nat) (s : State), s.portServes = true → s.rings.pause = false → v < 2 ^ 32 → (s.pr n).state ≠ 0 →
    (field v 4 4 ≠ (s.pr n).sqLog2 ∨ field v 8 4 ≠ (s.pr n).cqLog2 →
      exec (.ringCfgWrite n false v) s = .next (s.setPr n { s.pr n with cfgErr := true })) ∧
    (field v 0 9 ≠ (s.pr n).sqBase ∨ field v 16 9 ≠ (s.pr n).cqBase →
      exec (.ringCfgWrite n true v) s = .next (s.setPr n { s.pr n with cfgErr := true }))) ∧
  (∀ (n : PNum) (v : Nat) (s : State), s.portServes = true → s.rings.pause = false → v < 2 ^ 32 → (s.pr n).state = 0 →
    bit v 0 = true →
    (RingLayout s n (field v 4 4) (field v 8 4) →
      exec (.ringCfgWrite n false v) s = .next { s.setPr n { s.pr n with
        state := 1, sqLog2 := field v 4 4, cqLog2 := field v 8 4, bells := []
        sqHead := 0, sqTail := 0, cqTail := 0, cqHead := 0, evtSeq := 0, held := [] } with
          en := { s.en with chunkEnd := if n = 14 then none else s.en.chunkEnd } }) ∧
    (¬RingLayout s n (field v 4 4) (field v 8 4) →
      exec (.ringCfgWrite n false v) s = .next (s.setPr n { s.pr n with
        sqLog2 := field v 4 4, cqLog2 := field v 8 4, cfgErr := true })))

/-- A chain that the H24 writes: at most 8 entries of 64 bytes, MORE in all but the last, and the payload in order (R78). -/
def Obligations.ChainOfEntries : Prop :=
  ∀ (op tag st : Nat) (payload : Bytes), payload.length ≤ 448 → st < 256 →
    let es := unitEntries op tag 0 st none 7 payload
    es.length ≤ 8 ∧ es ≠ [] ∧
    (∀ i, i < es.length → (es.getD i []).length = 64 ∧ fld (es.getD i []) 0 2 = op % 65536 ∧ fld (es.getD i []) 2 2 = tag % 65536 ∧
      (bit (u8 (es.getD i []) 4) 2 = true ↔ i + 1 < es.length)) ∧
    (es.map fun e => (e.drop 8).take (fld e 6 2)).flatten = payload

/-- A completion written while the ring has room: its 64 bytes stand in the slot at the tail, the tail advances by 1, the command
leaves the list of commands in flight, and no other byte of the ring memory changes (R67, R73). -/
def Obligations.CompletionInSlot : Prop :=
  ∀ (s : State) (n : PNum) (op tag st : Nat) (payload : Bytes), Memory.wf s.rings.mem = true → (s.pr n).state = 1 →
    (s.pr n).held = [] → 1 ≤ s.cqFree n → payload.length ≤ 56 → st ≠ 1 →
    let t := s.release n op tag st payload none
    let off := slotOff (s.pr n).cqBase (s.pr n).cqDepth (s.pr n).cqTail
    Memory.readN t.rings.mem off 64 = entryBytes op tag 0 st payload none ∧
    (t.pr n).cqTail = ((s.pr n).cqTail + 1) % 65536 ∧ (t.pr n).done = ((s.pr n).done + 1) % 2 ^ 32 ∧
    (∀ x ∈ (t.pr n).inflight, x.tag ≠ tag) ∧
    (∀ a, ¬(off ≤ a ∧ a < off + 64) → Memory.read t.rings.mem a = Memory.read s.rings.mem a) ∧
    (∀ m, m ≠ n → t.pr m = s.pr m) ∧ t = { s with rings := t.rings }

/-- Events take consecutive numbers of their pair's sequence, written, held or lost (R81, R83). -/
def Obligations.EventSequence : Prop :=
  ∀ (s : State) (n : PNum) (op : Nat) (payload : Bytes), s.fwRuns = true → (s.pr n).state = 1 → payload.length ≤ 56 →
    let t := s.emit n op payload
    (t.pr n).evtSeq = ((s.pr n).evtSeq + 1) % 65536 ∧
    ((s.pr n).held = [] → 1 + s.reserved n ≤ s.cqFree n → Memory.wf s.rings.mem = true →
      Memory.readN t.rings.mem (slotOff (s.pr n).cqBase (s.pr n).cqDepth (s.pr n).cqTail) 64 =
        entryBytes op (s.pr n).evtSeq 1 0 payload none) ∧
    ((s.pr n).held ≠ [] → 32 ≤ heldEntries (s.pr n).held →
      (t.pr n).held = (s.pr n).held ∧ (t.pr n).evtLost = satInc 16 (s.pr n).evtLost ∧ (t.pr n).evtLostFlag = true ∧
      t.latched 24 = true)

/-- A full completion ring holds the submissions of its own pair (R74), and a fetch on one pair touches no other pair's indices. -/
def Obligations.FullRingHoldsSubmissions : Prop :=
  (∀ (n : PNum) (par : List Nat) (s : State), s.cqFree n = 0 → exec (.submissionFetch n par) s = .next s) ∧
  (∀ (n m : PNum) (s t : State), m ≠ n → exec (.submissionFetch n []) s = .next t →
    t.pr m = s.pr m)

/-- No allocation of a round breaks a site, bus or imbalance limit: R266, R267. -/
def Obligations.AllocationWithinLimits : Prop :=
  ∀ (s : State) (l : Lims) (caps elig : List Nat) (start : Nat → Bool), s.breach l (s.allocate l caps elig start) = 0

/-- A grant is 0, or at least 6.0 A and at most the outlet's cap, and only eligible outlets get one: R267. -/
def Obligations.GrantsWithinCaps : Prop :=
  ∀ (s : State) (l : Lims) (caps elig : List Nat) (start : Nat → Bool) (k : Nat),
    let g := (s.allocate l caps elig start).getD k 0
    g = 0 ∨ (60 ≤ g ∧ g ≤ caps.getD k 0 ∧ k ∈ elig)

/-- No sample lowers an energy accumulator: R340. -/
def Obligations.EnergyNeverDecreases : Prop :=
  ∀ (x : List Int) (lfxo : Nat) (s t : State), (∀ o : ONum, (s.en.acc.get o).length = 28) → exec (.metroSample x lfxo) s = .next t →
    ∀ (o : ONum) (k : Nat), (s.en.acc.get o).getD k 0 ≤ (t.en.acc.get o).getD k 0

/-- Scrambling a PSDU twice gives it back: the additive sequence of R471. -/
def Obligations.ScrambleTwice : Prop := ∀ p : Bytes, scramble (scramble p) = p ∧ (scramble p).length = p.length

/-- No write of the host reaches the buffer on display, and it reaches the back buffer at its offset: R571, R580. -/
def Obligations.FrontBufferUntouched : Prop :=
  ∀ (q : Req) (s t : State), Memory.wf s.panel.mem = true → s.panel.front ≤ 1 → exec (.panelWrite q) s = .next t →
    (∀ a, 3840 * s.panel.front ≤ a → a < 3840 * s.panel.front + 3840 → Memory.read t.panel.mem a = Memory.read s.panel.mem a) ∧
    t.panel.front = s.panel.front ∧ t.panel.flip = s.panel.flip

/-- PANEL_FLIP swaps the buffers at the next frame boundary, and holds off writes and flips until then: R572. -/
def Obligations.FlipAtFrameBoundary : Prop :=
  (∀ (q : Req) (s : State), Served { op := 0x0F04, pair := 10 } q s true → s.panelOn = true →
    (s.panel.flip = none →
      exec (.panelFlip q) s = .next (answered { op := 0x0F04, pair := 10 } q
        { st := { s with panel := { s.panel with flip := some q.tag } }, status := 1 })) ∧
    (s.panel.flip ≠ none →
      exec (.panelFlip q) s = .next (answered { op := 0x0F04, pair := 10 } q { st := s, status := 2 }))) ∧
  (∀ (q : Req) (s : State) (r : Nat × Nat), let p := q.payload
    q.bulk = some r → 1 ≤ u16 p 2 → u16 p 0 + u16 p 2 ≤ 3840 → u16 p 2 ≤ r.2 →
    Served { op := 0x0F03, pair := 10, lo := 4, hi := 4, bulk := 1 } q s true → s.panelOn = true → s.panel.flip ≠ none →
    exec (.panelWrite q) s = .next (answered { op := 0x0F03, pair := 10, lo := 4, hi := 4, bulk := 1 } q { st := s, status := 2 })) ∧
  (∀ (s : State) (tag : Nat), s.panelOn = true → s.panel.flip = some tag → ∃ t, exec .panelFrame s = .next t ∧
    t.panel.front = 1 - s.panel.front ∧ t.panel.flip = none ∧ t.panel.mem = s.panel.mem)

/-- KEY_REVOKE revokes the slot with all its descendants, erases their keys, and leaves every other slot as it is: R602. -/
def Obligations.RevocationTakesDescendants : Prop :=
  ∀ (q : Req) (s : State), let n := u8 q.payload 0
    Served { op := 0x1004, pair := 11, lo := 1, hi := 1 } q s (16 ≤ n) → (s.slot n).state = 1 →
    ∃ t, exec (.keyRevoke q) s = .next t ∧
      (∀ m, m = n ∨ m ∈ s.descendants n → (t.slot m).state = 2 ∧ (t.slot m).mat = []) ∧
      (∀ m, m ≠ n → m ∉ s.descendants n → t.slot m = s.slot m)

/-- A comparator input that rises lowers SSWEN, whatever the sequencer was doing; until the island has seen the latch the record takes every
input (R184, R187, R189), from then on a further one trips for itself (R205). -/
def Obligations.ApexTripOpensSwitch : Prop :=
  ∀ (o : ONum) (cur : List Int) (wide : Int) (s : State),
    let p := { (s.o o).prot with wide := wide }
    let rise := clearBits (p.comparators cur) p.active
    rise ≠ 0 → (p.latch = 0 ∨ p.seen = false) →
    ∃ t, exec (.apexTrip o cur wide) s = .next t ∧ (t.o o).sw.sswen = false ∧
      (t.o o).prot.latch = p.latch ||| rise ∧ (t.o o).sw.phase = (s.o o).sw.phase ∧
      (t.o o).ses = (s.o o).ses ∧ (∀ p, p ≠ o → t.o p = s.o p) ∧ t = { s with out := t.out }

/-- The stored threshold 0 stands for the default of R192, and no stored threshold is taken that breaks R193. -/
def Obligations.OvercurrentThreshold : Prop :=
  (∀ rated : Nat, 50 ≤ ocThrOf 0 rated ∧ 25 * rated ≤ 100 * ocThrOf 0 rated ∧
    (ocThrOf 0 rated = 50 ∨ 100 * (ocThrOf 0 rated - 1) < 25 * rated)) ∧
  (∀ stored rated : Nat, stored ≠ 0 → ocThrOf stored rated = stored) ∧
  (∀ (q : Req) (s t : State) (o : ONum), exec (.protConfigSet q) s = .next t → 10 * ocThrOf (u16 q.payload 2) (s.rated o) < 2 * s.rated o →
    u8 q.payload 0 = 0xFF ∨ u8 q.payload 0 = o.val → t = { s with rings := t.rings })

/-- A reset request during the work of an earlier one, or while a reset is held, changes nothing but the level of HRST#: R736. -/
def Obligations.ResetWhileBusy : Prop :=
  ∀ (low : Bool) (s : State), s.resetBusy = true →
    exec (.hrst low) s = .next { s with pwr := { s.pwr with hrstLow := low } } ∧
    exec .watchdogReset s = .next s

/-- 1 ms of billing time and of network time: the slew of R392 takes 1 ms in each 1,000, never moves billing time backwards, and
absorbs the correction whole; network time carries into the seconds (R509). -/
def Obligations.ClocksKeepTime : Prop :=
  (∀ b : Billing, b.slewAcc ≤ 999 →
    (b.tick.time : Int) + b.tick.slew = b.time + b.slew + 1 ∧ b.time ≤ b.tick.time ∧ b.tick.time ≤ b.time + 2 ∧
    b.tick.slewAcc ≤ 999 ∧ b.tick.slew.natAbs ≤ b.slew.natAbs) ∧
  (∀ n : Net, n.ns < 1000000000 → 0 ≤ n.slewNs + 100 → n.tick.ns < 1000000000 ∧
    (n.slewNs = 0 → n.sec + 1 < 2 ^ 48 → n.tick.sec * 1000000000 + n.tick.ns = n.sec * 1000000000 + n.ns + 1000000))

/-- The Base-Note Window takes a setpoint of 12 to 64 steps of 0.5 A as the outlet's HOSTCAP, and ignores every other value: R702. -/
def Obligations.WindowSetpoint : Prop :=
  ∀ (cmd : Nat) (addr w : List Nat) (s : State), cmd ∈ writeCmds → s.portServes = true → s.host.hcsLow = false →
    ofUnits (lanesOf cmd) addr = 0x80020 → s.host.bnwOutlet < 24 → s.fwRuns = true → 4 ≤ (s.cfg.budOut.get s.bnwO).length →
    let v := ofUnits (lanesOf cmd) w
    v < 256 →
    let z := s.begun true cmd 0x80020
    (12 ≤ v → v ≤ 64 → ∃ t, exec (.hostTransaction cmd addr [w] 0) s = .next t ∧
      u16 (t.cfg.budOut.get s.bnwO) 2 = 5 * v ∧ (∀ k, k ≠ 2 → k ≠ 3 → (t.cfg.budOut.get s.bnwO).getD k 0 = (s.cfg.budOut.get s.bnwO).getD k 0) ∧
      (∀ o, o ≠ s.bnwO → t.cfg.budOut.get o = s.cfg.budOut.get o) ∧
      t = { z with bnw := { s.bnw with setp := v }, cfg := { s.cfg with budOut := t.cfg.budOut } }) ∧
    (v < 12 ∨ 64 < v → exec (.hostTransaction cmd addr [w] 0) s = .next z)

/-- The energy bytes of the Base-Note Window, read in order, belong to one copy, however the copy moves on in between: R701. -/
def Obligations.WindowEnergy : Prop :=
  (∀ (cmd : Nat) (addr : List Nat) (s : State), cmd ∈ readCmds → s.portServes = true → s.host.hcsLow = false →
    ofUnits (lanesOf cmd) addr = 0x80010 → s.bnwCode false 0 = none →
    exec (.hostTransaction cmd addr [] 1) s = .next { s.begun false cmd 0x80010 with
      host := { (s.begun false cmd 0x80010).host with hio := [s.bnw.copy % 256] }
      bnw := { s.bnw with snap := s.bnw.copy / 256 } }) ∧
  (∀ (cmd k : Nat) (addr : List Nat) (s : State), cmd ∈ readCmds → s.portServes = true → s.host.hcsLow = false →
    ofUnits (lanesOf cmd) addr = 0x80011 + k → s.bnwCode false 0 = none → k < 3 →
    exec (.hostTransaction cmd addr [] 1) s = .next { s.begun false cmd (0x80011 + k) with
      host := { (s.begun false cmd (0x80011 + k)).host with hio := [s.bnw.snap / 256 ^ k % 256] } })

/-- Switching a load-switch channel off by command ends its retries and leaves its thermal latch: R555. -/
def Obligations.ChannelOffByCommand : Prop :=
  ∀ (q : Req) (s : State), let p := q.payload
    let c := u8 p 0
    Served { op := 0x0E03, pair := 10, lo := 4, hi := 4 } q s (plainCh c) → c < 80 → u8 p 1 = 0 → s.limpRules c = false →
    ∃ t, exec (.lswOut q) s = .next t ∧ (t.lswCh c).on = false ∧ (t.lswCh c).driven = false ∧ (t.lswCh c).wait = false ∧
      (t.lswCh c).tries = 0 ∧ (t.lswCh c).latch = (s.lswCh c).latch ∧ (∀ d, d ≠ c → t.lswCh d = s.lswCh d)

/-- Force writes to F112 to F127 are ignored unless the safety island is in TEST mode: R618. -/
def Obligations.SafetyForceOnlyInTest : Prop :=
  ∀ (v : Nat) (s : State), s.portServes = true → v < 2 ^ 32 → v % 65536 = 0 → s.store.safeMode ≠ 2 → exec (.fltForce 3 v) s = .next s

/-- A step runs its alternative exactly when one of the records marks it 0b11, and never in a start that retries every primary: R650. -/
def Obligations.AlternativeSteps : Prop :=
  ∀ (s : State) (k : Nat), bit s.altMask k = true ↔
    s.bak.retry = false ∧ k ∈ stepsWithAlt ∧ ∃ r ∈ s.bak.recs, r / 4 ^ k % 4 = 3

/-- On the variant without NFC, every command with opcode high byte 0x0D completes with UNSUPPORTED: R2. -/
def Obligations.VariantWithoutNfc : Prop :=
  ∀ (op : Nat) (q : Req) (c : Instr) (s : State), Config.variantIN = true → op / 256 = 0x0D → commandOf op q = some c →
    s.fwRuns = true → exec c s = .next (s.complete 9 op q.tag 0x0A [] none)

/-- Queries change nothing but the rings that carry their answers. -/
def Obligations.QueriesOnlyAnswer : Prop :=
  ∀ (c : Instr) (s t : State), c.query = true → exec c s = .next t → t = { s with rings := t.rings }

/-- Completion of the rows of Machine/System.lean, Machine/Faults.lean, Machine/ClearOps.lean, Machine/Maint.lean: SYS queries,
fault-collector commands and maintenance activities. -/
def Obligations.SystemAndFaultRowsComplete : Prop :=
  -- SYS_VERSION
  (∀ (q : Req) (s : State),
    Served { op := 0x0101, pair := 0 } q s true →
    exec (.sysVersion q) s =
      .next (answered { op := 0x0101, pair := 0 } q (s.ok s.version))) ∧
  -- SYS_IDENTITY
  (∀ (q : Req) (s : State),
    Served { op := 0x0102, pair := 0 } q s true →
    exec (.sysIdentity q) s = .next (answered { op := 0x0102, pair := 0 } q (
      s.ok (toLE 8 Config.uid.toNat ++ toLE 1 (b2n Config.variantIN) ++ zeros 3 ++ toLE 4 Config.lot.toNat
      ++ toLE 2 Config.date.toNat)))) ∧
  -- SYS_SEQ_QUERY
  (∀ (q : Req) (s : State),
    let n := u8 q.payload 0
    Served { op := 0x0107, pair := 0, lo := 1, hi := 1 } q s (n ≤ 15) →
    exec (.sysSeqQuery q) s = .next (answered { op := 0x0107, pair := 0, lo := 1, hi := 1 } q (
      let e := s.store.eff.toList.getD n {}
      s.ok (toLE 4 e.count ++ toLE 1 e.last.length ++ zeros 3 ++ padTo 16 (e.last.map fun x => toLE 2 x.1).flatten
      ++ padTo 16 (e.last.map fun x => toLE 2 x.2).flatten)))) ∧
  -- SYS_LOOPBACK
  (∀ (q : Req) (s : State),
    Served { op := 0x0110, pair := 15, hi := 56, bulk := 2 } q s true →
    exec (.sysLoopback q) s = .next (answered { op := 0x0110, pair := 15, hi := 56, bulk := 2 } q (
      match q.bulk with
      | none => s.ok q.payload
      | some r => s.ok (toLE 4 (crc32c (s.bulkGet 15 r)))))) ∧
  -- TMR_SCRUB
  (∀ (addr : Nat) (x : List Nat) (s : State),
    (s.powered && !(tmrFieldsOf addr).isEmpty) = true →
    exec (.tmrScrub addr x) s = .next (
      let s := s.scrubFields addr
      let s := if addr = 0 then s.reloadImage else s
      if x.all fun m => m == 0 then s else s.strike addr x)) ∧
  -- STR_POST_COMPLETE
  (∀ (v : Nat) (s : State), s.host.strPost = some (0x501C, v) →
    exec .strPostComplete s = .next { s with
      host := { s.host with strPost := none }
      bak := { s.bak with recover := s.bak.recover || bit v 1, retry := s.bak.retry || bit v 0 } }) ∧
  -- FLT_SEVERITY_SET
  (∀ (q : Req) (s : State),
    let src := u8 q.payload 0
    let new := u8 q.payload 1
    Served { op := 0x1102, pair := 0, lo := 2, hi := 2 } q s (src < 128 && !reservedSrc src && new ≤ 3) →
    ¬(floorSource src && new < 2) →
    exec (.fltSeveritySet q) s = .next (answered { op := 0x1102, pair := 0, lo := 2, hi := 2 } q (
      ((if new = s.sev src then s else setSev s src new).tmrWrite (0x2040 + src / 16 * 4) (3 * 4 ^ (src % 16))
      (new * 4 ^ (src % 16))).ok))) ∧
  -- FLT_LOG_READ
  (∀ (q : Req) (s : State),
    let first := u32 q.payload 0
    let count := u8 q.payload 4
    let r := q.bulk.getD (0, 0)
    Served { op := 0x1103, pair := 0, lo := 5, hi := 5, bulk := 1 } q s (1 ≤ count && count ≤ 128) →
    let log := s.store.fltLog
    let oldest := (log.getLastD { seq := s.store.fltNext }).seq
    ¬(!log.isEmpty && (first + 2 ^ 32 - oldest) % 2 ^ 32 ≥ 2 ^ 31) →
    ¬(r.2 < 32 * count) →
    exec (.fltLogRead q) s = .next (answered { op := 0x1103, pair := 0, lo := 5, hi := 5, bulk := 1 } q (
      let es := (log.reverse.filter fun e => (e.seq + 2 ^ 32 - first) % 2 ^ 32 < 2 ^ 31).take count
      { st := s.bulkPut 0 r (es.map LogEntry.bytes).flatten, payload := toLE 1 es.length ++ toLE 4 oldest, bulk := some r }))) ∧
  -- FAULT_RETRY
  (∀ (src qual data : Nat) (s : State), retryable src = true → src ≠ 1 →
    exec (.faultRetry src qual data true) s = .next (s.transient src qual data)) ∧
  -- FAULT_RETRY
  (∀ (src qual data : Nat) (s : State), retryable src = true →
    exec (.faultRetry src qual data false) s = .next (s.raiseRetried src qual data)) ∧
  -- FLT_CLEAR
  (∀ (q : Req) (s : State), let src := u8 q.payload 0
    let qual := u16 q.payload 2
    let l := s.flt.occ.filter fun x => x.src == src && (qual == 0xFFFF || x.qual == qual)
    Served { op := 0x1101, pair := 0, lo := 4, hi := 4 } q s (src < 128) → l.filter s.mayClear ≠ [] →
    let z := s.clearList (l.filter s.mayClear)
    exec (.fltClear q) s = .next (answered { op := 0x1101, pair := 0, lo := 4, hi := 4 } q
      (z.ok (toLE 1 (z.flt.occ.filter fun x => x.src == src).length)))) ∧
  -- FAULT_OCCURRENCE
  (∀ (src qual data : Nat) (s : State), retryable src = false → exec (.faultOccurrence src qual data) s = .next (s.raise src qual data)) ∧
  -- MA_START
  (∀ (q : Req) (z : State),
    let a : MaAct := {
      tag := q.tag, act := u8 q.payload 0, index := u8 q.payload 1, mode := u8 q.payload 2, param := u32 q.payload 4, bulk := q.bulk, since := z.up }
    let c : Cmd := { op := 0x1110, pair := 13, lo := 8, hi := 8, bulk := 2 }
    Served c q z (a.inRange && a.bulkFits) → a.regionShort = false → z.maRefuses a = none → (z.maint.filter fun b => !b.running).length < 8 →
    let f := flown c q z
    let s := { f with maint := f.maint ++ [a] }
    exec (.maStart q) z = .next (if s.maFree a then s.maBegin a else s)) ∧
  -- MA_ABORT
  (∀ (q : Req) (s : State),
    Served { op := 0x1111, pair := 13, lo := 2, hi := 2 } q s true →
    ∀ a, (s.maint.find? fun a => a.tag == u16 q.payload 0) = some a →
    exec (.maAbort q) s =
      .next (answered { op := 0x1111, pair := 13, lo := 2, hi := 2 } q ((s.maFinish a 2 1 []).ok))) ∧
  -- MA_STATUS
  (∀ (q : Req) (s : State),
    Served { op := 0x1112, pair := 13 } q s true →
    exec (.maStatus q) s = .next (answered { op := 0x1112, pair := 13 } q (
      let e := s.maEntries s.maint
      e.2.ok (toLE 1 s.maint.length ++ zeros 1 ++ e.1)))) ∧
  -- MA_ACTIVITY_END
  (∀ (tag : Nat) (m : MaMeas) (a : MaAct) (s : State), (s.maint.find? fun a => a.tag == tag && a.running) = some a →
    s.maLost a = none → a.fits m = true →
    exec (.maActivityEnd tag m) s = .next ((s.maEffect a m).maFinish a (b2n (!s.maPass a m)) 0 (measData m))) ∧
  -- MA_ACTIVITY_END
  (∀ (tag c : Nat) (m : MaMeas) (a : MaAct) (s : State), (s.maint.find? fun a => a.tag == tag && a.running) = some a →
    s.maLost a = some c → exec (.maActivityEnd tag m) s = .next (s.maFinish a 2 c [])) ∧
  -- MA_QUEUE_TIMEOUT
  (∀ (tag : Nat) (a : MaAct) (s : State),
    (s.maint.find? fun a => a.tag == tag && !a.running && decide (a.since + 600000 ≤ s.up)) = some a →
    exec (.maQueueTimeout tag) s = .next (s.maReject a 8)) ∧
  -- MA_ACTIVITY_START
  (∀ (a : MaAct) (s : State), s.maNext = some a → s.maRefuses a = none → exec .maActivityStart s = .next (s.maBegin a))

/-- Completion of the rows of Machine/Domains.lean, Machine/Power.lean, Machine/StartSeq.lean, Machine/Clocks.lean: power
domains, power states, resets, start steps and clocks. -/
def Obligations.PowerAndStartRowsComplete : Prop :=
  -- SYS_POWER_GET
  (∀ (q : Req) (s : State),
    Served { op := 0x0103, pair := 0 } q s true →
    exec (.sysPowerGet q) s =
      .next (answered { op := 0x0103, pair := 0 } q (s.ok (toLE 1 s.powerCode ++ zeros 1 ++ toLE 2 s.pwr.on ++ toLE 2 s.pinned)))) ∧
  -- SYS_POWER_SET
  (∀ (q : Req) (s : State), Served { op := 0x0104, pair := 0, lo := 2, hi := 2 } q s (u8 q.payload 0 ≤ 2 && (u8 q.payload 0 != 1 || u8 q.payload 1 ≤ 1)) →
    u8 q.payload 0 = 0 → s.inTransition = false →
    exec (.sysPowerSet q) s = .next (answered { op := 0x0104, pair := 0, lo := 2, hi := 2 } q (s.wake 0).ok)) ∧
  -- SYS_POWER_SET
  (∀ (q : Req) (s : State), Served { op := 0x0104, pair := 0, lo := 2, hi := 2 } q s (u8 q.payload 0 ≤ 2 && (u8 q.payload 0 != 1 || u8 q.payload 1 ≤ 1)) →
    u8 q.payload 0 = 1 → s.anyEnergised = false → s.inTransition = false →
    exec (.sysPowerSet q) s =
      .next (answered { op := 0x0104, pair := 0, lo := 2, hi := 2 } q (s.toQuiet (u8 q.payload 1 == 1)).ok)) ∧
  -- SYS_POWER_SET
  (∀ (q : Req) (s : State), Served { op := 0x0104, pair := 0, lo := 2, hi := 2 } q s (u8 q.payload 0 ≤ 2 && (u8 q.payload 0 != 1 || u8 q.payload 1 ≤ 1)) →
    u8 q.payload 0 = 2 → s.anyEnergised = false → 2000 ≤ s.pwr.vbak → s.inTransition = false →
    exec (.sysPowerSet q) s =
      .next (({ s.complete 0 0x0104 q.tag 0 [] none with pwr := { s.pwr with dormantDue := true } }).evtPower 2 0)) ∧
  -- SYS_DOMAIN_SET
  (∀ (q : Req) (s : State),
    let sel := u16 q.payload 0
    let val := u16 q.payload 2
    Served { op := 0x0105, pair := 0, lo := 4, hi := 4 } q s (sel % 4 == 0 && decide (sel < 4096)) →
    let old := s.pwr.on
    let new := domainGoal old sel val
    s.domainRefuses new = none →
    exec (.sysDomainSet q) s = .next (answered { op := 0x0105, pair := 0, lo := 4, hi := 4 } q (
      let s := s.setDomains new
      if new &&& old = new then
        (if new = old then s else s.evtDomain old 0).ok (toLE 2 new)
      else
        ({ s with pwr := { s.pwr with pgood := old &&& new, wait := some { tag := q.tag, old := old, sel := new ^^^ old } } }).wait))) ∧
  -- DOMAIN_SWITCH_TIMEOUT
  (∀ (d : Nat) (s : State), s.pwr.wait.isSome = true →
    let w := s.pwr.wait.getD { tag := 0, old := 0, sel := 0 }
    (bit w.sel d && s.domOn d && !bit w.old d) = true →
    exec (.domainSwitchTimeout d) s =
      .next ((({ s with pwr := { s.pwr with wait := none } }).setDomains w.old).finish 0 w.tag 8 [])) ∧
  -- DOMAIN_PG_LOSS
  (∀ (d : Nat) (back : Bool) (s : State),
    (2 ≤ d && d < 12 && s.domOn d) = true →
    exec (.domainPgLoss d back) s = .next (if back then (s.domainDown d).transient 11 d 0 else s.domainFailed d)) ∧
  -- PILOT_RAIL
  (∀ (vpn : Bool) (v : Int) (s : State),
    exec (.pilotRail vpn v) s = .next (
      let rail := if vpn then 5 else 4
      let far := if vpn then (v + 1200).natAbs else (v - 1200).natAbs
      let p := { s.pwr with railGood := putBit s.pwr.railGood rail (decide (far ≤ 12)) }
      let s := { s with pwr := if vpn then { p with vpn12 := v } else { p with vpp12 := v.toNat } }
      if far ≤ 36 then s else (s.openList 12 outlets).raise 10 rail 0)) ∧
  -- BAK_SWITCHOVER
  (∀ (vbak : Bool) (s : State),
    exec (.bakSwitchover vbak) s = .next (
      { s with
      pwr := { s.pwr with src := b2n vbak }
      bak := { s.bak with cut := if vbak && s.pwr.src = 0 then s.bak.rtc else s.bak.cut } })) ∧
  -- VBAK_LOW
  (∀ (mv : Nat) (s : State), mv < 2200 →
    exec (.vbakLow mv) s = .next (({ s with pwr := { s.pwr with vbak := mv } }).raise 8 0xFFFF mv)) ∧
  -- VBAK_LOW
  (∀ (mv : Nat) (s : State), 2200 ≤ mv → exec (.vbakLow mv) s = .next { s with pwr := { s.pwr with vbak := mv } }) ∧
  -- HRST
  (∀ (s : State), s.pwr.hrstLow = false → exec (.hrst false) s = .next s) ∧
  -- HRST
  (∀ (s : State), s.powered = true → s.resetBusy = false →
    exec (.hrst true) s = .next ((({ s with pwr := { s.pwr with hrstLow := true } }).lastGasp 7 false).resetTo 4)) ∧
  -- POWER_FAIL
  (∀ (t : Nat) (s : State),
    (s.powered && !s.pwr.hold) = true →
    exec (.powerFail t) s = .next (
      let s := s.lastGasp t true
      let s := if 8 ≤ t then s.setDomains 3 else s
      { s with pwr := { s.pwr with hold := true, shed := true, gasp := min t 8 } })) ∧
  -- VSUP_MIN_FALL
  (∀ (mv : Nat) (s : State), s.powered = true → s.pwr.hold = true →
    exec (.vsupMinFall mv) s = .next (({ s with bak := { s.bak with
      pfShort := if s.pwr.gasp < 7 then some s.pwr.gasp else s.bak.pfShort } }).powerless (if 2000 ≤ mv then .dormant else .off) true)) ∧
  -- LPDDR_ECC_ERROR
  (∀ (addr : Nat) (s : State),
    (s.powered && s.domOn 7) = true →
    exec (.lpddrEccError addr) s = .next (
      let s := s.raise 98 0xFFFF addr
      if s.resetBusy then s else (s.lastGasp 7 false).resetTo 5)) ∧
  -- DORMANT_ENTRY
  (∀ (s : State),
    (s.pwr.dormantDue && !s.pwr.hold) = true →
    exec .dormantEntry s = .next (
      let s := s.gasp3
      (s.gasp6.1).powerless .dormant false)) ∧
  -- SAFE_STATE_RESET
  (∀ (s : State),
    let again := match s.bak.safeStart with
      | some t => decide (s.bak.rtc < t + 600000)
      | none => false
    (s.isl.safeState && s.isl.pairsOff && !again && s.powered && !s.resetBusy) = true →
    exec .safeStateReset s = .next ((s.lastGasp 7 false).resetTo 9)) ∧
  -- WATCHDOG_RESET
  (∀ (s : State),
    let inHandover := match s.fw.ho with
      | some h => !h.dead
      | none => false
    (s.lsw.wdg && s.lsw.wdgAt + 10000 ≤ s.up && !inHandover && s.powered && !s.resetBusy) = true →
    exec .watchdogReset s = .next ((s.lastGasp 7 false).resetTo 5)) ∧
  -- POWERFAIL_RECOVERY
  (∀ (s : State),
    (s.powered && s.pwr.hold && s.pwr.gasp == 8) = true →
    exec .powerfailRecovery s = .next (s.resetTo 3)) ∧
  -- VSUP_RETURN
  (∀ (s : State), s.pwr.state = .dormant → s.pwr.fell = true → exec .vsupReturn s = .next (s.resetTo 2)) ∧
  -- VSUP_RETURN
  (∀ (s : State), s.pwr.state = .off → exec .vsupReturn s = .next (s.por.resetTo 1)) ∧
  -- START_SEQUENCE
  (∀ (c : Nat) (r : StartInput) (s : State), s.pwr.awaiting = some c → s.pwr.hrstLow = false → s.powered = true →
    exec (.startSequence r) s = .next (s.start c r)) ∧
  -- CLKMON_WINDOW
  (∀ (clk count : Nat) (lockLow : Bool) (s : State),
    (clk < 6 && bit s.clk.monEn clk && !(clk == 4 && s.clk.rcOnly)) = true →
    exec (.clkmonWindow clk count lockLow) s = .next (
      let bad := s.countOut clk count || (lockLow && clk != 0)
      { s with clk := { s.clk with
        bad := s.clk.bad.set clk (if bad then min 2 (s.clk.bad.getD clk 0 + 1) else 0), rcStarting := false } })) ∧
  -- CLOCK_TRIP
  (∀ (clk : Nat) (s : State),
    (clk < 6 && bit s.clk.monEn clk && 2 ≤ s.clk.bad.getD clk 0) = true →
    exec (.clockTrip clk) s = .next (
      let starting := s.pwr.state == .quiet && s.clk.emerg = 0
      let was := s.clk.lock
      let s := s.emergency (s.fedBy clk)
      let s := { s with clk := { s.clk with
        xtalOk := s.clk.xtalOk && clk != 0
        lock := if clk = 0 then (if s.clk.rcOnly then s.clk.lock else 0) else putBit s.clk.lock (clk - 1) false
        metaRc := s.clk.metaRc || clk == 0 || clk == 3
        trip := s.clk.trip ||| 2 ^ clk, bad := s.clk.bad.set clk 0, rcStarting := s.clk.rcStarting || starting } }
      let s := ((s.raise 0 clk 0).markStep (if clk = 0 then 2 else 3) 3).nonMaskable
      if clk = 0 && s.fwRuns && !s.clk.rcOnly then s.relockAll was else s)) ∧
  -- CLOCK_SELFCHECK
  (∀ (prim spare : Int) (s : State),
    (s.powered && s.clk.monRef == 0) = true →
    exec (.clockSelfcheck prim spare) s = .next (
      let spareOn := if s.clk.primaryB then s.clk.rc48aOn else s.clk.rc48bOn
      let s := { s with clk := { s.clk with devPrimary := prim, devSpare := if spareOn then spare else 0 } }
      if 300 < prim.natAbs then s.primaryStopped else s)) ∧
  -- RC48_START_TIMEOUT
  (∀ (spare : Bool) (s : State),
    s.clk.rcStarting = true →
    exec (.rc48StartTimeout spare) s = .next (
      if spare then s.toSpare.nonMaskable
      else if s.resetBusy then s
      else ((((s.gasp1).gasp2).gasp4).gasp5).resetTo 7)) ∧
  -- CLK_SWITCH_DONE
  (∀ (i : Nat) (s : State),
    (i < 6 && bit s.clk.pend i && s.sourceRuns i true && s.sourceRuns i false) = true →
    exec (.clkSwitchDone i) s = .next (
      { s with clk := { s.clk with
      actual := putBit s.clk.actual i (bit s.clk.sel i)
      emerg := putBit s.clk.emerg i false, pend := putBit s.clk.pend i false } })) ∧
  -- CLK_SWHANG
  (∀ (i : Nat) (s : State),
    (i < 6 && bit s.clk.pend i && decide (s.clk.pendAt.getD i 0 + 1 ≤ s.up)) = true →
    exec (.clkSwhang i) s = .next (s.raise 4 i 0)) ∧
  -- CLK_METER_DONE
  (∀ (count : Nat) (stopped : Bool) (s : State),
    s.clk.meterBusy = true →
    exec (.clkMeterDone count stopped) s = .next (
      { s with clk := { s.clk with
      meterBusy := false, meterDone := true, meterStopped := stopped, meterResult := min count 0xFFFFFFFF } })) ∧
  -- RC48_STOP
  (∀ (s : State),
    (s.powered && s.monitorRef == 0) = true →
    exec .rc48Stop s = .next (s.primaryStopped)) ∧
  -- LFXO_LOSS
  (∀ (s : State),
    s.clk.lfxoOk = true →
    exec .lfxoLoss s = .next (({ s with clk := { s.clk with lfxoOk := false } }).raise 3 0xFFFF 0)) ∧
  -- PILOT_PERIOD_TRIM
  (∀ (s : State),
    (s.clk.metaRc && s.clk.lfxoOk) = true →
    exec .pilotPeriodTrim s = .next ({ s with clk := { s.clk with trimRuns := s.clk.trimRuns + 1 } }))

/-- Completion of the rows of Machine/HostPort.lean: the host port and its register writes. -/
def Obligations.HostPortRowsComplete : Prop :=
  -- HOST_TRANSACTION
  (∀ (cmd nrd : Nat) (addr : List Nat) (s : State), s.portServes = true → s.host.hcsLow = false → cmd ∈ readCmds →
    let a := ofUnits (lanesOf cmd) addr
    a < 2 ^ 32 → a % 4 = 0 → inWindow a = false →
    exec (.hostTransaction cmd addr [] nrd) s = .next ((s.begun false cmd a).readWords none nrd a)) ∧
  -- HOST_TRANSACTION
  (∀ (cmd : Nat) (addr v : List Nat) (s : State), s.portServes = true → s.host.hcsLow = false → cmd ∈ writeCmds →
    let a := ofUnits (lanesOf cmd) addr
    a < 2 ^ 32 → a % 4 = 0 →
    inWindow a = false → s.heldBack a = false → s.crosses a = false → s.outside a = false →
    let t := (s.begun true cmd a).writeWord a (ofUnits (lanesOf cmd) v)
    exec (.hostTransaction cmd addr [v] 0) s = .next { t with host := { t.host with nextAddr := nextWord a } }) ∧
  -- HOST_TRANSACTION
  (∀ (cmd nrd : Nat) (addr : List Nat) (s : State), s.portServes = true → s.host.hcsLow = false → cmd ∈ readCmds →
    let a := ofUnits (lanesOf cmd) addr
    a < 2 ^ 32 → inWindow a = true →
    exec (.hostTransaction cmd addr [] nrd) s = .next ((s.begun false cmd a).windowReads (a % 256) 0 nrd)) ∧
  -- HOST_TRANSACTION
  (∀ (cmd : Nat) (addr : List Nat) (wr : List (List Nat)) (s : State), s.portServes = true → s.host.hcsLow = false → cmd ∈ writeCmds →
    let a := ofUnits (lanesOf cmd) addr
    a < 2 ^ 32 → inWindow a = true →
    exec (.hostTransaction cmd addr wr 0) s =
      .next ((s.begun true cmd a).windowWrites (a % 256) 0 (wr.map (ofUnits (lanesOf cmd))))) ∧
  -- HCS_RISE
  (∀ (cut : Bool) (s : State),
    s.host.hcsLow = true →
    exec (.hcsRise cut) s = .next (
      let counts := cut && s.host.write && !s.host.ignored && s.host.xact.isNone && !inWindow s.host.nextAddr
      let s := { s with host := { s.host with hcsLow := false, ignored := false, xact := none } }
      let s := s.closeWaiting
      if counts then s.proto 3 s.host.nextAddr else s)) ∧
  -- REGISTER_WRITE
  (∀ (a v : Nat) (s : State), s.portServes = true → a < 2 ^ 32 → a % 4 = 0 → s.heldBack a = false → s.outside a = false →
    s.zeroed a = false → exec (.registerWrite a v) s = .next (s.regWrite a (v % 2 ^ 32))) ∧
  -- BNW_OUTLET_WRITE
  (∀ (v : Nat) (s : State), s.portServes = true → s.host.bnwLocked = false →
    exec (.bnwOutletWrite v) s = .next { s with host := { s.host with bnwOutlet := v % 32, bnwLocked := true } }) ∧
  -- DOORBELL_WRITE
  (∀ (n : PNum) (t : Nat) (s : State), s.portServes = true → s.rings.pause = false → (s.pr n).state = 1 →
    ringCount (s.pr n).sqTail (t % 65536) ≤ (s.pr n).sqDepth - ringCount (s.pr n).sqHead (s.pr n).sqTail →
    exec (.doorbellWrite n t) s = .next (s.setPr n { s.pr n with
      sqTail := t % 65536, bells := if t % 65536 = (s.pr n).sqTail then (s.pr n).bells else (s.pr n).bells ++ [t % 65536] })) ∧
  -- CQ_HEAD_WRITE
  (∀ (n : PNum) (h : Nat) (s : State), s.portServes = true → s.rings.pause = false → (s.pr n).state = 1 →
    ringCount (s.pr n).cqHead (h % 65536) ≤ ringCount (s.pr n).cqHead (s.pr n).cqTail → (n = 14 → s.en.exporting = none) →
    exec (.cqHeadWrite n h) s = .next (s.setPr n { s.pr n with cqHead := h % 65536 })) ∧
  -- CQ_HEAD_WRITE
  (∀ (h : Nat) (x : Export) (s : State), s.portServes = true → s.rings.pause = false → (s.pr 14).state = 1 →
    ringCount (s.pr 14).cqHead (h % 65536) ≤ ringCount (s.pr 14).cqHead (s.pr 14).cqTail → h % 65536 ≠ (s.pr 14).cqHead →
    s.en.exporting = some x →
    exec (.cqHeadWrite 14 h) s = .next { s.setPr 14 { s.pr 14 with cqHead := h % 65536 } with
      en := { s.en with exporting := some { x with headAt := s.up } } }) ∧
  -- RING_CFG_WRITE
  (∀ (n : PNum) (v : Nat) (s : State), s.portServes = true → s.rings.pause = false → (s.pr n).state = 0 → v < 2 ^ 32 → bit v 0 = true →
    layoutOk s n (field v 4 4) (field v 8 4) = true →
    exec (.ringCfgWrite n false v) s = .next { s.setPr n { s.pr n with
      state := 1, sqLog2 := field v 4 4, cqLog2 := field v 8 4, sqHead := 0, sqTail := 0, cqTail := 0, cqHead := 0, evtSeq := 0
      held := [], bells := [] } with en := { s.en with chunkEnd := if n = 14 then none else s.en.chunkEnd } }) ∧
  -- RING_CFG_WRITE
  (∀ (n : PNum) (v : Nat) (s : State), s.portServes = true → s.rings.pause = false → (s.pr n).state = 0 → v < 2 ^ 32 →
    exec (.ringCfgWrite n true v) s = .next (s.setPr n { s.pr n with sqBase := field v 0 9, cqBase := field v 16 9 })) ∧
  -- TIME_SNAP_WRITE
  (∀ (v : Nat) (s : State), s.portServes = true → s.netOn = true → bit s.clk.gate 3 = true → v % 2 = 1 →
    exec (.timeSnapWrite v) s = .next s.snapshot) ∧
  -- FLT_UNREAD_ACK
  (∀ (m v : Nat) (s : State), s.portServes = true → m < 4 →
    exec (.fltUnreadAck m v) s =
      .next { s with flt := { s.flt with unread := clearBits s.flt.unread (v % 2 ^ 32 * 2 ^ (32 * m)) } }) ∧
  -- FLT_FORCE
  (∀ (m v : Nat) (s : State), s.portServes = true → m < 4 → exec (.fltForce m v) s = .next (forceWrite s m (v % 2 ^ 32) 32)) ∧
  -- FLT_SEV_WRITE
  (∀ (m v : Nat) (s : State), s.portServes = true → m < 8 → let w := v % 2 ^ 32
    exec (.fltSevWrite m v) s = .next ((sevWrite s m w 16).tmrWrite (0x2040 + 4 * m) (sevAccepted m w) w)) ∧
  -- CLK_SEL_WRITE
  (∀ (v : Nat) (s : State), s.portServes = true → let pend := (v % 64) ^^^ s.clk.actual
    exec (.clkSelWrite v) s = .next { s with clk := { s.clk with
      sel := v % 64, pend := pend
      pendAt := s.clk.pendAt.mapIdx fun i t => if bit pend i && !bit s.clk.pend i then s.up else t } }) ∧
  -- CLK_FORCE_WRITE
  (∀ (v : Nat) (s : State), s.portServes = true → v < 64 →
    exec (.clkForceWrite v) s = .next { s with clk := { s.clk with
      actual := clearBits s.clk.actual v ||| (s.clk.sel &&& v), emerg := clearBits s.clk.emerg v ||| (s.clk.sel &&& v)
      pend := clearBits s.clk.pend v } }) ∧
  -- CLK_METER_START
  (∀ (tgt ref : Nat) (s : State), s.portServes = true → bit s.clk.gate 5 = true → s.clk.meterBusy = false → tgt ≤ 10 → ref ≤ 10 →
    exec (.clkMeterStart (2 ^ 31 + 256 * tgt + ref)) s = .next { s with clk := { s.clk with
      meterTgt := tgt, meterRef := ref, meterBusy := true, meterDone := false, meterStopped := false } }) ∧
  -- CLK_GATE_WRITE
  (∀ (v : Nat) (s : State), s.portServes = true → v < 2 ^ 32 → exec (.clkGateWrite v) s = .next (gateWrite s v)) ∧
  -- GATE_FORCE_CLOSE
  (∀ (g : Nat) (s : State), bit s.clk.gateWait g = true → s.host.xact = none →
    exec (.gateForceClose g) s = .next { s with clk := { s.clk with
      gate := putBit s.clk.gate g false, gateWait := putBit s.clk.gateWait g false } }) ∧
  -- GATE_FORCE_CLOSE
  (∀ (g : Nat) (x : Xact) (s : State), bit s.clk.gateWait g = true → s.host.xact = some x → x.read = true →
    let z : State := { s with clk := { s.clk with
      gate := putBit s.clk.gate g false, gateWait := putBit s.clk.gateWait g false } }
    exec (.gateForceClose g) s = .next ((((z.dropWord x).zeroAccess x.addr).raise 21 0xFFFF x.addr).readWords
      none (x.nrd - 1) (nextWord x.addr))) ∧
  -- PWR_PF_CFG_WRITE
  (∀ (t : Nat) (s : State), s.portServes = true → 48 ≤ t → t ≤ 300 → 10 * t + 50 < s.pwr.vsup →
    let z := s.tmrWritten 0x4008
    exec (.pwrPfCfgWrite t) s =
      .next { z with bak := { z.bak with thresh := t }, cfg := { z.cfg with pfThresh := t } }) ∧
  -- ISLAND_CROSSING_DONE
  (∀ (x : Xact) (s : State), s.host.xact = some x → s.heldBack x.addr = false → s.islandRuns x.addr = true → x.read = true →
    let z : State := { s with host := { s.host with xact := none } }
    exec .islandCrossingDone s = .next ((((z.readWord x.addr).2.driveHio (z.readWord x.addr).1).closeWaiting).readWords
      (some (x.addr / 4096)) (x.nrd - 1) (nextWord x.addr))) ∧
  -- ISLAND_CROSSING_DONE
  (∀ (x : Xact) (v : Nat) (s : State), s.host.xact = some x → s.heldBack x.addr = false → s.islandRuns x.addr = true → x.read = false → x.wr = [v] →
    let z : State := { s with host := { s.host with xact := none } }
    z.outside x.addr = false →
    let t := (z.writeWord x.addr v).closeWaiting
    exec .islandCrossingDone s = .next { t with host := { t.host with nextAddr := nextWord x.addr } }) ∧
  -- STALL_LIMIT
  (∀ (x : Xact) (s : State), s.host.xact = some x → s.heldBack x.addr = false → s.crosses x.addr = true → x.read = true →
    let z := s.dropWord x
    let z : State := { z with host := { z.host with stalls := satInc 16 z.host.stalls, stallAddr := x.addr } }
    exec .stallLimit s = .next (((z.raise 17 0xFFFF x.addr).closeWaiting).readWords
      none (x.nrd - 1) (nextWord x.addr))) ∧
  -- STR_RECOVER
  (∀ (s : State), s.portServes = true → s.host.strPost = none →
    exec .strRecover s = .next { s with host := { s.host with strPost := some (0x501C, 2) } }) ∧
  -- STR_RETRY_PRIMARY
  (∀ (s : State), s.portServes = true → s.host.strPost = none →
    exec .strRetryPrimary s = .next { s with host := { s.host with strPost := some (0x501C, 1) } })

/-- Completion of the rows of Machine/Rings.lean, Machine/Bnw.lean: the rings and the Base-Note Window. -/
def Obligations.RingAndWindowRowsComplete : Prop :=
  -- PAIR_DRAIN_END
  (∀ (n : PNum) (s : State), (s.pr n).state = 2 → (s.pr n).inflight = [] → s.startedOn n = 0 →
    exec (.pairDrainEnd n) s = .next (s.setPr n { s.pr n with state := 0, held := [] })) ∧
  -- SUBMISSION_FETCH
  (∀ (n : PNum) (c : Instr) (par : List Nat) (s : State), s.fwRuns = true → s.fw.ho = none → (s.pr n).state = 1 → (s.pr n).held = [] →
    s.startedOn n = 0 → s.reserved n < s.cqFree n → ringCount (s.pr n).sqHead (s.pr n).sqTail ≠ 0 →
    let e := sqEntry s n (s.pr n).sqHead
    par.getD 0 0 = 0 → bit (u8 e 4) 2 = false → bit (u8 e 4) 0 = false → chainOk [e] true
      (ringCount (s.pr n).sqHead ((s.pr n).bells.headD (s.pr n).sqTail)) = true → pairOfOpcode (u16 e 0) = n → u16 e 0 / 256 ≠ 13 →
    commandOf (u16 e 0) (reqOf [e]) = some c →
    let z := s.setPr n ((s.pr n).consume 1)
    exec (.submissionFetch n par) s =
      .next { z with started := z.started ++ [{ pair := n, cmd := c, tag := u16 e 2, bulk := (reqOf [e]).bulk }] }) ∧
  -- EVENT_QUEUE_DRAIN
  (∀ (n : PNum) (h : Held) (s : State), (s.pr n).held = [h] →
    h.entries.length + (if h.event then s.reserved n else 0) ≤ s.cqFree n →
    exec (.eventQueueDrain n) s = .next ((s.setPr n { s.pr n with held := [] }).putUnit n h)) ∧
  -- BNW_READ
  (∀ (off : Nat) (s : State), s.portServes = true → off < 256 → s.bnwCode false 0 = none → off ≠ 0x10 →
    exec (.bnwRead off false 0) s = .next (s.driveHio (s.bnwReg off))) ∧
  -- BNW_READ
  (∀ (off nth v : Nat) (late count : Bool) (s : State), s.portServes = true → off < 256 → s.bnwCode late nth = some (v, count) →
    exec (.bnwRead off late nth) s = .next ((if count then s.bnwLateUp else s).driveHio v)) ∧
  -- BNW_ENERGY0_READ
  (∀ (s : State), s.portServes = true → s.bnwCode false 0 = none →
    exec (.bnwEnergy0Read false) s =
      .next (({ s with bnw := { s.bnw with snap := s.bnw.copy / 256 } }).driveHio (s.bnw.copy % 256))) ∧
  -- BNW_WRITE
  (∀ (v : Nat) (s : State), s.portServes = true → s.bnwOff = false → s.rings.pause = false → s.fwRuns = true → 12 ≤ v → v ≤ 64 →
    exec (.bnwWrite 0x20 v 0) s = .next (({ s with bnw := { s.bnw with setp := v } }).setHostcap s.bnwO (5 * v))) ∧
  -- BNW_SETPOINT_WRITE
  (∀ (v : Nat) (s : State), s.portServes = true → s.bnwOff = false → s.rings.pause = false → s.fwRuns = true → 12 ≤ v → v ≤ 64 →
    exec (.bnwSetpointWrite v) s = .next (({ s with bnw := { s.bnw with setp := v } }).setHostcap s.bnwO (5 * v))) ∧
  -- BNW_ENERGY_REFRESH
  (∀ (s : State),
    (s.fwRuns && (50 ≤ s.bnw.crossings || s.met.hold)) = true →
    exec .bnwEnergyRefresh s =
      .next ({ s with bnw := { s.bnw with copy := units (s.accOf s.bnwO.val 21) / 100000 % 2 ^ 32, crossings := 0 } }))

/-- Completion of the rows of Machine/Net.lean: the network and network time. -/
def Obligations.NetworkRowsComplete : Prop :=
  -- SYS_TIME_SNAPSHOT
  (∀ (q : Req) (s : State),
    Served { op := 0x0106, pair := 0 } q s true →
    exec (.sysTimeSnapshot q) s = .next (answered { op := 0x0106, pair := 0 } q (
      let sec := if s.netOn then s.net.sec else 0
      let ns := if s.netOn then s.net.ns else 0
      s.snapshot.ok (toLE 6 sec ++ zeros 2 ++ toLE 4 ns ++ toLE 4 s.met.cycles ++ toLE 2 s.snapZeroCross.1 ++ toLE 1 s.snapZeroCross.2
      ++ toLE 1 s.snapBits)))) ∧
  -- NET_CONFIG_SET
  (∀ (q : Req) (s : State),
    let p := q.payload
    Served { op := 0x0C01, pair := 8, lo := 32, hi := 32 } q s (netCfgOk p) →
    exec (.netConfigSet q) s = .next (answered { op := 0x0C01, pair := 8, lo := 32, hi := 32 } q (
      let fresh := (p.drop 3).take 4 != (s.cfg.net.drop 3).take 4
      let s := ({ s with cfg := { s.cfg with net := p.take 15 ++ zeros 1 ++ (p.drop 16).take 8 ++ zeros 8 } }).effect 8 q.tag 0x0C01
      (if fresh then s.ptpRestart else s).ok))) ∧
  -- NET_CONFIG_GET
  (∀ (q : Req) (s : State),
    Served { op := 0x0C02, pair := 8 } q s true →
    exec (.netConfigGet q) s =
      .next (answered { op := 0x0C02, pair := 8 } q (s.ok s.cfg.net))) ∧
  -- NET_STATUS_GET
  (∀ (q : Req) (s : State),
    Served { op := 0x0C03, pair := 8 } q s true →
    s.netOn = true →
    exec (.netStatusGet q) s = .next (answered { op := 0x0C03, pair := 8 } q (
      let n := s.net
      s.ok (toLE 1 (maskOfBools n.link + 4 * maskOfBools n.fast) ++ toLE 1 n.sync ++ toLE 1 n.epoch ++ zeros 1 ++ toLEs 4 n.offset
      ++ toLE 4 n.delay ++ toLE 8 n.parent ++ toLE 4 (if n.sync = 3 then (s.up - n.lostAt) / 1000 else 0) ++ toLEs 4 n.freqAdj
      ++ toLE 2 n.utcOff ++ toLE 1 (b2n n.utcValid + 2 * b2n n.leap) ++ zeros 1)))) ∧
  -- NET_TOUT_SET
  (∀ (q : Req) (s : State),
    let p := q.payload
    Served { op := 0x0C04, pair := 8, lo := 24, hi := 24 } q s (toutOk p) →
    s.netOn = true →
    exec (.netToutSet q) s = .next (answered { op := 0x0C04, pair := 8, lo := 24, hi := 24 } q (
      let t : Tout := { cfg := p.take 3 ++ zeros 1 ++ (p.drop 4).take 6 ++ zeros 2 ++ p.drop 12 }
      (s.modNet fun n => { n with touts := n.touts.set (u8 p 0) (t.stepped s.clockNs) }).ok))) ∧
  -- NET_TOUT_GET
  (∀ (q : Req) (s : State),
    Served { op := 0x0C05, pair := 8, lo := 1, hi := 1 } q s (u8 q.payload 0 ≤ 3) →
    s.netOn = true →
    exec (.netToutGet q) s =
      .next (answered { op := 0x0C05, pair := 8, lo := 1, hi := 1 } q (s.ok (toLE 1 (u8 q.payload 0) ++ (s.net.touts.getD (u8 q.payload 0) {}).cfg.drop 1)))) ∧
  -- NET_TCAP_SET
  (∀ (q : Req) (s : State),
    let p := q.payload
    Served { op := 0x0C06, pair := 8, lo := 3, hi := 3 } q s (u8 p 0 ≤ 1 && u8 p 1 ≤ 3 && u8 p 2 ≤ 1) →
    s.netOn = true →
    exec (.netTcapSet q) s =
      .next (answered { op := 0x0C06, pair := 8, lo := 3, hi := 3 } q ((s.modNet fun n => { n with tcaps := modAt n.tcaps (u8 p 0) fun t => { t with edge := u8 p 1, evt := u8 p 2 == 1 } }).ok))) ∧
  -- NET_TCAP_READ
  (∀ (q : Req) (s : State),
    let k := u8 q.payload 0
    Served { op := 0x0C07, pair := 8, lo := 1, hi := 1 } q s (k ≤ 1) →
    s.netOn = true →
    exec (.netTcapRead q) s = .next (answered { op := 0x0C07, pair := 8, lo := 1, hi := 1 } q (
      let t := s.net.tcaps.getD k {}
      let l := t.queue.take 3
      (s.modNet fun n => { n with tcaps := n.tcaps.set k { t with queue := t.queue.drop 3, lost := 0 } }).ok
      (toLE 1 l.length ++ toLE 1 t.lost ++ zeros 6 ++ (l.map CapEntry.bytes).flatten)))) ∧
  -- NET_TIME_SET
  (∀ (q : Req) (s : State),
    let p := q.payload
    Served { op := 0x0C08, pair := 8, lo := 12, hi := 12 } q s (decide (u32 p 8 < 1000000000)) →
    s.netOn = true →
    ¬(s.ptpRole ≠ 2 || s.net.parent ≠ 0) →
    exec (.netTimeSet q) s = .next (answered { op := 0x0C08, pair := 8, lo := 12, hi := 12 } q (
      let new := fld p 0 6 * 1000000000 + u32 p 8
      let s := s.clockStep ((new : Int) - s.clockNs) 4
      (if u8 s.cfg.bill 5 = 0 then s.offerCorrection (((new / 1000000 : Nat) : Int) - s.bill.time) 0 else s).ok))) ∧
  -- NET_STATS
  (∀ (q : Req) (s : State),
    Served { op := 0x0C09, pair := 8 } q s true →
    s.netOn = true →
    exec (.netStats q) s =
      .next (answered { op := 0x0C09, pair := 8 } q (s.ok (s.net.stats.map (toLE 4)).flatten))) ∧
  -- ETH_FRAME_RX
  (∀ (port residence : Nat) (f : EthFrame) (s : State),
    (s.netOn && decide (port < 2) && bit (u8 s.cfg.net 0) port && s.net.link.getD port false) = true →
    f.fcs ≠ fcsOf (ethBytes f) →
    exec (.ethFrameRx port f residence) s = .next ((s.modNet fun n => { n with actAt := n.actAt.set port (some s.up) }).netStat 5)) ∧
  -- ETH_FRAME_RX
  (∀ (port residence : Nat) (f : EthFrame) (s : State),
    (s.netOn && decide (port < 2) && bit (u8 s.cfg.net 0) port && s.net.link.getD port false) = true →
    f.fcs = fcsOf (ethBytes f) → f.dst = ownMac → groupMac f.src = false → f.tag = none → s.arpAnswer f = none →
    exec (.ethFrameRx port f residence) s = .next (s.modNet fun n => { n with
      actAt := n.actAt.set port (some s.up), macs := learn n.macs f.src port s.up, delivered := n.delivered + 1 })) ∧
  -- PTP_MESSAGE
  (∀ (x : PtpRx) (s : State), (s.fwRuns && s.netOn && decide (s.ptpRole ≠ 0) && x.dom == u8 s.cfg.net 6 && x.udp == (u8 s.cfg.net 5 == 1)
      && x.src != ownClock) = true → s.net.fast.getD x.port false = true →
    exec (.ptpMessage x) s = .next (s.takeStamps.ptpHandle x (x.rx + 232))) ∧
  -- PTP_MESSAGE
  (∀ (x : PtpRx) (s : State), (s.fwRuns && s.netOn && decide (s.ptpRole ≠ 0) && x.dom == u8 s.cfg.net 6 && x.udp == (u8 s.cfg.net 5 == 1)
      && x.src != ownClock) = true → s.net.fast.getD x.port false = false →
    exec (.ptpMessage x) s = .next ((s.draw).2.takeStamps.ptpHandle x (x.rx + (s.draw).1))) ∧
  -- TX_TIMESTAMP
  (∀ (port ident sec ns : Nat) (s : State), (s.netOn && decide (port < 2)) = true → 16 ≤ (s.net.txq.getD port []).length →
    exec (.txTimestamp port ident sec ns) s = .next ((s.netStat port).raise 89 port 0)) ∧
  -- TX_TIMESTAMP
  (∀ (port ident sec ns : Nat) (s : State), (s.netOn && decide (port < 2)) = true → (s.net.txq.getD port []).length < 16 →
    s.net.fast.getD port false = true →
    let t := sec * 1000000000 + ns + 64
    exec (.txTimestamp port ident sec ns) s = .next (s.modNet fun n => { n with txq := n.txq.set port (s.net.txq.getD port [] ++
      [{ ident := ident, sec := t / 1000000000, ns := t % 1000000000 }]) })) ∧
  -- LAUNCH_TIME
  (∀ (port : Nat) (x : Launch) (t : List Launch) (s : State), (s.netOn && decide (port < 2)) = true → s.net.launch.getD port [] = x :: t →
    ¬(s.net.sec < x.sec ∨ (s.net.sec = x.sec ∧ s.net.ns < x.ns)) →
    let same := t.takeWhile fun y => y.sec == x.sec && y.ns == x.ns
    let z := s.modNet fun n => { n with
      launch := n.launch.set port (t.drop same.length), sent := n.sent.set port (some ((same.getLast?.getD x).body)) }
    exec (.launchTime port) s = .next (same.foldl (fun s _ => s.netStat 2) z)) ∧
  -- TOUT_EDGE
  (∀ (k : Nat) (s : State),
    (s.netOn && decide (k < 4)) = true →
    exec (.toutEdge k) s = .next (s.modNet fun n => { n with touts := modAt n.touts k Tout.edge })) ∧
  -- TCAP_EDGE
  (∀ (k : Nat) (rising : Bool) (frac : Nat) (s : State), let t := s.net.tcaps.getD k {}
    (s.netOn && decide (k < 2) && bit t.edge (b2n (!rising))) = true → 8 ≤ t.queue.length →
    exec (.tcapEdge k rising frac) s =
      .next ((s.modNet fun n => { n with tcaps := n.tcaps.set k { t with lost := satInc 8 t.lost } }).netStat 6)) ∧
  -- TCAP_EDGE
  (∀ (k : Nat) (rising : Bool) (frac : Nat) (s : State), let t := s.net.tcaps.getD k {}
    (s.netOn && decide (k < 2) && bit t.edge (b2n (!rising))) = true → t.queue.length < 8 → t.evt = false →
    exec (.tcapEdge k rising frac) s = .next (s.modNet fun n => { n with tcaps := n.tcaps.set k { t with
      queue := t.queue ++ [{ sec := (s.clockNs + frac) / 1000000000, ns := (s.clockNs + frac) % 1000000000, edge := if rising then 1 else 2, epoch := s.net.epoch, seq := t.seq }]
      seq := wrapInc 32 t.seq } })) ∧
  -- PHY_LINK_CHANGE
  (∀ (port : Nat) (up fast : Bool) (s : State),
    (s.netOn && decide (port < 2) && (bit (u8 s.cfg.net 0) port || !up) && s.net.link.getD port false != up) = true →
    exec (.phyLinkChange port up fast) s = .next (
      let s := s.modNet fun n => { n with link := n.link.set port up, fast := n.fast.set port (up && fast) }
      s.emit 8 0x0C80 (toLE 1 port ++ toLE 1 (b2n up) ++ toLE 1 (b2n (up && fast)) ++ zeros 1 ++ toLE 8 s.bak.rtc))) ∧
  -- ADDRESS_AGEING
  (∀ (mac : Nat) (s : State),
    (s.netOn && (s.net.macs.find? fun e => e.1 == mac).any fun e => decide (e.2.2 + 300000 ≤ s.up)) = true →
    exec (.addressAgeing mac) s = .next (s.modNet fun n => { n with macs := assocDel n.macs mac })) ∧
  -- PTP_SYNC_TIMEOUT
  (∀ (s : State),
    (s.fwRuns && s.netOn && s.net.sync == 2 && decide (s.net.syncAt + 3000 ≤ s.up)) = true →
    exec .ptpSyncTimeout s = .next (s.loseLock)) ∧
  -- NET_HOLDOVER
  (∀ (s : State),
    (s.fwRuns && s.netOn && s.net.sync != 2 && !s.net.holdLong && decide (s.net.lostAt + 10000 ≤ s.up)) = true →
    exec .netHoldover s = .next ((s.modNet fun n => { n with holdLong := true }).raise 91 0xFFFF 0))

/-- Completion of the rows of Machine/Sessions.lean: outlet sessions, locks and authorisation. -/
def Obligations.SessionRowsComplete : Prop :=
  -- OUTLET_CONFIG_SET
  (∀ (q : Req) (s : State),
    let o := outletArg q.payload 0
    Served { op := 0x0201, pair := 1, lo := 16, hi := 16 } q s (outletCfgOk q.payload) →
    ¬((s.o o).ses.st != .idle && (s.o o).ses.st != .outOfService) →
    exec (.outletConfigSet q) s = .next (answered { op := 0x0201, pair := 1, lo := 16, hi := 16 } q (
      ((s.ceilingTo o fun s => { s with cfg := { s.cfg with
      outlet := s.cfg.outlet.set o.val (q.payload.take 13 ++ zeros 3) o.isLt } }).effect 1 q.tag 0x0201).ok))) ∧
  -- OUTLET_CONFIG_GET
  (∀ (q : Req) (s : State),
    let o := outletArg q.payload 0
    Served { op := 0x0202, pair := 1, lo := 1, hi := 1 } q s (outletFits q.payload 0) →
    exec (.outletConfigGet q) s =
      .next (answered { op := 0x0202, pair := 1, lo := 1, hi := 1 } q (s.ok (s.cfg.outlet.get o ++ toLE 2 (s.rated o))))) ∧
  -- OUTLET_STATUS_GET
  (∀ (q : Req) (s : State),
    Served { op := 0x0203, pair := 1, lo := 1, hi := 1 } q s (outletFits q.payload 0) →
    exec (.outletStatusGet q) s =
      .next (answered { op := 0x0203, pair := 1, lo := 1, hi := 1 } q (s.ok (s.outletStatus (outletArg q.payload 0))))) ∧
  -- OUTLET_AUTH
  (∀ (q : Req) (s : State), let o := outletArg q.payload 0
    Served { op := 0x0204, pair := 1, lo := 6, hi := 6 } q s (outletFits q.payload 0 && u8 q.payload 1 ≤ 1 && u16 q.payload 4 ≤ 1023) → u16 q.payload 2 = 0xFFFF → (s.o o).ses.st = .plugged →
    let z := s.authorise o 1
    exec (.outletAuth q) s = .next (answered { op := 0x0204, pair := 1, lo := 6, hi := 6 } q
      (if u8 q.payload 1 = 1 then z.acceptAuth o (u16 q.payload 4) 2 else z.refuseAuth o 3).ok)) ∧
  -- OUTLET_AUTH
  (∀ (q : Req) (s : State), let o := outletArg q.payload 0
    Served { op := 0x0204, pair := 1, lo := 6, hi := 6 } q s (outletFits q.payload 0 && u8 q.payload 1 ≤ 1 && u16 q.payload 4 ≤ 1023) → u16 q.payload 2 ≠ 0xFFFF → (s.o o).ses.st = .authorising → (s.o o).ses.pend.isSome = true →
    (s.o o).ses.pendSeq = u16 q.payload 2 →
    exec (.outletAuth q) s = .next (answered { op := 0x0204, pair := 1, lo := 6, hi := 6 } q
      (if u8 q.payload 1 = 1 then s.acceptAuth o (u16 q.payload 4) 5 else s.refuseAuth o 3).ok)) ∧
  -- OUTLET_STOP
  (∀ (q : Req) (s : State), let o := outletArg q.payload 0
    Served { op := 0x0205, pair := 1, lo := 2, hi := 2 } q s (outletFits q.payload 0) → ((s.o o).ses.st = .ready ∨ (s.o o).ses.st = .energising ∨ (s.o o).ses.st = .paused) →
    exec (.outletStop q) s = .next (answered { op := 0x0205, pair := 1, lo := 2, hi := 2 } q ((s.modSes o fun x => { x with hreason := u8 q.payload 1 }).toEnding o 7).ok)) ∧
  -- OUTLET_STOP
  (∀ (q : Req) (s : State), let o := outletArg q.payload 0
    Served { op := 0x0205, pair := 1, lo := 2, hi := 2 } q s (outletFits q.payload 0) → (s.o o).ses.st = .authorising →
    exec (.outletStop q) s = .next (answered { op := 0x0205, pair := 1, lo := 2, hi := 2 } q ((s.abandon o).setSess o .plugged 7).ok)) ∧
  -- OUTLET_SERVICE
  (∀ (q : Req) (s : State),
    let l := if u8 q.payload 0 = 0xFF then outlets else [outletArg q.payload 0]
    let action := u8 q.payload 1
    Served { op := 0x0206, pair := 1, lo := 2, hi := 2 } q s ((outletFits q.payload 0 || u8 q.payload 0 == 0xFF) && action ≤ 2) →
    ¬(action = 1 && l.any (fun o => s.control o == 0)) →
    ¬(l.any (s.serviceRefused action)) →
    exec (.outletService q) s =
      .next (answered { op := 0x0206, pair := 1, lo := 2, hi := 2 } q ((s.serviceAll action l).ok))) ∧
  -- OUTLET_UNLOCK
  (∀ (q : Req) (s : State),
    let o := outletArg q.payload 0
    Served { op := 0x0207, pair := 1, lo := 1, hi := 1 } q s (outletFits q.payload 0) →
    ¬(!s.hasLock o) →
    let x := (s.o o).ses
    let may := match x.st with
      | .idle | .plugged | .faulted | .outOfService => true
      | .ending => x.windowPassed
      | _ => false
    ¬(!may || s.coil o) →
    exec (.outletUnlock q) s =
      .next (answered { op := 0x0207, pair := 1, lo := 1, hi := 1 } q (((s.askLock o false).modLock o fun l => { l with unlockTags := l.unlockTags ++ [q.tag] }).wait))) ∧
  -- PILOT_STATE_ACCEPT
  (∀ (o : ONum) (s : State),
    let p := (s.o o).pilot
    (decide (3 ≤ p.run) && p.cand != 6 && (p.accepted != some p.cand || (p.treatE && p.cand == 0))) = true →
    exec (.pilotStateAccept o) s = .next (s.acceptPilot o)) ∧
  -- PP_ACCEPT
  (∀ (o : ONum) (s : State),
    let p := (s.o o).pp
    (s.cable o == 0 && decide (5 ≤ p.run) && (!p.accepted || p.acc != p.cand)) = true →
    exec (.ppAccept o) s = .next (
      let s := s.ceilingTo o fun s => s.modPp o fun p => { p with acc := p.cand, accepted := true }
      let s := s.actOn115 o
      let s := if p.cand = 255 then s.raise 35 o.val 0 else s
      if s.hasSession o && p.cand = 0 then s.fwTo o .ending 18
      else if s.fwRuns && (s.o o).ses.st == .idle then s.pilotSession o (if p.accepted then 18 else 19) else s)) ∧
  -- LOCK_FEEDBACK_CHANGE
  (∀ (o : ONum) (locked : Bool) (s : State),
    (s.hasLock o) = true →
    exec (.lockFeedbackChange o locked) s =
      .next (((s.modLock o fun l => { l with locked := locked }).actOn115 o).lockDone o)) ∧
  -- WELD_WINDOW_END
  (∀ (o : ONum) (s : State),
    ((s.o o).sw.phase == .released) = true →
    exec (.weldWindowEnd o) s = .next ((s.judgeWeld o).weldEnded o)) ∧
  -- LOCK_PULSE
  (∀ (o : ONum) (s : State),
    let l := (s.o o).lock
    (l.waiting && l.target.isSome && !s.coil o && !l.braking && s.bankPulses o < 2 && !s.pwr.shed) = true →
    exec (.lockPulse o) s =
      .next (s.modLock o fun l => { l with waiting := false, due := false, drive := if l.target == some true then .lock else .unlock })) ∧
  -- LOCK_PULSE_END
  (∀ (o : ONum) (s : State),
    ((s.o o).lock.drive != .off) = true →
    exec (.lockPulseEnd o) s =
      .next ((s.modLock o fun l => { l with drive := .off, braking := true, due := true }).lockDone o)) ∧
  -- LOCK_FEEDBACK_CHECK
  (∀ (o : ONum) (s : State),
    let l := (s.o o).lock
    (l.due && l.target.isSome && l.target != some l.locked) = true →
    exec (.lockFeedbackCheck o) s = .next (s.lockFailed o)) ∧
  -- LOCK_RETRY
  (∀ (o : ONum) (s : State),
    let l := (s.o o).lock
    (l.target.isSome && l.tries == 1 && !l.due && !l.waiting && l.drive == .off) = true →
    exec (.lockRetry o) s = .next (s.modLock o fun l => { l with waiting := true })) ∧
  -- IDENTIFICATION
  (∀ (o : ONum) (src : Nat) (id : Bytes) (s : State),
    (s.fwRuns && src < 3) = true →
    exec (.identification o src id) s = .next (s.present o src id)) ∧
  -- HELD_IDENT_EXPIRY
  (∀ (o : ONum) (s : State),
    exec (.heldIdentExpiry o) s = .next (s.modSes o fun x => { x with held := none })) ∧
  -- AUTH_TIMEOUT
  (∀ (o : ONum) (s : State),
    (s.fwRuns && (s.o o).ses.st == .authorising && (s.o o).ses.pend.isSome) = true →
    exec (.authTimeout o) s = .next (s.refuseAuth o 4)) ∧
  -- LOCK_BRAKE_END
  (∀ (o : ONum) (s : State),
    (s.o o).lock.braking = true →
    exec (.lockBrakeEnd o) s = .next (s.modLock o fun l => { l with braking := false })) ∧
  -- FAULTED_PRESENCE_CLEAR
  (∀ (o : ONum) (s : State),
    ((s.o o).ses.st == .faulted && (s.o o).sw.presence == 0 && !s.coil o && s.hasLock o && (s.o o).lock.locked && (s.o o).lock.target.isNone && decide ((s.o o).sw.presAt.getD 0 + 40 ≤ s.up)) = true →
    exec (.faultedPresenceClear o) s = .next (s.askLock o false))

/-- Completion of the rows of Machine/Sequencer.lean: the pilot and the switching sequencer. -/
def Obligations.SequencerRowsComplete : Prop :=
  -- PILOT_PERIOD
  (∀ (o : ONum) (pos neg : List Int) (s : State),
    (s.domOn 3) = true →
    exec (.pilotPeriod o pos neg) s = .next (
      let p := (s.o o).pilot
      let c := pilotClass (median pos)
      let ac := p.mode == .pwm || p.mode == .hlc
      let bad := ac && (s.pilotState o == 1 || s.pilotState o == 2 || s.pilotState o == 3)
        && !(decide (-1300 ≤ median neg) && decide (median neg ≤ -1100))
      s.modPilot o fun p => { p with
        pos := median pos, neg := median neg, edge := p.edge - clampI (-1) 1 p.edge, cand := c, run := if c = p.cand then p.run + 1 else 1,
        undRun := if c = 6 then p.undRun + 1 else 0, diodeRun := if bad then p.diodeRun + 1 else 0 })) ∧
  -- PILOT_LEVEL
  (∀ (o : ONum) (s : State),
    (decide (100 ≤ (s.o o).pilot.undRun) && !s.latchedQ 33 o.val) = true →
    exec (.pilotLevel o) s =
      .next (((s.modPilot o fun p => { p with treatE := true }).actOn115 o).raise 33 o.val (ofSigned 32 (s.o o).pilot.pos))) ∧
  -- PILOT_DIODE
  (∀ (o : ONum) (s : State),
    (decide (3 ≤ (s.o o).pilot.diodeRun) && !s.latchedQ 32 o.val) = true →
    exec (.pilotDiode o) s =
      .next (((s.modPilot o fun p => { p with treatE := true }).actOn115 o).raise 32 o.val (ofSigned 32 (s.o o).pilot.neg))) ∧
  -- PP_SAMPLE
  (∀ (o : ONum) (ohm : Nat) (s : State),
    (s.domOn 3 && s.cable o == 0) = true →
    exec (.ppSample o ohm) s =
      .next (s.modPp o fun p => { p with cand := cableClass ohm, run := if cableClass ohm = p.cand && p.run ≠ 0 then p.run + 1 else 1 })) ∧
  -- MIRROR_CONTACT_CHANGE
  (∀ (o : ONum) (closed : Bool) (s : State), (closed && (s.o o).sw.mirrorOpen && (s.o o).sw.phase == .closing) = false →
    exec (.mirrorContactChange o.val closed) s =
      .next ((s.modSw o fun w => { w with mirrorOpen := !closed, mirrorAt := s.up }).actOn115 o)) ∧
  -- MIRROR_CONTACT_CHANGE
  (∀ (o : ONum) (s : State), (s.o o).sw.mirrorOpen = true → (s.o o).sw.phase = .closing →
    exec (.mirrorContactChange o.val true) s =
      .next (((s.modSw o fun w => { w with mirrorOpen := false, mirrorAt := s.up }).startOpening o 12).actOn115 o)) ∧
  -- MIRROR_CONTACT_CHANGE
  (∀ (j : Nat) (closed : Bool) (s : State),
    exec (.mirrorContactChange (24 + j) closed) s = .next (s.modSite j fun x => { x with mirrorOpen := !closed })) ∧
  -- CLOSING_START
  (∀ (o : ONum) (s : State),
    (s.fwRuns && s.mayClose o) = true →
    exec (.closingStart o) s = .next (s.close o)) ∧
  -- CLOSING_CONFIRMED
  (∀ (o : ONum) (s : State),
    ((s.o o).sw.phase == .closing && (s.o o).sw.mirrorOpen && s.presentAll o) = true →
    exec (.closingConfirmed o) s = .next ((s.outSwitch o 1).sswUp o)) ∧
  -- CLOSING_TIMEOUT
  (∀ (o : ONum) (s : State),
    ((s.o o).sw.phase == .closing && !((s.o o).sw.mirrorOpen && s.presentAll o)) = true →
    exec (.closingTimeout o) s = .next (
      let src := if (s.o o).sw.mirrorOpen then 37 else 36
      let s := ((s.startOpening o 12).modSw o fun w => { w with faultEnd := true })
      s.raise src o.val (s.o o).sw.presence)) ∧
  -- SSW_READY_CHECK
  (∀ (o : ONum) (ready : Bool) (s : State),
    ((s.o o).sw.phase == .enabling) = true →
    exec (.sswReadyCheck o ready) s = .next (
      let w := (s.o o).sw
      if ready then
        let s := (s.modSw o fun w => { w with sswfb := true, readySeen := true, phase := .on }).outSwitch o 2
        (if w.retried then s.transient 47 o.val 0 else s).actOn115 o
      else if !w.retried then
        s.modSw o fun w => { w with sswen := false, sswFall := some s.up, phase := .retryWait }
      else (((s.tripAdd o 9 0).startOpening o 12).raiseRetried 47 o.val 0).rowOf 47 o)) ∧
  -- SSW_ENABLE_RETRY
  (∀ (o : ONum) (s : State),
    ((s.o o).sw.phase == .retryWait && !(s.o o).prot.stRun) = true →
    exec (.sswEnableRetry o) s = .next (((s.sswUp o).modSw o fun w => { w with retried := true }).outSwitch o 7)) ∧
  -- OPENING_START
  (∀ (o : ONum) (cause : Nat) (s : State),
    (s.energised o && ((s.o o).ses.st != .energising || (s.trigger115 o).isSome || s.refusesClose o)) = true →
    exec (.openingStart o cause) s = .next (s.startOpening o cause)) ∧
  -- CONTACTOR_RELEASE
  (∀ (o : ONum) (s : State),
    ((s.o o).sw.phase == .opening) = true →
    exec (.contactorRelease o) s = .next (s.releaseContactor o)) ∧
  -- PRESENCE_DETECT
  (∀ (o : ONum) (phases : Nat) (s : State),
    exec (.presenceDetect o phases) s = .next (s.presenceSeen o phases)) ∧
  -- DEFERRED_OPENING
  (∀ (o : ONum) (s : State),
    ((s.o o).sw.deferred && s.energised o && (s.zeroCurrent o || decide ((s.o o).sw.deferAt + 6000 ≤ s.up))) = true →
    exec (.deferredOpening o) s = .next (s.startOpening o 6))

/-- Completion of the rows of Machine/Hlc.lean: SLAC, power-line frames and ISO 15118 sessions. -/
def Obligations.CommunicationRowsComplete : Prop :=
  -- HLC_CONFIG_SET
  (∀ (q : Req) (s : State),
    let p := q.payload
    let o := outletArg p 0
    Served { op := 0x0301, pair := 1, lo := 8, hi := 8 } q s (hlcCfgOk p) →
    let st := (s.o o).ses.st
    ¬(st != .idle && st != .outOfService) →
    exec (.hlcConfigSet q) s =
      .next (answered { op := 0x0301, pair := 1, lo := 8, hi := 8 } q ((({ s with cfg := { s.cfg with hlc := s.cfg.hlc.set o.val (p.take 7 ++ zeros 1) o.isLt } }).effect 1 q.tag 0x0301).ok))) ∧
  -- HLC_CONFIG_GET
  (∀ (q : Req) (s : State),
    Served { op := 0x0302, pair := 1, lo := 1, hi := 1 } q s (outletFits q.payload 0) →
    exec (.hlcConfigGet q) s =
      .next (answered { op := 0x0302, pair := 1, lo := 1, hi := 1 } q (s.ok (s.cfg.hlc.get (outletArg q.payload 0))))) ∧
  -- HLC_SLAC_SET
  (∀ (q : Req) (s : State),
    let p := q.payload
    Served { op := 0x0303, pair := 1, lo := 2, hi := 2 } q s (3 ≤ u8 p 0 && u8 p 0 ≤ 30 && 20 ≤ u8 p 1 && u8 p 1 ≤ 70) →
    exec (.hlcSlacSet q) s =
      .next (answered { op := 0x0303, pair := 1, lo := 2, hi := 2 } q (({ s with plc := { s.plc with xt := u8 p 0, amax := u8 p 1 } }).ok))) ∧
  -- HLC_STATUS_GET
  (∀ (q : Req) (s : State),
    let o := outletArg q.payload 0
    Served { op := 0x0304, pair := 1, lo := 1, hi := 1 } q s (outletFits q.payload 0) →
    exec (.hlcStatusGet q) s = .next (answered { op := 0x0304, pair := 1, lo := 1, hi := 1 } q (
      let h := (s.o o).hlc
      s.ok (toLE 1 o.val ++ toLE 1 (s.hlcLink o) ++ toLE 1 h.proto ++ toLE 1 h.sec ++ (toLE 6 h.evMac).reverse ++ toLE 1 h.atten
      ++ toLE 1 h.margin ++ toLEs 2 (s.hlcTarget o) ++ zeros 2)))) ∧
  -- HLC_EXPORT_SET
  (∀ (q : Req) (s : State), let o := outletArg q.payload 0
    Served { op := 0x0305, pair := 1, lo := 2, hi := 2 } q s (outletFits q.payload 0 && u8 q.payload 1 ≤ 1) →
    ((s.o o).ses.st = .idle ∨ (s.o o).ses.st = .plugged ∨ (s.o o).ses.st = .authorising) →
    exec (.hlcExportSet q) s = .next (answered { op := 0x0305, pair := 1, lo := 2, hi := 2 } q (s.modHlc o fun h => { h with expSet := some (u8 q.payload 1 == 1) }).ok)) ∧
  -- HLC_CERT_FETCH
  (∀ (q : Req) (s : State),
    let o := outletArg q.payload 0
    let r := q.bulk.getD (0, 0)
    Served { op := 0x0306, pair := 1, lo := 1, hi := 1, bulk := 1 } q s (outletFits q.payload 0) →
    ¬(!s.feOn o) →
    ∀ c, ((s.o o).hlc.cert) = some c →
    exec (.hlcCertFetch q) s =
      .next (answered { op := 0x0306, pair := 1, lo := 1, hi := 1, bulk := 1 } q { st := s.bulkPut 1 r c.2, bulk := some (r.1, min r.2 c.2.length) })) ∧
  -- HLC_CERT_REPLY
  (∀ (q : Req) (s : State),
    let o := outletArg q.payload 0
    let k := u8 q.payload 1
    Served { op := 0x0307, pair := 1, lo := 2, hi := 2, bulk := 2 } q s (outletFits q.payload 0 && k ≤ 1 && q.bulk.isSome == (k == 0)) →
    ¬(!s.feOn o) →
    ¬((s.o o).hlc.cert.isNone) →
    exec (.hlcCertReply q) s = .next (answered { op := 0x0307, pair := 1, lo := 2, hi := 2, bulk := 2 } q (
      ((s.modHlc o fun h => { h with cert := none }).hlcAnswer o
      (if k = 0 then .relayed (s.bulkGet 1 (q.bulk.getD (0, 0))) else .failed)).ok))) ∧
  -- HLC_STATS_GET
  (∀ (q : Req) (s : State),
    Served { op := 0x0308, pair := 1, lo := 1, hi := 1 } q s (outletFits q.payload 0 || u8 q.payload 0 == 0xFF) →
    exec (.hlcStatsGet q) s = .next (answered { op := 0x0308, pair := 1, lo := 1, hi := 1 } q (
      let l := if u8 q.payload 0 = 0xFF then outlets else [outletArg q.payload 0]
      let sum (f : Hlc → Nat) : Nat := (l.map fun o => f (s.o o).hlc).foldl (· + ·) 0
      s.ok (toLE 4 (sum (·.rxdrop)) ++ toLE 4 (sum (·.txdrop)) ++ toLE 4 (sum (·.framesRx)) ++ toLE 4 (sum (·.framesTx))
      ++ toLE 2 (sum (·.slacOk)) ++ toLE 2 (sum (·.slacRej)))))) ∧
  -- PLC_FRAME_RX
  (∀ (l : List Preamble) (ended : List Nat) (s : State), (s.fwRuns && s.domOn 4) = true →
    let z : State := { s with plc := { s.plc with rxOn := s.plc.rxOn.filter fun n => !ended.contains n } }
    exec (.plcFrameRx l ended) s = .next ((coincident l.length (l.filter fun p => z.feOnN p.outlet)).foldl State.groupRx z)) ∧
  -- PLC_TX_GRANT
  (∀ (o : ONum) (f : PlcFrame) (s : State), (s.fwRuns && s.domOn 4) = true → s.plc.txWait = [f] → f.outlet = o.val → s.plc.txOn = [] →
    1 ≤ s.plc.txLanes →
    exec (.plcTxGrant [] [o.val]) s = .next (({ s with plc := { s.plc with txWait := [], txOn := [f] } }).modHlc o fun h => { h with
      framesTx := wrapInc 32 h.framesTx })) ∧
  -- PLC_TX_GRANT
  (∀ (ended clear : List Nat) (s : State), (s.fwRuns && s.domOn 4) = true →
    let z : State := { s with plc := { s.plc with txOn := s.plc.txOn.filter fun f => !ended.contains f.outlet } }
    z.plc.txLanes ≤ z.plc.txOn.length → exec (.plcTxGrant ended clear) s = .next z) ∧
  -- PLC_TX_DISCARD
  (∀ (o : ONum) (f : PlcFrame) (s : State), (s.plc.txWait.find? fun f => f.outlet == o.val && decide (f.at_ + 10 ≤ s.up)) = some f →
    exec (.plcTxDiscard o) s = .next (({ s with plc := { s.plc with txWait := s.plc.txWait.erase f } }).modHlc o fun h =>
      { h with txdrop := wrapInc 32 h.txdrop })) ∧
  -- BEACON_TX
  (∀ (o : ONum) (s : State),
    (s.fwRuns && s.feOn o) = true →
    exec (.beaconTx o) s = .next (s.plcSend o 4 (.beacon (snid o)))) ∧
  -- CM_SLAC_PARM_REQ
  (∀ (o : ONum) (runid mac : Nat) (s : State), (s.fwRuns && s.slacReady o) = true → (s.o o).hlc.run = none →
    exec (.cmSlacParmReq o runid mac) s = .next ((s.modHlc o fun h => { h with
      run := some { runid := runid, mac := mac, xt := s.plc.xt, amax := s.plc.amax }
      validOk := false, toggles := 0, toggleWin := false }).plcAnswer o (.parmCnf runid))) ∧
  -- CM_SLAC_PARM_REQ
  (∀ (o : ONum) (runid mac : Nat) (r : SlacRun) (s : State), (s.fwRuns && s.slacReady o) = true → (s.o o).hlc.run = some r → r.decided = none →
    exec (.cmSlacParmReq o runid mac) s = .next (if r.runid = runid then s.plcAnswer o (.parmCnf runid) else s)) ∧
  -- CM_MNBC_SOUND_IND
  (∀ (o : ONum) (l : List Sound) (sounds : Nat) (r : SlacRun) (s : State), (s.fwRuns && s.feOn o) = true →
    (s.o o).hlc.run = some r → r.decided = none →
    exec (.cmMnbcSoundInd o r.runid l sounds) s =
      .next (s.modHlc o fun h => { h with run := some (r.sound (l.filter fun x => s.feOnN x.outlet) sounds) })) ∧
  -- SLAC_DECISION
  (∀ (o : ONum) (r : SlacRun) (s : State), (s.fwRuns && s.feOn o) = true → (s.o o).hlc.run = some r → r.decided = none →
    let k := r.result o.val (s.hc o 4 == 0 || (s.o o).hlc.validOk)
    let d := r.dominant o.val
    let n := (r.at_ o.val).detected
    let t := (s.modHlc o fun h => { h with
      run := some { r with decided := some (k == 0) }, slacRej := if k = 0 then h.slacRej else wrapInc 16 h.slacRej }).evtSlac
        o r k d (r.aagDb o.val) (if d = 0xFF then 0 else r.aagDb d) n
    exec (.slacDecision o) s = .next (if k = 0 then t.plcAnswer o (.attenChar r.runid n (r.groups o.val)) else t)) ∧
  -- CM_VALIDATE_REQ
  (∀ (o : ONum) (window : Bool) (n : Nat) (s : State),
    (s.fwRuns && s.feOn o && (s.o o).hlc.run.isSome) = true →
    exec (.cmValidateReq o window n) s = .next (
      if s.hc o 4 = 0 then s.plcAnswer o .notRequired
      else if window then (s.modHlc o fun h => { h with toggleWin := true, toggles := 0 }).plcAnswer o (.toggles none)
      else
        let h := (s.o o).hlc
        let ok := h.toggleWin && h.toggles == n && decide (0 < n)
        (s.modHlc o fun h => { h with toggleWin := false, validOk := ok }).plcAnswer o (.toggles (some ok)))) ∧
  -- CM_SLAC_MATCH_REQ
  (∀ (o : ONum) (r : SlacRun) (s : State), (s.fwRuns && s.slacReady o && s.key.trngOk) = true → (s.o o).hlc.run = some r →
    r.decided = some true →
    let nmk := (s.draw).1 % 2 ^ 128
    exec (.cmSlacMatchReq o r.runid r.mac) s = .next (((s.draw).2.modHlc o fun h => { h with
      run := none, assoc := true, initOpen := false, setupOpen := true, pausedV := false, proto := 0, tls := false, pnc := false
      conn := none, evMac := r.mac, atten := r.aagDb o.val, margin := r.margin o.val, nmk := nmk, nid := Config.nid nmk
      slacOk := wrapInc 16 h.slacOk }).plcAnswer o (.matchCnf r.runid (Config.nid nmk) nmk))) ∧
  -- SLAC_INIT_EXPIRY
  (∀ (o : ONum) (s : State),
    (s.fwRuns && (s.o o).hlc.initOpen && s.hlcOn o) = true →
    exec (.slacInitExpiry o) s = .next (s.setFallback o 1)) ∧
  -- SESSION_SETUP_TIMEOUT
  (∀ (o : ONum) (s : State),
    (s.fwRuns && (s.o o).hlc.setupOpen) = true →
    exec (.sessionSetupTimeout o) s = .next (s.setFallback o 2)) ∧
  -- V2G_SESSION_LOST
  (∀ (o : ONum) (s : State),
    (s.fwRuns && (s.o o).hlc.v2g) = true →
    exec (.v2gSessionLost o) s =
      .next (if (s.o o).ses.st == .ending then s.modHlc o Hlc.down else s.setFallback o 3)) ∧
  -- SDP_REQUEST
  (∀ (o : ONum) (tls : Bool) (s : State),
    (s.fwRuns && s.feOn o && (s.o o).hlc.assoc) = true →
    exec (.sdpRequest o tls) s = .next (
      let p := s.hc o 1
      let has (t : Bool) : Bool := if t then bit p 1 || bit p 2 else bit p 0
      if !has tls && !has (!tls) then s
      else
        let t := if has tls then tls else !tls
        ((s.modHlc o fun h => { h with tls := t }).evtHlc o 0 0).hlcAnswer o (.sdp (linkLocal (outletMac o)) v2gPort t))) ∧
  -- SUPPORTED_APP_PROTOCOL
  (∀ (o : ONum) (hello : Option Hello) (offers20 offers2 : Bool) (s : State),
    (s.fwRuns && s.feOn o && (s.o o).hlc.assoc) = true →
    exec (.supportedAppProtocol o hello offers20 offers2) s = .next (
      let p := s.hc o 1
      match hello with
      | none => if offers2 && bit p 0 then s.chooseProto o 1 none else s.hlcAnswer o (.protocol 0)
      | some h =>
        match (if bit p 2 then s.conn13 h else none), (if bit p 1 then s.conn12 h else none) with
        | none, none => s
        | c, d =>
          if offers20 && c.isSome then s.chooseProto o 2 c
          else if offers2 && d.isSome then s.chooseProto o 1 d
          else s.hlcAnswer o (.protocol 0))) ∧
  -- V2G_REQUEST
  (∀ (o : ONum) (m : V2gMsg) (s : State), (s.fwRuns && s.feOn o && (s.o o).hlc.assoc) = true → ((s.o o).hlc.v2g || m == .setup) = true →
    exec (.v2gRequest o m) s = .next (s.v2gServe o m)) ∧
  -- V2G_REQUEST
  (∀ (o : ONum) (m : V2gMsg) (s : State), (s.fwRuns && s.feOn o && (s.o o).hlc.assoc) = true → ((s.o o).hlc.v2g || m == .setup) = false →
    exec (.v2gRequest o m) s = .next (s.hlcAnswer o .failed)) ∧
  -- SERVICE_SELECTION_REQ
  (∀ (o : ONum) (service : Nat) (dynamic : Bool) (s : State),
    (s.fwRuns && s.feOn o && (s.o o).hlc.v2g) = true →
    exec (.serviceSelectionReq o service dynamic) s = .next (
      if (s.o o).hlc.proto ≠ 2 then s.hlcAnswer o .failed
      else if service = 0 then (s.modHlc o fun h => { h with dynamic := dynamic }).hlcAnswer o .ok
      else if service = 1 && s.bptOffered o then
        (((s.markBidir o).modHlc o fun h => { h with bidir := true, dynamic := dynamic }).evtHlc o 3 0).hlcAnswer o .ok
      else s.hlcAnswer o .failed)) ∧
  -- V2G_STOP_REQUEST
  (∀ (o : ONum) (kind : Nat) (s : State),
    (s.fwRuns && s.feOn o && (s.o o).hlc.v2g) = true →
    exec (.v2gStopRequest o kind) s = .next (
      match kind with
      | 0 => s.hlcAnswer o .ok
      | 1 => ((s.modHlc o fun h => { h with v2g := false, pausedV := true }).evtHlc o 4 0).hlcAnswer o .ok
      | 2 =>
        let s := (s.evtHlc o 6 0).hlcAnswer o .ok
        if s.hasSession o then s.toEnding o 9 else s.modHlc o fun h => { h with v2g := false }
      | _ => s)) ∧
  -- CERT_REQ
  (∀ (o : ONum) (kind : Nat) (exi : Bytes) (s : State),
    (s.fwRuns && s.feOn o && (s.o o).hlc.v2g) = true →
    exec (.certReq o kind exi) s = .next (
      (s.modHlc o fun h => { h with cert := some (kind, exi), certLate := false }).emit 1 0x0382
      (toLE 1 o.val ++ toLE 1 kind ++ toLE 2 exi.length))) ∧
  -- CERT_REPLY_TIMEOUT
  (∀ (o : ONum) (s : State),
    (s.fwRuns && (s.o o).hlc.cert.isSome) = true →
    exec (.certReplyTimeout o) s =
      .next ((s.modHlc o fun h => { h with cert := none, certLate := true }).hlcAnswer o .failed))

/-- Completion of the rows of Machine/Protection.lean: the protection of the outlets. -/
def Obligations.ProtectionRowsComplete : Prop :=
  -- PROT_CONFIG_SET
  (∀ (q : Req) (s : State),
    let p := q.payload
    let l := if u8 p 0 = 0xFF then outlets else [outletArg p 0]
    Served { op := 0x0401, pair := 2, lo := 8, hi := 8 } q s ((outletFits p 0 || u8 p 0 == 0xFF) && 6 ≤ u8 p 1 && u8 p 1 ≤ 30 && (u16 p 2 == 0 || (50 ≤ u16 p 2 && u16 p 2 ≤ 250)) && 100 ≤ u16 p 4 && u16 p 4 ≤ 1000 && u16 p 4 % 10 == 0) →
    ¬(!(l.all fun o => ocThrAllowed (u16 p 2) (s.rated o))) →
    ¬(s.store.safeMode = 0) →
    ¬(l.any s.coil) →
    exec (.protConfigSet q) s =
      .next (answered { op := 0x0401, pair := 2, lo := 8, hi := 8 } q (((s.putImage (sealImage (patchImage (u8 p 1) (u16 p 2) (u16 p 4) l s.isl.img)) s.store.safeRole).effect 2 q.tag 0x0401).ok))) ∧
  -- PROT_CONFIG_GET
  (∀ (q : Req) (s : State),
    let o := outletArg q.payload 0
    Served { op := 0x0402, pair := 2, lo := 1, hi := 1 } q s (outletFits q.payload 0) →
    exec (.protConfigGet q) s =
      .next (answered { op := 0x0402, pair := 2, lo := 1, hi := 1 } q (s.ok (toLE 1 o.val ++ toLE 1 (s.rcAc o) ++ toLE 2 (s.ocThr o) ++ toLE 2 (s.rcApex o) ++ zeros 2 ++ toLE 2 (s.rated o))))) ∧
  -- PROT_STATUS_GET
  (∀ (q : Req) (s : State),
    let o := outletArg q.payload 0
    Served { op := 0x0403, pair := 2, lo := 1, hi := 1 } q s (outletFits q.payload 0) →
    exec (.protStatusGet q) s = .next (answered { op := 0x0403, pair := 2, lo := 1, hi := 1 } q (
      let p := (s.o o).prot
      s.ok (toLE 1 o.val ++ toLE 1 p.latch
      ++ toLE 1 (b2n p.frontGood + 2 * b2n p.stPass + 4 * b2n p.warnActive + 8 * b2n (s.o o).sw.sswfb + 16 * b2n p.stRun) ++ zeros 1
      ++ toLEs 2 p.dcSlow ++ toLEs 2 p.dcFast ++ toLE 2 p.ac ++ toLE 2 (s.peak o) ++ toLE 4 p.trips ++ toLE 8 p.last)))) ∧
  -- PROT_SELFTEST
  (∀ (q : Req) (s : State),
    let o := outletArg q.payload 0
    Served { op := 0x0404, pair := 2, lo := 1, hi := 1 } q s (outletFits q.payload 0) →
    ¬(s.coil o || (s.o o).sw.sswen) →
    ¬((s.o o).prot.stRun || (s.maint.any fun a => a.running && a.claimsPort o.val)) →
    exec (.protSelftest q) s =
      .next (answered { op := 0x0404, pair := 2, lo := 1, hi := 1 } q (((s.startTest o 2).modProt o fun p => { p with stTag := some q.tag }).queued))) ∧
  -- APEX_TRIP
  (∀ (o : ONum) (cur : List Int) (wide : Int) (s : State),
    let z := s.modProt o fun p => { p with wide := wide }
    let inputs := (z.o o).prot.comparators cur
    clearBits inputs (z.o o).prot.active = 0 → exec (.apexTrip o cur wide) s = .next (z.modProt o fun p => { p with active := inputs })) ∧
  -- APEX_TRIP
  (∀ (o : ONum) (cur : List Int) (wide : Int) (s : State),
    let z := s.modProt o fun p => { p with wide := wide }
    let p := (z.o o).prot
    let rise := clearBits (p.comparators cur) p.active
    rise ≠ 0 → exec (.apexTrip o cur wide) s =
      .next ((z.modProt o fun x => { x with active := p.comparators cur }).setLatch o rise (cur.take 4 ++ [p.wide + p.est]))) ∧
  -- APEX_LATCH_SEEN
  (∀ (o : ONum) (s : State),
    ((s.o o).prot.latch != 0 && !(s.o o).prot.seen) = true →
    exec (.apexLatchSeen o) s = .next (
      let pulse := if s.pulseRuns o || s.portTest o then 16 else 0
      let s := s.modProt o fun p => { p with seen := true, latch := clearBits p.latch pulse }
      s.apexTrips o (s.o o).prot.latchVals (bitsOf 6 (s.o o).prot.latch))) ∧
  -- DC_ESTIMATE
  (∀ (o : ONum) (est : Int) (sat : Bool) (s : State),
    exec (.dcEstimate o est sat) s = .next (
      let s := s.modProt o fun p => { p with
        est := clampI (-1000) 1000 est, satRun := if sat then 0 else p.satRun + 1, frontGood := sat || decide (p.satRun + 1 < 8) }
      let p := (s.o o).prot
      s.applyInputs o (clearBits p.active 16 + 16 * b2n p.residualTrips) [0, 0, 0, 0, p.wide + p.est])) ∧
  -- RC_FRONTEND
  (∀ (o : ONum) (s : State),
    (decide (8 ≤ (s.o o).prot.satRun) && !s.latchedQ 48 o.val) = true →
    exec (.rcFrontend o) s = .next (s.trip o 48 10 0)) ∧
  -- DC_SLOW_UPDATE
  (∀ (o : ONum) (mean : Int) (s : State),
    exec (.dcSlowUpdate o mean) s = .next (
      let p := (s.o o).prot
      let a := mean.natAbs
      let s := s.modProt o fun p => { p with
        dcSlow := mean, slowArmed := decide (a < 45) || s.rcdTest o
        warnSince := if 25 ≤ a then some (p.warnSince.getD s.up) else none
        warnArmed := p.warnArmed || decide (a < 20), warnActive := p.warnActive && decide (20 ≤ a) }
      if 45 ≤ a && p.slowArmed && !s.rcdTest o then s.trip o 46 7 mean else s)) ∧
  -- DC_FAST_UPDATE
  (∀ (o : ONum) (mean : Int) (s : State), mean.natAbs < 450 →
    exec (.dcFastUpdate o mean) s = .next (s.modProt o fun p => { p with dcFast := mean, fastArmed := true })) ∧
  -- DC_FAST_UPDATE
  (∀ (o : ONum) (mean : Int) (s : State), 450 ≤ mean.natAbs → (s.o o).prot.fastArmed = true → s.rcdTest o = false →
    exec (.dcFastUpdate o mean) s = .next ((s.modProt o fun p => { p with dcFast := mean, fastArmed := false }).trip o 46 8 mean)) ∧
  -- RC_WARN
  (∀ (o : ONum) (s : State),
    let p := (s.o o).prot
    let held := match p.warnSince with
      | some t => decide (t + 1000 ≤ s.up)
      | none => false
    (held && p.warnArmed && p.slowArmed) = true →
    exec (.rcWarn o) s = .next (
      (s.modProt o fun p => { p with warnArmed := false, warnActive := true }).emit 2 0x0482
      (toLE 1 o.val ++ zeros 1 ++ toLEs 2 p.dcSlow ++ toLE 8 s.bak.rtc))) ∧
  -- AC_RESIDUAL_UPDATE
  (∀ (o : ONum) (rms : Nat) (s : State), rms < 8 * s.rcAc o → s.acInjected o = false →
    exec (.acResidualUpdate o rms) s = .next (s.modProt o fun p => { p with ac := rms, acArmed := true })) ∧
  -- AC_RESIDUAL_UPDATE
  (∀ (o : ONum) (rms : Nat) (s : State), 8 * s.rcAc o ≤ rms → (s.o o).prot.acArmed = true → s.acInjected o = false →
    exec (.acResidualUpdate o rms) s = .next ((s.modProt o fun p => { p with ac := rms, acArmed := false }).trip o 45 6 rms)) ∧
  -- SSW_DESAT
  (∀ (o : ONum) (s : State),
    ((s.o o).sw.sswen && (s.o o).sw.readySeen) = true →
    exec (.sswDesat o) s = .next (s.setLatch o 32 [])) ∧
  -- OVERLOAD
  (∀ (o : ONum) (cur : Nat) (s : State),
    (s.energised o && ((s.o o).pilot.mode == .pwm || (s.o o).pilot.mode == .hlc) && decide (11 * s.iol o + 1000 < 100 * cur) && decide ((s.o o).prot.iolCut + 10000 ≤ s.up)) = true →
    exec (.overload o cur) s = .next (s.trip o 49 11 cur)) ∧
  -- SELFTEST_START
  (∀ (o : ONum) (trigger : Nat) (s : State),
    let due := match (s.o o).sw.sswFall with
      | some t => decide (t + 120 ≤ s.up)
      | none => false
    (!(s.o o).prot.stRun && !(s.o o).sw.sswen && !s.coil o && ((trigger == 0 && due) || (trigger == 1 && !s.host.ready))) = true →
    exec (.selftestStart o trigger) s = .next (s.startTest o trigger)) ∧
  -- SELFTEST_DONE
  (∀ (o : ONum) (m : RcdMeas) (s : State), (s.o o).prot.stRun = true → selftestResult m ≠ 0 → (s.o o).prot.stRetry = false →
    exec (.selftestDone o m) s = .next (s.modProt o fun p => { p with stRetry := true, stFrom := s.up })) ∧
  -- SELFTEST_DONE
  (∀ (o : ONum) (m : RcdMeas) (s : State), (s.o o).prot.stRun = true → selftestResult m = 0 → (s.o o).prot.stRetry = false →
    (s.o o).prot.stTag = none →
    exec (.selftestDone o m) s = .next ((s.modProt o fun p => { p with
      stRun := false, stRetry := false, stTag := none, stPass := true, stSince := true, offDc := m.offDc, offAc := m.offAc }).emit 2 0x0481
        (toLE 1 o.val ++ toLE 1 0 ++ toLE 1 (s.o o).prot.stTrig ++ zeros 1 ++ toLEs 2 m.dc ++ toLE 2 m.ac ++ toLE 8 s.bak.rtc))) ∧
  -- THRESHOLD_RELOAD
  (∀ (s : State),
    exec .thresholdReload s = .next (s.reloadDacs))

/-- Completion of the rows of Machine/Island.lean: the safety island and the safety configuration. -/
def Obligations.SafetyIslandRowsComplete : Prop :=
  -- SAFE_STATUS_GET
  (∀ (q : Req) (s : State),
    Served { op := 0x0501, pair := 2 } q s true →
    exec (.safeStatusGet q) s = .next (answered { op := 0x0501, pair := 2 } q (
      s.ok (toLE 1 s.store.safeMode ++ toLE 1 s.confirmReason ++ toLE 1 (maskBy 8 fun n => (s.sin n).demand)
      ++ toLE 1 (maskBy 8 fun n => s.latchedQ 114 n)
      ++ toLE 2 (maskBy 16 fun i => if i % 2 = 0 then (s.sin (i / 2)).a.raw else (s.sin (i / 2)).b.raw)
      ++ toLE 1 (b2n (s.pair 24).on + 2 * b2n (s.pair 25).on + 4 * b2n (s.site 0).mirrorOpen + 8 * b2n (s.site 1).mirrorOpen
        + 16 * b2n s.isl.safeState)
      ++ toLE 1 (b2n (s.bak.pwLock.getD 0 false) + 2 * b2n (s.bak.pwLock.getD 1 false) + 4 * b2n s.isl.kpLock)
      ++ toLE 4 s.check ++ toLE 4 s.bak.confirmed ++ toLE 4 (s.store.safeSeq - 1))))) ∧
  -- SAFE_CONFIG_READ
  (∀ (q : Req) (s : State),
    let r := q.bulk.getD (0, 0)
    Served { op := 0x0502, pair := 2, bulk := 1 } q s true →
    exec (.safeConfigRead q) s = .next (answered { op := 0x0502, pair := 2, bulk := 1 } q (
      s.sized r 512
      { st := s.bulkPut 2 r s.isl.img, bulk := some r }))) ∧
  -- SAFE_CONFIG_WRITE
  (∀ (q : Req) (z : State),
    let r := q.bulk.getD (0, 0)
    let img := (z.bulkGet 2 r).take 512
    Served { op := 0x0503, pair := 2, lo := 20, hi := 20, bulk := 1 } q z (z.store.safeMode != 0 || credsFit q.payload 0) →
    ¬(r.2 < 512 || !imageOk img) →
    let a := if z.store.safeMode = 0 then z.tryCreds q.payload 0 else (true, z)
    let s := a.2
    ¬(!a.1) →
    ¬(s.imageConflict img) →
    exec (.safeConfigWrite q) z = .next (answered { op := 0x0503, pair := 2, lo := 20, hi := 20, bulk := 1 } q (
      let s := (s.putImage img (if s.store.safeMode = 0 then u8 q.payload 0 else s.store.safeRole)).effect 2 q.tag 0x0503
      s.ok (toLE 4 s.check ++ toLE 1 (b2n s.confirmPending))))) ∧
  -- SAFE_CONFIRM
  (∀ (q : Req) (z : State),
    Served { op := 0x0504, pair := 2, lo := 24, hi := 24 } q z (credsFit q.payload 4) →
    let a := z.tryCreds q.payload 4
    let s := a.2
    ¬(!a.1) →
    ¬(!s.confirmPending) →
    ¬(u32 q.payload 0 ≠ s.check) →
    exec (.safeConfirm q) z =
      .next (answered { op := 0x0504, pair := 2, lo := 24, hi := 24 } q (((s.confirm (u8 q.payload 4)).effect 2 q.tag 0x0504).ok))) ∧
  -- SAFE_MODE_SET
  (∀ (q : Req) (z : State),
    let m := u8 q.payload 0
    let role := u8 q.payload 4
    Served { op := 0x0505, pair := 2, lo := 24, hi := 24 } q z ((m == 1 || m == 2) && credsFit q.payload 4) →
    let a := z.tryCreds q.payload 4
    let s := a.2
    ¬(!a.1 || (m = 1 && role ≠ 2)) →
    ¬(s.anyEnergised) →
    exec (.safeModeSet q) z = .next (answered { op := 0x0505, pair := 2, lo := 24, hi := 24 } q (
      let s := { s with store := { s.store with safeMode := m, safeRole := role } }
      (((s.changeLog 2 role s.check s.check).enterSafe).effect 2 q.tag 0x0505).ok))) ∧
  -- SAFE_PASSWORD_SET
  (∀ (q : Req) (z : State),
    let role := u8 q.payload 0
    let oldLen := u8 q.payload 1
    let newLen := u8 q.payload 2
    Served { op := 0x0506, pair := 2, lo := 36, hi := 36 } q z (1 ≤ role && role ≤ 2 && 8 ≤ newLen && newLen ≤ 16 && oldLen ≤ 16) →
    let never := !z.store.pwSet.getD (role - 1) false
    let a := if never then (z.store.safeMode == 1, z) else z.tryPassword role ((q.payload.drop 4).take oldLen)
    let s := a.2
    ¬(!a.1) →
    exec (.safePasswordSet q) z = .next (answered { op := 0x0506, pair := 2, lo := 36, hi := 36 } q (
      let d := s.draw
      let s := d.2
      let s := { s with store := { s.store with
        pwSet := s.store.pwSet.set (role - 1) true
        pwSalt := s.store.pwSalt.set (role - 1) d.1
        pwHash := s.store.pwHash.set (role - 1) (pwDigest d.1 ((q.payload.drop 20).take newLen)) } }
      ((s.changeLog 3 role s.check s.check).effect 2 q.tag 0x0506).ok))) ∧
  -- SAFE_LOG_READ
  (∀ (q : Req) (s : State),
    let first := u32 q.payload 0
    let count := u8 q.payload 4
    let r := q.bulk.getD (0, 0)
    Served { op := 0x0507, pair := 2, lo := 5, hi := 5, bulk := 1 } q s (1 ≤ count && count ≤ 170) →
    let log := s.store.safeLog
    let oldest := s.store.safeSeq - log.length
    ¬(!log.isEmpty && first < oldest) →
    ¬(r.2 < 24 * count) →
    exec (.safeLogRead q) s = .next (answered { op := 0x0507, pair := 2, lo := 5, hi := 5, bulk := 1 } q (
      let es := (log.reverse.filter fun e => first ≤ e.seq).take count
      { st := s.bulkPut 2 r (es.map ChangeEntry.bytes).flatten, payload := toLE 1 es.length ++ toLE 4 oldest, bulk := some r }))) ∧
  -- SAFE_WELD_RESOLVE
  (∀ (q : Req) (z : State),
    let o := outletArg q.payload 0
    Served { op := 0x0508, pair := 2, lo := 24, hi := 24 } q z (outletFits q.payload 0 && credsFit q.payload 4) →
    let a := z.tryCreds q.payload 4
    let s := a.2
    let j := s.bus o
    ¬(!a.1) →
    ¬(!s.latchedQ 38 o.val) →
    ¬(s.confirmPending || s.latchedQ 119 j || (s.busOutlets j).any s.coil) →
    ¬(s.pairBlocked (24 + j) || s.isl.safeState) →
    exec (.safeWeldResolve q) z = .next (answered { op := 0x0508, pair := 2, lo := 24, hi := 24 } q (
      let r : Resolve := { outlet := o.val, tag := q.tag, role := u8 q.payload 4 }
      let s := s.modSite j fun x => { x with resolves := x.resolves ++ [r] }
      if (s.site j).opening || (s.site j).closing then s.queued
      else if (s.pair (24 + j)).on then (s.modSite j fun x => { x with watch := true }).queued
      else (s.modSite j fun x => { x with auto := true }).queued))) ∧
  -- SAFE_SITE_SET
  (∀ (q : Req) (s : State), let j := u8 q.payload 0
    Served { op := 0x0509, pair := 2, lo := 2, hi := 2 } q s (j ≤ 1 && u8 q.payload 1 ≤ 1) → s.busUsed j = true → u8 q.payload 1 = 1 →
    (s.busBlocked j || s.confirmPending) = false → (s.pair (24 + j)).on = false → (s.pairBlocked (24 + j) || s.isl.safeState) = false →
    exec (.safeSiteSet q) s = .next (answered { op := 0x0509, pair := 2, lo := 2, hi := 2 } q (s.modSite j fun x => { x with
      auto := x.auto || (!x.opening && !x.closing), closeTags := x.closeTags ++ [q.tag] }).wait)) ∧
  -- SAFE_SITE_SET
  (∀ (q : Req) (s : State), let j := u8 q.payload 0
    Served { op := 0x0509, pair := 2, lo := 2, hi := 2 } q s (j ≤ 1 && u8 q.payload 1 ≤ 1) → s.busUsed j = true → u8 q.payload 1 = 1 →
    (s.busBlocked j || s.confirmPending) = false → ((s.pair (24 + j)).on && !(s.site j).opening && !(s.site j).closing) = true →
    exec (.safeSiteSet q) s = .next (answered { op := 0x0509, pair := 2, lo := 2, hi := 2 } q s.ok)) ∧
  -- SAFE_SITE_SET
  (∀ (q : Req) (s : State), let j := u8 q.payload 0
    Served { op := 0x0509, pair := 2, lo := 2, hi := 2 } q s (j ≤ 1 && u8 q.payload 1 ≤ 1) → s.busUsed j = true → u8 q.payload 1 = 0 →
    let z := (({ s with bak := { s.bak with siteHeld := s.bak.siteHeld.set j true } }).openBus j true).cutOff j
    exec (.safeSiteSet q) s = .next (answered { op := 0x0509, pair := 2, lo := 2, hi := 2 } q (if (s.pair (24 + j)).on || (s.site j).opening then
      (z.modSite j fun x => { x with openTags := x.openTags ++ [q.tag] }).wait else z.ok))) ∧
  -- ISLAND_SAFE_STATE
  (∀ (src : Nat) (s : State),
    ((src == 112 || src == 115) && !s.isl.safeState) = true →
    exec (.islandSafeState src) s = .next (
      let s := { s with isl := { s.isl with safeState := true, pairsOff := false } }
      (s.openList 12 outlets).raise src 0xFFFF 0)) ∧
  -- SIN_SAMPLE
  (∀ (n : Nat) (a b : Bool) (s : State),
    exec (.sinSample n a b) s = .next (
      let take (c : SinChan) (v : Bool) : SinChan := { c with raw := v, run := if c.raw = v then c.run + 1 else 1 }
      s.modSin n fun x => { x with a := take x.a a, b := take x.b b })) ∧
  -- SIN_ACCEPT
  (∀ (n : Nat) (chan closed : Bool) (s : State),
    let c := if chan then (s.sin n).b else (s.sin n).a
    (n < 8 && s.sinCfg n 0 1 != 0 && c.raw == closed && decide (4 * s.sinCfg n 2 1 ≤ c.run) && (!c.known || c.acc != closed)) = true →
    exec (.sinAccept n chan closed) s = .next (s.sinTake n chan closed)) ∧
  -- SIN_DISC
  (∀ (n : Nat) (s : State),
    let due := match (s.sin n).disc with
      | some t => decide (t + s.sinCfg n 4 2 ≤ s.up)
      | none => false
    (n < 8 && s.sinCfg n 0 1 != 0 && due && !s.latchedQ 114 n) = true →
    exec (.sinDisc n) s = .next ((s.modSin n fun x => { x with cycle := 0 }).raise 114 n 0)) ∧
  -- SITE_RELEASE
  (∀ (j : Nat) (s : State),
    ((s.site j).opening && j < 2) = true →
    exec (.siteRelease j) s = .next ((s.releaseAll (s.busOutlets j)).pairOff (24 + j))) ∧
  -- SITE_FB_CHECK
  (∀ (j : Nat) (s : State),
    ((s.site j).opening && j < 2 && !(s.pair (24 + j)).on) = true →
    exec (.siteFbCheck j) s = .next (s.openDone j (s.site j).mirrorOpen)) ∧
  -- WELD_WATCH_END
  (∀ (o : ONum) (r : Resolve) (t : List Resolve) (s : State), (s.site (s.bus o)).resolves = r :: t →
    ((s.site (s.bus o)).watch && r.outlet == o.val) = true →
    exec (.weldWatchEnd o true) s = .next (((((s.openBus (s.bus o) true).sfDemand 3 o.val (s.onMask (s.busOutlets (s.bus o)))).resolveEnds
      (s.bus o) r 9)).cutOff (s.bus o))) ∧
  -- WELD_WATCH_END
  (∀ (o : ONum) (r : Resolve) (t : List Resolve) (s : State), (s.site (s.bus o)).resolves = r :: t →
    ((s.site (s.bus o)).watch && r.outlet == o.val) = true →
    let z := ((s.clearOcc 38 o.val).changeLog 4 r.role s.check s.check).sfEnd 3 o.val
    exec (.weldWatchEnd o false) s = .next (((z.effect 2 r.tag 0x0508).resolveEnds (s.bus o) r 0).oosExit o 13)) ∧
  -- PAIR_TEST_STEP_END
  (∀ (p khs kls coil : Nat) (s : State), p < 26 → s.pairTestable p = true → pairVerdict false khs kls coil s.pwr.vkc = none →
    exec (.pairTestStepEnd p false khs kls coil) s = .next (s.modPairOut p fun x => { x with testA := true, tested := false })) ∧
  -- PAIR_TEST_STEP_END
  (∀ (p khs kls coil : Nat) (s : State), p < 24 → s.pairTestable p = true → (s.pair p).testA = true →
    pairVerdict true khs kls coil s.pwr.vkc = none →
    exec (.pairTestStepEnd p true khs kls coil) s =
      .next (s.modPairOut p fun x => { x with testA := false, tested := true, testedAt := s.up })) ∧
  -- PAIR_TEST_STEP_END
  (∀ (p khs kls coil : Nat) (s : State), 24 ≤ p → p < 26 → s.pairTestable p = true → (s.pair p).testA = true → s.pullinRoom = true →
    pairVerdict true khs kls coil s.pwr.vkc = none →
    exec (.pairTestStepEnd p true khs kls coil) s =
      .next ((s.modPairOut p fun x => { x with testA := false, on := true, pullin := true, lowRun := 0 }).modSite (p - 24)
        fun x => { x with closing := true })) ∧
  -- PULLIN_END
  (∀ (p : Nat) (s : State),
    ((s.pair p).on && (s.pair p).pullin) = true →
    exec (.pullinEnd p) s = .next (s.modPairOut p fun x => { x with pullin := false })) ∧
  -- SITE_CLOSE_CHECK
  (∀ (j : Nat) (s : State),
    ((s.site j).closing && j < 2) = true →
    exec (.siteCloseCheck j) s =
      .next (if !(s.site j).mirrorOpen then ((s.pairOff (24 + j)).raise 119 j 0).closeFails j 8 else s.closeDone j)) ∧
  -- COIL_CHECK
  (∀ (p coil : Nat) (s : State),
    ((s.pair p).on) = true →
    exec (.coilCheck p coil) s =
      .next (s.modPairOut p fun x => { x with lowRun := if coil < 5 * s.holdOf p then x.lowRun + 1 else 0 })) ∧
  -- COIL_UNDERCURRENT
  (∀ (p : Nat) (s : State),
    (p < 26 && (s.pair p).on && decide (10 ≤ (s.pair p).lowRun)) = true →
    exec (.coilUndercurrent p) s = .next (
      if h : p < 24 then (s.startOpening ⟨p, h⟩ 12).raise 118 p 0
      else
        let s := ((s.raise 118 (pairQual p) 0).openBus (p - 24) true).cutOff (p - 24)
        { s with bak := { s.bak with siteHeld := s.bak.siteHeld.set (p - 24) true } })) ∧
  -- PASSWORD_LOCKOUT_END
  (∀ (role : Nat) (s : State),
    exec (.passwordLockoutEnd role) s = .next (
      { s with bak := { s.bak with
      pwLock := s.bak.pwLock.set (role - 1) false, pwWrong := s.bak.pwWrong.set (role - 1) 0 } })) ∧
  -- SAFE_STATE_PAIRS_OFF
  (∀ (s : State),
    (s.isl.safeState && !s.isl.pairsOff) = true →
    exec .safeStatePairsOff s = .next ((((s.releaseAll outlets).dropPairs).closeFails 0 9).closeFails 1 9)) ∧
  -- VKC_UV
  (∀ (s : State),
    exec .vkcUv s = .next ((s.openList 12 outlets).raise 123 0xFFFF 0)) ∧
  -- CONFIRM_KEYPAD_TIMEOUT
  (∀ (s : State),
    exec .confirmKeypadTimeout s = .next ({ s with isl := { s.isl with kpDigits := [] } })) ∧
  -- CONFIRM_KEYPAD_LOCKOUT_END
  (∀ (s : State),
    exec .confirmKeypadLockoutEnd s = .next ({ s with isl := { s.isl with kpLock := false, kpWrong := 0 } }))

/-- Completion of the rows of Machine/Budget.lean, Machine/Lattice.lean: the site budget and the lattice. -/
def Obligations.BudgetRowsComplete : Prop :=
  -- BUD_CONFIG_SET
  (∀ (q : Req) (s : State),
    Served { op := 0x0601, pair := 3, lo := 36, hi := 36 } q s (budCfgOk q.payload) →
    exec (.budConfigSet q) s =
      .next (answered { op := 0x0601, pair := 3, lo := 36, hi := 36 } q ((({ s with cfg := { s.cfg with bud := q.payload.take 35 ++ zeros 1 } }).effect 3 q.tag 0x0601).ok))) ∧
  -- BUD_CONFIG_GET
  (∀ (q : Req) (s : State),
    Served { op := 0x0602, pair := 3 } q s true →
    exec (.budConfigGet q) s =
      .next (answered { op := 0x0602, pair := 3 } q (s.ok s.cfg.bud))) ∧
  -- BUD_OUTLET_SET
  (∀ (q : Req) (s : State),
    let p := q.payload
    Served { op := 0x0603, pair := 3, lo := 12, hi := 12 } q s (budOutOk p) →
    exec (.budOutletSet q) s = .next (answered { op := 0x0603, pair := 3, lo := 12, hi := 12 } q (
      let new (k : Nat) : Bytes := toLE 1 k ++ (p.drop 1).take 4 ++ zeros 1 ++ (p.drop 6).take 4 ++ zeros 2
      let f (k : Nat) (x : Bytes) : Bytes := if u8 p 0 = 0xFF || u8 p 0 = k then new k else x
      (({ s with cfg := { s.cfg with budOut := vmapi f s.cfg.budOut } }).effect 3 q.tag 0x0603).ok))) ∧
  -- BUD_OUTLET_GET
  (∀ (q : Req) (s : State),
    let o := outletArg q.payload 0
    Served { op := 0x0604, pair := 3, lo := 1, hi := 1 } q s (outletFits q.payload 0) →
    exec (.budOutletGet q) s = .next (answered { op := 0x0604, pair := 3, lo := 1, hi := 1 } q (
      let l := s.bud.last.getD o.val {}
      s.ok (s.cfg.budOut.get o ++ toLE 2 l.cap ++ toLEs 2 l.grant ++ toLEs 2 (s.o o).pilot.setpoint ++ toLE 1 l.limit ++ zeros 1)))) ∧
  -- BUD_STATUS_GET
  (∀ (q : Req) (s : State),
    Served { op := 0x0605, pair := 3 } q s true →
    exec (.budStatusGet q) s = .next (answered { op := 0x0605, pair := 3 } q (
      s.ok (toLE 1 (b2n s.bud.line) ++ toLE 1 s.latCode ++ zeros 2 ++ toLE3 s.avail.1 ++ toLE3 s.avail.2 ++ toLE3 s.totals.1
      ++ toLE3 s.totals.2 ++ toLE3 s.extNow ++ zeros 2 ++ toLE 8 (s.bud.stepAt.getD ((s.stepMs / 1000 + 1) * 1000))
      ++ toLE 4 (if s.inLattice then s.lat.applied else 0))))) ∧
  -- BUD_EXTLOAD
  (∀ (q : Req) (s : State),
    Served { op := 0x0606, pair := 3, lo := 6, hi := 6 } q s (curOk q.payload 0 3) →
    exec (.budExtload q) s =
      .next (answered { op := 0x0606, pair := 3, lo := 6, hi := 6 } q (({ s with bud := { s.bud with ext := some (fld3 q.payload 0) } }).ok))) ∧
  -- BUD_STEP_AT
  (∀ (q : Req) (s : State),
    let t := fld q.payload 0 8
    Served { op := 0x0607, pair := 3, lo := 8, hi := 8 } q s true →
    ¬(t < s.stepMs + 200 || s.stepMs + 10000 < t) →
    ¬(s.bud.line || (s.inLattice && !s.lat.leading)) →
    ¬(s.bud.stepAt.isSome) →
    exec (.budStepAt q) s =
      .next (answered { op := 0x0607, pair := 3, lo := 8, hi := 8 } q (({ s with bud := { s.bud with stepAt := some t } }).ok))) ∧
  -- BUDGET_ROUND
  (∀ (reclaim : List Nat) (s : State),
    s.fwRuns = true →
    exec (.budgetRound reclaim) s = .next (s.round reclaim)) ∧
  -- PAUSE_HOLD_END
  (∀ (o : ONum) (s : State),
    exec (.pauseHoldEnd o) s = .next ({ s with bud := { s.bud with hold := s.bud.hold.filter fun k => k != o.val } })) ∧
  -- EXTLOAD_LAPSE
  (∀ (s : State),
    exec .extloadLapse s = .next ({ s with bud := { s.bud with ext := none } })) ∧
  -- TIMEBASE_TO_LINE
  (∀ (s : State),
    (s.fwRuns && !s.bud.line && !(s.netOn && s.net.sync == 2) && decide (s.net.lostAt + 10000 ≤ s.up)) = true →
    exec .timebaseToLine s = .next (s.sourceTo true)) ∧
  -- TIMEBASE_TO_PTP
  (∀ (s : State),
    (s.fwRuns && s.bud.line && s.netOn && s.net.sync == 2 && decide (s.net.lockedAt + 2000 ≤ s.up)) = true →
    exec .timebaseToPtp s = .next (s.sourceTo false)) ∧
  -- LAT_CONFIG_SET
  (∀ (q : Req) (s : State),
    let p := q.payload
    Served { op := 0x0608, pair := 3, lo := 24, hi := 24 } q s (latCfgOk p) →
    ¬(!s.slotHas (u8 p 2) 3) →
    exec (.latConfigSet q) s = .next (answered { op := 0x0608, pair := 3, lo := 24, hi := 24 } q (
      let was := s.inLattice
      let s := ({ s with cfg := { s.cfg with lat := p } }).effect 3 q.tag 0x0608
      let l : Lattice := {
        round := s.lat.round, leader := ownId, gI := s.ownFloor.1, gE := s.ownFloor.2, discards := s.lat.discards }
      let s := { s with lat := l }
      (if was && s.inLattice then s.toFloor else s).ok))) ∧
  -- LAT_CONFIG_GET
  (∀ (q : Req) (s : State),
    Served { op := 0x0609, pair := 3 } q s true →
    exec (.latConfigGet q) s =
      .next (answered { op := 0x0609, pair := 3 } q (s.ok s.cfg.lat))) ∧
  -- LAT_STATUS_GET
  (∀ (q : Req) (s : State),
    let r := q.bulk.getD (0, 0)
    Served { op := 0x060A, pair := 3, bulk := 1 } q s true →
    exec (.latStatusGet q) s = .next (answered { op := 0x060A, pair := 3, bulk := 1 } q (
      s.sized r 512 <|
      let ms := if s.inLattice then (s.selfMember :: s.lat.members).take 16 else []
      { st := s.bulkPut 3 r (ms.map fun m => m.bytes s.lat.floorsOnly).flatten, bulk := some r
        payload := toLE 8 s.lat.leader ++ toLE 4 s.lat.round ++ toLE 1 (ms.filter fun m => m.heard).length ++ toLE 1 ms.length
          ++ zeros 2 ++ toLE 4 s.lat.discards }))) ∧
  -- LAT_FRAME_RX
  (∀ (frame : Bytes) (f : LatFrame) (s : State),
    (s.fwRuns && s.inLattice && s.netOn && u32 frame 4 == u32 s.cfg.lat 4 && fld frame 8 8 != ownId) = true →
    s.latParse frame = some f → f.cfgchk = s.latCheck → f.share = true → (s.memberOf f.sender).lastS = none →
    exec (.latFrameRx frame) s = .next (s.takeShare f)) ∧
  -- LAT_FRAME_RX
  (∀ (frame : Bytes) (f : LatFrame) (s : State),
    (s.fwRuns && s.inLattice && s.netOn && u32 frame 4 == u32 s.cfg.lat 4 && fld frame 8 8 != ownId) = true →
    s.latParse frame = some f → f.cfgchk = s.latCheck → f.share = false → (s.memberOf f.sender).lastR = none →
    exec (.latFrameRx frame) s = .next (s.takeReport f)) ∧
  -- LAT_FRAME_RX
  (∀ (frame : Bytes) (s : State),
    (s.fwRuns && s.inLattice && s.netOn && u32 frame 4 == u32 s.cfg.lat 4 && fld frame 8 8 != ownId) = true → s.latParse frame = none →
    exec (.latFrameRx frame) s = .next (s.modLat fun l => { l with discards := wrapInc 32 l.discards })) ∧
  -- STEP_INSTANT
  (∀ (s : State),
    let soon := s.bud.moved && match s.bud.lastStep with
      | some t => decide (s.up < t + 500)
      | none => false
    let early := match s.bud.stepAt with
      | some t => decide (s.stepMs < t)
      | none => false
    (s.fwRuns && !soon && !early) = true →
    exec .stepInstant s = .next (
      let s := { s with bud := { s.bud with lastStep := some s.up, moved := false, stepAt := none, cfg := s.cfg.bud } }
      let s := if s.bud.line then s.rebase else s
      let s := if s.inLattice then s.latStep else s
      if s.keepsReduced then s else s.applyStep)) ∧
  -- LAT_REPORT_TX
  (∀ (s : State),
    (s.fwRuns && s.inLattice && s.netOn && s.slotValid (u8 s.cfg.lat 2)) = true →
    exec .latReportTx s = .next (
      let r := s.reportRound
      (s.modLat fun l => { l with sent := r }).launchOn (s.stepMs / 1000) 200000000 1 r s.reportBody)) ∧
  -- LAT_ROUND_CLOSE
  (∀ (s : State),
    (s.fwRuns && s.inLattice && s.netOn) = true →
    exec .latRoundClose s = .next (s.closeRound)) ∧
  -- LAT_SHARE_TX
  (∀ (round step : Nat) (s : State), s.lat.computed = some (round, step) →
    (s.fwRuns && s.inLattice && s.netOn && s.lat.leading && s.slotValid (u8 s.cfg.lat 2)) = true →
    exec .latShareTx s = .next ((s.modLat fun l => { l with
      computed := none, got := true
      share := some { round := round, step := step, gI := l.ownI.headD [0, 0, 0], gE := l.ownE.headD [0, 0, 0] } }).shareOut round (s.shareBody step)))

/-- Completion of the rows of Machine/Metro.lean: the metrology front end. -/
def Obligations.MetrologyRowsComplete : Prop :=
  -- METRO_CONFIG_SET
  (∀ (q : Req) (s : State),
    let p := q.payload
    Served { op := 0x0701, pair := 4, lo := 16, hi := 16 } q s (metroCfgOk p) →
    exec (.metroConfigSet q) s = .next (answered { op := 0x0701, pair := 4, lo := 16, hi := 16 } q (
      let s := { s with cfg := { s.cfg with metro := p.take 9 ++ zeros 7 } }
      let s := s.modMet fun m => { m with refNext := if u8 p 3 = m.refph then none else some (u8 p 3) }
      let s := if u8 p 8 = 0 then s.abandonVisit else s
      (s.effect 4 q.tag 0x0701).ok))) ∧
  -- METRO_CONFIG_GET
  (∀ (q : Req) (s : State),
    Served { op := 0x0702, pair := 4 } q s true →
    exec (.metroConfigGet q) s =
      .next (answered { op := 0x0702, pair := 4 } q (s.ok s.cfg.metro))) ∧
  -- METRO_SCALE_SET
  (∀ (q : Req) (s : State),
    let p := q.payload
    Served { op := 0x0703, pair := 4, lo := 8, hi := 8 } q s (scaleOk p) →
    exec (.metroScaleSet q) s = .next (answered { op := 0x0703, pair := 4, lo := 8, hi := 8 } q (
      s.writeCal fun c => { c with
      groups := c.groups.set (u8 p 0) { tsrc := u8 p 1, ratio := u16 p 2, burden := if u8 p 0 < 24 then u16 p 4 else 0 } }))) ∧
  -- METRO_SCALE_GET
  (∀ (q : Req) (s : State),
    let p := q.payload
    Served { op := 0x0704, pair := 4, lo := 2, hi := 2 } q s (u8 p 0 ≤ 25 && u8 p 1 ≤ 1) →
    exec (.metroScaleGet q) s =
      .next (answered { op := 0x0704, pair := 4, lo := 2, hi := 2 } q (s.ok (groupBytes (s.calSet (u8 p 1)) (u8 p 0))))) ∧
  -- METRO_CAL_WRITE
  (∀ (q : Req) (s : State),
    let p := q.payload
    Served { op := 0x0705, pair := 4, lo := 16, hi := 16 } q s (calWriteOk p) →
    exec (.metroCalWrite q) s = .next (answered { op := 0x0705, pair := 4, lo := 16, hi := 16 } q (
      s.writeCal fun c => c.setChan (u8 p 0) (u8 p 1) { c.chan (u8 p 0) (u8 p 1) with
      g0 := u32 p 4, offset := sfld p 8 4, ph0 := sfld p 12 2 }))) ∧
  -- METRO_CAL_READ
  (∀ (q : Req) (s : State),
    let p := q.payload
    let c := u8 p 0
    let g := u8 p 1
    Served { op := 0x0706, pair := 4, lo := 3, hi := 3 } q s (chOk p && u8 p 2 ≤ 1) →
    exec (.metroCalRead q) s = .next (answered { op := 0x0706, pair := 4, lo := 3, hi := 3 } q (
      let x := s.ch c
      s.ok (chanBytes (s.calSet (u8 p 2)) c g ++ toLEs 2 (x.dg.getD g 0) ++ toLEs 2 (x.dp.getD g 0)
      ++ toLE 8 (x.visit.getD g 0))))) ∧
  -- METRO_TABLE_WRITE
  (∀ (q : Req) (s : State),
    let p := q.payload
    let r := q.bulk.getD (0, 0)
    Served { op := 0x0707, pair := 4, lo := 2, hi := 2, bulk := 1 } q s (chOk p) →
    exec (.metroTableWrite q) s = .next (answered { op := 0x0707, pair := 4, lo := 2, hi := 2, bulk := 1 } q (
      s.sized r 64 <|
      let t := s.bulkGet 4 (r.1, 64)
      if !tableOk t then s.no 5
      else s.writeCal fun c => c.setChan (u8 p 0) (u8 p 1) { c.chan (u8 p 0) (u8 p 1) with table := t }))) ∧
  -- METRO_TABLE_READ
  (∀ (q : Req) (s : State),
    let p := q.payload
    let r := q.bulk.getD (0, 0)
    Served { op := 0x0708, pair := 4, lo := 3, hi := 3, bulk := 1 } q s (chOk p && u8 p 2 ≤ 1) →
    exec (.metroTableRead q) s = .next (answered { op := 0x0708, pair := 4, lo := 3, hi := 3, bulk := 1 } q (
      s.sized r 64
      { st := s.bulkPut 4 r ((s.calSet (u8 p 2)).chan (u8 p 0) (u8 p 1)).table, bulk := some r }))) ∧
  -- METRO_CAL_DIGEST
  (∀ (q : Req) (s : State),
    Served { op := 0x0709, pair := 4 } q s true →
    exec (.metroCalDigest q) s = .next (answered { op := 0x0709, pair := 4 } q (
      (s.modMet fun m => { m with digested := true }).ok
      (toLE 4 s.met.gen ++ toLE 4 (s.met.gen + 1) ++ padTo 32 s.met.working.digest)))) ∧
  -- METRO_CAL_COMMIT
  (∀ (q : Req) (s : State),
    let p := q.payload
    Served { op := 0x070A, pair := 4, lo := 12, hi := 12 } q s true →
    s.slotRefuses (u8 p 0) 3 3 = none →
    ¬((p.drop 4).take 8 ≠ (padTo 16 (Config.cmac (s.slot (u8 p 0)).mat s.calMacInput)).take 8) →
    ¬(s.met.commit.isSome) →
    ¬(s.anyRefCal) →
    ¬(!s.met.digested) →
    exec (.metroCalCommit q) s =
      .next (answered { op := 0x070A, pair := 4, lo := 12, hi := 12 } q ((s.modMet fun m => { m with commit := some q.tag }).queued))) ∧
  -- METRO_CAL_REVERT
  (∀ (q : Req) (s : State),
    Served { op := 0x070B, pair := 4 } q s true →
    exec (.metroCalRevert q) s =
      .next (answered { op := 0x070B, pair := 4 } q (s.writeCal fun _ => s.met.active))) ∧
  -- METRO_CH_STATUS
  (∀ (q : Req) (s : State),
    let c := u8 q.payload 0
    Served { op := 0x070C, pair := 4, lo := 1, hi := 1 } q s (c ≤ 103) →
    exec (.metroChStatus q) s = .next (answered { op := 0x070C, pair := 4, lo := 1, hi := 1 } q (
      let x := s.ch c
      let src := (s.met.active.group (groupOf c)).tsrc
      let clipped := match x.clipUp with
        | some t => decide (s.up < t + 1000)
        | none => false
      let flags := b2n clipped + 2 * b2n (s.met.ntcs.getD src {}).fallback + 4 * b2n x.heldT + 8 * b2n s.met.uncal
      (s.modCh c fun x => { x with clips := 0, clipArmed := true }).ok
      (toLE 1 c ++ toLE 1 (s.gainOf c) ++ toLE 1 flags ++ zeros 1 ++ toLE 4 (s.rms1s c) ++ toLEs 2 (s.temp10 (groupOf c)) ++ zeros 2
        ++ toLE 4 x.switches ++ toLE 2 x.overloads ++ toLE 2 x.clips)))) ∧
  -- METRO_LINE_GET
  (∀ (q : Req) (s : State),
    Served { op := 0x070D, pair := 4 } q s true →
    exec (.metroLineGet q) s = .next (answered { op := 0x070D, pair := 4 } q (
      s.ok (toLE 1 s.met.refph ++ toLE 1 (b2n s.met.synth + 2 * b2n s.met.hold) ++ zeros 2 ++ toLE 4 s.met.freq
      ++ toLE 4 s.met.cycles ++ toLE 4 s.met.freqB)))) ∧
  -- METRO_RAW
  (∀ (q : Req) (s : State),
    let p := q.payload
    let r := q.bulk.getD (0, 0)
    Served { op := 0x070E, pair := 4, lo := 3, hi := 3, bulk := 1 } q s (u8 p 0 ≤ 103 && 1 ≤ u16 p 1 && u16 p 1 ≤ 1024) →
    exec (.metroRaw q) s = .next (answered { op := 0x070E, pair := 4, lo := 3, hi := 3, bulk := 1 } q (
      s.sized r (4 * u16 p 1) <|
      (s.modMet fun m => { m with raw := some {
        tag := q.tag, ch := u8 p 0, left := u16 p 1, off := r.1, boff := r.1, blen := r.2 } }).wait))) ∧
  -- GAIN_DECISION
  (∀ (c : Nat) (s : State), s.metaOn = true → c < 96 → (s.ch c).hiGain = true → 50 * fs16 < 100 * (s.ch c).peak →
    exec (.gainDecision c) s = .next ((s.modCh c ChanRun.halfEnd).modCh c fun x => { x with pending := some false })) ∧
  -- GAIN_DECISION
  (∀ (c : Nat) (s : State), s.metaOn = true → c < 96 → (s.ch c).hiGain = false → 100 * (s.ch c).peak < 5 * fs16 →
    exec (.gainDecision c) s = .next ((s.modCh c ChanRun.halfEnd).modCh c fun x => { x with
      lowRun := (s.ch c).lowRun + 1, pending := if 4 ≤ (s.ch c).lowRun + 1 then some true else none })) ∧
  -- GAIN_SWITCH
  (∀ (c : Nat) (hi : Bool) (s : State), s.metaOn = true → c < 96 → (s.ch c).pending = some hi →
    exec (.gainSwitch c) s = .next (s.switchGain c hi)) ∧
  -- TEMP_UPDATE
  (∀ (ntc : List Nat) (die10 : Int) (s : State),
    s.metaOn = true →
    exec (.tempUpdate ntc die10) s = .next (
      let die := die10 * 100
      let s := (List.range 4).foldl (fun s k => s.readNtc k (ntc.getD k 0) die) s
      let src (g : Nat) : Int :=
        let n := s.met.ntcs.getD (s.met.active.group g).tsrc { fallback := true }
        if n.fallback then die else n.reading
      s.modMet fun m => { m with temps := m.temps.mapIdx fun g t => t + (src g - t) / 60 })) ∧
  -- NTC_RESTORE
  (∀ (k : Nat) (s : State),
    let n := s.met.ntcs.getD k {}
    (s.metaOn && n.fallback && decide (60 ≤ n.good) && decide (k < 4)) = true →
    exec (.ntcRestore k) s =
      .next (((s.setNtc k { n with fallback := false, bad := 0, good := 0 }).setTemps (s.ntcGroups k) n.reading).evtTemp k 1)) ∧
  -- OFFSET_REMEASURE
  (∀ (o : ONum) (offs : List Int) (s : State),
    let low := match (s.o o).sw.sswFall with
      | some t => decide (t + 2000 ≤ s.up)
      | none => decide (2000 ≤ s.up)
    (s.metaOn && !s.energised o && low) = true →
    exec (.offsetRemeasure o offs) s = .next (
      (List.range 8).foldl (fun s i =>
      s.measureOffset (4 * o.val + i / 2) (i % 2) (offs.getD i 0) (offs.getD (8 + i) 0)) s)) ∧
  -- SELFCAL_VISIT_END
  (∀ (resp delay : List Int) (s : State), (s.metaOn && s.fwRuns) = true →
    exec (.selfcalVisitEnd resp delay) s = .next (s.visitEnded resp delay)) ∧
  -- CAL_COMMIT_DONE
  (∀ (tag : Nat) (s : State), s.met.commit = some tag →
    let gen := wrapInc 32 s.met.gen
    let copy : CalCopy := { set := s.met.working, gen := gen, valid := true }
    let t := ({ s with
      met := { s.met with commit := none, next := some s.met.working }
      store := { s.store with calP := copy, calS := copy } }).effect 4 tag 0x070A
    exec (.calCommitDone true) s = .next (t.finish 4 tag 0 (toLE 4 gen))) ∧
  -- CAL_COMMIT_DONE
  (∀ (tag : Nat) (s : State), s.met.commit = some tag →
    exec (.calCommitDone false) s = .next ((s.modMet fun m => { m with commit := none }).finish 4 tag 9 [])) ∧
  -- REFERENCE_LOST
  (∀ (s : State),
    (s.metaOn && s.met.synth && !s.met.hold && decide (s.met.synthAt + 1000 ≤ s.up)) = true →
    exec .referenceLost s = .next (
      let s := (s.modMet fun m => { m with synth := false, hold := true }).evtLine 0
      s.raise 69 (refChan s.met.refph) 0)) ∧
  -- SELFCAL_VISIT
  (∀ (s : State),
    (s.metaOn && s.fwRuns && u8 s.cfg.metro 8 == 1 && s.met.visitG.isNone) = true →
    exec .selfcalVisit s = .next (
      let g := s.met.visitNext
      s.modMet fun m => { m with
        visitNext := (g + 1) % 26, restarts := 0
        visitG := if s.refCal g then none else some g
        chans := vmap (fun x => ({ x with repeated := false } : ChanRun)) m.chans }))

/-- Completion of the rows of Machine/Energy.lean: energy, power quality, captures and tampering. -/
def Obligations.EnergyRowsComplete : Prop :=
  -- ENERGY_CONFIG_SET
  (∀ (q : Req) (s : State),
    let p := q.payload
    Served { op := 0x0710, pair := 4, lo := 20, hi := 20 } q s (energyCfgOk p) →
    exec (.energyConfigSet q) s = .next (answered { op := 0x0710, pair := 4, lo := 20, hi := 20 } q (
      let s := { s with cfg := { s.cfg with energy := p.take 15 ++ zeros 5 }, bak := { s.bak with tampPol := u8 p 12 % 4 } }
      (s.effect 4 q.tag 0x0710).ok))) ∧
  -- ENERGY_CONFIG_GET
  (∀ (q : Req) (s : State),
    Served { op := 0x0711, pair := 4 } q s true →
    exec (.energyConfigGet q) s =
      .next (answered { op := 0x0711, pair := 4 } q (s.ok s.cfg.energy))) ∧
  -- ENERGY_READ
  (∀ (q : Req) (s : State),
    let f := u8 q.payload 0
    let n := u8 q.payload 1
    let r := q.bulk.getD (0, 0)
    Served { op := 0x0712, pair := 4, lo := 2, hi := 2, bulk := 1 } q s (f < 24 && 1 ≤ n && n ≤ 18 && f + n ≤ 24) →
    exec (.energyRead q) s = .next (answered { op := 0x0712, pair := 4, lo := 2, hi := 2, bulk := 1 } q (
      s.sized r (224 * n) <|
      let l := s.en.latch
      let out (o : Nat) : Bytes := ((List.range 28).map fun k => toLE 8 (units (s.latOf o k))).flatten
      { st := s.bulkPut 4 r ((List.range n).map fun k => out (f + k)).flatten, bulk := some r
        payload := toLE 4 l.seq ++ toLE 4 l.cycles ++ toLE 8 l.sample ++ toLE 8 l.time ++ toLE 1 l.kind ++ toLE 1 l.flags }))) ∧
  -- ENERGY_INSTANT
  (∀ (q : Req) (s : State),
    let o := outletArg q.payload 0
    Served { op := 0x0713, pair := 4, lo := 1, hi := 1 } q s (outletFits q.payload 0) →
    exec (.energyInstant q) s = .next (answered { op := 0x0713, pair := 4, lo := 1, hi := 1 } q (
      let x := s.en.inst.get o
      let w (l : List Int) : Bytes := (l.map fun v => toLEs 4 (Int.tdiv v 1000)).flatten
      s.ok (w x.p ++ w x.q ++ (x.i.map fun v => toLE 4 v).flatten ++ toLEs 4 (Int.tdiv (s.pOut o) 1000) ++ toLE 1 (b2n x.expo)
      ++ toLE 1 (b2n (decide ((s.pOut o).natAbs < 20 * s.unom)) + 2 * b2n x.fb + 4 * b2n (s.en.neutral.getD (s.bus o) false))
      ++ zeros 2)))) ∧
  -- ENERGY_LATCH_NOW
  (∀ (q : Req) (s : State),
    Served { op := 0x0714, pair := 4 } q s true →
    exec (.energyLatchNow q) s =
      .next (answered { op := 0x0714, pair := 4 } q ((s.modEn fun e => { e with latchTags := e.latchTags ++ [q.tag] }).wait))) ∧
  -- PQ_LOG_READ
  (∀ (q : Req) (s : State),
    let first := u32 q.payload 0
    let n := u8 q.payload 4
    let r := q.bulk.getD (0, 0)
    Served { op := 0x0715, pair := 4, lo := 5, hi := 5, bulk := 1 } q s (1 ≤ n && n ≤ 128) →
    let l := s.store.pqLog.reverse
    let oldest := (l.head?.map fun x => x.seq).getD s.store.pqNext
    ¬(!l.isEmpty && older32 first oldest) →
    ¬(r.2 < 32 * n) →
    exec (.pqLogRead q) s = .next (answered { op := 0x0715, pair := 4, lo := 5, hi := 5, bulk := 1 } q (
      let found := (l.filter fun x => !older32 x.seq first).take n
      { st := s.bulkPut 4 r (found.map PqRec.bytes).flatten, bulk := some r
        payload := toLE 1 found.length ++ toLE 4 oldest }))) ∧
  -- WAVE_LIST
  (∀ (q : Req) (s : State),
    let first := u32 q.payload 0
    let n := u8 q.payload 4
    let r := q.bulk.getD (0, 0)
    Served { op := 0x0716, pair := 4, lo := 5, hi := 5, bulk := 1 } q s (decide (1 ≤ n)) →
    exec (.waveList q) s = .next (answered { op := 0x0716, pair := 4, lo := 5, hi := 5, bulk := 1 } q (
      s.sized r (16 * n) <|
      let l := s.store.captures.reverse
      let oldest := (l.head?.map fun x => x.id).getD 0
      let newest := (s.store.captures.head?.map fun x => x.id).getD 0
      let found := (l.filter fun x => !older32 x.id first).take n
      let row (c : Capture) : Bytes := toLE 4 c.id ++ toLE 8 c.time ++ toLE 1 c.trigger ++ toLE 1 c.outlet ++ toLE 1 c.flags ++ zeros 1
      { st := s.bulkPut 4 r (found.map row).flatten, bulk := some r
        payload := toLE 1 found.length ++ toLE 4 oldest ++ toLE 4 newest ++ toLE 4 s.en.lost }))) ∧
  -- WAVE_EXPORT
  (∀ (q : Req) (s : State),
    Served { op := 0x0717, pair := 4, lo := 4, hi := 4 } q s true →
    let id := u32 q.payload 0
    ¬(!s.store.captures.any (fun c => c.id == id)) →
    ¬(s.en.exporting.isSome) →
    ¬((s.pr 14).state ≠ 1) →
    exec (.waveExport q) s =
      .next (answered { op := 0x0717, pair := 4, lo := 4, hi := 4 } q ((s.modEn fun e => { e with exporting := some { id := id, tag := q.tag, head := (s.pr 14).cqTail, headAt := s.up } }).queued))) ∧
  -- WAVE_TRIGGER
  (∀ (q : Req) (s : State),
    let o := u8 q.payload 0
    Served { op := 0x0718, pair := 4, lo := 1, hi := 1 } q s (o < 24) →
    let again := s.en.capWait.any fun c => c.outlet == o && decide (s.en.sample ≤ c.sample + 2047)
    ¬(!again && 4 ≤ s.en.capWait.length) →
    exec (.waveTrigger q) s = .next (answered { op := 0x0718, pair := 4, lo := 1, hi := 1 } q (
      let s := s.waveTrigger 4 o
      s.ok (toLE 4 (((s.en.capWait.reverse.find? fun c => c.outlet == o).map fun c => c.id).getD 0))))) ∧
  -- TAMPER_STATUS
  (∀ (q : Req) (s : State),
    Served { op := 0x0719, pair := 4 } q s true →
    exec (.tamperStatus q) s = .next (answered { op := 0x0719, pair := 4 } q (
      let active := maskOf ((outlets.filter fun o => (s.en.inst.get o).reverse || (s.en.inst.get o).bypass).map fun o => o.val)
      let site := s.tamperMask 2 + 4 * b2n (s.tamperSet 3 0) + 8 * b2n (s.tamperSet 4 1)
        + 16 * b2n (s.en.tampLevel.getD 0 false) + 32 * b2n (s.en.tampLevel.getD 1 false)
      s.ok (toLE 4 (s.tamperMask 0) ++ toLE 4 (s.tamperMask 1) ++ toLE 1 site ++ zeros 1
      ++ toLE 1 (s.bak.cover.getD 0 (0, 0, 0)).1 ++ toLE 1 (s.bak.cover.getD 1 (0, 0, 0)).1 ++ toLE 4 active)))) ∧
  -- TAMPER_CLEAR
  (∀ (q : Req) (s : State),
    let p := q.payload
    let ks := tamperKinds (u8 p 0) (u8 p 1) (u8 p 2)
    Served { op := 0x071A, pair := 4, lo := 3, hi := 3 } q s (ks.isSome) →
    let ks := (ks.getD []).filter fun k => s.tamperSet k.1 k.2
    ¬(ks.any fun k => s.tamperActive k.1 k.2) →
    exec (.tamperClear q) s =
      .next (answered { op := 0x071A, pair := 4, lo := 3, hi := 3 } q (((ks.foldl (fun s k => s.tamperClear 0 k) s).effect 4 q.tag 0x071A).ok))) ∧
  -- METRO_SAMPLE
  (∀ (x : List Int) (lfxo : Nat) (s : State),
    s.metaOn = true →
    exec (.metroSample x lfxo) s = .next (s.sampled x lfxo)) ∧
  -- DIRECTION_CHANGE
  (∀ (o : ONum) (s : State),
    let x := s.en.inst.get o
    (s.metaOn && decide (8000 ≤ x.dirRun)) = true →
    exec (.directionChange o) s = .next (
      let s := s.modEn fun e => { e with inst := e.inst.set o.val { x with expo := !x.expo, dirRun := 0 } o.isLt }
      (s.emit 4 0x0784 (toLE 1 o.val ++ toLE 1 (b2n (!x.expo)) ++ toLE 1 (b2n (s.o o).hlc.bidir) ++ zeros 1 ++ toLE 4 x.dirSeq
        ++ toLE 8 x.dirFirst ++ toLE 8 x.dirTime)).waveIf 3 o.val)) ∧
  -- HALF_CYCLE_PQ
  (∀ (bus : Nat) (s : State),
    (s.metaOn && decide (bus < 2)) = true →
    exec (.halfCyclePq bus) s = .next (
      let rms := s.halfRms bus
      let f (k v : Nat) : Nat := if k / 4 = bus then rms.getD (k % 4) v else v
      let g (k : Nat) (l : List (Nat × Nat)) : List (Nat × Nat) :=
        if k / 4 = bus then (rms.getD (k % 4) 0, s.up) :: l.filter fun x => decide (s.up < x.2 + 1000) else l
      let s := s.modEn fun e => { e with vrms := e.vrms.mapIdx f, vLog := e.vLog.mapIdx g }
      let v := (List.range 3).map fun k => s.en.vrms.getD (4 * bus + k) 0
      if s.busUsed bus then (s.pqHalf bus v true).pqHalf bus v false else s)) ∧
  -- REVERSE_CURRENT
  (∀ (o : ONum) (s : State),
    let x := s.en.inst.get o
    (s.metaOn && !x.reverse && decide (0 < x.revRun) && decide (8000 * s.ec 8 ≤ x.revRun)) = true →
    exec (.reverseCurrent o) s = .next (
      let p := Int.tdiv (s.pOut o) 1000
      let s := s.modEn fun e => { e with inst := e.inst.set o.val { x with reverse := true } o.isLt }
      ((s.tamperFound 0 o.val p).waveIf 2 o.val).raise 70 o.val (ofSigned 32 p))) ∧
  -- BYPASS_DETECT
  (∀ (o : ONum) (s : State),
    let x := s.en.inst.get o
    (s.metaOn && !x.bypass && decide (16000 < x.bypRun)) = true →
    exec (.bypassDetect o) s = .next (
      let ma := x.sum
      let s := s.modEn fun e => { e with inst := e.inst.set o.val { x with bypass := true } o.isLt }
      ((s.tamperFound 1 o.val ma).waveIf 2 o.val).raise 71 o.val ma)) ∧
  -- BYPASS_END
  (∀ (o : ONum) (s : State),
    let x := s.en.inst.get o
    (s.metaOn && x.bypass && decide (80000 ≤ x.bypOff)) = true →
    exec (.bypassEnd o) s =
      .next ((s.modEn fun e => { e with inst := e.inst.set o.val { x with bypass := false } o.isLt }).evtTamper 1 1 o.val 0 0)) ∧
  -- NEUTRAL_MISSING
  (∀ (bus : Nat) (s : State),
    (s.metaOn && decide (bus < 2) && !s.en.neutral.getD bus false && decide (16000 ≤ s.en.neRun.getD bus 0)) = true →
    exec (.neutralMissing bus) s = .next (
      let v := (s.halfRms bus).getD 3 0 / 10
      let s := s.modEn fun e => { e with neutral := e.neutral.set bus true }
      ((s.tamperFound 2 bus v).waveIf 2 (s.busOutlet bus)).raise 72 bus v)) ∧
  -- NEUTRAL_END
  (∀ (bus : Nat) (s : State),
    (s.metaOn && s.en.neutral.getD bus false && decide (80000 ≤ s.en.neOff.getD bus 0)) = true →
    exec (.neutralEnd bus) s =
      .next ((s.modEn fun e => { e with neutral := e.neutral.set bus false }).evtTamper 2 1 bus 0 0)) ∧
  -- TAMPER_SAMPLE
  (∀ (t0 t1 : Bool) (s : State),
    (s.pwr.state != .off) = true →
    exec (.tamperSample t0 t1) s = .next (
      let s := (s.sampleCover 0 t0).sampleCover 1 t1
      if s.fwRuns then s.takeCovers else s)) ∧
  -- PERIODIC_LATCH
  (∀ (s : State),
    (s.metaOn && s.periodicDue) = true →
    exec .periodicLatch s = .next (s.latchAt 1)) ∧
  -- BOUNDARY_LATCH
  (∀ (s : State),
    (s.metaOn && s.boundaryDue) = true →
    exec .boundaryLatch s = .next (s.latchAt (b2n s.periodicDue))) ∧
  -- CAPTURE_CUT
  (∀ (c : Capture) (s : State), s.fwRuns = true → (s.en.capWait.find? fun c => decide (c.sample + 2047 ≤ s.en.sample)) = some c →
    215040 ≤ s.en.sample - c.sample + 2048 →
    exec .captureCut s = .next (s.modEn fun e => { e with
      capWait := e.capWait.filter fun x => x.id != c.id, lost := wrapInc 32 e.lost })) ∧
  -- CAPTURE_CUT
  (∀ (c : Capture) (s : State), s.fwRuns = true → (s.en.capWait.find? fun c => decide (c.sample + 2047 ≤ s.en.sample)) = some c →
    s.en.sample - c.sample + 2048 < 215040 →
    let ys := ((s.en.wave.drop (s.en.sample - c.sample - 2047)).take 4096).reverse
    let ys := List.replicate (4096 - ys.length) [] ++ ys
    let d : Capture := { c with frames := (ys.map (frameBytes c.outlet s.en.neutral)).flatten }
    let z := s.modEn fun e => { e with capWait := e.capWait.filter fun x => x.id != c.id }
    exec .captureCut s = .next (({ z with store := { z.store with captures := (d :: z.store.captures).take 8192 } }).emit 4 0x0787
      (toLE 4 c.id ++ toLE 1 c.trigger ++ toLE 1 c.outlet ++ toLE 1 c.flags ++ zeros 1 ++ toLE 8 c.time))) ∧
  -- WAVE_CHUNK_SEND
  (∀ (x : Export) (c : Capture) (s : State), s.en.exporting = some x → (s.store.captures.find? fun c => c.id == x.id) = some c →
    s.fwRuns = true → (s.pr 14).state = 1 → s.chunkFree = true → x.next < 36 →
    let b := ((s.captureImage c).drop (4096 * x.next)).take 4096
    let head := ((s.pr 14).cqTail + ((s.pr 14).held.map fun h => h.entries.length).foldl (· + ·) 0 + 1) % 65536
    let z := ((s.modEn fun e => { e with chunkEnd := some head }).bulkPut 14 (0, 4096) b).emitNow 14 0x0790
      (toLE 4 x.id ++ toLE 2 x.next ++ toLE 2 37 ++ toLE 2 x.tag ++ zeros 42) (some (0, b.length))
    exec .waveChunkSend s = .next (z.modEn fun e => { e with exporting := some { x with next := x.next + 1, head := head } })) ∧
  -- WAVE_EXPORT_TIMEOUT
  (∀ (x : Export) (s : State), s.en.exporting = some x → x.headAt + 10000 ≤ s.up →
    exec .waveExportTimeout s = .next ((s.modEn fun e => { e with exporting := none }).finish 4 x.tag 8 []))

/-- Completion of the rows of Machine/Billing.lean, Machine/Ledger.lean: billing time, the tariff calendar and the ledger. -/
def Obligations.BillingRowsComplete : Prop :=
  -- BILL_CONFIG_SET
  (∀ (q : Req) (s : State),
    let p := q.payload
    Served { op := 0x0801, pair := 5, lo := 24, hi := 24 } q s (billCfgOk p) →
    exec (.billConfigSet q) s = .next (answered { op := 0x0801, pair := 5, lo := 24, hi := 24 } q (
      let b := p.take 11 ++ zeros 1 ++ (p.drop 12).take 8 ++ zeros 4
      ((({ s with cfg := { s.cfg with bill := b } }).effect 5 q.tag 0x0801).armBoundary).ok))) ∧
  -- BILL_CONFIG_GET
  (∀ (q : Req) (s : State),
    Served { op := 0x0802, pair := 5 } q s true →
    exec (.billConfigGet q) s =
      .next (answered { op := 0x0802, pair := 5 } q (s.ok s.cfg.bill))) ∧
  -- BILL_CALENDAR_WRITE
  (∀ (q : Req) (s : State),
    let r := q.bulk.getD (0, 0)
    Served { op := 0x0803, pair := 5, bulk := 1 } q s true →
    ¬(r.2 < 2704 || !calendarOk (s.bulkGet 5 (r.1, 2704))) →
    ¬(s.store.activateAt.isSome) →
    exec (.billCalendarWrite q) s =
      .next (answered { op := 0x0803, pair := 5, bulk := 1 } q ((({ s with cfg := { s.cfg with calPassive := s.bulkGet 5 (r.1, 2704) } }).effect 5 q.tag 0x0803).ok))) ∧
  -- BILL_CALENDAR_READ
  (∀ (q : Req) (s : State),
    let r := q.bulk.getD (0, 0)
    Served { op := 0x0804, pair := 5, lo := 1, hi := 1, bulk := 1 } q s (u8 q.payload 0 ≤ 1) →
    exec (.billCalendarRead q) s = .next (answered { op := 0x0804, pair := 5, lo := 1, hi := 1, bulk := 1 } q (
      s.sized r 2704 <|
      let c := if u8 q.payload 0 = 0 then s.cfg.calActive else s.cfg.calPassive
      { st := s.bulkPut 5 r (padTo 2704 c), bulk := some r }))) ∧
  -- BILL_CALENDAR_ACTIVATE
  (∀ (q : Req) (s : State), Served { op := 0x0805, pair := 5, lo := 8, hi := 8 } q s true → fld q.payload 0 8 = 0 →
    exec (.billCalendarActivate q) s = .next (answered { op := 0x0805, pair := 5, lo := 8, hi := 8 } q
      ((({ s with store := { s.store with activateAt := none } }).effect 5 q.tag 0x0805).armBoundary).ok)) ∧
  -- BILL_CALENDAR_ACTIVATE
  (∀ (q : Req) (s : State), let t := fld q.payload 0 8
    Served { op := 0x0805, pair := 5, lo := 8, hi := 8 } q s true → s.bill.time < t → t ≠ 0 → s.store.activateAt = none → s.cfg.calPassive ≠ [] →
    exec (.billCalendarActivate q) s = .next (answered { op := 0x0805, pair := 5, lo := 8, hi := 8 } q
      ((({ s with store := { s.store with activateAt := some t } }).effect 5 q.tag 0x0805).armBoundary).ok)) ∧
  -- BILL_TIME_GET
  (∀ (q : Req) (s : State),
    Served { op := 0x0806, pair := 5 } q s true →
    exec (.billTimeGet q) s = .next (answered { op := 0x0806, pair := 5 } q (
      let off := (((s.localTime s.bill.time : Nat) : Int) - ((s.bill.time - 1000 * s.leap : Nat) : Int)) / 60000
      s.ok (toLE 8 s.bill.time ++ toLEs 2 off ++ toLE 1 s.leap ++ toLE 1 (s.timeSource + 128 * b2n s.bill.unver)
      ++ toLEs 4 s.bill.slew ++ toLE 8 s.bak.horizon ++ toLEs 4 s.bak.trim)))) ∧
  -- BILL_TIME_SET
  (∀ (q : Req) (s : State),
    let t := fld q.payload 0 8
    Served { op := 0x0807, pair := 5, lo := 8, hi := 8 } q s true →
    ¬(u8 s.cfg.bill 5 = 0) →
    ¬(s.bill.stepBusy) →
    exec (.billTimeSet q) s = .next (answered { op := 0x0807, pair := 5, lo := 8, hi := 8 } q (
      let d : Int := (t : Int) - (s.bill.time : Int)
      let kind := if d = 0 then 3 else if d.natAbs ≤ 2000 then 0 else if d < 0 then 1 else 2
      ((s.setTime t 1).effect 5 q.tag 0x0807).ok (toLE 1 kind ++ toLEs 8 d)))) ∧
  -- BILL_REGISTERS_GET
  (∀ (q : Req) (s : State),
    let o := u8 q.payload 0
    let k := if o < 24 then o else 24
    let r := q.bulk.getD (0, 0)
    Served { op := 0x0808, pair := 5, lo := 1, hi := 1, bulk := 1 } q s (o < 24 || o == 0xFF) →
    exec (.billRegistersGet q) s = .next (answered { op := 0x0808, pair := 5, lo := 1, hi := 1, bulk := 1 } q (
      s.sized r 264 <|
      let run := s.bill.dem.run.getD k (0, 0)
      { st := s.bulkPut 5 r (tregBytes (tregSite s.bill.tregI k) ++ tregBytes (tregSite s.bill.tregE k) ++ s.energyNow k
          ++ toLE 4 run.1 ++ toLE 4 run.2 ++ maxBytes (s.bill.dem.max.getD k (0, 0, 0, 0)))
        bulk := some r
        payload := toLE 1 s.bill.tariff ++ zeros 3 ++ toLE 4 s.bak.period ++ toLE 4 s.bill.lastLseq ++ toLE 4 s.store.gen }))) ∧
  -- BILL_PERIOD_GET
  (∀ (q : Req) (s : State),
    let ago := u8 q.payload 0
    let o := u8 q.payload 1
    let k := if o < 24 then o else 24
    let r := q.bulk.getD (0, 0)
    Served { op := 0x0809, pair := 5, lo := 2, hi := 2, bulk := 1 } q s (1 ≤ ago && ago ≤ 24 && (o < 24 || o == 0xFF)) →
    exec (.billPeriodGet q) s = .next (answered { op := 0x0809, pair := 5, lo := 2, hi := 2, bulk := 1 } q (
      s.sized r 192 <|
      match s.store.periods[ago - 1]? with
      | none => s.no 6
      | some c =>
        { st := s.bulkPut 5 r (tregBytes (c.tregI.getD k []) ++ tregBytes (c.tregE.getD k [])
            ++ maxBytes (c.max.getD k (0, 0, 0, 0)))
          bulk := some r
          payload := toLE 4 c.period ++ toLE 8 c.start ++ toLE 8 c.fin }))) ∧
  -- BILL_PERIOD_CLOSE
  (∀ (q : Req) (s : State),
    Served { op := 0x080A, pair := 5 } q s true →
    ¬(s.bill.closeAt.isSome) →
    exec (.billPeriodClose q) s =
      .next (answered { op := 0x080A, pair := 5 } q ((s.armClose 1 (some q.tag)).queued))) ∧
  -- LEDGER_READ
  (∀ (q : Req) (s : State),
    let first := u32 q.payload 0
    let n := u8 q.payload 4
    let r := q.bulk.getD (0, 0)
    Served { op := 0x080B, pair := 5, lo := 5, hi := 5, bulk := 1 } q s (1 ≤ n && n ≤ 32) →
    let oldest := (s.store.ledger.getLast?.map fun x => x.gen).getD (wrapInc 32 s.store.gen)
    ¬(!s.store.ledger.isEmpty && older32 first oldest) →
    ¬(r.2 < 128 * n) →
    exec (.ledgerRead q) s = .next (answered { op := 0x080B, pair := 5, lo := 5, hi := 5, bulk := 1 } q (
      let found := (s.store.ledger.reverse.filter fun x => !older32 x.gen first).take n
      { st := s.bulkPut 5 r (found.map LRec.bytes).flatten, bulk := some r
        payload := toLE 1 found.length ++ toLE 4 oldest ++ toLE 4 s.store.gen }))) ∧
  -- LEDGER_STATUS
  (∀ (q : Req) (s : State),
    Served { op := 0x080C, pair := 5 } q s true →
    exec (.ledgerStatus q) s = .next (answered { op := 0x080C, pair := 5 } q (
      let oldest := (s.store.ledger.getLast?.map fun x => x.gen).getD (wrapInc 32 s.store.gen)
      s.ok (toLE 4 s.store.gen ++ toLE 4 oldest ++ toLE 4 s.store.ledger.length ++ toLE 4 8388608 ++ toLE 8 s.bill.lastCommit
      ++ toLE 4 s.bill.lastLseq ++ toLE 1 (b2n (s.bill.running || s.bak.bPending)) ++ toLE 1 (b2n s.bill.chainBad))))) ∧
  -- BILL_COMMIT_NOW
  (∀ (q : Req) (z : State),
    Served { op := 0x080D, pair := 5 } q z true →
    let s := flown { op := 0x080D, pair := 5 } q z
    exec (.billCommitNow q) z =
      .next (ended { op := 0x080D, pair := 5 } q ((({ s with bill := { s.bill with cmds := s.bill.cmds ++ [(5, q.tag)] } }).trigger 8).wait))) ∧
  -- LEDGER_COMMIT
  (∀ (s : State), (s.fwRuns && s.en.loaded && s.commitDue) = true →
    let t := s.commitAll (if s.bill.plan.isSome then 2 else s.bill.trig.headD 8) 0
    t.bill.corr = none → exec (.ledgerCommit true false) s = .next t) ∧
  -- BILL_TIME_CORRECTION
  (∀ (delta : Int) (source : Nat) (s : State),
    (s.fwRuns && s.sourceRules source) = true →
    exec (.billTimeCorrection delta source) s =
      .next (s.offerCorrection (if source = 0 then (s.stepMs : Int) - (s.bill.time : Int) else delta) source)) ∧
  -- BOUNDARY_ARM
  (∀ (s : State),
    s.fwRuns = true →
    exec .boundaryArm s = .next (s.armBoundary)) ∧
  -- PERIODIC_COMMIT_TIMER
  (∀ (s : State),
    (s.fwRuns && s.commitAge && !s.bill.trig.contains 0) = true →
    exec .periodicCommitTimer s = .next (s.trigger 0)) ∧
  -- BOUNDARY_SEQUENCE
  (∀ (s : State),
    (s.fwRuns && s.bill.running && s.bill.plan.isNone) = true →
    exec .boundarySequence s = .next (
      let p := s.planFor s.bak.armTime s.bak.armKinds s.bak.armTnew s.bill.bLseq s.bill.bLate s.boundaryVals
      ({ s with bill := { s.bill with plan := some p, kinds := p.kinds } }).trigger 2)) ∧
  -- SLEW_END
  (∀ (s : State),
    exec .slewEnd s = .next ({ s with bill := { s.bill with slew := 0, slewAcc := 0 } }))

/-- Completion of the rows of Machine/Dlms.lean: the DLMS server. -/
def Obligations.DlmsRowsComplete : Prop :=
  -- DLMS_TUNNEL
  (∀ (q : Req) (s : State),
    let r := q.bulk.getD (0, 0)
    Served { op := 0x0901, pair := 5, lo := 4, hi := 4, bulk := 1 } q s (u8 q.payload 0 ≤ 7) →
    ¬(!wrapperOk (s.bulkGet 5 r)) →
    ¬(!bit (u8 s.cfg.dlms 0) 2) →
    exec (.dlmsTunnel q) s =
      .next (answered { op := 0x0901, pair := 5, lo := 4, hi := 4, bulk := 1 } q ((s.modDl fun d => { d with tunnel := some { tag := q.tag, channel := u8 q.payload 0, boff := r.1, blen := r.2 } }).wait))) ∧
  -- DLMS_CONFIG_SET
  (∀ (q : Req) (s : State),
    let p := q.payload
    Served { op := 0x0902, pair := 5, lo := 20, hi := 20 } q s (dlmsCfgOk p) →
    ¬((List.range 4).any fun r => !s.slotHas (u8 p (6 + 4 * r)) 1 || !s.slotHas (u8 p (7 + 4 * r)) 1) →
    exec (.dlmsConfigSet q) s =
      .next (answered { op := 0x0902, pair := 5, lo := 20, hi := 20 } q ((({ s with cfg := { s.cfg with dlms := p.take 1 ++ zeros 3 ++ p.drop 4 } }).effect 5 q.tag 0x0902).ok))) ∧
  -- DLMS_CONFIG_GET
  (∀ (q : Req) (s : State),
    Served { op := 0x0903, pair := 5 } q s true →
    exec (.dlmsConfigGet q) s =
      .next (answered { op := 0x0903, pair := 5 } q (s.ok s.cfg.dlms))) ∧
  -- DLMS_ASSOC_LIST
  (∀ (q : Req) (s : State),
    Served { op := 0x0904, pair := 5 } q s true →
    exec (.dlmsAssocList q) s = .next (answered { op := 0x0904, pair := 5 } q (
      let row (a : Assoc) : Bytes :=
        toLE 1 a.client ++ toLE 1 a.server ++ toLE 1 a.transport ++ toLE 1 a.channel ++ toLE 2 ((s.up - a.last) / 1000)
      s.ok (toLE 1 s.dl.assocs.length ++ zeros 1 ++ (s.dl.assocs.map row).flatten)))) ∧
  -- DLMS_ASSOC_ABORT
  (∀ (q : Req) (s : State),
    let t := u8 q.payload 0
    let c := u8 q.payload 1
    Served { op := 0x0905, pair := 5, lo := 2, hi := 2 } q s true →
    exec (.dlmsAssocAbort q) s = .next (answered { op := 0x0905, pair := 5, lo := 2, hi := 2 } q (
      let hit (a : Assoc) : Bool := (t == 0xFF || a.transport == t) && (c == 0xFF || a.channel == c)
      let gone := s.dl.assocs.filter hit
      let s := s.modDl fun d => { d with assocs := d.assocs.filter fun a => !hit a }
      (gone.foldl (fun s a => s.evtAssoc 5 a.client a.server a.transport a.channel) s).ok (toLE 1 gone.length)))) ∧
  -- DLMS_AARQ
  (∀ (client server transport channel : Nat) (h : Hls) (s : State), s.fwRuns = true → s.transportOpen transport = true →
    clientIdx client = none →
    exec (.dlmsAarq client server transport channel h) s = .next (s.rejectAarq client server transport channel 1)) ∧
  -- DLMS_AARQ
  (∀ (server transport channel : Nat) (h : Hls) (s : State), s.fwRuns = true → s.transportOpen transport = true →
    bit (u8 s.cfg.dlms 0) 0 = true → s.serverOk server = true → s.mechOk 0 h.mech = true → s.dl.assocs = [] → s.bak.dlLock.getD 0 false = false →
    let a : Assoc := {
      client := 16, server := server, transport := transport, channel := channel, last := s.up, ek := s.dlCfg 0 2, ak := s.dlCfg 0 3 }
    let z : State := { s with bak := { s.bak with dlFails := s.bak.dlFails.set 0 0 } }
    exec (.dlmsAarq 16 server transport channel h) s =
      .next (((z.modDl fun d => { d with assocs := [a] }).evtAssoc 0 16 server transport channel).respond 16 server transport channel 0 [])) ∧
  -- DLMS_AARQ
  (∀ (client server transport channel r : Nat) (h : Hls) (X : State), X.fwRuns = true → X.transportOpen transport = true →
    clientIdx client = some r → r ≠ 0 → X.serverOk server = true → X.mechOk r h.mech = true → X.dl.assocs = [] →
    (X.slotRefuses (X.dlCfg r 2) 1 1) = none → (X.slotRefuses (X.dlCfg r 3) 1 1) = none → X.bak.dlLock.getD r false = false →
    (X.draw).2.hlsOk r h (toLE 8 (X.draw).1) = true →
    let s := (X.draw).2
    let a : Assoc := {
      client := client, server := server, transport := transport, channel := channel, last := s.up, ek := s.dlCfg r 2, ak := s.dlCfg r 3 }
    let z : State := { s with bak := { s.bak with dlFails := s.bak.dlFails.set r 0 } }
    exec (.dlmsAarq client server transport channel h) X =
      .next (((z.modDl fun d => { d with assocs := [a] }).evtAssoc 0 client server transport channel).respond client server transport channel 0 [])) ∧
  -- DLMS_GET
  (∀ (a prot ivc : Nat) (l : List DlItem) (x : Assoc) (s : State), s.fwRuns = true → s.dl.assocs[a]? = some x →
    s.dlGranted x prot ivc = true → l ≠ [] → l.length ≤ 10 →
    let y := { x with last := s.up }
    let z := s.dlTaken a x ivc
    exec (.dlmsGet a (.items l) prot ivc) s = .next (z.answerAll a y (l.map (z.dlGet ((clientIdx x.client).getD 0) y)))) ∧
  -- DLMS_GET
  (∀ (a prot ivc n : Nat) (x : Assoc) (s : State), s.fwRuns = true → s.dl.assocs[a]? = some x → s.dlGranted x prot ivc = true →
    exec (.dlmsGet a (.next n) prot ivc) s = .next ((s.dlTaken a x ivc).nextBlock a { x with last := s.up } n)) ∧
  -- DLMS_SET
  (∀ (a prot ivc : Nat) (l : List DlWrite) (x : Assoc) (s : State), s.fwRuns = true → s.dl.assocs[a]? = some x →
    s.dlGranted x prot ivc = true → l ≠ [] → l.length ≤ 10 →
    let x' := { x with last := s.up }
    let z := s.dlTaken a x ivc
    let y := z.dlSets a ((clientIdx x.client).getD 0) x' l
    exec (.dlmsSet a l prot ivc) s = .next ((if y.1.contains 0 then y.2.commitIvc x' else y.2).replyAfter z.cr.ops.length {
      client := x.client, server := x.server, transport := x.transport, channel := x.channel, results := y.1.map fun e => (e, []) })) ∧
  -- DLMS_ACTION
  (∀ (a ic ob method : Nat) (val : Bytes) (prot ivc : Nat) (x : Assoc) (g : DlGroup) (s : State), s.fwRuns = true → s.dl.assocs[a]? = some x →
    s.dlGranted x prot ivc = true →
    let r := (clientIdx x.client).getD 0
    groupIn r x.server ic ob = some g → (rightsOf r g).2.2 = true →
    let x' := { x with last := s.up }
    let z := s.dlTaken a x ivc
    let y := z.dlAct x' ic ob method val
    exec (.dlmsAction a ic ob method val prot ivc) s = .next ((if y.1 = 0 then y.2.commitIvc x' else y.2).replyAfter z.cr.ops.length {
      client := x.client, server := x.server, transport := x.transport, channel := x.channel, results := [(y.1, [])] })) ∧
  -- DLMS_RLRQ
  (∀ (a : Nat) (x : Assoc) (s : State), s.fwRuns = true → s.dl.assocs[a]? = some x →
    exec (.dlmsRlrq a) s = .next ((s.endAssoc a 1).respond x.client x.server x.transport x.channel 0 [])) ∧
  -- DLMS_RLRQ
  (∀ (a : Nat) (s : State), s.fwRuns = false → s.rings.pause = true →
    exec (.dlmsRlrq a) s = .next (s.modDl fun d => { d with wait := d.wait ++ [.dlmsRlrq a] })) ∧
  -- DLMS_IDLE_RELEASE
  (∀ (a : Nat) (s : State),
    (s.fwRuns && s.dl.assocs[a]?.any fun x => decide (x.last + 300000 ≤ s.up)) = true →
    exec (.dlmsIdleRelease a) s = .next (s.endAssoc a 2)) ∧
  -- DLMS_LOCKOUT_END
  (∀ (client r : Nat) (s : State), clientIdx client = some r →
    exec (.dlmsLockoutEnd client) s =
      .next { s with bak := { s.bak with dlFails := s.bak.dlFails.set r 0, dlLock := s.bak.dlLock.set r false } })

/-- Completion of the rows of Machine/Credit.lean: accounts, vouchers and the keypad. -/
def Obligations.CreditRowsComplete : Prop :=
  -- CREDIT_ACCOUNT_SET
  (∀ (q : Req) (s : State),
    let p := q.payload
    Served { op := 0x0A01, pair := 6, lo := 12, hi := 12 } q s (u16 p 0 ≤ 1023 && u8 p 2 ≤ 15 && u32 p 4 ≤ 100000000) →
    exec (.creditAccountSet q) s =
      .next (answered { op := 0x0A01, pair := 6, lo := 12, hi := 12 } q ((s.queueCredit (.set (u16 p 0) (u8 p 2) (u32 p 4) (u32 p 8)) (some (6, q.tag))).wait))) ∧
  -- CREDIT_ACCOUNT_GET
  (∀ (q : Req) (s : State),
    let a := u16 q.payload 0
    Served { op := 0x0A02, pair := 6, lo := 2, hi := 2 } q s (a ≤ 1023) →
    exec (.creditAccountGet q) s = .next (answered { op := 0x0A02, pair := 6, lo := 2, hi := 2 } q (
      let x := s.acct a
      s.ok (toLE 2 a ++ toLE 1 x.flags ++ zeros 1 ++ toLE 4 x.ecLimit ++ toLE 4 x.minStart ++ toLEs 8 x.balance
      ++ toLE 1 (s.creditState a) ++ toLE 1 (s.sessionsOn a) ++ zeros 2 ++ toLE 4 x.lwm ++ toLE 4 x.usedMax)))) ∧
  -- CREDIT_ADJUST
  (∀ (q : Req) (s : State),
    let p := q.payload
    let a := u16 p 0
    Served { op := 0x0A03, pair := 6, lo := 16, hi := 16 } q s (a ≤ 1023 && balanceOk ((s.projected.acct a).balance + sfld p 4 8)) →
    exec (.creditAdjust q) s =
      .next (answered { op := 0x0A03, pair := 6, lo := 16, hi := 16 } q ((s.queueCredit (.adjust a (sfld p 4 8) (u32 p 12)) (some (6, q.tag))).wait))) ∧
  -- CREDIT_BIND
  (∀ (q : Req) (s : State), let id := (q.payload.drop 8).take (u8 q.payload 2)
    Served { op := 0x0A04, pair := 6, lo := 28, hi := 28 } q s (bindOk q.payload) → u8 q.payload 0 = 1 → (s.projected.bindingOf (u8 q.payload 1) id).isSome = true →
    exec (.creditBind q) s = .next (answered { op := 0x0A04, pair := 6, lo := 28, hi := 28 } q (s.queueCredit (.unbind (u8 q.payload 1) id) (some (6, q.tag))).wait)) ∧
  -- CREDIT_BIND
  (∀ (q : Req) (s : State), let id := (q.payload.drop 8).take (u8 q.payload 2)
    Served { op := 0x0A04, pair := 6, lo := 28, hi := 28 } q s (bindOk q.payload) → u8 q.payload 0 ≠ 1 → s.projected.bindingOf (u8 q.payload 1) id = none →
    s.projected.store.binds.length < 4096 →
    exec (.creditBind q) s =
      .next (answered { op := 0x0A04, pair := 6, lo := 28, hi := 28 } q (s.queueCredit (.bind (u8 q.payload 1) id (u16 q.payload 4)) (some (6, q.tag))).wait)) ∧
  -- CREDIT_CONFIG_SET
  (∀ (q : Req) (s : State),
    let p := q.payload
    Served { op := 0x0A05, pair := 6, lo := 108, hi := 108, chain := true } q s (creditCfgOk p) →
    ¬(!s.slotHas (u8 p 66) 4 || !s.slotHas (u8 p 67) 3) →
    exec (.creditConfigSet q) s =
      .next (answered { op := 0x0A05, pair := 6, lo := 108, hi := 108, chain := true } q ((({ s with cfg := { s.cfg with credit := creditStored p } }).effect 6 q.tag 0x0A05).ok))) ∧
  -- CREDIT_CONFIG_GET
  (∀ (q : Req) (s : State),
    Served { op := 0x0A06, pair := 6 } q s true →
    exec (.creditConfigGet q) s =
      .next (answered { op := 0x0A06, pair := 6 } q (s.ok s.cfg.credit))) ∧
  -- VOUCHER_ENTER
  (∀ (q : Req) (s : State), let text := (q.payload.drop 4).take 20
    Served { op := 0x0A07, pair := 6, lo := 24, hi := 24 } q s ((u8 q.payload 0 < 24 || u8 q.payload 0 == 0xFF) && text.all fun b => 48 ≤ b.toNat && b.toNat ≤ 57) →
    let e := s.enterVoucher (text.map fun b => b.toNat - 48) 1 (some (6, q.tag))
    e.1 = 0 → exec (.voucherEnter q) s = .next (answered { op := 0x0A07, pair := 6, lo := 24, hi := 24 } q e.2.2.wait)) ∧
  -- VOUCHER_STATUS
  (∀ (q : Req) (s : State),
    Served { op := 0x0A08, pair := 6 } q s true →
    exec (.voucherStatus q) s = .next (answered { op := 0x0A08, pair := 6 } q (
      s.ok (toLE 8 s.store.epoch ++ toLE 4 s.hourNow ++ toLE 1 s.bak.kpFails ++ zeros 3
      ++ toLE 4 (if s.bak.kpLock then (s.bak.kpUntil - s.bak.rtc + 999) / 1000 else 0))))) ∧
  -- GRACE_EXPIRY
  (∀ (a : Nat) (s : State),
    (s.fwRuns && s.cr.grace.any fun g => g.1 == a && decide (g.2 ≤ s.bak.rtc)) = true →
    exec (.graceExpiry a) s = .next (
      s.modCr fun c => { c with
      grace := c.grace.filter fun g => g.1 != a
      ranOut := if lookupD c.seen a 2 = 2 then c.ranOut ++ [a] else c.ranOut })) ∧
  -- KEYPAD_SCAN
  (∀ (cols : Nat) (s : State), (s.domOn 11 && s.fwRuns) = true → s.cr.row % 4 ≠ 3 →
    exec (.keypadScan cols) s = .next (s.modCr fun c => { c with
      row := (s.cr.row % 4 + 1) % 4, cols := s.cr.cols.set (s.cr.row % 4) (cols % 16) })) ∧
  -- KEYPAD_SCAN
  (∀ (cols : Nat) (s : State), (s.domOn 11 && s.fwRuns) = true → s.cr.row % 4 = 3 →
    ((List.range 16).filter fun k => bit ((s.cr.cols.set 3 (cols % 16)).getD (k / 4) 0) (k % 4)) = [] →
    exec (.keypadScan cols) s = .next (s.modCr fun c => { c with
      row := 0, cols := s.cr.cols.set 3 (cols % 16), cand := none, run := 0, multi := false, taken := false })) ∧
  -- KEY_ACCEPT
  (∀ (key : Nat) (s : State), (s.fwRuns && s.domOn 11 && s.cr.cand == some key && decide (4 ≤ s.cr.run) && !s.cr.taken && !s.cr.multi
      && decide (key < 16)) = true → s.confirmPending = false → u8 s.cfg.credit 68 ≠ 1 → key ≤ 9 →
    exec (.keyAccept key) s = .next (s.modCr fun c => { c with
      taken := true, keyAt := s.up, mode := if c.mode = 0 then (if c.ecReq then 4 else 3) else c.mode, digits := (c.digits ++ [key]).take 24 })) ∧
  -- KEY_ACCEPT
  (∀ (key : Nat) (s : State), (s.fwRuns && s.domOn 11 && s.cr.cand == some key && decide (4 ≤ s.cr.run) && !s.cr.taken && !s.cr.multi
      && decide (key < 16)) = true → s.confirmPending = false → u8 s.cfg.credit 68 = 1 →
    exec (.keyAccept key) s = .next ((s.modCr fun c => { c with taken := true, keyAt := s.up }).emit 6 0x0A82
      (toLE 1 key ++ zeros 3 ++ toLE 8 s.bak.rtc))) ∧
  -- CREDIT_EVALUATE
  (∀ (s : State),
    s.fwRuns = true →
    exec .creditEvaluate s =
      .next ((s.modCr fun c => { c with friendly := c.friendly || s.inFriendly }).evaluateAll)) ∧
  -- FRIENDLY_WINDOW_END
  (∀ (s : State),
    (s.fwRuns && s.cr.friendly && !s.inFriendly) = true →
    exec .friendlyWindowEnd s = .next ((s.modCr fun c => { c with friendly := false }).evaluateAll)) ∧
  -- CREDIT_EPOCH_CHECK
  (∀ (s : State),
    let h := s.hourNow
    let day := s.bill.time / dayMs
    let gone := decide (99999 < h)
    (s.fwRuns && decide (99000 ≤ h) && (s.cr.epochDay != some day || (gone && !s.cr.epochDone))) = true →
    exec .creditEpochCheck s = .next (
      (s.modCr fun c => { c with epochDay := some day, epochDone := c.epochDone || gone }).emit 6 0x0A83
      (toLE 1 (b2n gone) ++ zeros 3 ++ toLE 4 h))) ∧
  -- KEYPAD_ENTRY_TIMEOUT
  (∀ (s : State),
    (decide (s.cr.keyAt + 10000 ≤ s.up)) = true →
    exec .keypadEntryTimeout s = .next (s.dropEntry)) ∧
  -- OUTLET_SELECT_EXPIRY
  (∀ (s : State),
    (decide (s.cr.selAt + 60000 ≤ s.up)) = true →
    exec .outletSelectExpiry s = .next (s.modCr fun c => { c with sel := none })) ∧
  -- KEYPAD_LOCKOUT_END
  (∀ (s : State),
    (decide (s.bak.kpUntil ≤ s.bak.rtc)) = true →
    exec .keypadLockoutEnd s = .next ({ s with bak := { s.bak with kpLock := false } })) ∧
  -- KEYPAD_QUIET_WAKE
  (∀ (s : State),
    (s.pwr.state == .quiet) = true →
    exec .keypadQuietWake s =
      .next ((s.modCr fun c => { c with taken := true, multi := true, cand := none, run := 0 }).wake 1))

/-- Completion of the rows of Machine/Line.lean: the mains modem. -/
def Obligations.MainsModemRowsComplete : Prop :=
  -- LINE_CONFIG_SET
  (∀ (q : Req) (s : State),
    let p := q.payload
    Served { op := 0x0B01, pair := 7, lo := 16, hi := 16 } q s (lineCfgOk p) →
    ¬(u8 p 10 ≠ 0 && !s.slotHas (u8 p 11) 2) →
    exec (.lineConfigSet q) s = .next (answered { op := 0x0B01, pair := 7, lo := 16, hi := 16 } q (
      let fresh := u8 p 1 ≠ u8 s.cfg.line 1 || fld p 4 4 ≠ fld s.cfg.line 4 4
      let s := if u8 p 0 = 0 then s.lineStop else s
      let s := { s with cfg := { s.cfg with line := p.take 15 ++ zeros 1 } }
      let s := if fresh then s.modLine fun l => { l with peers := [] } else s
      (s.effect 7 q.tag 0x0B01).ok))) ∧
  -- LINE_CONFIG_GET
  (∀ (q : Req) (s : State),
    Served { op := 0x0B02, pair := 7 } q s true →
    exec (.lineConfigGet q) s =
      .next (answered { op := 0x0B02, pair := 7 } q (s.ok s.cfg.line))) ∧
  -- LINE_STATUS_GET
  (∀ (q : Req) (s : State),
    Served { op := 0x0B03, pair := 7 } q s true →
    s.lineOn = true →
    exec (.lineStatusGet q) s = .next (answered { op := 0x0B03, pair := 7 } q (
      s.ok (toLE 1 s.lineState ++ toLE 1 s.met.refph ++ toLE 2 (s.angleAt s.met.sinceZc) ++ toLE 2 s.linePer
      ++ toLE 1 s.line.peers.length ++ toLE 1 (s.slot s.lkey).state ++ toLE 4 s.line.fcnt ++ toLE 4 s.line.blanked
      ++ toLE 4 s.line.erased)))) ∧
  -- LINE_PEERS
  (∀ (q : Req) (s : State),
    Served { op := 0x0B04, pair := 7, bulk := 1 } q s true →
    s.lineOn = true →
    exec (.linePeers q) s = .next (answered { op := 0x0B04, pair := 7, bulk := 1 } q (
      let r := q.bulk.getD (0, 0)
      let l := (s.line.peers.take 64).take (r.2 / 16)
      { st := s.bulkPut 7 r (l.map LinePeer.bytes).flatten, payload := toLE 1 l.length, bulk := some (r.1, 16 * l.length) }))) ∧
  -- LINE_SEND
  (∀ (q : Req) (s : State),
    let p := q.payload
    let n := u16 p 4
    let dst := u16 p 0
    let ack := bit (u8 p 3) 0
    Served { op := 0x0B05, pair := 7, lo := 8, hi := 448, chain := true } q s (u8 p 2 ≤ 1 && decide (1 ≤ n) && decide (n ≤ 399) && decide (8 + n ≤ p.length) && !(ack && dst == 0xFFFF)) →
    s.lineOn = true →
    ¬(16 ≤ (s.line.queue.filter fun f => f.tag.isSome).length) →
    exec (.lineSend q) s = .next (answered { op := 0x0B05, pair := 7, lo := 8, hi := 448, chain := true } q (
      (s.lineEnq {
      proto := 2, dst := dst, prio := u8 p 2, ackreq := ack, protect := s.lineSec != 0
      body := (p.drop 8).take n, tag := some q.tag }).queued))) ∧
  -- LINE_MAP_GET
  (∀ (q : Req) (s : State),
    let p := q.payload
    let r := q.bulk.getD (0, 0)
    Served { op := 0x0B06, pair := 7, lo := 3, hi := 3, bulk := 1 } q s (u8 p 2 ≤ 1) →
    s.lineOn = true →
    exec (.lineMapGet q) s = .next (answered { op := 0x0B06, pair := 7, lo := 3, hi := 3, bulk := 1 } q (
      s.sized r 132 <|
      let x := s.peer (u16 p 0)
      match if u8 p 2 = 0 then x.held else x.issued.head? with
      | none => s.no 6
      | some m =>
        { st := s.bulkPut 7 r (toLE 1 m.setno ++ zeros 1 ++ toLE 2 m.life ++ m.maps), bulk := some (r.1, 132) }))) ∧
  -- LINE_MAP_REQUEST
  (∀ (q : Req) (s : State),
    let a := u16 q.payload 0
    Served { op := 0x0B07, pair := 7, lo := 2, hi := 2 } q s true →
    s.lineOn = true →
    ¬((s.peer a).reqTag.isSome) →
    exec (.lineMapRequest q) s = .next (answered { op := 0x0B07, pair := 7, lo := 2, hi := 2 } q (
      let s := s.hear a fun x => { x with reqTag := some q.tag }
      (if (s.peer a).reqs = 0 then s.requestSet a else s).queued))) ∧
  -- LINE_STATS_GET
  (∀ (q : Req) (s : State),
    Served { op := 0x0B08, pair := 7 } q s true →
    s.lineOn = true →
    exec (.lineStatsGet q) s =
      .next (answered { op := 0x0B08, pair := 7 } q (s.ok (s.line.stats.map (toLE 4)).flatten))) ∧
  -- ZERO_CROSSING
  (∀ (c period since : Nat) (s : State), let z := (s.modMet fun m => { m with sinceZc := since }).zeroCross c period
    s.metaOn = true → (z.fwRuns && z.lineOn) = false → exec (.zeroCrossing c true period since) s = .next z) ∧
  -- LINE_FRAME_RX
  (∀ (f : LineFrame) (s : State),
    (s.fwRuns && s.lineOn && !s.lineCalRuns) = true →
    exec (.lineFrameRx f) s = .next (
      let s := s.lineReceive f
      let f := s.lineCombine f
      match f.ftype with
      | 0 => s.gotData f
      | 1 => s.gotAck f
      | 2 => s.gotAck f
      | _ => s)) ∧
  -- LINE_ACK_TX
  (∀ (ang kind info : Nat) (s : State), (s.fwRuns && s.lineOn && !s.lineCalRuns) = true → s.line.ack = some (kind, info) →
    let fch := fchOf kind 0 0 0 (ang0Of ang 0) s.linePer info
    exec (.lineAckTx ang) s = .next ((s.modLine fun l => { l with ack := none }).onAir { fch := fch, incs := fchSymbols fch })) ∧
  -- LINE_CONTENTION_SLOT
  (∀ (pre : Bool) (level draw i : Nat) (s : State), (s.fwRuns && s.lineOn) = true → s.mediumBusy pre level = false → s.nextTx = some i →
    (s.line.queue.getD i {}).backoff = none →
    exec (.lineContentionSlot pre level draw) s = .next (s.modTx i fun f =>
      { f with backoff := some (draw % (8 * 2 ^ f.be)), ready := draw % (8 * 2 ^ f.be) == 0 })) ∧
  -- LINE_CONTENTION_SLOT
  (∀ (pre : Bool) (level draw i b : Nat) (s : State), (s.fwRuns && s.lineOn) = true → s.mediumBusy pre level = true → s.nextTx = some i →
    (s.line.queue.getD i {}).backoff = some b →
    exec (.lineContentionSlot pre level draw) s = .next (s.retryTx i)) ∧
  -- LINE_CONTENTION_SLOT
  (∀ (pre : Bool) (level draw i b : Nat) (s : State), (s.fwRuns && s.lineOn) = true → s.mediumBusy pre level = false → s.nextTx = some i →
    (s.line.queue.getD i {}).backoff = some b →
    exec (.lineContentionSlot pre level draw) s = .next (s.modTx i fun f => { f with backoff := some (b - 1), ready := b ≤ 1 })) ∧
  -- LINE_FRAME_TX
  (∀ (ang i : Nat) (s : State), (s.fwRuns && s.lineOn && !s.lineCalRuns) = true →
    (s.line.queue.findIdx? fun f => f.ready) = some i → (s.line.queue.getD i {}).protect = false → (s.line.queue.getD i {}).type ≠ 0 →
    exec (.lineFrameTx ang) s = .next (s.sendTx i ang (s.line.queue.getD i {}))) ∧
  -- MAP_REQUEST_TIMEOUT
  (∀ (a : Nat) (s : State),
    (s.fwRuns && s.lineOn && decide ((s.peer a).reqs ≠ 0)) = true →
    exec (.mapRequestTimeout a) s = .next (s.requestFailed a)) ∧
  -- ROBUST_HOLD_END
  (∀ (a : Nat) (s : State),
    (s.fwRuns && s.lineOn && (s.peer a).hold) = true →
    exec (.robustHoldEnd a) s = .next ((s.modPeer a fun x => { x with hold := false }).requestSet a)) ∧
  -- MAP_EXPIRY
  (∀ (a : Nat) (m : MapSet) (s : State), (s.fwRuns && s.lineOn) = true → (s.peer a).held = some m →
    let z := (s.modPeer a fun x => { x with held := none }).evtMap a 2 m.setno (mapOffset m.maps) 0
    exec (.mapExpiry a true) s = .next (if (z.peer a).reqs = 0 then z.requestSet a else z)) ∧
  -- LINE_ACK_WAIT_EXPIRY
  (∀ (i : Nat) (s : State), (s.fwRuns && s.lineOn) = true → (s.line.queue.findIdx? fun f => f.waitAck) = some i →
    exec .lineAckWaitExpiry s = .next (s.failTx i)) ∧
  -- SECTOR_TIMING_LOST
  (∀ (s : State),
    (s.fwRuns && s.lineOn && s.met.hold && s.line.timing != 3) = true →
    exec .sectorTimingLost s = .next (
      let s := (s.raise 86 0 0).modLine fun l => { l with
        timing := 3, peers := l.peers.map fun x => { x with deltas := [], offset := 3 } }
      s.issueAll s.line.peers))

/-- Completion of the rows of Machine/Nfc.lean: the NFC reader and the NFC tag. -/
def Obligations.NfcRowsComplete : Prop :=
  -- NFC_CONFIG_SET
  (∀ (q : Req) (s : State),
    Served { op := 0x0D01, pair := 9, lo := 8, hi := 8 } q s (nfcCfgOk q.payload) →
    exec (.nfcConfigSet q) s =
      .next (answered { op := 0x0D01, pair := 9, lo := 8, hi := 8 } q ((({ s with cfg := { s.cfg with nfc := q.payload } }).effect 9 q.tag 0x0D01).ok))) ∧
  -- NFC_CONFIG_GET
  (∀ (q : Req) (s : State),
    Served { op := 0x0D02, pair := 9 } q s true →
    exec (.nfcConfigGet q) s =
      .next (answered { op := 0x0D02, pair := 9 } q (s.ok s.cfg.nfc))) ∧
  -- NFC_TAG_READ
  (∀ (q : Req) (s : State),
    let n := u8 q.payload 0
    let r := q.bulk.getD (0, 0)
    Served { op := 0x0D03, pair := 9, lo := 1, hi := 1, bulk := 1 } q s (decide (n ≤ 63)) →
    s.fieldOn = true →
    exec (.nfcTagRead q) s = .next (answered { op := 0x0D03, pair := 9, lo := 1, hi := 1, bulk := 1 } q (
      s.sized r 256 <|
      if 4 ≤ n && n ≤ 7 then s.no 4
      else { st := s.bulkPut 9 r (Memory.readN s.store.tagMem (256 * n) 256), bulk := some (r.1, 256) }))) ∧
  -- NFC_TAG_WRITE
  (∀ (q : Req) (s : State),
    let p := q.payload
    let n := u16 p 2
    let r := q.bulk.getD (0, 0)
    Served { op := 0x0D04, pair := 9, lo := 4, hi := 4, bulk := 1 } q s (u8 p 0 ≤ 63 && decide (1 ≤ n) && decide (u8 p 1 + n ≤ 256)) →
    s.fieldOn = true →
    exec (.nfcTagWrite q) s = .next (answered { op := 0x0D04, pair := 9, lo := 4, hi := 4, bulk := 1 } q (
      s.sized r n <|
      if u8 p 0 = 0 || (2 ≤ u8 p 0 && u8 p 0 ≤ 31) then s.no 4
      else
        let w : TagWrite := { host := some q.tag, page := u8 p 0, off := u8 p 1, data := s.bulkGet 9 (r.1, n) }
        (s.modTag fun t => { t with writes := queueWrite w t.writes }).wait))) ∧
  -- NFC_TAG_KEY
  (∀ (q : Req) (s : State),
    let n := u8 q.payload 0
    Served { op := 0x0D05, pair := 9, lo := 1, hi := 1 } q s true →
    s.fieldOn = true →
    let x := s.slot n
    ¬(x.state = 0 || !s.slotHas n 7) →
    ¬(x.state = 2) →
    exec (.nfcTagKey q) s =
      .next (answered { op := 0x0D05, pair := 9, lo := 1, hi := 1 } q ((({ s with store := { s.store with tagKey := some (n, x.mat) } }).effect 9 q.tag 0x0D05).ok))) ∧
  -- NFC_TAG_STATUS
  (∀ (q : Req) (s : State),
    Served { op := 0x0D06, pair := 9 } q s true →
    exec (.nfcTagStatus q) s = .next (answered { op := 0x0D06, pair := 9 } q (
      s.ok (toLE 1 s.nfc.tag.st ++ toLE 1 (b2n (!s.fieldOn)) ++ toLE 1 (b2n s.store.tagKey.isSome) ++ zeros 1
      ++ toLE 4 s.store.tagSessions ++ toLE 4 s.store.tagFails)))) ∧
  -- NFC_POLL
  (∀ (field : Nat) (typeA : List Card) (typeB : List (List (List Bytes))) (t : Nat) (id : Bytes) (s : State), s.readerOn = true → field ≤ 5 →
    ((typeALoop typeA).filter (·.part4)) = [] →
    let z := s.openGates [4]
    ((typeALoop typeA).map fun x => (0, x.uid)) ++ ((typeBLoop (u8 z.cfg.nfc 4) 8 typeB).map fun x => (1, x)) = [(t, id)] →
    exec (.nfcPoll field typeA typeB) s = .next (z.oneCard t id)) ∧
  -- NFC_POLL
  (∀ (field : Nat) (typeA : List Card) (typeB : List (List (List Bytes))) (s : State), s.readerOn = true → field ≤ 5 →
    typeALoop typeA = [] → typeBLoop (u8 (s.openGates [4]).cfg.nfc 4) 8 typeB = [] →
    exec (.nfcPoll field typeA typeB) s = .next (s.openGates [4])) ∧
  -- TAG_FIELD_ON
  (∀ (h : Nat) (s : State),
    let harvest := decide (15 ≤ h)
    (nfcFitted && s.nfc.tag.st == 0 && !s.nfc.tag.guard && (harvest || (s.fieldOn && decide (8 ≤ h)))) = true →
    exec (.tagFieldOn h) s = .next (
      let s := s.modNfc fun n => { n with suspended := true }
      let s := s.modTag fun t => { t with
        harvest := harvest, guard := s.tagCompat, st := if s.tagCompat then 0 else 1, ready := false, hello := none, cnt := 0
        keys := ([], []), wrong := 0, resp := none }
      s.tagUid.evtTag 0 0)) ∧
  -- TAG_REQA
  (∀ (wupa : Bool) (s : State),
    let t := s.nfc.tag
    (t.st == 1 || (t.st == 2 && wupa)) = true →
    exec (.tagReqa wupa) s = .next ((s.modTag fun t => { t with ready := true }).tagSay 0 [0x04, 0x00])) ∧
  -- TAG_ANTICOLLISION
  (∀ (nvb : Nat) (bits : Bytes) (s : State),
    s.nfc.tag.ready = true →
    exec (.tagAnticollision nvb bits) s = .next (
      let known := 8 * (nvb / 16) + nvb % 16 - 16
      let own := ((uidBcc s.nfc.tag.uid).map sentBits).flatten
      if own.take known == ((bits.map sentBits).flatten).take known then
        s.tagSay 0 ((uidBcc s.nfc.tag.uid).drop (known / 8))
      else s.modTag fun t => { t with ready := false })) ∧
  -- TAG_SELECT
  (∀ (uid : Bytes) (s : State),
    s.nfc.tag.ready = true →
    exec (.tagSelect uid) s = .next (
      if uid.take 4 == s.nfc.tag.uid then (s.modTag fun t => { t with ready := false, st := 3 }).tagSay 0 [0x20]
      else s.modTag fun t => { t with ready := false })) ∧
  -- PAGE_READ
  (∀ (page off le : Nat) (mac : Bytes) (s : State), s.nfc.tag.st = 4 → page ≤ 3 → 1 ≤ le → le ≤ 240 → off + le ≤ 256 →
    exec (.pageRead page off le mac) s = .next ((s.modTag fun t => { t with hello := none }).tagAnswer 0x9000
      (Memory.readN s.store.tagMem (256 * page + off) le))) ∧
  -- PAGE_WRITE
  (∀ (page off : Nat) (data mac : Bytes) (s : State), s.nfc.tag.st = 5 → s.store.tagKey.isSome = true →
    let z := s.modTag fun t => { t with hello := none }
    mac = z.tagMac (toLE 1 0x84 ++ [0x33] ++ toLE 1 page ++ toLE 1 off ++ toLE 1 data.length ++ data) →
    32 ≤ page → page < 64 → data ≠ [] → data.length ≤ 240 → off + data.length ≤ 256 →
    exec (.pageWrite page off data mac) s = .next (z.modTag fun t => { t with
      resp := none, writes := queueWrite { host := none, page := page, off := off, data := data } t.writes })) ∧
  -- TAG_HELLO
  (∀ (rndr k : Bytes) (n : Nat) (s : State), s.nfc.tag.st = 4 → rndr.length = 16 → s.store.tagKey = some (n, k) → s.nfc.tag.locked = false →
    let z := (s.modTag fun t => { t with hello := none }).draw
    let rndt := toLE 16 z.1
    exec (.tagHello rndr) s = .next ((z.2.modTag fun t => { t with hello := some (rndr, rndt) }).tagSay 0x9000
      (rndt ++ padTo 16 (Config.cmac k (0x54 :: rndr ++ rndt ++ tagId))))) ∧
  -- TAG_PROVE
  (∀ (pr rndr rndt k : Bytes) (n : Nat) (s : State), 4 ≤ s.nfc.tag.st → pr.length = 16 → s.store.tagKey = some (n, k) →
    s.nfc.tag.hello = some (rndr, rndt) → pr = padTo 16 (Config.cmac k (0x52 :: rndt ++ rndr ++ tagId)) →
    let d := padTo 32 (kdf k (ascii "MZ-TAG") (rndr ++ rndt) 32)
    exec (.tagProve pr) s = .next ((((s.modTag fun t => { t with hello := none }).modTag fun t => { t with
      st := 5, cnt := 0, keys := (d.take 16, d.drop 16), wrong := 0 }).tagSay 0x9000 []).evtTag 2 0)) ∧
  -- TAG_PAGE_COMMIT
  (∀ (w : TagWrite) (rest : List TagWrite) (tag : Nat) (s : State), s.nfc.tag.writes = w :: rest → w.host = some tag →
    let z := s.modTag fun t => { t with writes := rest }
    let t : State := { z with store := { z.store with tagMem := Memory.writeN z.store.tagMem (256 * w.page + w.off) w.data } }
    exec (.tagPageCommit true false) s = .next ((t.effect 9 tag 0x0D04).finish 9 tag 0 [])) ∧
  -- NFC_POLL_RESUME
  (∀ (s : State),
    (s.nfc.tag.st == 0 && !s.nfc.tag.guard && decide (s.nfc.goneAt + 100 ≤ s.up)) = true →
    exec .nfcPollResume s = .next (s.modNfc fun n => { n with suspended := false })) ∧
  -- TAG_GUARD_END
  (∀ (s : State),
    s.nfc.tag.guard = true →
    exec .tagGuardEnd s = .next (s.modTag fun t => { t with guard := false, st := 1 })) ∧
  -- TAG_FIELD_OFF
  (∀ (s : State),
    (s.nfc.tag.st != 0 || s.nfc.tag.guard) = true →
    exec .tagFieldOff s = .next ((s.tagDown.modNfc fun n => { n with goneAt := s.up }).evtTag 1 0)) ∧
  -- TAG_RATS
  (∀ (s : State),
    (s.nfc.tag.st == 3) = true →
    exec .tagRats s =
      .next ((s.modTag fun t => { t with st := 4 }).tagSay 0 [5, 0x78, 0, if s.tagCompat then 0x80 else 0x70, 0])) ∧
  -- TAG_HALT
  (∀ (s : State),
    (3 ≤ s.nfc.tag.st) = true →
    exec .tagHalt s =
      .next (s.modTag fun t => { t with st := 2, ready := false, hello := none, keys := ([], []), cnt := 0, resp := none })) ∧
  -- TAG_AUTH_LOCK_END
  (∀ (s : State),
    (s.nfc.tag.st == 0 && !s.nfc.tag.guard) = true →
    exec .tagAuthLockEnd s = .next (s.modTag fun t => { t with locked := false })) ∧
  -- TAG_HOST_LOCK_TIMEOUT
  (∀ (h w : TagWrite) (rest : List TagWrite) (s : State), s.nfc.tag.writes = h :: rest →
    (rest.find? fun w => w.host.isSome && h.host.isNone && w.page == h.page) = some w →
    exec .tagHostLockTimeout s =
      .next ((s.modTag fun t => { t with writes := h :: rest.erase w }).finish 9 (w.host.getD 0) 2 [])) ∧
  -- LAST_STATE_UPDATE
  (∀ (s : State),
    s.fwRuns = true →
    exec .lastStateUpdate s = .next (s.lastState.tagAuthCheck))

/-- Completion of the rows of Machine/Lsw.lean: the load switches and limp-home. -/
def Obligations.LoadSwitchRowsComplete : Prop :=
  -- LSW_CHAN_SET
  (∀ (q : Req) (s : State),
    let p := q.payload
    Served { op := 0x0E01, pair := 10, lo := 8, hi := 8 } q s (lswCfgOk p) →
    exec (.lswChanSet q) s =
      .next (answered { op := 0x0E01, pair := 10, lo := 8, hi := 8 } q ((({ s with cfg := { s.cfg with lsw := s.cfg.lsw.set (u8 p 0) (p.take 5 ++ zeros 1 ++ p.drop 6) } }).effect 10 q.tag 0x0E01).ok))) ∧
  -- LSW_CHAN_GET
  (∀ (q : Req) (s : State),
    let c := u8 q.payload 0
    Served { op := 0x0E02, pair := 10, lo := 1, hi := 1 } q s (plainCh c) →
    exec (.lswChanGet q) s =
      .next (answered { op := 0x0E02, pair := 10, lo := 1, hi := 1 } q (s.ok (s.cfg.lsw.getD c [])))) ∧
  -- LSW_OUT
  (∀ (q : Req) (s : State), let c := u8 q.payload 0
    Served { op := 0x0E03, pair := 10, lo := 4, hi := 4 } q s (plainCh (u8 q.payload 0) && u8 q.payload 1 ≤ 1 &&
      (u8 q.payload 1 == 0 || (decide (1 ≤ u16 q.payload 2) && decide (u16 q.payload 2 ≤ 1000)))) → u8 q.payload 1 = 0 →
    exec (.lswOut q) s =
      .next (answered { op := 0x0E03, pair := 10, lo := 4, hi := 4 } q ((s.modLswCh c fun x => { x with on := false, wait := false, tries := 0 }).lswFollow c).ok)) ∧
  -- LSW_OUT
  (∀ (q : Req) (s : State), let c := u8 q.payload 0
    Served { op := 0x0E03, pair := 10, lo := 4, hi := 4 } q s (plainCh (u8 q.payload 0) && u8 q.payload 1 ≤ 1 &&
      (u8 q.payload 1 == 0 || (decide (1 ≤ u16 q.payload 2) && decide (u16 q.payload 2 ≤ 1000)))) → u8 q.payload 1 = 1 → s.limpRules c = false → (s.lswCh c).latch = false → (s.lswCh c).stop = false →
    let z := (s.modLswCh c fun x => { x with on := true, duty := u16 q.payload 2 }).lswFollow c
    exec (.lswOut q) s = .next (answered { op := 0x0E03, pair := 10, lo := 4, hi := 4 } q (if (z.lswCh c).driven then z.lswApply c else z).ok)) ∧
  -- LSW_STATUS_GET
  (∀ (q : Req) (s : State),
    let c := u8 q.payload 0
    Served { op := 0x0E04, pair := 10, lo := 1, hi := 1 } q s (plainCh c) →
    exec (.lswStatusGet q) s = .next (answered { op := 0x0E04, pair := 10, lo := 1, hi := 1 } q (
      let x := s.lswCh c
      s.ok (toLE 1 c ++ toLE 1 (s.lswState c) ++ toLE 1 x.tries ++ toLE 1 (b2n x.open_ + 2 * b2n x.clamp + 4 * b2n (s.limpRules c))
      ++ toLE 2 x.cur ++ toLE 2 x.appl ++ toLEs 2 x.temp)))) ∧
  -- LSW_BANK_GET
  (∀ (q : Req) (s : State),
    let k := u8 q.payload 0
    Served { op := 0x0E05, pair := 10, lo := 1, hi := 1 } q s (k ≤ 3) →
    exec (.lswBankGet q) s = .next (answered { op := 0x0E05, pair := 10, lo := 1, hi := 1 } q (
      let b := s.lswBank k
      s.ok (toLE 2 b.v ++ toLE 2 b.cur ++ toLEs 2 b.temp ++ toLE 1 (b2n b.uv + 2 * b2n b.trip + 4 * b2n b.frozen) ++ zeros 1)))) ∧
  -- LSW_CLEAR
  (∀ (q : Req) (s : State), let c := u8 q.payload 0
    Served { op := 0x0E06, pair := 10, lo := 1, hi := 1 } q s (plainCh c) → (s.lswCh c).latch = true → (s.lswCh c).trip = false → (s.lswBank (bankOf c)).trip = false →
    let retry := s.lswWant c && !(s.lswCh c).stop && decide ((s.lswCh c).tries < u8 (s.lswCh c).run 3)
    exec (.lswClear q) s = .next (answered { op := 0x0E06, pair := 10, lo := 1, hi := 1 } q (s.modLswCh c fun x => { x with
      latch := false, wait := retry, waitAt := s.up, stop := (s.lswCh c).stop || (s.lswWant c && !retry) }).ok)) ∧
  -- LSW_CLEAR
  (∀ (q : Req) (s : State), let c := u8 q.payload 0
    Served { op := 0x0E06, pair := 10, lo := 1, hi := 1 } q s (plainCh c) → (s.lswCh c).latch = false → (s.lswCh c).stop = true →
    exec (.lswClear q) s =
      .next (answered { op := 0x0E06, pair := 10, lo := 1, hi := 1 } q ((s.modLswCh c fun x => { x with stop := false, tries := 0 }).lswFollow c).ok)) ∧
  -- PWM_PERIOD
  (∀ (v cur : List Nat) (temp : List Int) (bcur : List Nat) (btemp : List Int) (s : State),
    exec (.pwmPeriod v cur temp bcur btemp) s = .next (
      let bank (k : Nat) (b : LswBank) : LswBank := { b with
        v := v.getD k b.v, cur := bcur.getD k b.cur, temp := btemp.getD k b.temp }
      let ch (c : Nat) (x : LswCh) : LswCh := ({ x with cur := cur.getD c x.cur, temp := temp.getD c x.temp } : LswCh).olSample
      let s := { s with lsw := { s.lsw with banks := s.lsw.banks.mapIdx bank, chans := vmapi ch s.lsw.chans } }
      let thaw (s : State) (k : Nat) : State :=
        if (List.range 80).any (fun c => bankOf c == k && (s.lswCh c).limit) then s.modLswBank k fun b => { b with limAt := s.up }
        else s.modLswBank k fun b => { b with frozen := b.frozen && decide (s.up ≤ b.limAt + 2) }
      let s := (List.range 4).foldl thaw s
      (plainChs.filter fun c => (s.lswCh c).driven).foldl State.lswApply s)) ∧
  -- LSW_CURRENT_LIMIT
  (∀ (ch ma : Nat) (s : State),
    (decide (ch < 80) && ((s.lswCh ch).driven || !plainCh ch)) = true →
    exec (.lswCurrentLimit ch ma) s = .next (
      let on := decide (ilim ch ≤ ma)
      (s.modLswCh ch fun x => { x with
        limit := on, cur := 2 * min ma (ilim ch), limAt := if x.limit = on then x.limAt else s.up }).limitSample (bankOf ch))) ∧
  -- LSW_BLANK_END
  (∀ (ch : Nat) (s : State),
    ((s.lswCh ch).driven && (s.lswCh ch).blank && decide ((s.lswCh ch).onAt + u8 (s.lswCh ch).run 2 ≤ s.up)) = true →
    exec (.lswBlankEnd ch) s = .next (
      let s := s.modLswCh ch fun x => { x with blank := false, limAt := max x.limAt s.up }
      if (s.lswCh ch).limit then s.lswTripOff ch else s)) ∧
  -- LSW_OVERCURRENT
  (∀ (ch : Nat) (s : State),
    (plainCh ch && (s.lswCh ch).driven && (s.lswCh ch).limit && !(s.lswCh ch).blank && decide ((s.lswCh ch).limAt + 1 ≤ s.up)) = true →
    exec (.lswOvercurrent ch) s = .next (s.lswTripOff ch)) ∧
  -- LSW_RETRY
  (∀ (ch : Nat) (s : State),
    let x := s.lswCh ch
    (x.wait && !x.latch && !(s.lswBank (bankOf ch)).uv && decide (x.waitAt + 10 * 2 ^ x.tries ≤ s.up)) = true →
    exec (.lswRetry ch) s =
      .next ((s.lswOn ch).modLswCh ch fun x => { x with tries := x.tries + 1, confirm := true })) ∧
  -- LSW_RETRY_CONFIRM
  (∀ (ch : Nat) (s : State),
    let x := s.lswCh ch
    (x.driven && x.confirm && !x.blank && !x.limit && decide (x.limAt + 1000 ≤ s.up)) = true →
    exec (.lswRetryConfirm ch) s =
      .next (((s.transient 51 ch 0).evtLsw ch 6).modLswCh ch fun x => { x with tries := 0, confirm := false })) ∧
  -- LSW_THERMAL_TRIP
  (∀ (k : Nat) (t : Int) (s : State), k < 80 → 1750 ≤ t → exec (.lswThermalTrip false k t) s =
    .next (((s.modLswCh k fun x => { x with trip := true, temp := t }).lswLatch 2 k).limitSample (bankOf k))) ∧
  -- LSW_THERMAL_TRIP
  (∀ (k : Nat) (t : Int) (s : State), k < 4 → 1650 ≤ t →
    let hit := (List.range 80).filter fun c => bankOf c == k && ((s.lswCh c).limit || (s.lswCh c).blank)
    exec (.lswThermalTrip true k t) s =
      .next ((hit.foldl (State.lswLatch · 3) (s.modLswBank k fun b => { b with trip := true, temp := t })).limitSample k)) ∧
  -- LSW_THERMAL_RELEASE
  (∀ (k : Nat) (t : Int) (s : State), t < 1550 →
    exec (.lswThermalRelease false k t) s = .next (s.modLswCh k fun x => { x with trip := false, temp := t })) ∧
  -- LSW_THERMAL_RELEASE
  (∀ (k : Nat) (t : Int) (s : State), t < 1450 →
    exec (.lswThermalRelease true k t) s = .next (s.modLswBank k fun b => { b with trip := false, temp := t })) ∧
  -- LSW_OPEN_LOAD
  (∀ (ch : Nat) (s : State),
    let x := s.lswCh ch
    (plainCh ch && x.olOn && decide (40 ≤ x.olRun)) = true →
    exec (.lswOpenLoad ch) s = .next (
      let below := !x.open_
      let s := s.modLswCh ch fun x => { x with open_ := below, olRun := 0 }
      if below then (s.raise 53 ch 0).evtLsw ch 4 else s.evtLsw ch 5)) ∧
  -- BANK_UNDERVOLTAGE
  (∀ (k mv10 : Nat) (s : State),
    (decide (k < 4) && !(s.lswBank k).uv && decide (mv10 < 600)) = true →
    exec (.bankUndervoltage k mv10) s = .next (
      let s := s.modLswBank k fun b => { b with uv := true, v := mv10 }
      let s := (plainChs.filter fun c => bankOf c == k).foldl State.lswOff s
      let s := s.cutPulses (outlets.filter fun o => o.val / 6 == k)
      ((s.limitSample k).raise 54 k mv10).evtBank k 0)) ∧
  -- BANK_RECOVER
  (∀ (k mv10 : Nat) (s : State),
    (decide (k < 4) && (s.lswBank k).uv && decide (650 < mv10)) = true →
    exec (.bankRecover k mv10) s = .next (
      let s := s.modLswBank k fun b => { b with uv := false, v := mv10 }
      let restart (s : State) (c : Nat) : State := (s.modLswCh c fun x => { x with wait := x.wait && x.latch }).lswFollow c
      ((plainChs.filter fun c => bankOf c == k).foldl restart s).evtBank k 1)) ∧
  -- LIMP_HOME_INPUT
  (∀ (low : Bool) (s : State),
    exec (.limpHomeInput low) s = .next (s.setLimp low s.lsw.wdg)) ∧
  -- LHIN_CHANGE
  (∀ (n : Nat) (high : Bool) (s : State),
    (decide (n < 8)) = true →
    exec (.lhinChange n high) s = .next (
      let s := { s with lsw := { s.lsw with lhin := putBit s.lsw.lhin n high } }
      if s.limpOn then s.limpFollow plainChs else s)) ∧
  -- CC_WATCHDOG_EXPIRY
  (∀ (s : State),
    (s.host.ready && !s.rings.pause) = true →
    exec .ccWatchdogExpiry s = .next (s.setLimp s.lsw.lhpin true))

/-- Completion of the rows of Machine/Panel.lean, Machine/Keys.lean: the display panel and the key store. -/
def Obligations.PanelAndKeyRowsComplete : Prop :=
  -- PANEL_CONFIG_SET
  (∀ (q : Req) (s : State),
    let p := q.payload
    Served { op := 0x0F01, pair := 10, lo := 4, hi := 4 } q s (u8 p 1 ≤ 1 && 50 ≤ u8 p 2 && u8 p 2 ≤ 100) →
    exec (.panelConfigSet q) s = .next (answered { op := 0x0F01, pair := 10, lo := 4, hi := 4 } q (
      let ref := u8 s.cfg.panel 2
      let s := ({ s with cfg := { s.cfg with panel := p.take 3 ++ zeros 1 } }).effect 10 q.tag 0x0F01
      (if u8 p 2 ≠ ref && s.panelOn then s.buildMap else s).ok))) ∧
  -- PANEL_CONFIG_GET
  (∀ (q : Req) (s : State),
    Served { op := 0x0F02, pair := 10 } q s true →
    exec (.panelConfigGet q) s =
      .next (answered { op := 0x0F02, pair := 10 } q (s.ok s.cfg.panel))) ∧
  -- PANEL_WRITE
  (∀ (q : Req) (s : State),
    let p := q.payload
    let n := u16 p 2
    let r := q.bulk.getD (0, 0)
    Served { op := 0x0F03, pair := 10, lo := 4, hi := 4, bulk := 1 } q s (decide (1 ≤ n) && decide (u16 p 0 + n ≤ 3840)) →
    s.panelOn = true →
    exec (.panelWrite q) s = .next (answered { op := 0x0F03, pair := 10, lo := 4, hi := 4, bulk := 1 } q (
      s.sized r n <|
      if s.panel.flip.isSome then s.no 2
      else
        let d := s.bulkGet 10 (r.1, n)
        (s.modPanel fun x => { x with mem := Memory.writeN x.mem (3840 * (1 - x.front) + u16 p 0) d }).ok))) ∧
  -- PANEL_FLIP
  (∀ (q : Req) (s : State),
    Served { op := 0x0F04, pair := 10 } q s true →
    s.panelOn = true →
    ¬(s.panel.flip.isSome) →
    exec (.panelFlip q) s =
      .next (answered { op := 0x0F04, pair := 10 } q ((s.modPanel fun p => { p with flip := some q.tag }).queued))) ∧
  -- PANEL_CURVE_SET
  (∀ (q : Req) (s : State),
    let r := q.bulk.getD (0, 0)
    let c := s.bulkGet 10 (r.1, 96)
    Served { op := 0x0F05, pair := 10, bulk := 1 } q s true →
    s.panelOn = true →
    exec (.panelCurveSet q) s = .next (answered { op := 0x0F05, pair := 10, bulk := 1 } q (
      s.sized r 96 <|
      if !curveOk c then s.no 5 else (({ s with cfg := { s.cfg with curve := c } }).buildMap.effect 10 q.tag 0x0F05).ok))) ∧
  -- PANEL_CURVE_GET
  (∀ (q : Req) (s : State),
    let r := q.bulk.getD (0, 0)
    Served { op := 0x0F06, pair := 10, bulk := 1 } q s true →
    s.panelOn = true →
    exec (.panelCurveGet q) s = .next (answered { op := 0x0F06, pair := 10, bulk := 1 } q (
      s.sized r 96
      { st := s.bulkPut 10 r s.cfg.curve, bulk := some (r.1, 96) }))) ∧
  -- PANEL_STATUS_GET
  (∀ (q : Req) (s : State),
    Served { op := 0x0F07, pair := 10 } q s true →
    s.panelOn = true →
    exec (.panelStatusGet q) s = .next (answered { op := 0x0F07, pair := 10 } q (
      let p := s.panel
      s.ok (toLE 1 p.front ++ toLE 1 (b2n p.flip.isSome + 2 * b2n p.blanked + 4 * b2n s.confirmShown) ++ toLE 2 p.vpan
      ++ toLE 4 (maxOf (p.stress.map fun e => e.2 / 2 ^ 32)) ++ toLE 8 p.saved)))) ∧
  -- PANEL_STRESS_READ
  (∀ (q : Req) (s : State),
    let row := u8 q.payload 0
    let r := q.bulk.getD (0, 0)
    Served { op := 0x0F08, pair := 10, lo := 1, hi := 1, bulk := 1 } q s (row ≤ 47) →
    s.panelOn = true →
    exec (.panelStressRead q) s = .next (answered { op := 0x0F08, pair := 10, lo := 1, hi := 1, bulk := 1 } q (
      s.sized r 480 <|
      let d := (List.range 160).flatMap fun c => toLE 3 (lookupD s.panel.stress (160 * row + c) 0 / 2 ^ 32)
      { st := s.bulkPut 10 r d, bulk := some (r.1, 480) }))) ∧
  -- VPAN_LOW
  (∀ (v : Nat) (s : State),
    (s.panelOn && decide (v < 65)) = true →
    exec (.vpanLow v) s =
      .next ((s.modPanel fun p => { p with vpan := v, blanked := true, resume := false }).raise 55 0xFFFF v)) ∧
  -- VPAN_RECOVER
  (∀ (v : Nat) (s : State),
    (s.panelOn && decide (68 < v)) = true →
    exec (.vpanRecover v) s = .next (s.modPanel fun p => { p with vpan := v, resume := p.blanked })) ∧
  -- PANEL_FRAME
  (∀ (s : State),
    s.panelOn = true →
    exec .panelFrame s = .next (
      let s := match s.panel.flip with
        | some t => (s.modPanel fun p => { p with front := 1 - p.front, flip := none }).finish 10 t 0 []
        | none => s
      let s := if s.panel.resume then s.modPanel fun p => { p with blanked := false, resume := false } else s
      if s.fwRuns then s.integrate else s)) ∧
  -- STRESS_SAVE
  (∀ (s : State),
    (s.fwRuns && decide (s.panel.stressAt + 3600000 ≤ s.up)) = true →
    exec .stressSave s = .next (
      let x : StressSlot := { stamp := s.bak.rtc, recs := s.panel.stress }
      let s := { s with store := { s.store with
        stress := s.store.stress.set s.store.stressNext (some x), stressNext := 1 - s.store.stressNext } }
      (s.modPanel fun p => { p with saved := s.bak.rtc, stressAt := s.up }).buildMap)) ∧
  -- KEY_INFO
  (∀ (q : Req) (s : State),
    let n := u8 q.payload 0
    Served { op := 0x1001, pair := 11, lo := 1, hi := 1 } q s true →
    exec (.keyInfo q) s = .next (answered { op := 0x1001, pair := 11, lo := 1, hi := 1 } q (
      let x := s.slot n
      let len := if x.state ≠ 1 then 0 else if x.type = 16 then x.mat.length else publicLen x.type
      s.ok (toLE 1 x.type ++ toLE 1 x.state ++ toLE 2 x.engines ++ toLE 2 x.uses ++ toLE 1 x.parent ++ toLE 1 x.cls ++ toLE 4 x.gen
      ++ toLE 2 len)))) ∧
  -- KEY_UPDATE
  (∀ (q : Req) (z : State), Served { op := 0x1002, pair := 11, bulk := 1 } q z true →
    let s := (flown { op := 0x1002, pair := 11, bulk := 1 } q z).openGates [0, 1, 2]
    let m := parseKeyMsg (z.bulkGet 11 (q.bulk.getD (0, 0)))
    m.ok = true → m.device = Config.uid.toNat → s.keyAuthOk m = true → s.store.keyCtr.getD m.cls 0 < m.counter → m.op ≠ 0 →
    ((s.slot m.slot).state = 0 ∨ (s.slot m.slot).cls = m.cls) →
    let t := s.applyKeyMsg m [] q.tag
    exec (.keyUpdate q) z = .next (ended { op := 0x1002, pair := 11, bulk := 1 } q (t.ok (toLE 1 m.slot ++ toLE 4 (t.slot m.slot).gen)))) ∧
  -- KEY_DERIVE
  (∀ (q : Req) (s : State),
    let p := q.payload
    let a := u8 p 0
    let c := u8 p 1
    let eng := u16 p 4
    let use := u16 p 6
    Served { op := 0x1003, pair := 11, lo := 40, hi := 40 } q s (1 ≤ u8 p 2 && u8 p 2 ≤ 2 && 1 ≤ u8 p 3 && u8 p 3 ≤ 16 && decide (eng < 1024) && decide (use < 2048)) →
    s.slotRefuses a 9 7 = none →
    ¬(c < 16 || !s.childOf c a eng use (s.slot a).cls || isAnchor use) →
    exec (.keyDerive q) s = .next (answered { op := 0x1003, pair := 11, lo := 40, hi := 40 } q (
      let s := s.openGates [1]
      let mat := kdf (s.slot a).mat ((p.drop 8).take (u8 p 3)) ((p.drop 24).take 16) (secretLen (u8 p 2))
      let s := s.installKey c 1 {
        type := u8 p 2, engines := eng, uses := use, parent := a, cls := (s.slot a).cls, mat := padTo (secretLen (u8 p 2)) mat }
      (s.keyCommit.effect 11 q.tag 0x1003).ok (toLE 4 (s.slot c).gen)))) ∧
  -- KEY_REVOKE
  (∀ (q : Req) (s : State),
    let n := u8 q.payload 0
    Served { op := 0x1004, pair := 11, lo := 1, hi := 1 } q s (16 ≤ n) →
    ¬(!s.slotValid n) →
    exec (.keyRevoke q) s = .next (answered { op := 0x1004, pair := 11, lo := 1, hi := 1 } q (
      let k := (s.descendants n).length + 1
      (((s.revokeTree n 2).keyCommit).effect 11 q.tag 0x1004).ok (toLE 1 k)))) ∧
  -- KEY_PUBLIC_READ
  (∀ (q : Req) (s : State),
    let n := u8 q.payload 0
    let r := q.bulk.getD (0, 0)
    Served { op := 0x1005, pair := 11, lo := 1, hi := 1, bulk := 1 } q s true →
    let x := s.slot n
    let k := if x.type = 16 then x.mat.length else publicLen x.type
    ¬(x.state ≠ 1 || k = 0) →
    exec (.keyPublicRead q) s = .next (answered { op := 0x1005, pair := 11, lo := 1, hi := 1, bulk := 1 } q (
      let b := if 7 ≤ x.type then x.mat else padTo k (Config.publicOf x.type x.mat)
      { st := s.bulkPut 11 r b, bulk := some (r.1, min r.2 k) }))) ∧
  -- KEY_STATUS
  (∀ (q : Req) (s : State),
    Served { op := 0x1006, pair := 11 } q s true →
    exec (.keyStatus q) s = .next (answered { op := 0x1006, pair := 11 } q (
      let used := s.store.keys.filter fun e => e.2.state != 0
      let rev := s.store.keys.filter fun e => e.2.state == 2
      s.ok (toLE 4 s.store.keyGen ++ toLE 2 used.length ++ toLE 2 rev.length
      ++ toLE 1 (b2n s.key.trngOk + 2 * b2n s.key.rebuilt + 4 * b2n s.key.repaired) ++ zeros 3
      ++ (s.store.keyCtr.map (toLE 8)).flatten)))) ∧
  -- TRNG_HEALTH_FAIL
  (∀ (again : Bool) (test : Nat) (s : State),
    (s.domOn 6 && s.key.trngOk) = true →
    exec (.trngHealthFail again test) s = .next (
      if again then (s.modKey fun k => { k with trngOk := false, trngRestart := true }).raiseRetried 102 0xFFFF test
      else (s.modKey fun k => { k with trngRestart := true }).transient 102 0xFFFF test)) ∧
  -- KEY_REMASK
  (∀ (s : State),
    (s.domOn 6 && s.key.trngOk) = true →
    exec .keyRemask s = .next (s.remask ((List.range 256).filter fun n => s.slotValid n)))

/-- Completion of the rows of Machine/Firmware.lean, Machine/Handover.lean: firmware staging, activation, handover and ROM
service. -/
def Obligations.FirmwareRowsComplete : Prop :=
  -- FW_STATUS
  (∀ (q : Req) (s : State),
    Served { op := 0x1201, pair := 12 } q s true →
    exec (.fwStatus q) s = .next (answered { op := 0x1201, pair := 12 } q (
      let route := match s.fw.rx, s.fw.ho with
        | some x, _ => x.route
        | none, some h => h.route
        | none, none => 0
      s.ok (toLE 1 s.fw.run ++ toLE 1 s.stagedCode ++ toLE 1 route ++ toLE 1 s.fw.lastHo ++ toLE 4 s.received
      ++ toLE 4 s.store.minSvn ++ toLE 4 ((s.store.staged.map fun i => i.ver).getD 0)
      ++ toLE 4 (((s.store.slots.getD (1 - s.fw.run) none).map fun i => i.ver).getD 0))))) ∧
  -- FW_STAGE_BEGIN
  (∀ (q : Req) (s : State),
    Served { op := 0x1202, pair := 12, lo := 4, hi := 4 } q s true →
    exec (.fwStageBegin q) s = .next (answered { op := 0x1202, pair := 12, lo := 4, hi := 4 } q (
      let x := s.stageBegin 1 (u32 q.payload 0)
      { st := x.2, status := x.1 }))) ∧
  -- FW_STAGE_DATA
  (∀ (q : Req) (s : State),
    Served { op := 0x1203, pair := 12, lo := 4, hi := 4, bulk := 1 } q s true →
    exec (.fwStageData q) s = .next (answered { op := 0x1203, pair := 12, lo := 4, hi := 4, bulk := 1 } q (
      let x := s.stageData 1 (u32 q.payload 0) (s.bulkGet 12 (q.bulk.getD (0, 0)))
      if x.1 = 0 then x.2.ok (toLE 4 x.2.received) else { st := x.2, status := x.1 }))) ∧
  -- FW_STAGE_VERIFY
  (∀ (q : Req) (s : State),
    Served { op := 0x1204, pair := 12 } q s true →
    exec (.fwStageVerify q) s = .next (answered { op := 0x1204, pair := 12 } q (
      let x := s.stageVerify 1 (some q.tag)
      if x.1 = 0 then x.2.queued else { st := x.2, status := x.1 }))) ∧
  -- FW_ACTIVATE
  (∀ (q : Req) (s : State), Served { op := 0x1205, pair := 12 } q s true → s.activateRefused = none →
    exec (.fwActivate q) s = .next ((s.complete 12 0x1205 q.tag 0 [] none).activate 1)) ∧
  -- FW_STAGE_ABORT
  (∀ (q : Req) (s : State),
    Served { op := 0x1206, pair := 12 } q s true →
    exec (.fwStageAbort q) s = .next (answered { op := 0x1206, pair := 12 } q (
      let x := s.stageAbort 1
      { st := x.2, status := x.1 }))) ∧
  -- IMAGE_COPY_DONE
  (∀ (copyok loadok : Bool) (h : Handover) (s : State), s.fw.ho = some h → h.step = 3 → h.roll = none → s.rings.pause = true →
    exec (.imageCopyDone copyok loadok) s = .next { s with
      store := { s.store with slots := s.store.slots.set (1 - s.fw.run) (if copyok && loadok then s.store.staged else none) }
      fw := { s.fw with ho := some { h with step := if copyok && loadok then 5 else 3 } } }) ∧
  -- HANDOVER_ROLLBACK
  (∀ (step : Nat) (h : Handover) (s : State), s.fw.ho = some h → s.rings.pause = true → h.dead = false → h.roll = none →
    exec (.handoverRollback step) s =
      .next (({ s with fw := { s.fw with ho := some { h with roll := some step } } }).raise 105 0xFFFF step)) ∧
  -- HANDOVER_ROLLBACK
  (∀ (step : Nat) (h : Handover) (s : State), s.fw.ho = some h → s.rings.pause = true → h.dead = false → h.roll.isSome = true →
    exec (.handoverRollback step) s =
      .next (({ s with fw := { s.fw with ho := some { h with dead := true } } }).setLimp s.lsw.lhpin true)) ∧
  -- SVC_FRAME
  (∀ (b : Bytes) (s : State), (s.svcServes && s.svc.srdy) = true → svcFrameOk b = false →
    exec (.svcFrame b) s =
      .next (({ s with svc := { s.svc with resp := svcFrameOf 5 (u8 b 1) [] } }).raise 107 0xFFFF (u8 b 0))) ∧
  -- SVC_FRAME
  (∀ (b : Bytes) (s : State), (s.svcServes && s.svc.srdy) = true → svcFrameOk b = true → s.svc.last ≠ some (u8 b 1) → 1 ≤ u8 b 0 → u8 b 0 ≤ 7 →
    let payload := (b.drop 4).take (u16 b 2)
    svcLenOk (u8 b 0) payload.length = true →
    exec (.svcFrame b) s = .next { s with svc := { s.svc with pend := some (u8 b 0, u8 b 1, payload), srdy := false } }) ∧
  -- SVC_STAGE_BEGIN
  (∀ (seq total : Nat) (s : State), s.svc.pend = some (2, seq, toLE 4 total) → s.svcServes = true →
    exec (.svcStageBegin total) s = .next ((s.stageBegin 2 total).2.svcReply seq (s.stageBegin 2 total).1 [])) ∧
  -- SVC_STAGE_DATA
  (∀ (seq offset : Nat) (data : Bytes) (s : State), s.svc.pend = some (3, seq, toLE 4 offset ++ data) → s.svcServes = true →
    let x := s.stageData 2 offset data
    x.1 = 0 → exec (.svcStageData offset data) s = .next (x.2.svcReply seq 0 (toLE 4 x.2.received))) ∧
  -- SVC_ACTIVATE
  (∀ (seq : Nat) (s : State), s.svc.pend = some (5, seq, []) → s.svcServes = true →
    s.fw.rom = false → s.activateRefused = none → exec (.svcActivate 0) s = .next ((s.activate 2).svcReply seq 0 [])) ∧
  -- SVC_ACTIVATE
  (∀ (seq slots : Nat) (s : State), s.svc.pend = some (5, seq, toLE 1 slots) → s.svcServes = true →
    s.fw.rom = true → exec (.svcActivate slots) s = .next ((s.install slots).2.svcReply seq (s.install slots).1 [])) ∧
  -- FW_VERIFY_DONE
  (∀ (tag : Nat) (x : FwRx) (s : State), s.fw.rx = some x → x.verify = true → x.route = 1 → s.fwRuns = true → x.tag = some tag →
    let y := s.verified x
    exec .fwVerifyDone s = .next (y.2.2.finish 12 tag (vstepStatus y.1) (if y.1 = 0 then toLE 1 0 ++ y.2.1 else []))) ∧
  -- STAGING_TIMEOUT
  (∀ (x : FwRx) (s : State), s.fw.rx = some x → x.verify = false → x.at_ + 60000 ≤ s.up →
    exec .stagingTimeout s = .next (({ s with fw := { s.fw with rx := none } }).evtStage 4 0 x.route)) ∧
  -- HANDOVER_RESTART
  (∀ (h : Handover) (s : State), s.fw.ho = some h → h.step = 1 → s.fwRuns = true →
    let z := (s.setAll s.reduction outlets).abandonVisit
    exec .handoverRestart s = .next { z with
      bud := { z.bud with reduced := true, rounds := [], shareSeen := false, reg := s.reduction }
      rings := { z.rings with pause := true, pauseOver := false }
      fw := { z.fw with ho := some { h with step := 3, since := z.up } } }) ∧
  -- SVC_INFO
  (∀ (seq : Nat) (s : State), s.svc.pend = some (1, seq, []) → s.svcServes = true →
    exec .svcInfo s = .next (s.svcReply seq 0
      (s.version ++ toLE 1 (b2n s.fw.rom) ++ toLE 1 s.stagedCode ++ zeros 2 ++ toLE 4 s.received))) ∧
  -- SVC_VERIFY
  (∀ (seq : Nat) (x : FwRx) (s : State), s.svc.pend = some (4, seq, []) → s.svcServes = true →
    s.fw.rx = some x → x.route = 2 →
    let y := s.verified x
    exec .svcVerify s = .next (y.2.2.svcReply seq (vstepStatus y.1) (toLE 1 y.1 ++ y.2.1))) ∧
  -- SVC_ABORT
  (∀ (seq : Nat) (s : State), s.svc.pend = some (6, seq, []) → s.svcServes = true →
    exec .svcAbort s = .next ((s.stageAbort 2).2.svcReply seq (s.stageAbort 2).1 [])) ∧
  -- SVC_EXIT
  (∀ (seq : Nat) (s : State), s.svc.pend = some (7, seq, []) → s.svcServes = true →
    s.fw.rom = true → exec .svcExit s = .next ((s.svcReply seq 0 []).resetTo 8)) ∧
  -- HANDOVER_ACCEPT
  (∀ (dropped : List Nat) (h : Handover) (s : State), s.fw.ho = some h → s.rings.pause = true → h.dead = false → s.powered = true →
    s.pwr.hold = false → (h.roll.isSome || h.step == 5) = true → (s.resume h dropped).host.xact = none →
    exec (.handoverAccept dropped) s = .next (s.resume h dropped)) ∧
  -- PAUSE_LIMIT
  (∀ (h : Handover) (s : State), s.fw.ho = some h → h.since + 1500 ≤ s.up → s.rings.pause = true → s.host.xact = none →
    exec .pauseLimit s = .next { s with rings := { s.rings with pauseOver := true } })
end

