-- ==== Sys2Proof/Laws/Bytes.lean ====
section
/-! SUPPORT. Fields of byte lists: what is written little-endian is read back, and CRC-32C is a 32-bit number. -/

namespace Sys2Proof.Machine

theorem ofLE_toLE (k n : Nat) : ofLE (toLE k n) = n % 256 ^ k := by
  induction k generalizing n with
  | zero => simp [toLE, ofLE, Nat.mod_one]
  | succ k ih =>
    simp only [toLE, ofLE, ih, BitVec.toNat_ofNat]
    rw [show (256 : Nat) ^ (k + 1) = 256 * 256 ^ k from by rw [Nat.pow_succ, Nat.mul_comm], Nat.mod_mul]

@[simp] theorem toLE_length (k n : Nat) : (toLE k n).length = k := by
  induction k generalizing n with
  | zero => rfl
  | succ k ih => simp [toLE, ih]

@[simp] theorem padTo_length (k : Nat) (p : Bytes) : (padTo k p).length = k := by
  simp only [padTo, List.length_take, List.length_append, List.length_replicate]
  omega

/-- A field laid down after `a` is read back at `a`'s length. -/
theorem fld_append_toLE (a b : Bytes) (k n : Nat) : fld (a ++ (toLE k n ++ b)) a.length k = n % 256 ^ k := by
  have h : ((a ++ (toLE k n ++ b)).drop a.length).take k = toLE k n := by
    rw [List.drop_left, List.take_append_of_le_length (by simp), List.take_of_length_le (by simp)]
  rw [fld, h, ofLE_toLE]

theorem crcBit_lt {c : Nat} (h : c < 4294967296) : crcBit c < 4294967296 := by
  unfold crcBit
  split
  · exact Nat.xor_lt_two_pow (n := 32) (by omega) (by decide)
  · omega

theorem crcByte_lt {c : Nat} (h : c < 4294967296) (b : Byte) : crcByte c b < 4294967296 := by
  have hb : b.toNat < 2 ^ 32 := Nat.lt_trans b.isLt (by decide)
  exact crcBit_lt (crcBit_lt (crcBit_lt (crcBit_lt (crcBit_lt (crcBit_lt (crcBit_lt (crcBit_lt
    (Nat.xor_lt_two_pow (n := 32) h hb))))))))

theorem crc32c_lt (p : Bytes) : crc32c p < 4294967296 := by
  have go : ∀ (l : Bytes) (c : Nat), c < 4294967296 → l.foldl crcByte c < 4294967296 := by
    intro l
    induction l with
    | nil => exact fun c h => h
    | cons b t ih => exact fun c h => ih _ (crcByte_lt h b)
  exact Nat.xor_lt_two_pow (n := 32) (go p _ (by decide)) (by decide)

end Sys2Proof.Machine
end

