-- ==== Sys2Proof/Laws/State.lean ====
section
/-! SUPPORT. What each update of State leaves: the part it writes read back, and every other field as it was. -/

namespace Sys2Proof.Machine

/-! ### One outlet and one ring pair -/

@[simp] theorem o_setO (s : State) (o p : ONum) (x : Outlet) : (s.setO o x).o p = if p = o then x else s.o p := by
  by_cases h : p = o
  · subst h; simp [State.setO, State.o, Vector.get_eq_getElem]
  · rw [if_neg h]; simp only [State.setO, State.o, Vector.get_eq_getElem]
    exact Vector.getElem_set_ne _ _ (fun e => h (Fin.ext e.symm))

@[simp] theorem pr_setPr (s : State) (n m : PNum) (p : Pair) : (s.setPr n p).pr m = if m = n then p else s.pr m := by
  by_cases h : m = n
  · subst h; simp [State.setPr, State.pr, Vector.get_eq_getElem]
  · rw [if_neg h]; simp only [State.setPr, State.pr, Vector.get_eq_getElem]
    exact Vector.getElem_set_ne _ _ (fun e => h (Fin.ext e.symm))

@[simp] theorem setO_pending (s : State) (o : ONum) (x : Outlet) : (s.setO o x).pending = s.pending := rfl
@[simp] theorem setO_started (s : State) (o : ONum) (x : Outlet) : (s.setO o x).started = s.started := rfl
@[simp] theorem setO_free (s : State) (o : ONum) (x : Outlet) : (s.setO o x).free = s.free := rfl
@[simp] theorem setO_up (s : State) (o : ONum) (x : Outlet) : (s.setO o x).up = s.up := rfl
@[simp] theorem setO_fwAct (s : State) (o : ONum) (x : Outlet) : (s.setO o x).fwAct = s.fwAct := rfl
@[simp] theorem setO_host (s : State) (o : ONum) (x : Outlet) : (s.setO o x).host = s.host := rfl
@[simp] theorem setO_rings (s : State) (o : ONum) (x : Outlet) : (s.setO o x).rings = s.rings := rfl
@[simp] theorem setO_flt (s : State) (o : ONum) (x : Outlet) : (s.setO o x).flt = s.flt := rfl
@[simp] theorem setO_tmr (s : State) (o : ONum) (x : Outlet) : (s.setO o x).tmr = s.tmr := rfl
@[simp] theorem setO_clk (s : State) (o : ONum) (x : Outlet) : (s.setO o x).clk = s.clk := rfl
@[simp] theorem setO_pwr (s : State) (o : ONum) (x : Outlet) : (s.setO o x).pwr = s.pwr := rfl
@[simp] theorem setO_isl (s : State) (o : ONum) (x : Outlet) : (s.setO o x).isl = s.isl := rfl
@[simp] theorem setO_bak (s : State) (o : ONum) (x : Outlet) : (s.setO o x).bak = s.bak := rfl
@[simp] theorem setO_cfg (s : State) (o : ONum) (x : Outlet) : (s.setO o x).cfg = s.cfg := rfl
@[simp] theorem setO_store (s : State) (o : ONum) (x : Outlet) : (s.setO o x).store = s.store := rfl
@[simp] theorem setO_plc (s : State) (o : ONum) (x : Outlet) : (s.setO o x).plc = s.plc := rfl
@[simp] theorem setO_bud (s : State) (o : ONum) (x : Outlet) : (s.setO o x).bud = s.bud := rfl
@[simp] theorem setO_lat (s : State) (o : ONum) (x : Outlet) : (s.setO o x).lat = s.lat := rfl
@[simp] theorem setO_met (s : State) (o : ONum) (x : Outlet) : (s.setO o x).met = s.met := rfl
@[simp] theorem setO_en (s : State) (o : ONum) (x : Outlet) : (s.setO o x).en = s.en := rfl
@[simp] theorem setO_bill (s : State) (o : ONum) (x : Outlet) : (s.setO o x).bill = s.bill := rfl
@[simp] theorem setO_dl (s : State) (o : ONum) (x : Outlet) : (s.setO o x).dl = s.dl := rfl
@[simp] theorem setO_cr (s : State) (o : ONum) (x : Outlet) : (s.setO o x).cr = s.cr := rfl
@[simp] theorem setO_line (s : State) (o : ONum) (x : Outlet) : (s.setO o x).line = s.line := rfl
@[simp] theorem setO_net (s : State) (o : ONum) (x : Outlet) : (s.setO o x).net = s.net := rfl
@[simp] theorem setO_nfc (s : State) (o : ONum) (x : Outlet) : (s.setO o x).nfc = s.nfc := rfl
@[simp] theorem setO_lsw (s : State) (o : ONum) (x : Outlet) : (s.setO o x).lsw = s.lsw := rfl
@[simp] theorem setO_panel (s : State) (o : ONum) (x : Outlet) : (s.setO o x).panel = s.panel := rfl
@[simp] theorem setO_key (s : State) (o : ONum) (x : Outlet) : (s.setO o x).key = s.key := rfl
@[simp] theorem setO_maint (s : State) (o : ONum) (x : Outlet) : (s.setO o x).maint = s.maint := rfl
@[simp] theorem setO_fw (s : State) (o : ONum) (x : Outlet) : (s.setO o x).fw = s.fw := rfl
@[simp] theorem setO_svc (s : State) (o : ONum) (x : Outlet) : (s.setO o x).svc = s.svc := rfl
@[simp] theorem setO_bnw (s : State) (o : ONum) (x : Outlet) : (s.setO o x).bnw = s.bnw := rfl

@[simp] theorem setPr_pending (s : State) (n : PNum) (p : Pair) : (s.setPr n p).pending = s.pending := rfl
@[simp] theorem setPr_started (s : State) (n : PNum) (p : Pair) : (s.setPr n p).started = s.started := rfl
@[simp] theorem setPr_free (s : State) (n : PNum) (p : Pair) : (s.setPr n p).free = s.free := rfl
@[simp] theorem setPr_up (s : State) (n : PNum) (p : Pair) : (s.setPr n p).up = s.up := rfl
@[simp] theorem setPr_fwAct (s : State) (n : PNum) (p : Pair) : (s.setPr n p).fwAct = s.fwAct := rfl
@[simp] theorem setPr_host (s : State) (n : PNum) (p : Pair) : (s.setPr n p).host = s.host := rfl
@[simp] theorem setPr_flt (s : State) (n : PNum) (p : Pair) : (s.setPr n p).flt = s.flt := rfl
@[simp] theorem setPr_tmr (s : State) (n : PNum) (p : Pair) : (s.setPr n p).tmr = s.tmr := rfl
@[simp] theorem setPr_clk (s : State) (n : PNum) (p : Pair) : (s.setPr n p).clk = s.clk := rfl
@[simp] theorem setPr_pwr (s : State) (n : PNum) (p : Pair) : (s.setPr n p).pwr = s.pwr := rfl
@[simp] theorem setPr_out (s : State) (n : PNum) (p : Pair) : (s.setPr n p).out = s.out := rfl
@[simp] theorem setPr_isl (s : State) (n : PNum) (p : Pair) : (s.setPr n p).isl = s.isl := rfl
@[simp] theorem setPr_bak (s : State) (n : PNum) (p : Pair) : (s.setPr n p).bak = s.bak := rfl
@[simp] theorem setPr_cfg (s : State) (n : PNum) (p : Pair) : (s.setPr n p).cfg = s.cfg := rfl
@[simp] theorem setPr_store (s : State) (n : PNum) (p : Pair) : (s.setPr n p).store = s.store := rfl
@[simp] theorem setPr_plc (s : State) (n : PNum) (p : Pair) : (s.setPr n p).plc = s.plc := rfl
@[simp] theorem setPr_bud (s : State) (n : PNum) (p : Pair) : (s.setPr n p).bud = s.bud := rfl
@[simp] theorem setPr_lat (s : State) (n : PNum) (p : Pair) : (s.setPr n p).lat = s.lat := rfl
@[simp] theorem setPr_met (s : State) (n : PNum) (p : Pair) : (s.setPr n p).met = s.met := rfl
@[simp] theorem setPr_en (s : State) (n : PNum) (p : Pair) : (s.setPr n p).en = s.en := rfl
@[simp] theorem setPr_bill (s : State) (n : PNum) (p : Pair) : (s.setPr n p).bill = s.bill := rfl
@[simp] theorem setPr_dl (s : State) (n : PNum) (p : Pair) : (s.setPr n p).dl = s.dl := rfl
@[simp] theorem setPr_cr (s : State) (n : PNum) (p : Pair) : (s.setPr n p).cr = s.cr := rfl
@[simp] theorem setPr_line (s : State) (n : PNum) (p : Pair) : (s.setPr n p).line = s.line := rfl
@[simp] theorem setPr_net (s : State) (n : PNum) (p : Pair) : (s.setPr n p).net = s.net := rfl
@[simp] theorem setPr_nfc (s : State) (n : PNum) (p : Pair) : (s.setPr n p).nfc = s.nfc := rfl
@[simp] theorem setPr_lsw (s : State) (n : PNum) (p : Pair) : (s.setPr n p).lsw = s.lsw := rfl
@[simp] theorem setPr_panel (s : State) (n : PNum) (p : Pair) : (s.setPr n p).panel = s.panel := rfl
@[simp] theorem setPr_key (s : State) (n : PNum) (p : Pair) : (s.setPr n p).key = s.key := rfl
@[simp] theorem setPr_maint (s : State) (n : PNum) (p : Pair) : (s.setPr n p).maint = s.maint := rfl
@[simp] theorem setPr_fw (s : State) (n : PNum) (p : Pair) : (s.setPr n p).fw = s.fw := rfl
@[simp] theorem setPr_svc (s : State) (n : PNum) (p : Pair) : (s.setPr n p).svc = s.svc := rfl
@[simp] theorem setPr_bnw (s : State) (n : PNum) (p : Pair) : (s.setPr n p).bnw = s.bnw := rfl
@[simp] theorem setPr_rings_mem (s : State) (n : PNum) (p : Pair) : (s.setPr n p).rings.mem = s.rings.mem := rfl
@[simp] theorem setPr_rings_bulk (s : State) (n : PNum) (p : Pair) : (s.setPr n p).rings.bulk = s.rings.bulk := rfl
@[simp] theorem setPr_rings_pause (s : State) (n : PNum) (p : Pair) : (s.setPr n p).rings.pause = s.rings.pause := rfl
@[simp] theorem setPr_rings_pauseOver (s : State) (n : PNum) (p : Pair) : (s.setPr n p).rings.pauseOver = s.rings.pauseOver := rfl
@[simp] theorem setPr_rings_deferred (s : State) (n : PNum) (p : Pair) : (s.setPr n p).rings.deferred = s.rings.deferred := rfl

/-! ### Parts of an outlet -/

@[simp] theorem modPilot_eq (s : State) (o : ONum) (f : Pilot → Pilot) :
    s.modPilot o f = s.setO o { s.o o with pilot := f (s.o o).pilot } := rfl
@[simp] theorem modPp_eq (s : State) (o : ONum) (f : Prox → Prox) :
    s.modPp o f = s.setO o { s.o o with pp := f (s.o o).pp } := rfl
@[simp] theorem modSw_eq (s : State) (o : ONum) (f : Switch → Switch) :
    s.modSw o f = s.setO o { s.o o with sw := f (s.o o).sw } := rfl
@[simp] theorem modLock_eq (s : State) (o : ONum) (f : Lock → Lock) :
    s.modLock o f = s.setO o { s.o o with lock := f (s.o o).lock } := rfl
@[simp] theorem modSes_eq (s : State) (o : ONum) (f : Session → Session) :
    s.modSes o f = s.setO o { s.o o with ses := f (s.o o).ses } := rfl
@[simp] theorem modProt_eq (s : State) (o : ONum) (f : Protect → Protect) :
    s.modProt o f = s.setO o { s.o o with prot := f (s.o o).prot } := rfl
@[simp] theorem modHlc_eq (s : State) (o : ONum) (f : Hlc → Hlc) :
    s.modHlc o f = s.setO o { s.o o with hlc := f (s.o o).hlc } := rfl

/-! ### Units -/

@[simp] theorem modCr_eq (s : State) (f : Credit → Credit) : s.modCr f = { s with cr := f s.cr } := rfl
@[simp] theorem modDl_eq (s : State) (f : Dlms → Dlms) : s.modDl f = { s with dl := f s.dl } := rfl
@[simp] theorem modKey_eq (s : State) (f : Keys → Keys) : s.modKey f = { s with key := f s.key } := rfl
@[simp] theorem modLat_eq (s : State) (f : Lattice → Lattice) : s.modLat f = { s with lat := f s.lat } := rfl
@[simp] theorem modLine_eq (s : State) (f : Line → Line) : s.modLine f = { s with line := f s.line } := rfl
@[simp] theorem modMet_eq (s : State) (f : Metro → Metro) : s.modMet f = { s with met := f s.met } := rfl
@[simp] theorem modNet_eq (s : State) (f : Net → Net) : s.modNet f = { s with net := f s.net } := rfl
@[simp] theorem modNfc_eq (s : State) (f : Nfc → Nfc) : s.modNfc f = { s with nfc := f s.nfc } := rfl
@[simp] theorem modPanel_eq (s : State) (f : Panel → Panel) : s.modPanel f = { s with panel := f s.panel } := rfl
@[simp] theorem modEn_eq (s : State) (f : Energy → Energy) : s.modEn f = { s with en := f s.en } := rfl

end Sys2Proof.Machine
end

