-- ==== Sys2Proof/Laws/Mail.lean ====
section
/-! SUPPORT. The completion of a command and the answer of a mailbox command change the rings and nothing else; a mailbox command that is
served answers what its meaning gives, and one that is not served changes no more than the rings. -/

namespace Sys2Proof.Machine

/-! ### Entries and completions -/

theorem putEntries_rings (s : State) (n : PNum) (l : List Bytes) : s.putEntries n l = { s with rings := (s.putEntries n l).rings } := by
  induction l generalizing s with
  | nil => rfl
  | cons e t ih => unfold State.putEntries; rw [ih]; rfl

theorem putEntries_pr (s : State) (n m : PNum) (l : List Bytes) (h : m ≠ n) : (s.putEntries n l).pr m = s.pr m := by
  induction l generalizing s with
  | nil => rfl
  | cons e t ih => unfold State.putEntries; rw [ih, pr_setPr, if_neg h]; rfl

theorem putUnit_rings (s : State) (n : PNum) (d : Held) : s.putUnit n d = { s with rings := (s.putUnit n d).rings } := by
  unfold State.putUnit
  split
  · exact (putEntries_rings _ _ _).trans rfl
  · exact putEntries_rings _ _ _

theorem putUnit_pr (s : State) (n m : PNum) (d : Held) (h : m ≠ n) : (s.putUnit n d).pr m = s.pr m := by
  unfold State.putUnit
  rw [putEntries_pr _ _ _ _ h]
  split
  · exact (pr_setPr _ _ _ _).trans (if_neg h)
  · rfl

theorem deliver_pr (s : State) (n m : PNum) (d : Held) (x : Nat) (h : m ≠ n) (hd : d.event = false) : (s.deliver n d x).pr m = s.pr m := by
  unfold State.deliver
  extract_lets p
  split
  · rfl
  · simp only [hd, Bool.false_and, Bool.false_eq_true, if_false]
    split
    · exact putUnit_pr _ _ _ _ h
    · rw [pr_setPr, if_neg h]

theorem complete_pr (s : State) (n m : PNum) (op tag st : Nat) (p : Bytes) (b : Option (Nat × Nat)) (h : m ≠ n) :
    (s.complete n op tag st p b).pr m = s.pr m := by
  simp only [State.complete]
  rw [deliver_pr _ _ _ _ _ h rfl]

theorem deliver_rings (s : State) (n : PNum) (d : Held) (x : Nat) (hd : d.event = false) : s.deliver n d x = { s with rings := (s.deliver n d x).rings } := by
  unfold State.deliver
  extract_lets p
  split
  · rfl
  · simp only [hd, Bool.false_and, Bool.false_eq_true, if_false]
    split
    · exact putUnit_rings _ _ _
    · rfl

theorem complete_rings (s : State) (n : PNum) (op tag st : Nat) (p : Bytes) (b : Option (Nat × Nat)) :
    s.complete n op tag st p b = { s with rings := (s.complete n op tag st p b).rings } := by
  unfold State.complete
  exact deliver_rings _ _ _ _ rfl

/-! ### Mailbox commands -/

theorem answered_rings (c : Cmd) (q : Req) (a : Ans) : answered c q a = { a.st with rings := (answered c q a).rings } := by
  unfold answered
  extract_lets st
  have hst : st = { a.st with rings := st.rings } := by
    simp only [st]; split <;> rfl
  split
  · exact hst
  · rw [complete_rings]
    rw [hst]

/-- What a mailbox command can do: nothing but the rings, or its meaning and its answer. -/
theorem mail_cases {c : Cmd} {q : Req} {s t : State} {fits : Bool} {body : State → Ans} (h : mail c q s fits body = .next t) :
    t = { s with rings := t.rings } ∨ (Served c q s fits ∧ t = answered c q (body s)) := by
  unfold mail at h
  injection h with h
  split at h
  · left; rw [← h]
  · split at h
    · left; rw [← h, complete_rings]
    · right; rename_i h1 _ h2; exact ⟨⟨by simpa using h1, h2⟩, h.symm⟩

theorem served_fits {c : Cmd} {q : Req} {s : State} {fits : Bool} (h : Served c q s fits) : c.layoutOk q = true ∧ fits = true := by
  have h := h.2
  unfold State.screen at h
  split at h
  · cases h
  · split at h
    · cases h
    · rename_i h1
      simpa using h1

theorem mail_served {c q s fits body} (h : Served c q s fits) : mail c q s fits body = .next (answered c q (body s)) := by
  unfold mail; rw [h.1, h.2]; rfl

theorem mailQ_served {c q s fits body} (h : Served c q s fits) : mailQ c q s fits body = .next (ended c q (body (flown c q s))) := by
  unfold mailQ; rw [h.1, h.2]; rfl

theorem lineMail_served {c q s fits body} (h : Served c q s fits) (g : s.lineOn = true) : lineMail c q s fits body = .next (answered c q (body s)) := by
  unfold lineMail; rw [mail_served h, g]; rfl

theorem netMail_served {c q s fits body} (h : Served c q s fits) (g : s.netOn = true) : netMail c q s fits body = .next (answered c q (body s)) := by
  unfold netMail; rw [mail_served h, g]; rfl

theorem nfcMail_served {c q s fits body} (h : Served c q s fits) (g : s.fieldOn = true) : nfcMail c q s fits body = .next (answered c q (body s)) := by
  unfold nfcMail; rw [mail_served h, g]; rfl

theorem panelMail_served {c q s fits body} (h : Served c q s fits) (g : s.panelOn = true) : panelMail c q s fits body = .next (answered c q (body s)) := by
  unfold panelMail; rw [mail_served h, g]; rfl

end Sys2Proof.Machine
end

