-- ==== Sys2Proof/Laws/Memory.lean ====
section
/-! SUPPORT. Laws of memory: the canonical form is kept, a write is read back, and every other byte stays. -/

namespace Sys2Proof.Machine

theorem Memory.wfFrom_mono {lo hi : Nat} {m : Memory} (h : Memory.wfFrom hi m = true) (l : lo ≤ hi) : Memory.wfFrom lo m = true := by
  cases m with
  | nil => rfl
  | cons x t =>
    simp only [Memory.wfFrom, Bool.and_eq_true, decide_eq_true_eq] at h ⊢
    exact ⟨⟨l.trans h.1.1, h.1.2⟩, h.2⟩

theorem Memory.read_below {lo a : Nat} {m : Memory} (h : Memory.wfFrom lo m = true) (l : a < lo) : Memory.read m a = 0 := by
  cases m with
  | nil => rfl
  | cons x t =>
    simp only [Memory.wfFrom, Bool.and_eq_true, decide_eq_true_eq] at h
    have h1 := h.1.1
    have : x.1 ≠ a := by omega
    have h2 : a < x.1 := by omega
    simp [Memory.read, this, h2]

theorem Memory.write_wfFrom {lo a : Nat} {m : Memory} {b : Byte} (h : Memory.wfFrom lo m = true) (l : lo ≤ a) :
    Memory.wfFrom lo (Memory.write m a b) = true := by
  induction m generalizing lo with
  | nil =>
    unfold Memory.write
    split
    · rfl
    · rename_i hb
      have hb' : (b != 0) = true := by simpa using hb
      simp only [Memory.wfFrom, hb', l, decide_true, Bool.and_self]
  | cons x t ih =>
    obtain ⟨x, y⟩ := x
    simp only [Memory.wfFrom, Bool.and_eq_true, decide_eq_true_eq] at h
    obtain ⟨⟨h1, h2⟩, h3⟩ := h
    unfold Memory.write
    split
    · split
      · simp only [Memory.wfFrom, h1, h2, h3, decide_true, Bool.and_self]
      · rename_i hb
        simp only [Memory.wfFrom, Bool.and_eq_true, decide_eq_true_eq]
        exact ⟨⟨l, by simpa using hb⟩, ⟨by omega, h2⟩, h3⟩
    · split
      · split
        · exact Memory.wfFrom_mono h3 (by omega)
        · rename_i hx hb
          subst hx
          simp only [Memory.wfFrom, Bool.and_eq_true, decide_eq_true_eq]
          exact ⟨⟨l, by simpa using hb⟩, h3⟩
      · simp only [Memory.wfFrom, Bool.and_eq_true, decide_eq_true_eq]
        exact ⟨⟨h1, h2⟩, ih h3 (by omega)⟩

/-- Writing a byte keeps the canonical form. -/
theorem Memory.write_wf {m : Memory} (h : Memory.wf m = true) (a : Nat) (b : Byte) : Memory.wf (Memory.write m a b) = true :=
  Memory.write_wfFrom h (Nat.zero_le a)

/-- Writing bytes keeps the canonical form. -/
theorem Memory.writeN_wf {m : Memory} (h : Memory.wf m = true) (a : Nat) (l : Bytes) : Memory.wf (Memory.writeN m a l) = true := by
  induction l generalizing m a with
  | nil => exact h
  | cons b t ih => exact ih (Memory.write_wf h a b) _

theorem Memory.read_write_from {lo a x : Nat} {m : Memory} {b : Byte} (h : Memory.wfFrom lo m = true) :
    Memory.read (Memory.write m a b) x = if x = a then b else Memory.read m x := by
  induction m generalizing lo with
  | nil =>
    unfold Memory.write
    split
    · rename_i hb
      simp [Memory.read, hb]
    · by_cases hx : x = a
      · simp [Memory.read, hx]
      · have : ¬ a = x := fun e => hx e.symm
        simp [Memory.read, hx, this]
  | cons p t ih =>
    obtain ⟨p, y⟩ := p
    simp only [Memory.wfFrom, Bool.and_eq_true, decide_eq_true_eq] at h
    obtain ⟨⟨h1, h2⟩, h3⟩ := h
    unfold Memory.write
    split
    · rename_i hap
      split
      · rename_i hb
        split
        · rename_i hx
          have h4 : ¬ p = a := by omega
          simp [Memory.read, hx, hb, hap, h4]
        · rfl
      · by_cases hx : x = a
        · simp [Memory.read, hx]
        · have h4 : ¬ a = x := fun e => hx e.symm
          rw [if_neg hx]
          by_cases hl : x < a
          · have h5 : ¬ p = x := by omega
            have h6 : x < p := by omega
            simp [Memory.read, h4, hl, h5, h6]
          · simp [Memory.read, h4, hl]
    · split
      · rename_i hn hap
        subst hap
        split
        · rename_i hb
          by_cases hx : x = a
          · subst hx
            rw [if_pos rfl, hb]
            exact Memory.read_below h3 (by omega)
          · have h4 : ¬ a = x := fun e => hx e.symm
            rw [if_neg hx]
            by_cases hl : x < a
            · simp only [Memory.read, h4, hl, if_false, if_true]
              exact Memory.read_below h3 (by omega)
            · simp [Memory.read, h4, hl]
        · by_cases hx : x = a
          · simp [Memory.read, hx]
          · have h4 : ¬ a = x := fun e => hx e.symm
            simp [Memory.read, hx, h4]
      · rename_i hn he
        by_cases hx : p = x
        · subst hx
          have h4 : ¬ p = a := fun e => he e.symm
          simp [Memory.read, h4]
        · simp only [Memory.read, hx, if_false]
          rw [ih h3]
          by_cases hl : x < p
          · have h4 : ¬ x = a := by omega
            simp [hl, h4]
          · simp [hl]

/-- A byte read after a byte was written. -/
theorem Memory.read_write {m : Memory} (h : Memory.wf m = true) (a x : Nat) (b : Byte) :
    Memory.read (Memory.write m a b) x = if x = a then b else Memory.read m x := Memory.read_write_from h

/-- A byte read after bytes were written: the byte laid there, or what the address read before. -/
theorem Memory.read_writeN {m : Memory} (h : Memory.wf m = true) (a x : Nat) (l : Bytes) :
    Memory.read (Memory.writeN m a l) x = if a ≤ x ∧ x < a + l.length then l.getD (x - a) 0 else Memory.read m x := by
  induction l generalizing m a with
  | nil =>
    simp only [Memory.writeN, List.length_nil]
    rw [if_neg (by omega)]
  | cons b t ih =>
    simp only [Memory.writeN, List.length_cons]
    rw [ih (Memory.write_wf h a b), Memory.read_write h]
    by_cases hx : x = a
    · subst hx
      simp
    · by_cases hl : a ≤ x ∧ x < a + (t.length + 1)
      · have h1 : a + 1 ≤ x ∧ x < a + 1 + t.length := by omega
        rw [if_pos h1, if_pos hl]
        have h2 : x - a = (x - (a + 1)) + 1 := by omega
        rw [h2, List.getD_cons_succ]
      · have h1 : ¬ (a + 1 ≤ x ∧ x < a + 1 + t.length) := by omega
        rw [if_neg h1, if_neg hl, if_neg hx]

theorem Memory.readN_length (m : Memory) (a k : Nat) : (Memory.readN m a k).length = k := by
  induction k generalizing a with
  | zero => rfl
  | succ k ih => simp [Memory.readN, ih]

theorem Memory.readN_getD (m : Memory) (a k i : Nat) (h : i < k) : (Memory.readN m a k).getD i 0 = Memory.read m (a + i) := by
  induction k generalizing a i with
  | zero => omega
  | succ k ih =>
    cases i with
    | zero => rfl
    | succ i =>
      simp only [Memory.readN, List.getD_cons_succ]
      rw [ih (a + 1) i (by omega)]
      congr 1
      omega

/-- Bytes written are read back. -/
theorem Memory.readN_writeN {m : Memory} (h : Memory.wf m = true) (a : Nat) (l : Bytes) :
    Memory.readN (Memory.writeN m a l) a l.length = l := by
  refine List.ext_getElem (Memory.readN_length ..) fun i h1 h2 => ?_
  have h3 := Memory.readN_getD (Memory.writeN m a l) a l.length i h2
  rw [List.getD_eq_getElem _ _ h1] at h3
  rw [h3, Memory.read_writeN h, if_pos (by omega), Nat.add_sub_cancel_left, List.getD_eq_getElem _ _ h2]

/-- Bytes outside a region that is written read as before. -/
theorem Memory.readN_writeN_apart {m : Memory} (h : Memory.wf m = true) (a b k : Nat) (l : Bytes)
    (d : b + k ≤ a ∨ a + l.length ≤ b) : Memory.readN (Memory.writeN m a l) b k = Memory.readN m b k := by
  induction k generalizing b with
  | zero => rfl
  | succ k ih =>
    simp only [Memory.readN]
    rw [ih (b + 1) (by omega), Memory.read_writeN h, if_neg (by omega)]

end Sys2Proof.Machine
end

