-- ==== Sys2Proof/WellFormed.lean ====
section
/-! DEFINITION. Well-formed commands and events: each operand within the field that the spec gives it. -/

namespace Sys2Proof

/-- A submission whose fields fit their bytes: TAG of 16 bits, a payload of one entry or of a chain of at most 8, a descriptor of
two 16-bit fields that leaves 52 bytes to the payload of its entry (03, Entries; R78). -/
def Req.wf (q : Req) : Bool :=
  decide (q.tag < 65536) && decide (q.payload.length ≤ (if q.chain then 448 else 56) - (if q.bulk.isSome then 4 else 0)) &&
    match q.bulk with
    | none => true
    | some r => decide (r.1 < 65536) && decide (r.2 < 65536)

/-- Every element of a list is below a bound. -/
def allBelow (k : Nat) (l : List Nat) : Bool := l.all fun x => decide (x < k)

/-- Addresses of 48 bits, VID of 12 bits and PCP of 3, EtherType and FCS (R503, R505). -/
def EthFrame.wf (f : EthFrame) : Bool :=
  decide (f.dst < 2 ^ 48) && decide (f.src < 2 ^ 48) && decide (f.type < 2 ^ 16) && decide (f.fcs < 2 ^ 32) &&
    f.tag.all fun t => decide (t.1 < 4096) && decide (t.2 < 8)

/-- Port, domain, clockIdentity and sequenceId (R506). -/
def PtpRx.wf (x : PtpRx) : Bool :=
  decide (x.port < 2) && decide (x.dom < 256) && decide (x.src < 2 ^ 64) && decide (x.seq < 2 ^ 16)

/-- The fields of FCH and PSDU (R474, R475), the 8 sectors. -/
def LineFrame.wf (f : LineFrame) : Bool :=
  decide (f.netid < 2 ^ 16) && decide (f.dst < 2 ^ 16) && decide (f.src < 2 ^ 16) && decide (f.fcnt < 2 ^ 32) && decide (f.ang0 < 2 ^ 16)
    && decide (f.sectors < 256) && decide (f.spans < 256) && decide (f.fcs < 2 ^ 16) && decide (f.angle < 2 ^ 16)

/-- Each preamble on one of the 24 front ends. -/
def preamblesWf (l : List Preamble) : Bool := l.all fun x => decide (x.outlet < 24)

/-- Each sound on one of the 24 front ends, in at most 58 carrier groups. -/
def soundsWf (l : List Sound) : Bool := l.all fun x => decide (x.outlet < 24) && decide (x.levels.length ≤ 58)

/-- UIDs of 4, 7 or 10 bytes (R530). -/
def cardsWf (l : List Card) : Bool := l.all fun x => [4, 7, 10].contains x.uid.length

/-- The address of an attribute (R416): class, logical name, attribute. -/
def dlAddrWf (ic obis attr : Nat) : Bool := decide (ic < 65536) && decide (obis < 2 ^ 48) && decide (attr < 256)

/-- The items of a GET. -/
def DlGet.wf : DlGet → Bool
  | .items l => l.all fun x => dlAddrWf x.ic x.obis x.attr
  | .next b => decide (b < 2 ^ 32)

/-- The items of a SET. -/
def dlWritesWf (l : List DlWrite) : Bool := l.all fun x => dlAddrWf x.ic x.obis x.attr

/-- Every operand of a command or event lies in its field. -/
def Instr.wf : Instr → Bool
  | .sysVersion q => q.wf
  | .sysIdentity q => q.wf
  | .sysPowerGet q => q.wf
  | .sysPowerSet q => q.wf
  | .sysDomainSet q => q.wf
  | .sysTimeSnapshot q => q.wf
  | .sysSeqQuery q => q.wf
  | .sysLoopback q => q.wf
  | .outletConfigSet q => q.wf
  | .outletConfigGet q => q.wf
  | .outletStatusGet q => q.wf
  | .outletAuth q => q.wf
  | .outletStop q => q.wf
  | .outletService q => q.wf
  | .outletUnlock q => q.wf
  | .hlcConfigSet q => q.wf
  | .hlcConfigGet q => q.wf
  | .hlcSlacSet q => q.wf
  | .hlcStatusGet q => q.wf
  | .hlcExportSet q => q.wf
  | .hlcCertFetch q => q.wf
  | .hlcCertReply q => q.wf
  | .hlcStatsGet q => q.wf
  | .protConfigSet q => q.wf
  | .protConfigGet q => q.wf
  | .protStatusGet q => q.wf
  | .protSelftest q => q.wf
  | .safeStatusGet q => q.wf
  | .safeConfigRead q => q.wf
  | .safeConfigWrite q => q.wf
  | .safeConfirm q => q.wf
  | .safeModeSet q => q.wf
  | .safePasswordSet q => q.wf
  | .safeLogRead q => q.wf
  | .safeWeldResolve q => q.wf
  | .safeSiteSet q => q.wf
  | .budConfigSet q => q.wf
  | .budConfigGet q => q.wf
  | .budOutletSet q => q.wf
  | .budOutletGet q => q.wf
  | .budStatusGet q => q.wf
  | .budExtload q => q.wf
  | .budStepAt q => q.wf
  | .latConfigSet q => q.wf
  | .latConfigGet q => q.wf
  | .latStatusGet q => q.wf
  | .metroConfigSet q => q.wf
  | .metroConfigGet q => q.wf
  | .metroScaleSet q => q.wf
  | .metroScaleGet q => q.wf
  | .metroCalWrite q => q.wf
  | .metroCalRead q => q.wf
  | .metroTableWrite q => q.wf
  | .metroTableRead q => q.wf
  | .metroCalDigest q => q.wf
  | .metroCalCommit q => q.wf
  | .metroCalRevert q => q.wf
  | .metroChStatus q => q.wf
  | .metroLineGet q => q.wf
  | .metroRaw q => q.wf
  | .energyConfigSet q => q.wf
  | .energyConfigGet q => q.wf
  | .energyRead q => q.wf
  | .energyInstant q => q.wf
  | .energyLatchNow q => q.wf
  | .pqLogRead q => q.wf
  | .waveList q => q.wf
  | .waveExport q => q.wf
  | .waveTrigger q => q.wf
  | .tamperStatus q => q.wf
  | .tamperClear q => q.wf
  | .billConfigSet q => q.wf
  | .billConfigGet q => q.wf
  | .billCalendarWrite q => q.wf
  | .billCalendarRead q => q.wf
  | .billCalendarActivate q => q.wf
  | .billTimeGet q => q.wf
  | .billTimeSet q => q.wf
  | .billRegistersGet q => q.wf
  | .billPeriodGet q => q.wf
  | .billPeriodClose q => q.wf
  | .ledgerRead q => q.wf
  | .ledgerStatus q => q.wf
  | .billCommitNow q => q.wf
  | .dlmsTunnel q => q.wf
  | .dlmsConfigSet q => q.wf
  | .dlmsConfigGet q => q.wf
  | .dlmsAssocList q => q.wf
  | .dlmsAssocAbort q => q.wf
  | .creditAccountSet q => q.wf
  | .creditAccountGet q => q.wf
  | .creditAdjust q => q.wf
  | .creditBind q => q.wf
  | .creditConfigSet q => q.wf
  | .creditConfigGet q => q.wf
  | .voucherEnter q => q.wf
  | .voucherStatus q => q.wf
  | .lineConfigSet q => q.wf
  | .lineConfigGet q => q.wf
  | .lineStatusGet q => q.wf
  | .linePeers q => q.wf
  | .lineSend q => q.wf
  | .lineMapGet q => q.wf
  | .lineMapRequest q => q.wf
  | .lineStatsGet q => q.wf
  | .netConfigSet q => q.wf
  | .netConfigGet q => q.wf
  | .netStatusGet q => q.wf
  | .netToutSet q => q.wf
  | .netToutGet q => q.wf
  | .netTcapSet q => q.wf
  | .netTcapRead q => q.wf
  | .netTimeSet q => q.wf
  | .netStats q => q.wf
  | .nfcConfigSet q => q.wf
  | .nfcConfigGet q => q.wf
  | .nfcTagRead q => q.wf
  | .nfcTagWrite q => q.wf
  | .nfcTagKey q => q.wf
  | .nfcTagStatus q => q.wf
  | .lswChanSet q => q.wf
  | .lswChanGet q => q.wf
  | .lswOut q => q.wf
  | .lswStatusGet q => q.wf
  | .lswBankGet q => q.wf
  | .lswClear q => q.wf
  | .panelConfigSet q => q.wf
  | .panelConfigGet q => q.wf
  | .panelWrite q => q.wf
  | .panelFlip q => q.wf
  | .panelCurveSet q => q.wf
  | .panelCurveGet q => q.wf
  | .panelStatusGet q => q.wf
  | .panelStressRead q => q.wf
  | .keyInfo q => q.wf
  | .keyUpdate q => q.wf
  | .keyDerive q => q.wf
  | .keyRevoke q => q.wf
  | .keyPublicRead q => q.wf
  | .keyStatus q => q.wf
  | .fltClear q => q.wf
  | .fltSeveritySet q => q.wf
  | .fltLogRead q => q.wf
  | .maStart q => q.wf
  | .maAbort q => q.wf
  | .maStatus q => q.wf
  | .fwStatus q => q.wf
  | .fwStageBegin q => q.wf
  | .fwStageData q => q.wf
  | .fwStageVerify q => q.wf
  | .fwActivate q => q.wf
  | .fwStageAbort q => q.wf
  | .dlmsAarq client server _ channel _ => decide (client < 256) && decide (server < 65536) && decide (channel < 256)
  | .dlmsGet _ g prot ivc => DlGet.wf g && decide (prot < 256) && decide (ivc < 4294967296)
  | .dlmsSet _ l prot ivc => dlWritesWf l && decide (prot < 256) && decide (ivc < 4294967296)
  | .dlmsAction _ ic obis method _ prot ivc => decide (ic < 65536) && decide (obis < 281474976710656) && decide (method < 256) && decide (prot < 256) && decide (ivc < 4294967296)
  | .dlmsRlrq _ => true
  | .hostTransaction cmd addr wr nrd => decide (cmd < 256) && allBelow 16 addr && wr.all (allBelow 16) && decide (nrd < 65536)
  | .hcsRise _ => true
  | .hrst _ => true
  | .registerWrite addr v => decide (addr < 4294967296) && decide (v < 4294967296)
  | .tmrScrub addr _ => decide (addr < 4294967296)
  | .bnwOutletWrite v => decide (v < 4294967296)
  | .doorbellWrite _ t => decide (t < 4294967296)
  | .cqHeadWrite _ h => decide (h < 4294967296)
  | .ringCfgWrite _ _ v => decide (v < 4294967296)
  | .pairDrainEnd _ => true
  | .submissionFetch _ par => allBelow 3 par
  | .eventQueueDrain _ => true
  | .domainSwitchTimeout d => decide (d < 12)
  | .timeSnapWrite v => decide (v < 4294967296)
  | .pilotPeriod _ _ _ => true
  | .pilotStateAccept _ => true
  | .pilotLevel _ => true
  | .pilotDiode _ => true
  | .ppSample _ ohm => decide (ohm < 4294967296)
  | .ppAccept _ => true
  | .mirrorContactChange p _ => decide (p < 26)
  | .lockFeedbackChange _ _ => true
  | .closingStart _ => true
  | .closingConfirmed _ => true
  | .closingTimeout _ => true
  | .sswReadyCheck _ _ => true
  | .sswEnableRetry _ => true
  | .openingStart _ cause => decide (cause < 32)
  | .contactorRelease _ => true
  | .weldWindowEnd _ => true
  | .presenceDetect _ phases => decide (phases < 8)
  | .deferredOpening _ => true
  | .lockPulse _ => true
  | .lockPulseEnd _ => true
  | .lockFeedbackCheck _ => true
  | .lockRetry _ => true
  | .identification _ src _ => decide (src < 4)
  | .heldIdentExpiry _ => true
  | .authTimeout _ => true
  | .plcFrameRx l ended => preamblesWf l && allBelow 24 ended
  | .plcTxGrant ended clear => allBelow 24 ended && allBelow 24 clear
  | .plcTxDiscard _ => true
  | .beaconTx _ => true
  | .cmSlacParmReq _ runid mac => decide (runid < 18446744073709551616) && decide (mac < 281474976710656)
  | .cmMnbcSoundInd _ runid l sounds => decide (runid < 18446744073709551616) && soundsWf l && decide (sounds < 256)
  | .slacDecision _ => true
  | .cmValidateReq _ _ n => decide (n < 65536)
  | .cmSlacMatchReq _ runid mac => decide (runid < 18446744073709551616) && decide (mac < 281474976710656)
  | .slacInitExpiry _ => true
  | .sessionSetupTimeout _ => true
  | .v2gSessionLost _ => true
  | .sdpRequest _ _ => true
  | .supportedAppProtocol _ _ _ _ => true
  | .v2gRequest _ _ => true
  | .serviceSelectionReq _ service _ => decide (service < 65536)
  | .v2gStopRequest _ kind => decide (kind < 256)
  | .certReq _ kind _ => decide (kind < 256)
  | .certReplyTimeout _ => true
  | .apexTrip _ _ _ => true
  | .apexLatchSeen _ => true
  | .dcEstimate _ _ _ => true
  | .rcFrontend _ => true
  | .dcSlowUpdate _ _ => true
  | .dcFastUpdate _ _ => true
  | .rcWarn _ => true
  | .acResidualUpdate _ _ => true
  | .sswDesat _ => true
  | .overload _ _ => true
  | .selftestStart _ trigger => decide (trigger < 256)
  | .selftestDone _ _ => true
  | .islandSafeState src => decide (src < 256)
  | .sinSample n _ _ => decide (n < 8)
  | .sinAccept n _ _ => decide (n < 8)
  | .sinDisc n => decide (n < 8)
  | .siteRelease j => decide (j < 2)
  | .siteFbCheck j => decide (j < 2)
  | .weldWatchEnd _ _ => true
  | .pairTestStepEnd p _ _ _ _ => decide (p < 26)
  | .pullinEnd p => decide (p < 26)
  | .siteCloseCheck j => decide (j < 2)
  | .coilCheck p _ => decide (p < 26)
  | .coilUndercurrent p => decide (p < 26)
  | .passwordLockoutEnd role => decide (role < 3)
  | .budgetRound reclaim => allBelow 4294967296 reclaim
  | .pauseHoldEnd _ => true
  | .latFrameRx _ => true
  | .metroSample _ lfxo => decide (lfxo < 4294967296)
  | .gainDecision ch => decide (ch < 104)
  | .gainSwitch ch => decide (ch < 96)
  | .zeroCrossing ch _ _ _ => decide (ch < 104)
  | .tempUpdate ntc _ => allBelow 4294967296 ntc
  | .ntcRestore k => decide (k < 4)
  | .offsetRemeasure _ _ => true
  | .selfcalVisitEnd _ _ => true
  | .calCommitDone _ => true
  | .directionChange _ => true
  | .halfCyclePq bus => decide (bus < 2)
  | .reverseCurrent _ => true
  | .bypassDetect _ => true
  | .bypassEnd _ => true
  | .neutralMissing bus => decide (bus < 2)
  | .neutralEnd bus => decide (bus < 2)
  | .tamperSample _ _ => true
  | .ledgerCommit _ _ => true
  | .billTimeCorrection _ source => decide (source < 4)
  | .dlmsIdleRelease _ => true
  | .dlmsLockoutEnd client => decide (client < 256)
  | .graceExpiry acct => decide (acct < 1024)
  | .keypadScan _ => true
  | .keyAccept key => decide (key < 16)
  | .lineFrameRx f => LineFrame.wf f
  | .lineAckTx _ => true
  | .lineContentionSlot _ _ _ => true
  | .lineFrameTx _ => true
  | .mapRequestTimeout peer => decide (peer < 65536)
  | .robustHoldEnd peer => decide (peer < 65536)
  | .mapExpiry peer _ => decide (peer < 65536)
  | .ethFrameRx port f residence => decide (port < 2) && EthFrame.wf f && decide (residence < 4294967296)
  | .ptpMessage x => PtpRx.wf x
  | .txTimestamp port ident sec ns => decide (port < 2) && decide (ident < 65536) && decide (sec < 281474976710656) && decide (ns < 1000000000)
  | .launchTime port => decide (port < 2)
  | .toutEdge k => decide (k < 4)
  | .tcapEdge k _ frac => decide (k < 4) && decide (frac < 4294967296)
  | .phyLinkChange port _ _ => decide (port < 2)
  | .addressAgeing mac => decide (mac < 281474976710656)
  | .nfcPoll field typeA _ => decide (field < 4294967296) && cardsWf typeA
  | .tagFieldOn h => decide (h < 4294967296)
  | .tagReqa _ => true
  | .tagAnticollision nvb _ => decide (nvb < 256)
  | .tagSelect _ => true
  | .pageRead page off le _ => decide (page < 65536) && decide (off < 256) && decide (le < 65536)
  | .pageWrite page off _ _ => decide (page < 65536) && decide (off < 256)
  | .tagHello _ => true
  | .tagProve _ => true
  | .tagPageCommit _ _ => true
  | .pwmPeriod v cur _ bcur _ => allBelow 4294967296 v && allBelow 4294967296 cur && allBelow 4294967296 bcur
  | .lswCurrentLimit ch ma => decide (ch < 80) && decide (ma < 4294967296)
  | .lswBlankEnd ch => decide (ch < 80)
  | .lswOvercurrent ch => decide (ch < 80)
  | .lswRetry ch => decide (ch < 80)
  | .lswRetryConfirm ch => decide (ch < 80)
  | .lswThermalTrip _ k _ => decide (k < 80)
  | .lswThermalRelease _ k _ => decide (k < 80)
  | .lswOpenLoad ch => decide (ch < 80)
  | .bankUndervoltage k mv10 => decide (k < 4) && decide (mv10 < 65536)
  | .bankRecover k mv10 => decide (k < 4) && decide (mv10 < 65536)
  | .lockBrakeEnd _ => true
  | .limpHomeInput _ => true
  | .lhinChange n _ => decide (n < 8)
  | .vpanLow v => decide (v < 65536)
  | .vpanRecover v => decide (v < 65536)
  | .trngHealthFail _ _ => true
  | .faultOccurrence src qual data => decide (src < 256) && decide (qual < 65536) && decide (data < 4294967296)
  | .faultRetry src qual data _ => decide (src < 256) && decide (qual < 65536) && decide (data < 4294967296)
  | .fltUnreadAck m v => decide (m < 4) && decide (v < 4294967296)
  | .fltForce m v => decide (m < 4) && decide (v < 4294967296)
  | .fltSevWrite m v => decide (m < 4) && decide (v < 4294967296)
  | .maActivityEnd _ _ => true
  | .maQueueTimeout _ => true
  | .clkmonWindow clk count _ => decide (clk < 6) && decide (count < 18446744073709551616)
  | .clockTrip clk => decide (clk < 6)
  | .clockSelfcheck _ _ => true
  | .rc48StartTimeout _ => true
  | .clkSelWrite v => decide (v < 4294967296)
  | .clkSwitchDone i => decide (i < 6)
  | .clkSwhang i => decide (i < 6)
  | .clkForceWrite v => decide (v < 4294967296)
  | .clkMeterStart v => decide (v < 4294967296)
  | .clkMeterDone count _ => decide (count < 18446744073709551616)
  | .clkGateWrite v => decide (v < 4294967296)
  | .gateForceClose g => decide (g < 6)
  | .startSequence _ => true
  | .powerFail t => decide (t < 9)
  | .vsupMinFall mv => decide (mv < 65536)
  | .domainPgLoss d _ => decide (d < 12)
  | .pilotRail _ _ => true
  | .bakSwitchover _ => true
  | .vbakLow mv => decide (mv < 65536)
  | .pwrPfCfgWrite v => decide (v < 4294967296)
  | .imageCopyDone _ _ => true
  | .handoverAccept dropped => allBelow 24 dropped
  | .handoverRollback step => decide (step < 256)
  | .svcFrame _ => true
  | .svcStageBegin total => decide (total < 4294967296)
  | .svcStageData offset _ => decide (offset < 4294967296)
  | .svcActivate slots => decide (slots < 256)
  | .bnwRead off _ nth => decide (off < 256) && decide (nth < 4294967296)
  | .bnwEnergy0Read _ => true
  | .bnwWrite off v nth => decide (off < 256) && decide (v < 256) && decide (nth < 4294967296)
  | .bnwSetpointWrite v => decide (v < 256)
  | .faultedPresenceClear _ => true
  | .lpddrEccError addr => decide (addr < 4294967296)
  | .islandCrossingDone => true
  | .stallLimit => true
  | .strPostComplete => true
  | .strRecover => true
  | .strRetryPrimary => true
  | .dormantEntry => true
  | .thresholdReload => true
  | .safeStatePairsOff => true
  | .safeStateReset => true
  | .vkcUv => true
  | .confirmKeypadTimeout => true
  | .confirmKeypadLockoutEnd => true
  | .stepInstant => true
  | .extloadLapse => true
  | .timebaseToLine => true
  | .timebaseToPtp => true
  | .latReportTx => true
  | .latRoundClose => true
  | .latShareTx => true
  | .referenceLost => true
  | .selfcalVisit => true
  | .periodicLatch => true
  | .boundaryLatch => true
  | .boundaryArm => true
  | .captureCut => true
  | .waveChunkSend => true
  | .waveExportTimeout => true
  | .periodicCommitTimer => true
  | .boundarySequence => true
  | .slewEnd => true
  | .creditEvaluate => true
  | .friendlyWindowEnd => true
  | .creditEpochCheck => true
  | .keypadEntryTimeout => true
  | .outletSelectExpiry => true
  | .keypadLockoutEnd => true
  | .lineAckWaitExpiry => true
  | .sectorTimingLost => true
  | .ptpSyncTimeout => true
  | .netHoldover => true
  | .nfcPollResume => true
  | .tagGuardEnd => true
  | .tagFieldOff => true
  | .tagRats => true
  | .tagHalt => true
  | .tagAuthLockEnd => true
  | .tagHostLockTimeout => true
  | .ccWatchdogExpiry => true
  | .watchdogReset => true
  | .panelFrame => true
  | .stressSave => true
  | .keyRemask => true
  | .maActivityStart => true
  | .rc48Stop => true
  | .powerfailRecovery => true
  | .vsupReturn => true
  | .fwVerifyDone => true
  | .stagingTimeout => true
  | .handoverRestart => true
  | .pauseLimit => true
  | .svcInfo => true
  | .svcVerify => true
  | .svcAbort => true
  | .svcExit => true
  | .bnwEnergyRefresh => true
  | .keypadQuietWake => true
  | .lfxoLoss => true
  | .pilotPeriodTrim => true
  | .lastStateUpdate => true

end Sys2Proof
end

