-- ==== Sys2Proof/Tests/Slice0.lean ====
section
/-! SUPPORT. The tests of the model. `test_wf_…`: an ill-formed term for each check of `Instr.wf`, which the check refuses, and the
same operands one below the bound, which it takes. `witness_…`: a state and operands that meet the hypotheses of each clause of the
statement of that name (those of the rows without hypotheses need none). -/

open Sys2Proof Sys2Proof.Machine

set_option linter.unusedVariables false

namespace Sys2Proof.Tests

-- one theorem after the other: side by side, the kernel's evaluations wait for one another and hold a thread each
set_option Elab.async false

/-- The words of a submission: TAG, payload, chain and bulk descriptor, each just above and just below its bound. -/
theorem test_wf_submissions :
    (([{ tag := 65536 },
      { tag := 0, payload := zeros 57 },
      { tag := 0, payload := zeros 449, chain := true },
      { tag := 0, payload := zeros 53, bulk := some (0, 8) },
      { tag := 0, bulk := some (65536, 8) },
      { tag := 0, bulk := some (0, 65536) }] : List Req).all fun q => !(Instr.sysVersion q).wf) = true ∧
    (([{ tag := 65535, payload := zeros 56 },
      { tag := 0, payload := zeros 448, chain := true },
      { tag := 0, payload := zeros 52, bulk := some (65535, 65535) }] : List Req).all fun q => (Instr.sysVersion q).wf) = true := by decide +kernel

/-- A frame of the mains modem with every field 0. -/
def lineF : LineFrame := { netid := 0, dst := 0, src := 0 }

/-- One field of a structured operand at its bound: refused. -/
theorem test_wf_refuses_fields : ((
   [.ethFrameRx 0 { dst := 2 ^ 48, src := 0, type := 0, fcs := 0 } 0,
    .ethFrameRx 0 { dst := 0, src := 2 ^ 48, type := 0, fcs := 0 } 0,
    .ethFrameRx 0 { dst := 0, src := 0, type := 2 ^ 16, fcs := 0 } 0,
    .ethFrameRx 0 { dst := 0, src := 0, type := 0, fcs := 2 ^ 32 } 0,
    .ethFrameRx 0 { dst := 0, src := 0, tag := some (4096, 0), type := 0, fcs := 0 } 0,
    .ethFrameRx 0 { dst := 0, src := 0, tag := some (0, 8), type := 0, fcs := 0 } 0,
    .ptpMessage { port := 2, src := 0, msg := .delayReq }, .ptpMessage { port := 0, dom := 256, src := 0, msg := .delayReq },
    .ptpMessage { port := 0, src := 2 ^ 64, msg := .delayReq },
    .ptpMessage { port := 0, src := 0, seq := 2 ^ 16, msg := .delayReq }, .lineFrameRx { lineF with netid := 2 ^ 16 },
    .lineFrameRx { lineF with dst := 2 ^ 16 }, .lineFrameRx { lineF with src := 2 ^ 16 },
    .lineFrameRx { lineF with fcnt := 2 ^ 32 }, .lineFrameRx { lineF with ang0 := 2 ^ 16 },
    .lineFrameRx { lineF with sectors := 256 }, .lineFrameRx { lineF with spans := 256 },
    .lineFrameRx { lineF with fcs := 2 ^ 16 }, .lineFrameRx { lineF with angle := 2 ^ 16 },
    .plcFrameRx [{ outlet := 24, start := 0, level := 0 }] [], .cmMnbcSoundInd 0 0 [{ outlet := 24 }] 0,
    .cmMnbcSoundInd 0 0 [{ outlet := 0, levels := List.replicate 59 0 }] 0, .nfcPoll 0 [{ uid := [1, 2, 3, 4, 5] }] [],
    .dlmsGet 0 (.items [{ ic := 65536, obis := 0, attr := 0 }]) 0 0,
    .dlmsGet 0 (.items [{ ic := 0, obis := 2 ^ 48, attr := 0 }]) 0 0,
    .dlmsGet 0 (.items [{ ic := 0, obis := 0, attr := 256 }]) 0 0, .dlmsGet 0 (.next (2 ^ 32)) 0 0,
    .dlmsSet 0 [{ ic := 65536, obis := 0, attr := 0, val := [] }] 0 0,
    .dlmsSet 0 [{ ic := 0, obis := 2 ^ 48, attr := 0, val := [] }] 0 0,
    .dlmsSet 0 [{ ic := 0, obis := 0, attr := 256, val := [] }] 0 0, .hostTransaction 0 [] [[16]] 0] : List Instr).all fun i => !i.wf) = true := by decide +kernel

/-- Every field of a structured operand one below its bound: taken. -/
theorem test_wf_takes_fields : ((
   [.ethFrameRx 1 { dst := 2 ^ 48 - 1, src := 2 ^ 48 - 1, tag := some (4095, 7), type := 2 ^ 16 - 1, fcs := 2 ^ 32 - 1 } 0,
    .ptpMessage { port := 1, dom := 255, src := 2 ^ 64 - 1, seq := 2 ^ 16 - 1, msg := .delayReq },
    .lineFrameRx { netid := 65535, dst := 65535, src := 65535, fcnt := 2 ^ 32 - 1, ang0 := 65535, sectors := 255, spans := 255, fcs := 65535, angle := 65535 },
    .plcFrameRx [{ outlet := 23, start := 0, level := 0 }] [],
    .cmMnbcSoundInd 0 0 [{ outlet := 23, levels := List.replicate 58 0 }] 0,
    .nfcPoll 0 [{ uid := [1, 2, 3, 4] }, { uid := zeros 7 }, { uid := zeros 10 }] [],
    .dlmsGet 0 (.items [{ ic := 65535, obis := 2 ^ 48 - 1, attr := 255 }]) 0 0, .dlmsGet 0 (.next (2 ^ 32 - 1)) 0 0,
    .dlmsSet 0 [{ ic := 65535, obis := 2 ^ 48 - 1, attr := 255, val := [] }] 0 0, .hostTransaction 0 [] [[15]] 0] : List Instr).all fun i => i.wf) = true := by decide +kernel

/-- One operand at its bound: refused. -/
theorem test_wf_refuses_1 : ((
   [.dlmsAarq 256 65535 0 255 {}, .dlmsAarq 255 65536 0 255 {}, .dlmsAarq 255 65535 0 256 {},
    .dlmsGet 0 (.next 0) 256 4294967295, .dlmsGet 0 (.next 0) 255 4294967296, .dlmsSet 0 [] 256 4294967295,
    .dlmsSet 0 [] 255 4294967296, .dlmsAction 0 65536 281474976710655 255 [] 255 4294967295,
    .dlmsAction 0 65535 281474976710656 255 [] 255 4294967295, .dlmsAction 0 65535 281474976710655 256 [] 255 4294967295,
    .dlmsAction 0 65535 281474976710655 255 [] 256 4294967295, .dlmsAction 0 65535 281474976710655 255 [] 255 4294967296,
    .hostTransaction 256 [15] [] 65535, .hostTransaction 255 [15] [] 65536, .hostTransaction 255 [16] [] 65535,
    .registerWrite 4294967296 4294967295, .registerWrite 4294967295 4294967296, .tmrScrub 4294967296 [],
    .bnwOutletWrite 4294967296, .doorbellWrite 0 4294967296, .cqHeadWrite 0 4294967296, .ringCfgWrite 0 false 4294967296,
    .submissionFetch 0 [3], .domainSwitchTimeout 12, .timeSnapWrite 4294967296, .ppSample 0 4294967296,
    .mirrorContactChange 26 false, .openingStart 0 32, .presenceDetect 0 8, .identification 0 4 [], .plcFrameRx [] [24],
    .plcTxGrant [24] [23], .plcTxGrant [23] [24], .cmSlacParmReq 0 18446744073709551616 281474976710655,
    .cmSlacParmReq 0 18446744073709551615 281474976710656, .cmMnbcSoundInd 0 18446744073709551616 [] 255,
    .cmMnbcSoundInd 0 18446744073709551615 [] 256, .cmValidateReq 0 false 65536,
    .cmSlacMatchReq 0 18446744073709551616 281474976710655, .cmSlacMatchReq 0 18446744073709551615 281474976710656] : List Instr).all fun i => !i.wf) = true := by decide

/-- One operand at its bound: refused. -/
theorem test_wf_refuses_2 : ((
   [.serviceSelectionReq 0 65536 false, .v2gStopRequest 0 256, .certReq 0 256 [], .selftestStart 0 256, .islandSafeState 256,
    .sinSample 8 false false, .sinAccept 8 false false, .sinDisc 8, .siteRelease 2, .siteFbCheck 2,
    .pairTestStepEnd 26 false 0 0 0, .pullinEnd 26, .siteCloseCheck 2, .coilCheck 26 0, .coilUndercurrent 26,
    .passwordLockoutEnd 3, .budgetRound [4294967296], .metroSample [] 4294967296, .gainDecision 104, .gainSwitch 96,
    .zeroCrossing 104 false 0 0, .tempUpdate [4294967296] 0, .ntcRestore 4, .halfCyclePq 2, .neutralMissing 2, .neutralEnd 2,
    .billTimeCorrection 0 4, .dlmsLockoutEnd 256, .graceExpiry 1024, .keyAccept 16, .mapRequestTimeout 65536,
    .robustHoldEnd 65536, .mapExpiry 65536 false, .ethFrameRx 2 { dst := 0, src := 0, type := 0, fcs := 0 } 4294967295,
    .ethFrameRx 1 { dst := 0, src := 0, type := 0, fcs := 0 } 4294967296, .txTimestamp 2 65535 281474976710655 999999999,
    .txTimestamp 1 65536 281474976710655 999999999, .txTimestamp 1 65535 281474976710656 999999999,
    .txTimestamp 1 65535 281474976710655 1000000000, .launchTime 2] : List Instr).all fun i => !i.wf) = true := by decide

/-- One operand at its bound: refused. -/
theorem test_wf_refuses_3 : ((
   [.toutEdge 4, .tcapEdge 4 false 4294967295, .tcapEdge 3 false 4294967296, .phyLinkChange 2 false false,
    .addressAgeing 281474976710656, .nfcPoll 4294967296 [] [], .tagFieldOn 4294967296, .tagAnticollision 256 [],
    .pageRead 65536 255 65535 [], .pageRead 65535 256 65535 [], .pageRead 65535 255 65536 [], .pageWrite 65536 255 [] [],
    .pageWrite 65535 256 [] [], .pwmPeriod [4294967296] [4294967295] [] [4294967295] [],
    .pwmPeriod [4294967295] [4294967296] [] [4294967295] [], .pwmPeriod [4294967295] [4294967295] [] [4294967296] [],
    .lswCurrentLimit 80 4294967295, .lswCurrentLimit 79 4294967296, .lswBlankEnd 80, .lswOvercurrent 80, .lswRetry 80,
    .lswRetryConfirm 80, .lswThermalTrip false 80 0, .lswThermalRelease false 80 0, .lswOpenLoad 80,
    .bankUndervoltage 4 65535, .bankUndervoltage 3 65536, .bankRecover 4 65535, .bankRecover 3 65536, .lhinChange 8 false,
    .vpanLow 65536, .vpanRecover 65536, .faultOccurrence 256 65535 4294967295, .faultOccurrence 255 65536 4294967295,
    .faultOccurrence 255 65535 4294967296, .faultRetry 256 65535 4294967295 false, .faultRetry 255 65536 4294967295 false,
    .faultRetry 255 65535 4294967296 false, .fltUnreadAck 4 4294967295, .fltUnreadAck 3 4294967296] : List Instr).all fun i => !i.wf) = true := by decide

/-- One operand at its bound: refused. -/
theorem test_wf_refuses_4 : ((
   [.fltForce 4 4294967295, .fltForce 3 4294967296, .fltSevWrite 4 4294967295, .fltSevWrite 3 4294967296,
    .clkmonWindow 6 18446744073709551615 false, .clkmonWindow 5 18446744073709551616 false, .clockTrip 6,
    .clkSelWrite 4294967296, .clkSwitchDone 6, .clkSwhang 6, .clkForceWrite 4294967296, .clkMeterStart 4294967296,
    .clkMeterDone 18446744073709551616 false, .clkGateWrite 4294967296, .gateForceClose 6, .powerFail 9, .vsupMinFall 65536,
    .domainPgLoss 12 false, .vbakLow 65536, .pwrPfCfgWrite 4294967296, .handoverAccept [24], .handoverRollback 256,
    .svcStageBegin 4294967296, .svcStageData 4294967296 [], .svcActivate 256, .bnwRead 256 false 4294967295,
    .bnwRead 255 false 4294967296, .bnwWrite 256 255 4294967295, .bnwWrite 255 256 4294967295, .bnwWrite 255 255 4294967296,
    .bnwSetpointWrite 256, .lpddrEccError 4294967296] : List Instr).all fun i => !i.wf) = true := by decide

/-- Every operand one below its bound: taken. -/
theorem test_wf_takes_1 : ((
   [.dlmsAarq 255 65535 0 255 {}, .dlmsGet 0 (.next 0) 255 4294967295, .dlmsSet 0 [] 255 4294967295,
    .dlmsAction 0 65535 281474976710655 255 [] 255 4294967295, .hostTransaction 255 [15] [] 65535,
    .registerWrite 4294967295 4294967295, .tmrScrub 4294967295 [], .bnwOutletWrite 4294967295, .doorbellWrite 0 4294967295,
    .cqHeadWrite 0 4294967295, .ringCfgWrite 0 false 4294967295, .submissionFetch 0 [2], .domainSwitchTimeout 11,
    .timeSnapWrite 4294967295, .ppSample 0 4294967295, .mirrorContactChange 25 false, .openingStart 0 31,
    .presenceDetect 0 7, .identification 0 3 [], .plcFrameRx [] [23], .plcTxGrant [23] [23],
    .cmSlacParmReq 0 18446744073709551615 281474976710655, .cmMnbcSoundInd 0 18446744073709551615 [] 255,
    .cmValidateReq 0 false 65535, .cmSlacMatchReq 0 18446744073709551615 281474976710655, .serviceSelectionReq 0 65535 false,
    .v2gStopRequest 0 255, .certReq 0 255 [], .selftestStart 0 255, .islandSafeState 255, .sinSample 7 false false,
    .sinAccept 7 false false, .sinDisc 7, .siteRelease 1, .siteFbCheck 1, .pairTestStepEnd 25 false 0 0 0, .pullinEnd 25,
    .siteCloseCheck 1, .coilCheck 25 0, .coilUndercurrent 25] : List Instr).all fun i => i.wf) = true := by decide

/-- Every operand one below its bound: taken. -/
theorem test_wf_takes_2 : ((
   [.passwordLockoutEnd 2, .budgetRound [4294967295], .metroSample [] 4294967295, .gainDecision 103, .gainSwitch 95,
    .zeroCrossing 103 false 0 0, .tempUpdate [4294967295] 0, .ntcRestore 3, .halfCyclePq 1, .neutralMissing 1, .neutralEnd 1,
    .billTimeCorrection 0 3, .dlmsLockoutEnd 255, .graceExpiry 1023, .keyAccept 15, .lineFrameRx lineF,
    .mapRequestTimeout 65535, .robustHoldEnd 65535, .mapExpiry 65535 false,
    .ethFrameRx 1 { dst := 0, src := 0, type := 0, fcs := 0 } 4294967295,
    .ptpMessage { port := 0, src := 0, msg := .delayReq }, .txTimestamp 1 65535 281474976710655 999999999, .launchTime 1,
    .toutEdge 3, .tcapEdge 3 false 4294967295, .phyLinkChange 1 false false, .addressAgeing 281474976710655,
    .nfcPoll 4294967295 [] [], .tagFieldOn 4294967295, .tagAnticollision 255 [], .pageRead 65535 255 65535 [],
    .pageWrite 65535 255 [] [], .pwmPeriod [4294967295] [4294967295] [] [4294967295] [], .lswCurrentLimit 79 4294967295,
    .lswBlankEnd 79, .lswOvercurrent 79, .lswRetry 79, .lswRetryConfirm 79, .lswThermalTrip false 79 0,
    .lswThermalRelease false 79 0] : List Instr).all fun i => i.wf) = true := by decide

/-- Every operand one below its bound: taken. -/
theorem test_wf_takes_3 : ((
   [.lswOpenLoad 79, .bankUndervoltage 3 65535, .bankRecover 3 65535, .lhinChange 7 false, .vpanLow 65535,
    .vpanRecover 65535, .faultOccurrence 255 65535 4294967295, .faultRetry 255 65535 4294967295 false,
    .fltUnreadAck 3 4294967295, .fltForce 3 4294967295, .fltSevWrite 3 4294967295,
    .clkmonWindow 5 18446744073709551615 false, .clockTrip 5, .clkSelWrite 4294967295, .clkSwitchDone 5, .clkSwhang 5,
    .clkForceWrite 4294967295, .clkMeterStart 4294967295, .clkMeterDone 18446744073709551615 false, .clkGateWrite 4294967295,
    .gateForceClose 5, .powerFail 8, .vsupMinFall 65535, .domainPgLoss 11 false, .vbakLow 65535, .pwrPfCfgWrite 4294967295,
    .handoverAccept [23], .handoverRollback 255, .svcStageBegin 4294967295, .svcStageData 4294967295 [], .svcActivate 255,
    .bnwRead 255 false 4294967295, .bnwWrite 255 255 4294967295, .bnwSetpointWrite 255, .lpddrEccError 4294967295] : List Instr).all fun i => i.wf) = true := by decide

/-- A machine in RUN with its firmware up and every domain on. -/
def run0 : State := { State.reset with
  host := { State.reset.host with ready := true }
  pwr := { State.reset.pwr with state := .run, on := 0xFFF, pgood := 0xFFF, awaiting := none } }

/-- `l` with `b` laid over it from offset `i` on. -/
def putAt (l : Bytes) (i : Nat) (b : Bytes) : Bytes := l.take i ++ b ++ l.drop (i + b.length)

/-- A tariff calendar but for its CRC: one season, one week, one day that is rate 1 from midnight. -/
def cal0 : Bytes := [1, 1, 1, 1] ++ zeros 12 ++ [1, 1] ++ zeros 126 ++ [0, 0, 1, 0] ++ (List.replicate 15 [255, 255, 0, 0]).flatten ++ zeros 2496

/-- A machine whose two passwords are eight zero bytes. -/
def pwState (mode : Nat) : State := { run0 with store := { run0.store with
  safeMode := mode, pwSet := [true, true], pwHash := List.replicate 2 (pwDigest 0 (zeros 8)) } }

theorem pwState_creds (mode : Nat) (z : State) (hb : z.bak = run0.bak) (hs : z.store = (pwState mode).store) :
    z.tryPassword 2 (zeros 8) = (true, { z with bak := { z.bak with pwWrong := z.bak.pwWrong.set 1 0 } }) := by
  have e : (z.store.pwSet.getD 1 false && z.store.pwHash.getD 1 [] == pwDigest (z.store.pwSalt.getD 1 0) (zeros 8)) = true := by
    rw [hs]
    exact beq_self_eq_true (pwDigest 0 (zeros 8))
  exact (if_neg (by rw [hb]; decide)).trans (if_pos e)

theorem bulkGet_put (s : State) (p : PNum) (m : Memory) (l : Bytes) (n : Nat) (h : Memory.readN m (p.val * 4096) n = l) :
    ({ s with rings := { s.rings with bulk := m } } : State).bulkGet p (0, n) = l := by
  simp only [State.bulkGet, Nat.add_zero]
  exact h

/-- `s` with `l` at the start of the bulk region of pair `p`. -/
def putBulk (s : State) (p : PNum) (l : Bytes) : State :=
  { s with rings := { s.rings with bulk := Memory.writeN [] (p.val * 4096) l } }

theorem putBulk_get (s : State) (p : PNum) (l : Bytes) (n : Nat) (h : l.length = n) : (putBulk s p l).bulkGet p (0, n) = l := by
  have h1 := Memory.readN_writeN (m := []) rfl (p.val * 4096) l
  rw [h] at h1
  exact bulkGet_put s p _ l n h1

/-- The temperature table of the worked example of chapter 09: point 5 and point 6 among zeros; TG and TP at 25 °C lie between points 6
(20 °C) and 7 (30 °C). -/
def exTable : Bytes := zeros 24 ++ toLEs 2 (-1132) ++ toLE 2 867 ++ toLEs 2 (-600) ++ toLE 2 800 ++ zeros 32

/-- R308, example of chapter 09: TG interpolates to −866 and TP to 834 at 25 °C. -/
theorem test_table_at_25_degrees : tableAt exTable 250 = (-866, 834) := by decide +kernel

/-- Example of chapter 08, step 3: targets 95.0, 40.0 and 95.0 A; grants 95.0, 40.0 and 80.0 A. -/
theorem test_lattice_round_k : targets 2300 [⟨400, 1000, 1100, 1100, 0⟩, ⟨400, 300, 400, 400, 0⟩, ⟨400, 1200, 800, 800, 0⟩] = [950, 400, 950] ∧
    grants 2300 [⟨400, 1000, 1100, 1100, 0⟩, ⟨400, 300, 400, 400, 0⟩, ⟨400, 1200, 800, 800, 0⟩] = [950, 400, 800] := by decide +kernel

/-- Example of chapter 08, step 8: with M1's reserve down to 95.0 A, M3 is granted 95.0 A. -/
theorem test_lattice_round_k2 : grants 2300 [⟨400, 1000, 950, 950, 0⟩, ⟨400, 300, 400, 400, 0⟩, ⟨400, 1200, 800, 800, 0⟩] = [950, 400, 950] := by
  decide +kernel

/-- Example of chapter 14: 269.5° and 120° give ANG0 21. -/
theorem test_line_ang0 : ang0Of (2695 * 65536 / 3600) 1 = 21 := by decide +kernel

/-- Example of chapter 14: N is 5,976 and S is 1,993. -/
theorem test_line_interleaver : interleaveStep 5976 = 1993 := by decide +kernel

/-- Example of chapter 16: of two cards one bit apart, C2 (last bit 1) completes first, and C1 answers alone later. -/
theorem test_nfc_two_cards :
    ((typeALoop [{ uid := [0x3C, 0x7A, 0x51, 0x16] }, { uid := [0x3C, 0x7A, 0x51, 0x96] }]).map (·.uid)).head? = some [0x3C, 0x7A, 0x51, 0x96] := by decide +kernel

/-- Example of chapter 18: entries (8,000 h, 0x7333) and (10,000 h, 0x6E14). -/
def exCurve : Bytes :=
  toLE 4 0 ++ toLE 2 0x8000 ++ toLE 4 8000 ++ toLE 2 0x7333 ++ toLE 4 10000 ++ toLE 2 0x6E14
    ++ ((List.range 13).map fun i => toLE 4 (20000 + 1000 * i) ++ toLE 2 0x6000).flatten

/-- Example of chapter 18: REF 0.85 gives M 123 at 9,000 h and 108 for a new pixel. -/
theorem test_panel_map : mapEntry exCurve 85 9000 = 123 ∧ mapEntry exCurve 85 0 = 108 := by decide +kernel

/-- Example of chapter 03: head 0xFFF0 and tail 0xFFFE leave 14 entries outstanding, the new tail
0x0001 is 3 on, and slot 62 of RP4 stands at 0x0001_8F80. -/
theorem test_ring_count : ringCount 0xFFF0 0xFFFE = 14 ∧ ringCount 0xFFFE 0x0001 = 3 ∧ 0x10000 + slotOff (4 * 16) 64 0xFFFE = 0x18F80 := by decide +kernel

/-- Example of chapter 14: the sectors of the symbols at the ends of the table's ranges, with ANG0 21 and PER 5,000. -/
theorem test_line_sectors : [0, 1, 2, 4, 5, 8, 9, 11, 12, 15, 16, 18, 19, 22, 23, 25, 26, 29, 30, 32, 54, 57, 58, 59].map (symbolSector 21 5000) =
    [0, 0, 1, 1, 2, 2, 3, 3, 4, 4, 5, 5, 6, 6, 7, 7, 0, 0, 1, 1, 0, 0, 1, 1] := by decide +kernel

/-- Example of chapter 24: the low byte of the copy 0x0002_A322, and the snapshot's other bytes. -/
theorem test_bnw_energy : let s : State := { run0 with bnw := { run0.bnw with copy := 0x2A322, snap := 0x2A3 } }
    [0x10, 0x11, 0x12, 0x13].map s.bnwReg = [0x22, 0xA3, 0x02, 0x00] := by decide +kernel

theorem witness_safeConfirm : ∃ (q : Req) (z : State),
(Served { op := 0x0504, pair := 2, lo := 24, hi := 24 } q z (credsFit q.payload 4)) ∧
(let a := z.tryCreds q.payload 4
let s := a.2
(¬(!a.1)) ∧
((¬(!s.confirmPending)) ∧
((¬(u32 q.payload 0 ≠ s.check))))) := by
  refine ⟨{ tag := 1, payload := zeros 4 ++ [2, 8, 0, 0] ++ zeros 16 }, { pwState 1 with isl := { run0.isl with img := [] } }, by decide +kernel, ?_⟩
  have h : ({ pwState 1 with isl := { run0.isl with img := [] } } : State).tryCreds (zeros 4 ++ [2, 8, 0, 0] ++ zeros 16) 4 = _ := pwState_creds 1 _ rfl rfl
  dsimp only
  rw [h]
  decide +kernel
theorem witness_safeModeSet : ∃ (q : Req) (z : State),
let m := u8 q.payload 0
let role := u8 q.payload 4
(Served { op := 0x0505, pair := 2, lo := 24, hi := 24 } q z ((m == 1 || m == 2) && credsFit q.payload 4)) ∧
(let a := z.tryCreds q.payload 4
let s := a.2
(¬(!a.1 || (m = 1 && role ≠ 2))) ∧
((¬(s.anyEnergised)))) := by
  refine ⟨{ tag := 1, payload := [1, 0, 0, 0, 2, 8, 0, 0] ++ zeros 16 }, pwState 1, by decide +kernel, ?_⟩
  have h : (pwState 1).tryCreds ([1, 0, 0, 0, 2, 8, 0, 0] ++ zeros 16) 4 = _ := pwState_creds 1 _ rfl rfl
  dsimp only
  rw [h]
  decide +kernel
theorem witness_safeWeldResolve : ∃ (q : Req) (z : State),
let o := outletArg q.payload 0
(Served { op := 0x0508, pair := 2, lo := 24, hi := 24 } q z (outletFits q.payload 0 && credsFit q.payload 4)) ∧
(let a := z.tryCreds q.payload 4
let s := a.2
let j := s.bus o
(¬(!a.1)) ∧
((¬(!s.latchedQ 38 o.val)) ∧
((¬(s.confirmPending || s.latchedQ 119 j || (s.busOutlets j).any s.coil)) ∧
((¬(s.pairBlocked (24 + j) || s.isl.safeState)))))) := by
  refine ⟨{ tag := 1, payload := [0, 0, 0, 0, 2, 8, 0, 0] ++ zeros 16 }, { pwState 0 with flt := { run0.flt with occ := [{ src := 38, qual := 0 }] } }, by decide +kernel, ?_⟩
  have h : ({ pwState 0 with flt := { run0.flt with occ := [{ src := 38, qual := 0 }] } } : State).tryCreds ([0, 0, 0, 0, 2, 8, 0, 0] ++ zeros 16) 4 = _ := pwState_creds 0 _ rfl rfl
  dsimp only
  rw [h]
  decide +kernel

theorem witness_safeConfigWrite : ∃ (q : Req) (z : State),
let r := q.bulk.getD (0, 0)
let img := (z.bulkGet 2 r).take 512
(Served { op := 0x0503, pair := 2, lo := 20, hi := 20, bulk := 1 } q z (z.store.safeMode != 0 || credsFit q.payload 0)) ∧
((¬(r.2 < 512 || !imageOk img)) ∧
(let a := if z.store.safeMode = 0 then z.tryCreds q.payload 0 else (true, z)
let s := a.2
(¬(!a.1)) ∧
((¬(s.imageConflict img))))) := by
  have h1 : imageOk factoryImage = true := by
    have h2 : (u32 factoryImage 508 == crc32c (factoryImage.take 508)) = true := by
      have h3 := fld_append_toLE factoryBody [] 4 (crc32c factoryBody)
      have h4 : factoryImage.take factoryBody.length = factoryBody := List.take_left
      rw [List.append_nil, Nat.mod_eq_of_lt (show _ < 256 ^ 4 from crc32c_lt _)] at h3
      have h5 : factoryBody.length = 508 := by decide +kernel
      rw [h5] at h3 h4
      rw [h4, u32]
      exact beq_iff_eq.2 h3
    have h6 : (factoryImage.length == 512 && u8 factoryImage 0 == 1 && u8 factoryImage 1 ≤ 3 && zeroAt factoryImage 2 14
      && ((List.range 24).all (outletRecOk factoryImage)) && ((List.range 2).all (siteRecOk factoryImage))
      && ((List.range 8).all (sinRecOk factoryImage)) && zeroAt factoryImage 504 4) = true := by decide +kernel
    unfold imageOk
    rw [h6, h2]
    rfl
  have h7 : (putBulk run0 2 factoryImage).bulkGet 2 (0, 512) = factoryImage := putBulk_get _ _ _ _ (by decide +kernel)
  have h8 : factoryImage.take 512 = factoryImage := by
    rw [List.take_of_length_le]; decide +kernel
  refine ⟨{ tag := 1, payload := zeros 20, bulk := some (0, 512) },
    putBulk run0 2 factoryImage, by decide +kernel, ?_, ?_⟩
  · dsimp only [Option.getD]
    rw [h7, h8, h1]
    decide
  · dsimp only [Option.getD]
    rw [h7, h8, if_neg (by decide)]
    refine ⟨by decide, ?_⟩
    decide +kernel

/-- The calendar with its CRC. -/
def cal1 : Bytes := cal0.take 12 ++ (toLE 4 (crc32c (cal0.take 12 ++ cal0.drop 16)) ++ cal0.drop 16)

theorem witness_billCalendarWrite : ∃ (q : Req) (s : State),
let r := q.bulk.getD (0, 0)
(Served { op := 0x0803, pair := 5, bulk := 1 } q s true) ∧
((¬(r.2 < 2704 || !calendarOk (s.bulkGet 5 (r.1, 2704)))) ∧
((¬(s.store.activateAt.isSome)))) := by
  have h : calendarOk cal1 = true := by
    have h1 : u32 cal1 12 = crc32c (cal1.take 12 ++ cal1.drop 16) := by
      have h2 := fld_append_toLE (cal0.take 12) (cal0.drop 16) 4 (crc32c (cal0.take 12 ++ cal0.drop 16))
      rw [Nat.mod_eq_of_lt (show _ < 256 ^ 4 from crc32c_lt _)] at h2
      rw [show (cal0.take 12).length = 12 by decide +kernel] at h2
      have h3 : cal1.take 12 = cal0.take 12 := List.take_left' (by decide +kernel)
      have h4 : cal1.drop 16 = cal0.drop 16 := by
        rw [cal1, ← List.append_assoc, List.drop_left' (by decide +kernel)]
      rw [h3, h4, u32, cal1, h2]
    unfold calendarOk
    dsimp only
    rw [h1, beq_self_eq_true]
    decide +kernel
  have h7 : (putBulk run0 5 cal1).bulkGet 5 (0, 2704) = cal1 := putBulk_get _ _ _ _ (by decide +kernel)
  refine ⟨{ tag := 1, bulk := some (0, 2704) }, putBulk run0 5 cal1, by decide +kernel, ?_, by decide⟩
  dsimp only [Option.getD]
  rw [h7, h]
  decide

/-- A machine whose working calibration set carries its digest, and whose key 0 may check it. -/
def calState : State := { run0 with met := { run0.met with digested := true }, store := { run0.store with keys := [(0, { state := 1, engines := 255, uses := 255 })] } }

def calTag : Bytes := (padTo 16 (Config.cmac [] calState.calMacInput)).take 8

theorem witness_metroCalCommit : ∃ (q : Req) (s : State),
let p := q.payload
(Served { op := 0x070A, pair := 4, lo := 12, hi := 12 } q s true) ∧
((s.slotRefuses (u8 p 0) 3 3 = none) ∧
((¬((p.drop 4).take 8 ≠ (padTo 16 (Config.cmac (s.slot (u8 p 0)).mat s.calMacInput)).take 8)) ∧
((¬(s.met.commit.isSome)) ∧
((¬(s.anyRefCal)) ∧
((¬(!s.met.digested))))))) := by
  have h : calTag.length = 8 := by simp [calTag]
  refine ⟨{ tag := 1, payload := [0, 0, 0, 0] ++ calTag }, calState, ⟨by decide, ?_⟩, by decide +kernel, ?_, by decide +kernel,
    by decide +kernel, by decide +kernel⟩
  · have h1 : ([0, 0, 0, 0] ++ calTag).length = 12 := by rw [List.length_append, h]; rfl
    unfold State.screen Cmd.layoutOk
    dsimp only
    rw [h1]
    decide
  · refine not_not_intro ?_
    exact List.take_of_length_le (Nat.le_of_eq h)

/-- A key message that moves slot 16 on, for this device, under the class 1 key. -/
def keyHead : Bytes := [1, 1, 2, 16] ++ (toLE 8 Config.uid.toNat ++ ([1, 0, 0, 0, 0, 0, 0, 0, 1, 0, 0, 0, 0, 0, 255, 1] ++ zeros 12))
def keySig : Bytes := padTo 16 (Config.cmac [] keyHead)
def keyState : State :=
  putBulk { run0 with store := { run0.store with keys := [(9, { state := 1, engines := 8, uses := 8 })] } } 11 (keyHead ++ keySig)

theorem witness_keyUpdate : ∃ (q : Req) (z : State),
(Served { op := 0x1002, pair := 11, bulk := 1 } q z true) ∧
(let s := (flown { op := 0x1002, pair := 11, bulk := 1 } q z).openGates [0, 1, 2]
let m := parseKeyMsg (z.bulkGet 11 (q.bulk.getD (0, 0)))
(m.ok = true) ∧
((m.device = Config.uid.toNat) ∧
((s.keyAuthOk m = true) ∧
((s.store.keyCtr.getD m.cls 0 < m.counter) ∧
((m.op ≠ 0) ∧
((((s.slot m.slot).state = 0 ∨ (s.slot m.slot).cls = m.cls)))))))) := by
  have h : keySig.length = 16 := padTo_length ..
  have h1 : (keyHead ++ keySig).length = 56 := by rw [List.length_append, h]; rfl
  have h2 : keyState.bulkGet 11 (0, 56) = keyHead ++ keySig := putBulk_get _ _ _ _ h1
  have h4 : fld (keyHead ++ keySig) 4 8 = Config.uid.toNat := by
    have h5 := fld_append_toLE [1, 1, 2, 16] (([1, 0, 0, 0, 0, 0, 0, 0, 1, 0, 0, 0, 0, 0, 255, 1] ++ zeros 12) ++ keySig) 8 Config.uid.toNat
    rw [Nat.mod_eq_of_lt (show _ < 256 ^ 8 from Config.uid.isLt)] at h5
    exact h5
  refine ⟨{ tag := 1, bulk := some (0, 56) }, keyState, by decide +kernel, ?_⟩
  dsimp only [Option.getD]
  rw [h2]
  generalize hm : parseKeyMsg (keyHead ++ keySig) = m
  have hr : m.raw = keyHead ++ keySig := by rw [← hm]; rfl
  have ha : m.auth = 1 := by rw [← hm]; rfl
  have hs : m.slot = 16 := by rw [← hm]; rfl
  have hc : m.cls = 1 := by rw [← hm]; rfl
  have hl : m.sigLen = 16 := by unfold KeyMsg.sigLen; rw [ha]; rfl
  have hg : m.sig = keySig := by unfold KeyMsg.sig; rw [hl, hr, h1]; rfl
  have hv : m.covered = keyHead := by
    unfold KeyMsg.covered; rw [hl, hr, h1]; exact List.take_left' rfl
  refine ⟨?_, by rw [← hm]; exact h4, ?_, ?_, ?_, Or.inl ?_⟩
  · unfold KeyMsg.ok
    rw [hl, hr, h1, ← hm]
    decide +kernel
  · unfold State.keyAuthOk
    rw [ha, hs, hc, hg, hv]
    have hk : ((flown { op := 0x1002, pair := 11, bulk := 1 } { tag := 1, bulk := some (0, 56) } keyState).openGates [0, 1, 2]).slot 9 = { state := 1, engines := 8, uses := 8 } := rfl
    rw [show 8 + 1 = 9 from rfl, hk]
    rw [show (keySig == padTo 16 (Config.cmac [] keyHead)) = true from beq_self_eq_true _]
    decide +kernel
  · rw [hc, ← hm]; decide +kernel
  · rw [← hm]; decide +kernel
  · rw [hs]; decide +kernel

theorem witness_pageWrite : ∃ (page off : Nat) (data mac : Bytes) (s : State),
(s.nfc.tag.st = 5) ∧
((s.store.tagKey.isSome = true) ∧
(let z := s.modTag fun t => { t with hello := none }
(mac = z.tagMac (toLE 1 0x84 ++ [0x33] ++ toLE 1 page ++ toLE 1 off ++ toLE 1 data.length ++ data)) ∧
((32 ≤ page) ∧
((page < 64) ∧
((data ≠ []) ∧
((data.length ≤ 240) ∧
((off + data.length ≤ 256)))))))) :=
  ⟨63, 255, [1], _, { run0 with nfc := { run0.nfc with tag := { st := 5 } }, store := { run0.store with tagKey := some (16, []) } },
    rfl, rfl, rfl, by decide, by decide, by decide, by decide, by decide⟩

theorem witness_tagProve : ∃ (pr rndr rndt k : Bytes) (n : Nat) (s : State),
(4 ≤ s.nfc.tag.st) ∧
((pr.length = 16) ∧
((s.store.tagKey = some (n, k)) ∧
((s.nfc.tag.hello = some (rndr, rndt)) ∧
((pr = padTo 16 (Config.cmac k (0x52 :: rndt ++ rndr ++ tagId))))))) :=
  ⟨_, zeros 16, zeros 16, [], 16, { run0 with nfc := { run0.nfc with tag := { st := 4, hello := some (zeros 16, zeros 16) } }, store := { run0.store with tagKey := some (16, []) } },
    by decide, padTo_length .., rfl, rfl, rfl⟩

theorem witness_nfcPoll (h : Config.variantIN = false) : (∃ (field : Nat) (typeA : List Card) (typeB : List (List (List Bytes))) (t : Nat) (id : Bytes)
    (s : State), s.readerOn = true ∧ field ≤ 5 ∧ (typeALoop typeA).filter (·.part4) = [] ∧
    let z := s.openGates [4]
    ((typeALoop typeA).map fun x => (0, x.uid)) ++ ((typeBLoop (u8 z.cfg.nfc 4) 8 typeB).map fun x => (1, x)) = [(t, id)]) ∧
    ∃ (field : Nat) (typeA : List Card) (typeB : List (List (List Bytes))) (s : State), s.readerOn = true ∧ field ≤ 5 ∧ typeALoop typeA = [] ∧
    typeBLoop (u8 (s.openGates [4]).cfg.nfc 4) 8 typeB = [] := by
  have hr : ({ run0 with cfg := { run0.cfg with nfc := 1 :: 0 :: 0 :: 0 :: 1 :: zeros 3 }, clk := { run0.clk with xtalOk := true, rcOnly := false } } :
      State).readerOn = true := by
    unfold State.readerOn nfcFitted
    rw [h]
    decide +kernel
  exact ⟨⟨5, [], [[[[1, 2, 3, 4]]]], 1, [1, 2, 3, 4], _, hr, by decide, rfl, by decide +kernel⟩,
    ⟨5, [], [], _, hr, by decide, rfl, by decide +kernel⟩⟩

/-- The sender of a lattice frame of another member. -/
theorem fld_sender (a b : Bytes) (h : a.length = 8) : fld (a ++ (toLE 8 (ownId + 1) ++ b)) 8 8 = (ownId + 1) % 2 ^ 64 ∧
    (fld (a ++ (toLE 8 (ownId + 1) ++ b)) 8 8 != ownId) = true := by
  have h1 := fld_append_toLE a b 8 (ownId + 1)
  rw [h, show (256 : Nat) ^ 8 = 2 ^ 64 by norm_num] at h1
  refine ⟨h1, ?_⟩
  have h2 : ownId < 2 ^ 64 := Config.uid.isLt
  rw [h1, bne_iff_ne]
  omega

/-- A machine of a lattice of two. -/
def latState : State := { run0 with cfg := { run0.cfg with lat := [1, 2, 0, 0, 1] ++ zeros 19 } }

/-- The bytes of a frame of another member before its MAC: a REPORT (`t` 1) or a SHARE (`t` 2) without a body. -/
def latHead (t : Byte) : Bytes := [1, t, 0, 0, 1, 0, 0, 0] ++ (toLE 8 (ownId + 1) ++ (toLE 4 0 ++ toLE 4 latState.latCheck))

/-- The whole frame. -/
def latWhole (t : Byte) : Bytes := latHead t ++ latState.latMac (latHead t)

theorem latHead_length (t : Byte) : (latHead t).length = 24 := by
  unfold latHead
  simp only [List.length_append, toLE_length, List.length_cons, List.length_nil]

theorem latWhole_check (t : Byte) : u32 (latWhole t) 20 = latState.latCheck := by
  have h := fld_append_toLE ([1, t, 0, 0, 1, 0, 0, 0] ++ (toLE 8 (ownId + 1) ++ toLE 4 0)) (latState.latMac (latHead t)) 4 latState.latCheck
  rw [Nat.mod_eq_of_lt (show latState.latCheck < 256 ^ 4 from crc32c_lt _)] at h
  have h1 : ([1, t, 0, 0, 1, 0, 0, 0] ++ (toLE 8 (ownId + 1) ++ toLE 4 0) : Bytes).length = 20 := by
    simp only [List.length_append, toLE_length, List.length_cons, List.length_nil]
  rw [h1] at h
  have h2 : latWhole t =
      [1, t, 0, 0, 1, 0, 0, 0] ++ (toLE 8 (ownId + 1) ++ toLE 4 0) ++ (toLE 4 latState.latCheck ++ latState.latMac (latHead t)) := by
    simp only [latWhole, latHead, List.append_assoc]
  rw [h2]
  exact h

theorem latWhole_parse (t : Byte) (h : (t == 1 || t == 2) = true) : latState.latParse (latWhole t) = some {
    share := u8 (latWhole t) 1 == 2, sender := fld (latWhole t) 8 8, round := u32 (latWhole t) 16
    cfgchk := u32 (latWhole t) 20, body := (latHead t).drop 24 } := by
  have hl := latHead_length t
  have hm : (latState.latMac (latHead t)).length = 8 := by simp only [State.latMac, List.length_take, padTo_length]; rfl
  have h16 : u16 (latWhole t) 2 = 0 := rfl
  have ht : (latWhole t).take 24 = latHead t := List.take_left' hl
  have hd : (latWhole t).drop 24 = latState.latMac (latHead t) := List.drop_left' hl
  have h1 : (u8 (latWhole t) 1 == 1 || u8 (latWhole t) 1 == 2) = true := by
    have h3 : u8 (latWhole t) 1 = t.toNat := rfl
    rw [h3]
    clear hl hm h16 ht hd h3
    revert h t
    decide +kernel
  unfold State.latParse
  simp only [h16, Nat.add_zero, ht, hd]
  refine if_pos ?_
  have h0 : u8 (latWhole t) 0 = 1 := rfl
  have h4 : (latWhole t).length = 32 := by rw [latWhole, List.length_append, hl, hm]
  rw [h0, h1, h4, List.take_of_length_le (by rw [hm])]
  simp

theorem latWhole_member (t : Byte) : (latState.fwRuns && latState.inLattice && latState.netOn
    && u32 (latWhole t) 4 == u32 latState.cfg.lat 4 && fld (latWhole t) 8 8 != ownId) = true := by
  have h := (fld_sender [1, t, 0, 0, 1, 0, 0, 0] ((toLE 4 0 ++ toLE 4 latState.latCheck) ++ latState.latMac (latHead t)) rfl).2
  have h2 : latWhole t = [1, t, 0, 0, 1, 0, 0, 0] ++ (toLE 8 (ownId + 1) ++ ((toLE 4 0 ++ toLE 4 latState.latCheck)
      ++ latState.latMac (latHead t))) := by simp only [latWhole, latHead, List.append_assoc]
  rw [h2, h]
  rfl

theorem witness_latFrameRx : (∃ (frame : Bytes) (f : LatFrame) (s : State),
    ((s.fwRuns && s.inLattice && s.netOn && u32 frame 4 == u32 s.cfg.lat 4 && fld frame 8 8 != ownId) = true) ∧
    s.latParse frame = some f ∧ f.cfgchk = s.latCheck ∧ f.share = true ∧ (s.memberOf f.sender).lastS = none) ∧
    (∃ (frame : Bytes) (f : LatFrame) (s : State),
    ((s.fwRuns && s.inLattice && s.netOn && u32 frame 4 == u32 s.cfg.lat 4 && fld frame 8 8 != ownId) = true) ∧
    s.latParse frame = some f ∧ f.cfgchk = s.latCheck ∧ f.share = false ∧ (s.memberOf f.sender).lastR = none) ∧
    ∃ (frame : Bytes) (s : State),
    ((s.fwRuns && s.inLattice && s.netOn && u32 frame 4 == u32 s.cfg.lat 4 && fld frame 8 8 != ownId) = true) ∧
    s.latParse frame = none := by
  refine ⟨⟨latWhole 2, _, latState, latWhole_member 2, latWhole_parse 2 rfl, latWhole_check 2, rfl, rfl⟩,
    ⟨latWhole 1, _, latState, latWhole_member 1, latWhole_parse 1 rfl, latWhole_check 1, rfl, rfl⟩,
    [0, 2, 0, 0, 1, 0, 0, 0] ++ (toLE 8 (ownId + 1) ++ []), latState, ?_, rfl⟩
  rw [(fld_sender [0, 2, 0, 0, 1, 0, 0, 0] [] rfl).2]
  rfl

/-- The management client proves itself with the MAC of the challenge. -/
theorem witness_dlmsAarq_hls : ∃ (client server transport channel r : Nat) (h : Hls) (s : State),
    s.fwRuns = true ∧ s.transportOpen transport = true ∧ clientIdx client = some r ∧ r ≠ 0 ∧ s.serverOk server = true ∧
    s.mechOk r h.mech = true ∧ s.dl.assocs = [] ∧ s.slotRefuses (s.dlCfg r 2) 1 1 = none ∧ s.slotRefuses (s.dlCfg r 3) 1 1 = none ∧
    s.bak.dlLock.getD r false = false ∧ (s.draw).2.hlsOk r h (toLE 8 (s.draw).1) = true := by
  let s : State := { run0 with
    cfg := { run0.cfg with dlms := [7, 0, 0, 0] ++ zeros 28 }
    store := { run0.store with keys := [(0, { state := 1, engines := 255, uses := 255 })] } }
  refine ⟨48, 1, 1, 0, 2, { mech := 5, proof := Config.gmac [] [] (toLE 8 (s.draw).1) }, s, by decide, by decide, rfl, by decide, by decide,
    by decide, rfl, by decide, by decide, by decide, ?_⟩
  exact beq_self_eq_true (Config.gmac [] [] (toLE 8 (s.draw).1))

/-- A SYS_INFO frame of the service port. -/
theorem witness_svcFrame_taken : ∃ (b : Bytes) (s : State), (s.svcServes && s.svc.srdy) = true ∧ svcFrameOk b = true ∧ s.svc.last ≠ some (u8 b 1) ∧
    1 ≤ u8 b 0 ∧ u8 b 0 ≤ 7 ∧ svcLenOk (u8 b 0) ((b.drop 4).take (u16 b 2)).length = true := by
  have h := fld_append_toLE [1, 9, 0, 0] [] 4 (crc32c [1, 9, 0, 0])
  rw [Nat.mod_eq_of_lt (show _ < 256 ^ 4 from crc32c_lt _), List.append_nil] at h
  refine ⟨[1, 9, 0, 0] ++ toLE 4 (crc32c [1, 9, 0, 0]), { run0 with svc := { run0.svc with srdy := true } }, by decide, ?_, by decide,
    by decide, by decide, by decide⟩
  have h1 : ([1, 9, 0, 0] ++ toLE 4 (crc32c [1, 9, 0, 0])).length = 8 := by rw [List.length_append, toLE_length]; rfl
  have h2 : u32 ([1, 9, 0, 0] ++ toLE 4 (crc32c [1, 9, 0, 0])) 4 = crc32c [1, 9, 0, 0] := h
  have h3 : u16 ([1, 9, 0, 0] ++ toLE 4 (crc32c [1, 9, 0, 0])) 2 = 0 := rfl
  have h4 : ([1, 9, 0, 0] ++ toLE 4 (crc32c [1, 9, 0, 0])).take 4 = [1, 9, 0, 0] := rfl
  unfold svcFrameOk
  rw [h3, h1]
  dsimp only
  rw [Nat.zero_add, h2, h4]
  simp

/-- A frame for the own address, and not an ARP request. -/
theorem witness_ethFrameRx_delivered : ∃ (port residence : Nat) (f : EthFrame) (s : State),
    (s.netOn && decide (port < 2) && bit (u8 s.cfg.net 0) port && s.net.link.getD port false) = true ∧ f.fcs = fcsOf (ethBytes f) ∧
    f.dst = ownMac ∧ groupMac f.src = false ∧ f.tag = none ∧ s.arpAnswer f = none := by
  let g : EthFrame := { dst := ownMac, src := 2, type := 0, fcs := 0 }
  exact ⟨0, 0, { g with fcs := fcsOf (ethBytes g) }, { run0 with
    cfg := { run0.cfg with net := 1 :: zeros 23 }
    net := { run0.net with link := [true, true] } }, by decide, rfl, rfl, by decide, rfl, rfl⟩

/-- A machine that takes part in time synchronisation. -/
def ptpState (b : Bool) : State := { run0 with
  cfg := { run0.cfg with net := 1 :: 0 :: 0 :: 2 :: zeros 20 }
  net := { run0.net with link := [true, true], fast := [b, b] } }

theorem ptpState_takes (b : Bool) (n c : Nat) (h : (n != c) = true) : ∃ (x : PtpRx) (s : State), (s.fwRuns && s.netOn
    && decide (s.ptpRole ≠ 0) && x.dom == u8 s.cfg.net 6 && x.udp == (u8 s.cfg.net 5 == 1) && x.src != c) = true ∧
    s.net.fast.getD x.port false = b := by
  refine ⟨{ port := 0, src := n, msg := .delayReq }, ptpState b, ?_, rfl⟩
  dsimp only
  rw [h]
  cases b <;> decide +kernel

/-- A message of another clock on a port with hardware timestamps, and on one without. -/
theorem witness_ptpMessage (b : Bool) : ∃ (x : PtpRx) (s : State), (s.fwRuns && s.netOn && decide (s.ptpRole ≠ 0) && x.dom == u8 s.cfg.net 6
    && x.udp == (u8 s.cfg.net 5 == 1) && x.src != ownClock) = true ∧ s.net.fast.getD x.port false = b :=
  have h (n : Nat) : (n + 1 != n) = true := by simp
  ptpState_takes b (ownClock + 1) ownClock (h ownClock)

/-! The statements written by hand. -/

/-- A machine whose firmware has consumed one command from a ring, and one that has nothing to run. -/
theorem witness_StepOnEmptyQueue :
    (∃ (x : Started) (t : List Started) (s : State), s.pending = [] ∧ s.started = x :: t ∧ s.fwRuns = true) ∧
    (∃ (c : Instr) (t : List Instr) (s : State), s.pending = [] ∧ s.started = [] ∧ s.dl.wait = c :: t ∧ s.fwRuns = true) ∧
    (∃ s : State, s.pending = [] ∧ s.started = [] ∧ s.dl.wait = []) ∧
    (∃ s : State, s.pending = [] ∧ s.started ≠ [] ∧ s.fwRuns = false) ∧
    (∃ s : State, s.pwr.state = .off) ∧
    (∃ s : State, s.powered = true ∧ s.pwr.awaiting = none ∧ s.pwr.wait = none ∧ s.flt.lost = []) :=
  ⟨⟨{ pair := 0, bulk := none, tag := 1, cmd := .sysVersion { tag := 1 } }, [],
      { run0 with started := [{ pair := 0, bulk := none, tag := 1, cmd := .sysVersion { tag := 1 } }] }, by decide⟩,
    ⟨.dlmsRlrq 0, [], { run0 with dl := { run0.dl with wait := [.dlmsRlrq 0] } }, by decide⟩,
    ⟨run0, by decide⟩,
    ⟨{ run0 with
      rings := { run0.rings with pause := true }
      started := [{ pair := 0, bulk := none, tag := 1, cmd := .sysVersion { tag := 1 } }] }, by decide⟩,
    ⟨{ run0 with pwr := { run0.pwr with state := .off } }, by decide⟩, ⟨run0, by decide⟩⟩

theorem run0_inv : run0.Inv :=
  ⟨⟨by decide, fun n => by unfold PairOk RingBounds; revert n; decide +kernel⟩,
    (by decide : run0.flt.log.length ≤ 64), fun o => by revert o; decide +kernel, by decide, by decide⟩

theorem run0_floors : SevOk run0.flt.sev := fun src h => by revert src; decide +kernel

theorem witness_StepKeepsInv :
    (∃ s t : State, s.Inv ∧ step s = .next t) ∧
    (∃ (c : Instr) (s t : State), (∀ a x, c = .tmrScrub a x → ∀ m ∈ x, m = 0) ∧ SevOk s.flt.sev ∧ exec c s = .next t) ∧
    ∃ s : State, SevOk s.flt.sev :=
  ⟨⟨run0, _, run0_inv, rfl⟩, ⟨.tmrScrub 0x2044 [0, 0, 0], run0, _, fun _ _ h => by cases h; decide, run0_floors, rfl⟩, run0, run0_floors⟩

/-- Host words to a slot of a ring that the environment may not write. -/
theorem witness_StopsOnlyOnHostWords : ∃ (c : Instr) (s : State) (f : Fault), exec c s = .fault f :=
  ⟨.registerWrite 0x11000 0, run0, .environment, rfl⟩

theorem witness_MailboxWaitsForFirmware : ∃ (op : Nat) (q : Req) (c : Instr) (s : State),
    commandOf op q = some c ∧ s.fwRuns = false :=
  ⟨0x0101, { tag := 1 }, .sysVersion { tag := 1 }, State.reset, by decide⟩

theorem witness_ExecKeepsQueue : ∃ (c : Instr) (s t : State), exec c s = .next t :=
  ⟨.hrst true, run0, _, rfl⟩

theorem witness_ResetRings : ∃ s t u : State, t = State.reset ∧ u = s.resetTo 2 := ⟨run0, _, _, rfl, rfl⟩

/-- The last tail that fits an empty ring of 64 entries, and the first that does not. -/
theorem witness_DoorbellTail : ∃ (n : PNum) (s : State), s.portServes = true ∧ s.rings.pause = false ∧
    (s.pr n).state = 1 ∧ RingBounds (s.pr n) ∧
    ((64 : Int) - (s.pr n).sqTail) % 65536 ≤ ((s.pr n).sqDepth : Int) - (((s.pr n).sqTail : Int) - (s.pr n).sqHead) % 65536 ∧
    ¬((65 : Int) - (s.pr n).sqTail) % 65536 ≤ ((s.pr n).sqDepth : Int) - (((s.pr n).sqTail : Int) - (s.pr n).sqHead) % 65536 :=
  ⟨0, run0, by decide⟩

/-- On an empty completion ring only the head itself is accepted. -/
theorem witness_CompletionHead : ∃ (n : PNum) (s : State), s.portServes = true ∧ s.rings.pause = false ∧ (s.pr n).state = 1 ∧
    ((0 : Int) - (s.pr n).cqHead) % 65536 ≤ (((s.pr n).cqTail : Int) - (s.pr n).cqHead) % 65536 ∧
    ¬((1 : Int) - (s.pr n).cqHead) % 65536 ≤ (((s.pr n).cqTail : Int) - (s.pr n).cqHead) % 65536 :=
  ⟨0, run0, by decide⟩

theorem witness_WriteLockedRegisters :
    (∃ s : State, s.portServes = true ∧ s.host.bnwLocked = false ∧ s.lsw.lock0 = false ∧ s.lsw.lock1 = false) ∧
    (∃ s : State, s.portServes = true ∧ s.host.bnwLocked = true ∧ s.lsw.lock0 = true ∧ s.lsw.lock1 = true) :=
  ⟨⟨run0, by decide⟩, ⟨{ run0 with
    host := { run0.host with bnwLocked := true }
    lsw := { run0.lsw with lock0 := true, lock1 := true } }, by decide⟩⟩

theorem witness_UnknownHostCommand : ∃ (cmd : Nat) (s : State), s.portServes = true ∧ s.host.hcsLow = false ∧
    cmd ∉ [0x0B, 0xBB, 0xEB, 0x02, 0xA2, 0x38] := ⟨0x03, run0, by decide⟩

/-- An address on four lanes: the least significant byte first, of each byte the high nibble first (R37). -/
def nibbles (a : Nat) : List Nat := (List.range 8).map fun k => a / 16 ^ (k - k % 2 + (1 - k % 2)) % 16

/-- The last unaligned address below the Base-Note Window, and the first above it, for a read and a write. -/
theorem witness_UnalignedAddress : ∃ s : State, s.portServes = true ∧ s.host.hcsLow = false ∧
    ([0x7FFFF, 0x80101].all fun a => decide (ofUnits (lanesOf 0xEB) (nibbles a) = a ∧ ofUnits (lanesOf 0x38) (nibbles a) = a ∧ a < 2 ^ 32 ∧
      a % 4 ≠ 0 ∧ ¬(0x80000 ≤ a ∧ a < 0x80100))) = true ∧ 0xEB ∈ readCmds ∧ 0x38 ∈ writeCmds := ⟨run0, by decide +kernel⟩

theorem witness_ReadsHaveNoSideEffect : ∃ (cmd nrd : Nat) (addr : List Nat) (wr : List (List Nat)) (s t : State), cmd ∈ readCmds ∧
    (let a := ofUnits (lanesOf cmd) addr
    a < 2 ^ 32 ∧ a % 4 = 0 ∧ ¬(0x80000 ≤ a ∧ a < 0x80100)) ∧ exec (.hostTransaction cmd addr wr nrd) s = .next t :=
  ⟨0xEB, 1, nibbles 0x7FFFC, [], run0, _, by decide, by decide +kernel, rfl⟩

theorem witness_PortBeforeStart : ∃ s : State, s.host.ready = false := ⟨State.reset, rfl⟩

/-- Each of the three reasons, at the edges of the register ranges. -/
theorem witness_SilentZeroWrite :
    (∃ s : State, s.portServes = true ∧ 0x7FFC / 4096 = 7 ∧ s.netOn = false) ∧
    (∃ s : State, s.portServes = true ∧ 0x7000 / 4096 = 7 ∧ bit s.clk.gate 3 = false) ∧
    (∃ s : State, s.portServes = true ∧ (0x3018 ≤ 0x3018 ∧ 0x3020 < 0x3024) ∧ bit s.clk.gate 5 = false) :=
  ⟨⟨{ run0 with pwr := { run0.pwr with on := 0xEFF } }, by decide⟩,
    ⟨{ run0 with clk := { run0.clk with gate := 0x37 } }, by decide⟩,
    ⟨{ run0 with clk := { run0.clk with gate := 0x1F } }, by decide⟩⟩

/-- Pair 0 is on; pair 1 is off and lies apart from it at 64 entries, and not at 512. -/
theorem witness_RingConfiguration : ∃ s : State, s.portServes = true ∧ s.rings.pause = false ∧ (s.pr 0).state ≠ 0 ∧
    field 0x651 4 4 ≠ (s.pr 0).sqLog2 ∧ field 0x561 8 4 ≠ (s.pr 0).cqLog2 ∧ field 1 0 9 ≠ (s.pr 0).sqBase ∧
    field 0 16 9 ≠ (s.pr 0).cqBase ∧ (s.pr 1).state = 0 ∧ bit 0x661 0 = true ∧
    RingLayout s 1 (field 0x661 4 4) (field 0x661 8 4) ∧ ¬RingLayout s 1 (field 0x991 4 4) (field 0x991 8 4) :=
  ⟨run0, by decide, by decide, by decide, by decide, by decide, by decide, by decide, by decide, by decide,
    ⟨by decide, by decide, by decide, by decide, by decide, by decide +kernel⟩, fun h => absurd h.2.2.1.1 (by decide)⟩

theorem witness_ChainOfEntries : ∃ (st : Nat) (payload : Bytes), payload.length ≤ 448 ∧ st < 256 :=
  ⟨255, zeros 448, by decide +kernel⟩

theorem witness_CompletionInSlot : ∃ (s : State) (n : PNum) (st : Nat) (payload : Bytes),
    Memory.wf s.rings.mem = true ∧ (s.pr n).state = 1 ∧ (s.pr n).held = [] ∧ 1 ≤ s.cqFree n ∧ payload.length ≤ 56 ∧ st ≠ 1 :=
  ⟨run0, 0, 0, zeros 56, by decide⟩

/-- With nothing held and room in the ring, and with 32 events held. -/
theorem witness_EventSequence :
    (∃ (s : State) (n : PNum) (payload : Bytes), s.fwRuns = true ∧ (s.pr n).state = 1 ∧ payload.length ≤ 56 ∧
      (s.pr n).held = [] ∧ 1 + s.reserved n ≤ s.cqFree n ∧ Memory.wf s.rings.mem = true) ∧
    (∃ (s : State) (n : PNum) (payload : Bytes), s.fwRuns = true ∧ (s.pr n).state = 1 ∧ payload.length ≤ 56 ∧
      (s.pr n).held ≠ [] ∧ 32 ≤ heldEntries (s.pr n).held) :=
  ⟨⟨run0, 0, zeros 56, by decide⟩,
    ⟨run0.modPr 0 fun p => { p with held := List.replicate 4 { event := true, entries := List.replicate 8 [] } }, 0, zeros 56, by decide⟩⟩

theorem witness_FullRingHoldsSubmissions :
    (∃ (n : PNum) (s : State), s.cqFree n = 0) ∧
    (∃ (n m : PNum) (s t : State), m ≠ n ∧ exec (.submissionFetch n []) s = .next t) :=
  ⟨⟨0, run0.modPr 0 fun p => { p with cqTail := 64 }, by decide⟩, ⟨0, 15, run0, _, by decide, rfl⟩⟩

theorem witness_EnergyNeverDecreases : ∃ (x : List Int) (lfxo : Nat) (s t : State),
    (∀ o : ONum, (s.en.acc.get o).length = 28) ∧ exec (.metroSample x lfxo) s = .next t :=
  ⟨[], 0, run0, _, by decide, rfl⟩

theorem witness_FrontBufferUntouched : ∃ (q : Req) (s t : State),
    (Memory.wf s.panel.mem = true ∧ s.panel.front ≤ 1) ∧ exec (.panelWrite q) s = .next t :=
  ⟨{ tag := 1, payload := [0, 0, 1, 0], bulk := some (0, 1) }, run0, _, by decide, rfl⟩

/-- No swap due, and one due. -/
theorem witness_FlipAtFrameBoundary :
    (∃ (q : Req) (s : State), Served { op := 0x0F04, pair := 10 } q s true ∧ s.panelOn = true ∧ s.panel.flip = none) ∧
    (∃ (q : Req) (s : State), Served { op := 0x0F04, pair := 10 } q s true ∧ s.panelOn = true ∧ s.panel.flip ≠ none) ∧
    (∃ (q : Req) (s : State) (r : Nat × Nat), (q.bulk = some r ∧ 1 ≤ u16 q.payload 2 ∧
      u16 q.payload 0 + u16 q.payload 2 ≤ 3840 ∧ u16 q.payload 2 ≤ r.2) ∧
      Served { op := 0x0F03, pair := 10, lo := 4, hi := 4, bulk := 1 } q s true ∧ s.panelOn = true ∧ s.panel.flip ≠ none) ∧
    (∃ (s : State) (tag : Nat), s.panelOn = true ∧ s.panel.flip = some tag) :=
  ⟨⟨{ tag := 1 }, run0, by decide⟩, ⟨{ tag := 1 }, { run0 with panel := { run0.panel with flip := some 7 } }, by decide⟩,
    ⟨{ tag := 1, payload := [255, 14, 1, 0], bulk := some (0, 1) }, { run0 with panel := { run0.panel with flip := some 7 } },
      (0, 1), by decide⟩,
    ⟨{ run0 with panel := { run0.panel with flip := some 7 } }, 7, by decide⟩⟩

theorem witness_RevocationTakesDescendants : ∃ (q : Req) (s : State),
    Served { op := 0x1004, pair := 11, lo := 1, hi := 1 } q s (16 ≤ u8 q.payload 0) ∧ (s.slot (u8 q.payload 0)).state = 1 :=
  ⟨{ tag := 1, payload := [16] }, { run0 with store := { run0.store with keys := [(16, { state := 1 })] } }, by decide⟩

/-- Neutral above its threshold; no record yet, and a record that the island has not seen. -/
theorem witness_ApexTripOpensSwitch :
    ([0, 1].all fun l => let p : Protect := { ocThr := 96, latch := l, seen := false }
      decide (clearBits (p.comparators [0, 0, 0, -960]) p.active ≠ 0 ∧ (p.latch = 0 ∨ p.seen = false))) = true := by decide +kernel

/-- A threshold below what R193 allows: the command is answered, and nothing is stored. -/
theorem witness_OvercurrentThreshold : ∃ (q : Req) (s t : State) (o : ONum), (u8 q.payload 0 = o.val ∧ u16 q.payload 2 ≠ 0 ∧
    10 * ocThrOf (u16 q.payload 2) (s.rated o) < 2 * s.rated o) ∧ exec (.protConfigSet q) s = .next t :=
  ⟨{ tag := 1, payload := [0, 6, 1, 0, 100, 0, 0, 0] }, run0, _, 0, by decide, rfl⟩

theorem witness_ResetWhileBusy : ∃ s : State, s.resetBusy = true := ⟨{ run0 with pwr := { run0.pwr with hold := true } }, rfl⟩

theorem witness_ClocksKeepTime : (∃ b : Billing, b.slewAcc = 999 ∧ b.slew ≠ 0) ∧
    (∃ n : Net, n.ns = 999999999 ∧ n.slewNs = 0 ∧ n.sec + 1 < 2 ^ 48) ∧ (∃ n : Net, n.ns < 1000000000 ∧ n.slewNs = -100) :=
  ⟨⟨{ slewAcc := 999, slew := -5 }, by decide⟩, ⟨{ ns := 999999999 }, by decide⟩, ⟨{ slewNs := -100 }, by decide⟩⟩

/-- The least and the greatest setpoint, and the values next to them, meet the premises of R702. -/
theorem witness_WindowSetpoint : ∃ (cmd : Nat) (s : State), cmd ∈ writeCmds ∧ s.portServes = true ∧ s.host.hcsLow = false ∧
    ofUnits (lanesOf cmd) (nibbles 0x80020) = 0x80020 ∧ s.host.bnwOutlet < 24 ∧ s.fwRuns = true ∧ 4 ≤ (s.cfg.budOut.get s.bnwO).length ∧
    ([12, 64].all fun v => decide (ofUnits (lanesOf cmd) [v / 16, v % 16] = v ∧ 12 ≤ v ∧ v ≤ 64 ∧ v < 256)) = true ∧
    ([11, 65].all fun v => decide (ofUnits (lanesOf cmd) [v / 16, v % 16] = v ∧ (v < 12 ∨ 64 < v) ∧ v < 256)) = true :=
  ⟨0x38, run0, by decide +kernel⟩

theorem witness_WindowEnergy : ∃ (cmd k : Nat) (s : State), cmd ∈ readCmds ∧ s.portServes = true ∧ s.host.hcsLow = false ∧
    ofUnits (lanesOf cmd) (nibbles 0x80010) = 0x80010 ∧ ofUnits (lanesOf cmd) (nibbles (0x80011 + k)) = 0x80011 + k ∧
    s.bnwCode false 0 = none ∧ k < 3 := ⟨0xEB, 2, run0, by decide +kernel⟩

theorem witness_ChannelOffByCommand : ∃ (q : Req) (s : State),
    Served { op := 0x0E03, pair := 10, lo := 4, hi := 4 } q s (plainCh (u8 q.payload 0)) ∧ u8 q.payload 0 < 80 ∧
    u8 q.payload 1 = 0 ∧ s.limpRules (u8 q.payload 0) = false :=
  ⟨{ tag := 1, payload := [79, 0, 0, 0] }, run0, by decide +kernel⟩

theorem witness_SafetyForceOnlyInTest : ∃ (v : Nat) (s : State), s.portServes = true ∧ v < 2 ^ 32 ∧ v % 65536 = 0 ∧
    s.store.safeMode ≠ 2 := ⟨0xFFFF0000, run0, by decide⟩

/-- A step with an alternative and a record that marks it, and a start that retries every primary. -/
theorem witness_AlternativeSteps :
    (∃ (s : State) (k : Nat), bit s.altMask k = true) ∧ (∃ (s : State) (k : Nat), k ∈ stepsWithAlt ∧ bit s.altMask k = false) :=
  ⟨⟨{ run0 with bak := { run0.bak with recs := [0xFFFFFFFF], retry := false } }, 1, by decide⟩,
    ⟨{ run0 with bak := { run0.bak with recs := [0xFFFFFFFF], retry := true } }, 1, by decide⟩⟩

theorem witness_VariantWithoutNfc (h : Config.variantIN = true) : ∃ (op : Nat) (q : Req) (c : Instr) (s : State),
    Config.variantIN = true ∧ op / 256 = 0x0D ∧ commandOf op q = some c ∧ s.fwRuns = true :=
  ⟨0x0D02, { tag := 1 }, .nfcConfigGet { tag := 1 }, run0, h, by decide, rfl, rfl⟩

theorem witness_QueriesOnlyAnswer : ∃ (c : Instr) (s t : State), c.query = true ∧ exec c s = .next t :=
  ⟨.sysVersion { tag := 1 }, run0, _, rfl, rfl⟩

/-- Operands and states for SYS_VERSION, SYS_IDENTITY, SYS_SEQ_QUERY, SYS_LOOPBACK, TMR_SCRUB, STR_POST_COMPLETE,
FLT_SEVERITY_SET, FLT_LOG_READ, FAULT_RETRY, FAULT_OCCURRENCE, MA_START. -/
theorem witness_SystemAndFaultRowsComplete_1 :
    (∃ (q : Req) (s : State),
        (Served { op := 0x0101, pair := 0 } q s true)) ∧
    (∃ (q : Req) (s : State),
        (Served { op := 0x0102, pair := 0 } q s true)) ∧
    (∃ (q : Req) (s : State),
        let n := u8 q.payload 0
        (Served { op := 0x0107, pair := 0, lo := 1, hi := 1 } q s (n ≤ 15))) ∧
    (∃ (q : Req) (s : State),
        (Served { op := 0x0110, pair := 15, hi := 56, bulk := 2 } q s true)) ∧
    (∃ (addr : Nat) (x : List Nat) (s : State),
        ((s.powered && !(tmrFieldsOf addr).isEmpty) = true)) ∧
    (∃ (v : Nat) (s : State),
        (s.host.strPost = some (0x501C, v))) ∧
    (∃ (q : Req) (s : State),
        let src := u8 q.payload 0
        let new := u8 q.payload 1
        (Served { op := 0x1102, pair := 0, lo := 2, hi := 2 } q s (src < 128 && !reservedSrc src && new ≤ 3)) ∧
        ((¬(floorSource src && new < 2)))) ∧
    (∃ (q : Req) (s : State),
        let first := u32 q.payload 0
        let count := u8 q.payload 4
        let r := q.bulk.getD (0, 0)
        (Served { op := 0x1103, pair := 0, lo := 5, hi := 5, bulk := 1 } q s (1 ≤ count && count ≤ 128)) ∧
        (let log := s.store.fltLog
        let oldest := (log.getLastD { seq := s.store.fltNext }).seq
        (¬(!log.isEmpty && (first + 2 ^ 32 - oldest) % 2 ^ 32 ≥ 2 ^ 31)) ∧
        ((¬(r.2 < 32 * count))))) ∧
    (∃ (src : Nat) (qual : Nat) (data : Nat) (s : State),
        (retryable src = true) ∧
        ((src ≠ 1))) ∧
    (∃ (src : Nat) (qual : Nat) (data : Nat) (s : State),
        (retryable src = true)) ∧
    (∃ (src : Nat) (qual : Nat) (data : Nat) (s : State),
        (retryable src = false)) ∧
    (∃ (q : Req) (z : State),
        let a : MaAct := {
          tag := q.tag, act := u8 q.payload 0, index := u8 q.payload 1, mode := u8 q.payload 2, param := u32 q.payload 4, bulk := q.bulk, since := z.up }
        let c : Cmd := { op := 0x1110, pair := 13, lo := 8, hi := 8, bulk := 2 }
        (Served c q z (a.inRange && a.bulkFits)) ∧
        ((a.regionShort = false) ∧
        ((z.maRefuses a = none) ∧
        (((z.maint.filter fun b => !b.running).length < 8))))) :=
  ⟨by refine ⟨{ tag := 1, payload := zeros 0, bulk := none }, run0, ?_⟩; decide,
   by refine ⟨{ tag := 1, payload := zeros 0, bulk := none }, run0, ?_⟩; decide,
   by refine ⟨{ tag := 1, payload := zeros 1, bulk := none }, run0, ?_⟩; decide,
   by refine ⟨{ tag := 1, payload := zeros 0, bulk := none }, run0, ?_⟩; decide,
   by refine ⟨0x2040, [0, 0, 0], run0, ?_⟩; decide,
   by refine ⟨2, { run0 with host := { run0.host with strPost := some (0x501C, 2) } }, ?_⟩; decide,
   by refine ⟨{ tag := 1, payload := zeros 2, bulk := none }, run0, ?_⟩; decide,
   by refine ⟨{ tag := 1, payload := [0, 0, 0, 0, 1], bulk := some (0, 64) }, run0, ?_⟩; decide,
   by refine ⟨11, 0, 0, run0, ?_⟩; decide,
   by refine ⟨1, 0, 0, run0, ?_⟩; decide,
   by refine ⟨0, 0, 0, run0, ?_⟩; decide,
   by refine ⟨{ tag := 1, payload := 1 :: zeros 7, bulk := none }, run0, ?_⟩; decide⟩

/-- Operands and states for MA_ABORT, MA_STATUS, MA_ACTIVITY_END, MA_QUEUE_TIMEOUT, MA_ACTIVITY_START. -/
theorem witness_SystemAndFaultRowsComplete_2 :
    (∃ (q : Req) (s : State),
        (Served { op := 0x1111, pair := 13, lo := 2, hi := 2 } q s true) ∧
        ((((s.maint.find? fun a => a.tag == u16 q.payload 0)).isSome = true))) ∧
    (∃ (q : Req) (s : State),
        (Served { op := 0x1112, pair := 13 } q s true)) ∧
    (∃ (tag : Nat) (m : MaMeas) (a : MaAct) (s : State),
        ((s.maint.find? fun a => a.tag == tag && a.running) = some a) ∧
        ((s.maLost a = none) ∧
        ((a.fits m = true)))) ∧
    (∃ (tag : Nat) (c : Nat) (m : MaMeas) (a : MaAct) (s : State),
        ((s.maint.find? fun a => a.tag == tag && a.running) = some a) ∧
        ((s.maLost a = some c))) ∧
    (∃ (tag : Nat) (a : MaAct) (s : State),
        ((s.maint.find? fun a => a.tag == tag && !a.running && decide (a.since + 600000 ≤ s.up)) = some a)) ∧
    (∃ (a : MaAct) (s : State),
        (s.maNext = some a) ∧
        ((s.maRefuses a = none))) :=
  ⟨by refine ⟨{ tag := 1, payload := [3, 0] }, { run0 with maint := [{ tag := 3, act := 1, index := 0, mode := 0, param := 0, bulk := none }] }, ?_⟩; decide,
   by refine ⟨{ tag := 1, payload := zeros 0, bulk := none }, run0, ?_⟩; decide,
   by refine ⟨3, .lamp [], ({ tag := 3, act := 9, index := 0, mode := 0, param := 0, bulk := none, running := true } : MaAct), { run0 with maint := [({ tag := 3, act := 9, index := 0, mode := 0, param := 0, bulk := none, running := true } : MaAct)] }, ?_⟩; decide,
   by refine ⟨3, 5, .lamp [], { ({ tag := 3, act := 9, index := 0, mode := 0, param := 0, bulk := none, running := true } : MaAct) with abort := some 5 }, { run0 with maint := [{ ({ tag := 3, act := 9, index := 0, mode := 0, param := 0, bulk := none, running := true } : MaAct) with abort := some 5 }] }, ?_⟩; decide,
   by refine ⟨3, { tag := 3, act := 1, index := 0, mode := 0, param := 0, bulk := none }, { run0 with up := 600000, maint := [{ tag := 3, act := 1, index := 0, mode := 0, param := 0, bulk := none }] }, ?_⟩; decide,
   by refine ⟨{ tag := 3, act := 0, index := 0, mode := 0, param := 0, bulk := none }, { run0 with maint := [{ tag := 3, act := 0, index := 0, mode := 0, param := 0, bulk := none }] }, ?_⟩; decide⟩

/-- Operands and states for SYS_POWER_GET, SYS_POWER_SET, SYS_DOMAIN_SET, DOMAIN_SWITCH_TIMEOUT, DOMAIN_PG_LOSS, VBAK_LOW,
HRST, POWER_FAIL. -/
theorem witness_PowerAndStartRowsComplete_1 :
    (∃ (q : Req) (s : State),
        (Served { op := 0x0103, pair := 0 } q s true)) ∧
    (∃ (q : Req) (s : State),
        (Served { op := 0x0104, pair := 0, lo := 2, hi := 2 } q s (u8 q.payload 0 ≤ 2 && (u8 q.payload 0 != 1 || u8 q.payload 1 ≤ 1))) ∧
        ((u8 q.payload 0 = 0) ∧
        ((s.inTransition = false)))) ∧
    (∃ (q : Req) (s : State),
        (Served { op := 0x0104, pair := 0, lo := 2, hi := 2 } q s (u8 q.payload 0 ≤ 2 && (u8 q.payload 0 != 1 || u8 q.payload 1 ≤ 1))) ∧
        ((u8 q.payload 0 = 1) ∧
        ((s.anyEnergised = false) ∧
        ((s.inTransition = false))))) ∧
    (∃ (q : Req) (s : State),
        (Served { op := 0x0104, pair := 0, lo := 2, hi := 2 } q s (u8 q.payload 0 ≤ 2 && (u8 q.payload 0 != 1 || u8 q.payload 1 ≤ 1))) ∧
        ((u8 q.payload 0 = 2) ∧
        ((s.anyEnergised = false) ∧
        ((2000 ≤ s.pwr.vbak) ∧
        ((s.inTransition = false)))))) ∧
    (∃ (q : Req) (s : State),
        let sel := u16 q.payload 0
        let val := u16 q.payload 2
        (Served { op := 0x0105, pair := 0, lo := 4, hi := 4 } q s (sel % 4 == 0 && decide (sel < 4096))) ∧
        (let old := s.pwr.on
        let new := domainGoal old sel val
        (s.domainRefuses new = none))) ∧
    (∃ (d : Nat) (s : State),
        (s.pwr.wait.isSome = true) ∧
        (let w := s.pwr.wait.getD { tag := 0, old := 0, sel := 0 }
        ((bit w.sel d && s.domOn d && !bit w.old d) = true))) ∧
    (∃ (d : Nat) (back : Bool) (s : State),
        ((2 ≤ d && d < 12 && s.domOn d) = true)) ∧
    (∃ (mv : Nat) (s : State),
        (mv < 2200)) ∧
    (∃ (mv : Nat) (s : State),
        (2200 ≤ mv)) ∧
    (∃ (s : State),
        (s.pwr.hrstLow = false)) ∧
    (∃ (s : State),
        (s.powered = true) ∧
        ((s.resetBusy = false))) ∧
    (∃ (t : Nat) (s : State),
        ((s.powered && !s.pwr.hold) = true)) :=
  ⟨by refine ⟨{ tag := 1, payload := zeros 0, bulk := none }, run0, ?_⟩; decide,
   by refine ⟨{ tag := 1, payload := zeros 2, bulk := none }, run0, ?_⟩; decide,
   by refine ⟨{ tag := 1, payload := 1 :: zeros 1, bulk := none }, run0, ?_⟩; decide,
   by refine ⟨{ tag := 1, payload := [2, 0] }, { run0 with pwr := { run0.pwr with vbak := 2500 } }, ?_⟩; decide,
   by refine ⟨{ tag := 1, payload := zeros 4, bulk := none }, run0, ?_⟩; decide,
   by refine ⟨9, { run0 with pwr := { run0.pwr with wait := some { tag := 1, old := 0xDFF, sel := 0x200 } } }, ?_⟩; decide,
   by refine ⟨9, true, run0, ?_⟩; decide,
   by refine ⟨0, run0, ?_⟩; decide,
   by refine ⟨2300, run0, ?_⟩; decide,
   by refine ⟨run0, ?_⟩; decide,
   by refine ⟨run0, ?_⟩; decide,
   by refine ⟨0, run0, ?_⟩; decide⟩

/-- Operands and states for VSUP_MIN_FALL, LPDDR_ECC_ERROR, DORMANT_ENTRY, SAFE_STATE_RESET, WATCHDOG_RESET,
POWERFAIL_RECOVERY, VSUP_RETURN, START_SEQUENCE, CLKMON_WINDOW, CLOCK_TRIP, CLOCK_SELFCHECK. -/
theorem witness_PowerAndStartRowsComplete_2 :
    (∃ (mv : Nat) (s : State),
        (s.powered = true) ∧
        ((s.pwr.hold = true))) ∧
    (∃ (addr : Nat) (s : State),
        ((s.powered && s.domOn 7) = true)) ∧
    (∃ (s : State),
        ((s.pwr.dormantDue && !s.pwr.hold) = true)) ∧
    (∃ (s : State),
        let again := match s.bak.safeStart with
          | some t => decide (s.bak.rtc < t + 600000)
          | none => false
        ((s.isl.safeState && s.isl.pairsOff && !again && s.powered && !s.resetBusy) = true)) ∧
    (∃ (s : State),
        let inHandover := match s.fw.ho with
          | some h => !h.dead
          | none => false
        ((s.lsw.wdg && s.lsw.wdgAt + 10000 ≤ s.up && !inHandover && s.powered && !s.resetBusy) = true)) ∧
    (∃ (s : State),
        ((s.powered && s.pwr.hold && s.pwr.gasp == 8) = true)) ∧
    (∃ (s : State),
        (s.pwr.state = .dormant) ∧
        ((s.pwr.fell = true))) ∧
    (∃ (s : State),
        (s.pwr.state = .off)) ∧
    (∃ (c : Nat) (r : StartInput) (s : State),
        (s.pwr.awaiting = some c) ∧
        ((s.pwr.hrstLow = false) ∧
        ((s.powered = true)))) ∧
    (∃ (clk : Nat) (count : Nat) (lockLow : Bool) (s : State),
        ((clk < 6 && bit s.clk.monEn clk && !(clk == 4 && s.clk.rcOnly)) = true)) ∧
    (∃ (clk : Nat) (s : State),
        ((clk < 6 && bit s.clk.monEn clk && 2 ≤ s.clk.bad.getD clk 0) = true)) ∧
    (∃ (prim : Int) (spare : Int) (s : State),
        ((s.powered && s.clk.monRef == 0) = true)) :=
  ⟨by refine ⟨2000, { run0 with pwr := { run0.pwr with hold := true } }, ?_⟩; decide,
   by refine ⟨0, run0, ?_⟩; decide,
   by refine ⟨{ run0 with pwr := { run0.pwr with dormantDue := true } }, ?_⟩; decide,
   by refine ⟨{ run0 with isl := { run0.isl with safeState := true, pairsOff := true } }, ?_⟩; decide,
   by refine ⟨{ ({ run0 with lsw := { run0.lsw with wdg := true } } : State) with up := 4000000 }, ?_⟩; decide,
   by refine ⟨{ run0 with pwr := { run0.pwr with hold := true, gasp := 8 } }, ?_⟩; decide,
   by refine ⟨{ run0 with pwr := { run0.pwr with state := .dormant, fell := true } }, ?_⟩; decide,
   by refine ⟨{ run0 with pwr := { run0.pwr with state := .off } }, ?_⟩; decide,
   by refine ⟨1, {}, { run0 with pwr := { run0.pwr with awaiting := some 1 } }, ?_⟩; decide,
   by refine ⟨0, 0, true, run0, ?_⟩; decide,
   by refine ⟨0, { run0 with clk := { run0.clk with monEn := 0x3F, bad := [2, 0, 0, 0, 0, 0] } }, ?_⟩; decide,
   by refine ⟨0, 0, run0, ?_⟩; decide⟩

/-- Operands and states for RC48_START_TIMEOUT, CLK_SWITCH_DONE, CLK_SWHANG, CLK_METER_DONE, RC48_STOP, LFXO_LOSS,
PILOT_PERIOD_TRIM. -/
theorem witness_PowerAndStartRowsComplete_3 :
    (∃ (spare : Bool) (s : State),
        (s.clk.rcStarting = true)) ∧
    (∃ (i : Nat) (s : State),
        ((i < 6 && bit s.clk.pend i && s.sourceRuns i true && s.sourceRuns i false) = true)) ∧
    (∃ (i : Nat) (s : State),
        ((i < 6 && bit s.clk.pend i && decide (s.clk.pendAt.getD i 0 + 1 ≤ s.up)) = true)) ∧
    (∃ (count : Nat) (stopped : Bool) (s : State),
        (s.clk.meterBusy = true)) ∧
    (∃ (s : State),
        ((s.powered && s.monitorRef == 0) = true)) ∧
    (∃ (s : State),
        (s.clk.lfxoOk = true)) ∧
    (∃ (s : State),
        ((s.clk.metaRc && s.clk.lfxoOk) = true)) :=
  ⟨by refine ⟨true, { run0 with clk := { run0.clk with rcStarting := true } }, ?_⟩; decide,
   by refine ⟨0, { run0 with clk := { run0.clk with pend := 0x3F, lock := 0x1F, sel := 0 } }, ?_⟩; decide,
   by refine ⟨0, { run0 with up := 1, clk := { run0.clk with pend := 0x3F } }, ?_⟩; decide,
   by refine ⟨5, false, { run0 with clk := { run0.clk with meterBusy := true } }, ?_⟩; decide,
   by refine ⟨run0, ?_⟩; decide,
   by refine ⟨{ run0 with clk := { run0.clk with lfxoOk := true } }, ?_⟩; decide,
   by refine ⟨{ run0 with clk := { run0.clk with lfxoOk := true, metaRc := true } }, ?_⟩; decide⟩

/-- Operands and states for HOST_TRANSACTION, HCS_RISE, REGISTER_WRITE, BNW_OUTLET_WRITE, DOORBELL_WRITE, CQ_HEAD_WRITE,
RING_CFG_WRITE. -/
theorem witness_HostPortRowsComplete_1 :
    (∃ (cmd : Nat) (nrd : Nat) (addr : List Nat) (s : State),
        (s.portServes = true) ∧
        ((s.host.hcsLow = false) ∧
        ((cmd ∈ readCmds) ∧
        (let a := ofUnits (lanesOf cmd) addr
        (a < 2 ^ 32) ∧
        ((a % 4 = 0) ∧
        ((inWindow a = false))))))) ∧
    (∃ (cmd : Nat) (addr : List Nat) (v : List Nat) (s : State),
        (s.portServes = true) ∧
        ((s.host.hcsLow = false) ∧
        ((cmd ∈ writeCmds) ∧
        (let a := ofUnits (lanesOf cmd) addr
        (a < 2 ^ 32) ∧
        ((a % 4 = 0) ∧
        ((inWindow a = false) ∧
        ((s.heldBack a = false) ∧
        ((s.crosses a = false) ∧
        ((s.outside a = false)))))))))) ∧
    (∃ (cmd : Nat) (nrd : Nat) (addr : List Nat) (s : State),
        (s.portServes = true) ∧
        ((s.host.hcsLow = false) ∧
        ((cmd ∈ readCmds) ∧
        (let a := ofUnits (lanesOf cmd) addr
        (a < 2 ^ 32) ∧
        ((inWindow a = true)))))) ∧
    (∃ (cmd : Nat) (addr : List Nat) (wr : List (List Nat)) (s : State),
        (s.portServes = true) ∧
        ((s.host.hcsLow = false) ∧
        ((cmd ∈ writeCmds) ∧
        (let a := ofUnits (lanesOf cmd) addr
        (a < 2 ^ 32) ∧
        ((inWindow a = true)))))) ∧
    (∃ (cut : Bool) (s : State),
        (s.host.hcsLow = true)) ∧
    (∃ (a : Nat) (v : Nat) (s : State),
        (s.portServes = true) ∧
        ((a < 2 ^ 32) ∧
        ((a % 4 = 0) ∧
        ((s.heldBack a = false) ∧
        ((s.outside a = false) ∧
        ((s.zeroed a = false))))))) ∧
    (∃ (v : Nat) (s : State),
        (s.portServes = true) ∧
        ((s.host.bnwLocked = false))) ∧
    (∃ (n : PNum) (t : Nat) (s : State),
        (s.portServes = true) ∧
        ((s.rings.pause = false) ∧
        (((s.pr n).state = 1) ∧
        ((ringCount (s.pr n).sqTail (t % 65536) ≤ (s.pr n).sqDepth - ringCount (s.pr n).sqHead (s.pr n).sqTail))))) ∧
    (∃ (n : PNum) (h : Nat) (s : State),
        (s.portServes = true) ∧
        ((s.rings.pause = false) ∧
        (((s.pr n).state = 1) ∧
        ((ringCount (s.pr n).cqHead (h % 65536) ≤ ringCount (s.pr n).cqHead (s.pr n).cqTail) ∧
        (((n = 14 → s.en.exporting = none))))))) ∧
    (∃ (h : Nat) (x : Export) (s : State),
        (s.portServes = true) ∧
        ((s.rings.pause = false) ∧
        (((s.pr 14).state = 1) ∧
        ((ringCount (s.pr 14).cqHead (h % 65536) ≤ ringCount (s.pr 14).cqHead (s.pr 14).cqTail) ∧
        ((h % 65536 ≠ (s.pr 14).cqHead) ∧
        ((s.en.exporting = some x))))))) ∧
    (∃ (n : PNum) (v : Nat) (s : State),
        (s.portServes = true) ∧
        ((s.rings.pause = false) ∧
        (((s.pr n).state = 0) ∧
        ((v < 2 ^ 32) ∧
        ((bit v 0 = true) ∧
        ((layoutOk s n (field v 4 4) (field v 8 4) = true))))))) ∧
    (∃ (n : PNum) (v : Nat) (s : State),
        (s.portServes = true) ∧
        ((s.rings.pause = false) ∧
        (((s.pr n).state = 0) ∧
        ((v < 2 ^ 32))))) :=
  ⟨by refine ⟨0x0B, 1, [0, 0, 0, 0], run0, ?_⟩; decide,
   by refine ⟨0x02, [0, 0, 0, 0], [0], run0, ?_⟩; decide,
   by refine ⟨0x0B, 1, (List.replicate 32 0).set 20 1, run0, ?_⟩; decide,
   by refine ⟨0x02, (List.replicate 32 0).set 20 1, [[16]], run0, ?_⟩; decide,
   by refine ⟨false, { run0 with host := { run0.host with hcsLow := true } }, ?_⟩; decide,
   by refine ⟨0, 0, run0, ?_⟩; decide,
   by refine ⟨0, run0, ?_⟩; decide,
   by refine ⟨0, 0, run0, ?_⟩; decide,
   by refine ⟨0, 0, run0, ?_⟩; decide,
   by refine ⟨1, { id := 7 }, ({ run0 with en := { run0.en with exporting := some { id := 7 } } }).modPr 14 fun p => { p with state := 1, cqTail := 1 }, ?_⟩; decide,
   by refine ⟨1, 0x661, run0, ?_⟩; decide,
   by refine ⟨1, 0, run0, ?_⟩; decide⟩

/-- Operands and states for TIME_SNAP_WRITE, FLT_UNREAD_ACK, FLT_FORCE, FLT_SEV_WRITE, CLK_SEL_WRITE, CLK_FORCE_WRITE,
CLK_METER_START, CLK_GATE_WRITE, GATE_FORCE_CLOSE, PWR_PF_CFG_WRITE, ISLAND_CROSSING_DONE. -/
theorem witness_HostPortRowsComplete_2 :
    (∃ (v : Nat) (s : State),
        (s.portServes = true) ∧
        ((s.netOn = true) ∧
        ((bit s.clk.gate 3 = true) ∧
        ((v % 2 = 1))))) ∧
    (∃ (m : Nat) (v : Nat) (s : State),
        (s.portServes = true) ∧
        ((m < 4))) ∧
    (∃ (m : Nat) (v : Nat) (s : State),
        (s.portServes = true) ∧
        ((m < 4))) ∧
    (∃ (m : Nat) (v : Nat) (s : State),
        (s.portServes = true) ∧
        ((m < 8))) ∧
    (∃ (v : Nat) (s : State),
        (s.portServes = true)) ∧
    (∃ (v : Nat) (s : State),
        (s.portServes = true) ∧
        ((v < 64))) ∧
    (∃ (tgt : Nat) (ref : Nat) (s : State),
        (s.portServes = true) ∧
        ((bit s.clk.gate 5 = true) ∧
        ((s.clk.meterBusy = false) ∧
        ((tgt ≤ 10) ∧
        ((ref ≤ 10)))))) ∧
    (∃ (v : Nat) (s : State),
        (s.portServes = true) ∧
        ((v < 2 ^ 32))) ∧
    (∃ (g : Nat) (s : State),
        (bit s.clk.gateWait g = true) ∧
        ((s.host.xact = none))) ∧
    (∃ (g : Nat) (x : Xact) (s : State),
        (bit s.clk.gateWait g = true) ∧
        ((s.host.xact = some x) ∧
        ((x.read = true)))) ∧
    (∃ (t : Nat) (s : State),
        (s.portServes = true) ∧
        ((48 ≤ t) ∧
        ((t ≤ 300) ∧
        ((10 * t + 50 < s.pwr.vsup))))) ∧
    (∃ (x : Xact) (s : State),
        (s.host.xact = some x) ∧
        ((s.heldBack x.addr = false) ∧
        ((s.islandRuns x.addr = true) ∧
        ((x.read = true))))) :=
  ⟨by refine ⟨1, run0, ?_⟩; decide,
   by refine ⟨0, 0, run0, ?_⟩; decide,
   by refine ⟨0, 0, run0, ?_⟩; decide,
   by refine ⟨0, 0, run0, ?_⟩; decide,
   by refine ⟨0, run0, ?_⟩; decide,
   by refine ⟨0, run0, ?_⟩; decide,
   by refine ⟨0, 0, run0, ?_⟩; decide,
   by refine ⟨0, run0, ?_⟩; decide,
   by refine ⟨3, { run0 with clk := { run0.clk with gateWait := 8 } }, ?_⟩; decide,
   by refine ⟨3, { read := true, addr := 0x7000, wr := [], nrd := 1 }, { run0 with clk := { run0.clk with gateWait := 8 }, host := { run0.host with hcsLow := true, xact := some { read := true, addr := 0x7000, wr := [], nrd := 1 } } }, ?_⟩; decide,
   by refine ⟨300, { run0 with pwr := { run0.pwr with vsup := 5000 } }, ?_⟩; decide,
   by refine ⟨{ read := true, addr := 0x7000, wr := [], nrd := 1 }, { run0 with host := { run0.host with hcsLow := true, xact := some { read := true, addr := 0x7000, wr := [], nrd := 1 } } }, ?_⟩; decide⟩

/-- Operands and states for ISLAND_CROSSING_DONE, STALL_LIMIT, STR_RECOVER, STR_RETRY_PRIMARY. -/
theorem witness_HostPortRowsComplete_3 :
    (∃ (x : Xact) (v : Nat) (s : State),
        (s.host.xact = some x) ∧
        ((s.heldBack x.addr = false) ∧
        ((s.islandRuns x.addr = true) ∧
        ((x.read = false) ∧
        ((x.wr = [v]) ∧
        (let z : State := { s with host := { s.host with xact := none } }
        (z.outside x.addr = false))))))) ∧
    (∃ (x : Xact) (s : State),
        (s.host.xact = some x) ∧
        ((s.heldBack x.addr = false) ∧
        ((s.crosses x.addr = true) ∧
        ((x.read = true))))) ∧
    (∃ (s : State),
        (s.portServes = true) ∧
        ((s.host.strPost = none))) ∧
    (∃ (s : State),
        (s.portServes = true) ∧
        ((s.host.strPost = none))) :=
  ⟨by refine ⟨{ read := false, addr := 0x7000, wr := [1], nrd := 0 }, 1, { run0 with host := { run0.host with hcsLow := true, xact := some { read := false, addr := 0x7000, wr := [1], nrd := 0 } } }, ?_⟩; decide,
   by refine ⟨{ read := true, addr := 0x7000, wr := [], nrd := 1 }, { run0 with host := { run0.host with hcsLow := true, xact := some { read := true, addr := 0x7000, wr := [], nrd := 1 } } }, ?_⟩; decide,
   by refine ⟨run0, ?_⟩; decide,
   by refine ⟨run0, ?_⟩; decide⟩

/-- Operands and states for PAIR_DRAIN_END, SUBMISSION_FETCH, EVENT_QUEUE_DRAIN, BNW_READ, BNW_ENERGY0_READ, BNW_WRITE,
BNW_SETPOINT_WRITE, BNW_ENERGY_REFRESH. -/
theorem witness_RingAndWindowRowsComplete :
    (∃ (n : PNum) (s : State),
        ((s.pr n).state = 2) ∧
        (((s.pr n).inflight = []) ∧
        ((s.startedOn n = 0)))) ∧
    (∃ (n : PNum) (c : Instr) (par : List Nat) (s : State),
        (s.fwRuns = true) ∧
        ((s.fw.ho = none) ∧
        (((s.pr n).state = 1) ∧
        (((s.pr n).held = []) ∧
        ((s.startedOn n = 0) ∧
        ((s.reserved n < s.cqFree n) ∧
        ((ringCount (s.pr n).sqHead (s.pr n).sqTail ≠ 0) ∧
        (let e := sqEntry s n (s.pr n).sqHead
        (par.getD 0 0 = 0) ∧
        ((bit (u8 e 4) 2 = false) ∧
        ((bit (u8 e 4) 0 = false) ∧
        ((chainOk [e] true (ringCount (s.pr n).sqHead ((s.pr n).bells.headD (s.pr n).sqTail)) = true) ∧
        ((pairOfOpcode (u16 e 0) = n) ∧
        ((u16 e 0 / 256 ≠ 13) ∧
        ((commandOf (u16 e 0) (reqOf [e]) = some c))))))))))))))) ∧
    (∃ (n : PNum) (h : Held) (s : State),
        ((s.pr n).held = [h]) ∧
        ((h.entries.length + (if h.event then s.reserved n else 0) ≤ s.cqFree n))) ∧
    (∃ (off : Nat) (s : State),
        (s.portServes = true) ∧
        ((off < 256) ∧
        ((s.bnwCode false 0 = none) ∧
        ((off ≠ 0x10))))) ∧
    (∃ (off : Nat) (nth : Nat) (v : Nat) (late : Bool) (count : Bool) (s : State),
        (s.portServes = true) ∧
        ((off < 256) ∧
        ((s.bnwCode late nth = some (v, count))))) ∧
    (∃ (s : State),
        (s.portServes = true) ∧
        ((s.bnwCode false 0 = none))) ∧
    (∃ (v : Nat) (s : State),
        (s.portServes = true) ∧
        ((s.bnwOff = false) ∧
        ((s.rings.pause = false) ∧
        ((s.fwRuns = true) ∧
        ((12 ≤ v) ∧
        ((v ≤ 64))))))) ∧
    (∃ (v : Nat) (s : State),
        (s.portServes = true) ∧
        ((s.bnwOff = false) ∧
        ((s.rings.pause = false) ∧
        ((s.fwRuns = true) ∧
        ((12 ≤ v) ∧
        ((v ≤ 64))))))) ∧
    (∃ (s : State),
        ((s.fwRuns && (50 ≤ s.bnw.crossings || s.met.hold)) = true)) :=
  ⟨by refine ⟨1, run0.modPr 1 fun p => { p with state := 2 }, ?_⟩; decide,
   by refine ⟨0, .sysVersion { tag := 9 }, [], ({ run0 with rings := { run0.rings with mem := Memory.writeN [] 0 (entryBytes 0x0101 9 0 0 [] none) } }).modPr 0 fun p => { p with sqTail := 1, bells := [1] }, ?_⟩; decide,
   by refine ⟨0, { event := true, entries := [zeros 64] }, run0.modPr 0 fun p => { p with held := [{ event := true, entries := [zeros 64] }] }, ?_⟩; decide,
   by refine ⟨0, run0, ?_⟩; decide,
   by refine ⟨0x10, 1, 0xA5, false, false, run0, ?_⟩; decide,
   by refine ⟨run0, ?_⟩; decide,
   by refine ⟨12, run0, ?_⟩; decide,
   by refine ⟨64, run0, ?_⟩; decide,
   by refine ⟨{ run0 with bnw := { run0.bnw with crossings := 50 } }, ?_⟩; decide⟩

/-- Operands and states for SYS_TIME_SNAPSHOT, NET_CONFIG_SET, NET_CONFIG_GET, NET_STATUS_GET, NET_TOUT_SET, NET_TOUT_GET,
NET_TCAP_SET, NET_TCAP_READ, NET_TIME_SET, NET_STATS, ETH_FRAME_RX, TX_TIMESTAMP. -/
theorem witness_NetworkRowsComplete_1 :
    (∃ (q : Req) (s : State),
        (Served { op := 0x0106, pair := 0 } q s true)) ∧
    (∃ (q : Req) (s : State),
        let p := q.payload
        (Served { op := 0x0C01, pair := 8, lo := 32, hi := 32 } q s (netCfgOk p))) ∧
    (∃ (q : Req) (s : State),
        (Served { op := 0x0C02, pair := 8 } q s true)) ∧
    (∃ (q : Req) (s : State),
        (Served { op := 0x0C03, pair := 8 } q s true) ∧
        ((s.netOn = true))) ∧
    (∃ (q : Req) (s : State),
        let p := q.payload
        (Served { op := 0x0C04, pair := 8, lo := 24, hi := 24 } q s (toutOk p)) ∧
        ((s.netOn = true))) ∧
    (∃ (q : Req) (s : State),
        (Served { op := 0x0C05, pair := 8, lo := 1, hi := 1 } q s (u8 q.payload 0 ≤ 3)) ∧
        ((s.netOn = true))) ∧
    (∃ (q : Req) (s : State),
        let p := q.payload
        (Served { op := 0x0C06, pair := 8, lo := 3, hi := 3 } q s (u8 p 0 ≤ 1 && u8 p 1 ≤ 3 && u8 p 2 ≤ 1)) ∧
        ((s.netOn = true))) ∧
    (∃ (q : Req) (s : State),
        let k := u8 q.payload 0
        (Served { op := 0x0C07, pair := 8, lo := 1, hi := 1 } q s (k ≤ 1)) ∧
        ((s.netOn = true))) ∧
    (∃ (q : Req) (s : State),
        let p := q.payload
        (Served { op := 0x0C08, pair := 8, lo := 12, hi := 12 } q s (decide (u32 p 8 < 1000000000))) ∧
        ((s.netOn = true) ∧
        ((¬(s.ptpRole ≠ 2 || s.net.parent ≠ 0))))) ∧
    (∃ (q : Req) (s : State),
        (Served { op := 0x0C09, pair := 8 } q s true) ∧
        ((s.netOn = true))) ∧
    (∃ (port : Nat) (residence : Nat) (f : EthFrame) (s : State),
        ((s.netOn && decide (port < 2) && bit (u8 s.cfg.net 0) port && s.net.link.getD port false) = true) ∧
        ((f.fcs ≠ fcsOf (ethBytes f)))) ∧
    (∃ (port : Nat) (ident : Nat) (sec : Nat) (ns : Nat) (s : State),
        ((s.netOn && decide (port < 2)) = true) ∧
        ((16 ≤ (s.net.txq.getD port []).length))) :=
  ⟨by refine ⟨{ tag := 1, payload := zeros 0, bulk := none }, run0, ?_⟩; decide,
   by refine ⟨{ tag := 1, payload := zeros 32, bulk := none }, run0, ?_⟩; decide,
   by refine ⟨{ tag := 1, payload := zeros 0, bulk := none }, run0, ?_⟩; decide,
   by refine ⟨{ tag := 1, payload := zeros 0, bulk := none }, run0, ?_⟩; decide,
   by refine ⟨{ tag := 1, payload := zeros 24, bulk := none }, run0, ?_⟩; decide,
   by refine ⟨{ tag := 1, payload := zeros 1, bulk := none }, run0, ?_⟩; decide,
   by refine ⟨{ tag := 1, payload := zeros 3, bulk := none }, run0, ?_⟩; decide,
   by refine ⟨{ tag := 1, payload := zeros 1, bulk := none }, run0, ?_⟩; decide,
   by refine ⟨{ tag := 1, payload := zeros 12 }, { run0 with cfg := { run0.cfg with net := 1 :: 0 :: 0 :: 2 :: zeros 20 }, net := { run0.net with link := [true, true], sync := 0 } }, ?_⟩; decide,
   by refine ⟨{ tag := 1, payload := zeros 0, bulk := none }, run0, ?_⟩; decide,
   by refine ⟨0, 0, { dst := 0, src := 0, type := 0, fcs := 0 }, { run0 with cfg := { run0.cfg with net := 1 :: 0 :: 0 :: 2 :: zeros 20 }, net := { run0.net with link := [true, true], fast := [false, false] } }, ?_⟩; decide +kernel,
   by refine ⟨0, 1, 0, 0, { run0 with net := { run0.net with txq := [List.replicate 16 { }, []] } }, ?_⟩; decide⟩

/-- Operands and states for TX_TIMESTAMP, LAUNCH_TIME, TOUT_EDGE, PHY_LINK_CHANGE, ADDRESS_AGEING, PTP_SYNC_TIMEOUT,
NET_HOLDOVER. -/
theorem witness_NetworkRowsComplete_2 :
    (∃ (port : Nat) (ident : Nat) (sec : Nat) (ns : Nat) (s : State),
        ((s.netOn && decide (port < 2)) = true) ∧
        (((s.net.txq.getD port []).length < 16) ∧
        ((s.net.fast.getD port false = true)))) ∧
    (∃ (port : Nat) (x : Launch) (t : List Launch) (s : State),
        ((s.netOn && decide (port < 2)) = true) ∧
        ((s.net.launch.getD port [] = x :: t) ∧
        ((¬(s.net.sec < x.sec ∨ (s.net.sec = x.sec ∧ s.net.ns < x.ns)))))) ∧
    (∃ (k : Nat) (s : State),
        ((s.netOn && decide (k < 4)) = true)) ∧
    (∃ (port : Nat) (up : Bool) (fast : Bool) (s : State),
        ((s.netOn && decide (port < 2) && (bit (u8 s.cfg.net 0) port || !up) && s.net.link.getD port false != up) = true)) ∧
    (∃ (mac : Nat) (s : State),
        ((s.netOn && (s.net.macs.find? fun e => e.1 == mac).any fun e => decide (e.2.2 + 300000 ≤ s.up)) = true)) ∧
    (∃ (s : State),
        ((s.fwRuns && s.netOn && s.net.sync == 2 && decide (s.net.syncAt + 3000 ≤ s.up)) = true)) ∧
    (∃ (s : State),
        ((s.fwRuns && s.netOn && s.net.sync != 2 && !s.net.holdLong && decide (s.net.lostAt + 10000 ≤ s.up)) = true)) :=
  ⟨by refine ⟨0, 1, 0, 0, { run0 with net := { run0.net with fast := [true, true] } }, ?_⟩; decide,
   by refine ⟨0, {}, [], { run0 with net := { run0.net with launch := [[{}], []] } }, ?_⟩; decide,
   by refine ⟨0, run0, ?_⟩; decide,
   by refine ⟨0, true, true, run0, ?_⟩; decide,
   by refine ⟨2, { run0 with up := 400000, net := { run0.net with macs := [(2, 0, 0)] } }, ?_⟩; decide,
   by refine ⟨{ ({ run0 with net := { run0.net with sync := 2 } } : State) with up := 4000000 }, ?_⟩; decide,
   by refine ⟨{ ({ run0 with net := { run0.net with holdLong := false } } : State) with up := 4000000 }, ?_⟩; decide⟩

/-- Operands and states for OUTLET_CONFIG_SET, OUTLET_CONFIG_GET, OUTLET_STATUS_GET, OUTLET_SERVICE, OUTLET_UNLOCK,
PILOT_STATE_ACCEPT, PP_ACCEPT, LOCK_FEEDBACK_CHANGE, WELD_WINDOW_END, LOCK_PULSE, LOCK_PULSE_END, LOCK_FEEDBACK_CHECK. -/
theorem witness_SessionRowsComplete_1 :
    (∃ (q : Req) (s : State),
        let o := outletArg q.payload 0
        (Served { op := 0x0201, pair := 1, lo := 16, hi := 16 } q s (outletCfgOk q.payload)) ∧
        ((¬((s.o o).ses.st != .idle && (s.o o).ses.st != .outOfService)))) ∧
    (∃ (q : Req) (s : State),
        (Served { op := 0x0202, pair := 1, lo := 1, hi := 1 } q s (outletFits q.payload 0))) ∧
    (∃ (q : Req) (s : State),
        (Served { op := 0x0203, pair := 1, lo := 1, hi := 1 } q s (outletFits q.payload 0))) ∧
    (∃ (q : Req) (s : State),
        let l := if u8 q.payload 0 = 0xFF then outlets else [outletArg q.payload 0]
        let action := u8 q.payload 1
        (Served { op := 0x0206, pair := 1, lo := 2, hi := 2 } q s ((outletFits q.payload 0 || u8 q.payload 0 == 0xFF) && action ≤ 2)) ∧
        ((¬(action = 1 && l.any (fun o => s.control o == 0))) ∧
        ((¬(l.any (s.serviceRefused action)))))) ∧
    (∃ (q : Req) (s : State),
        let o := outletArg q.payload 0
        (Served { op := 0x0207, pair := 1, lo := 1, hi := 1 } q s (outletFits q.payload 0)) ∧
        ((¬(!s.hasLock o)) ∧
        (let x := (s.o o).ses
        let may := match x.st with
          | .idle | .plugged | .faulted | .outOfService => true
          | .ending => x.windowPassed
          | _ => false
        (¬(!may || s.coil o))))) ∧
    (∃ (o : ONum) (s : State),
        let p := (s.o o).pilot
        ((decide (3 ≤ p.run) && p.cand != 6 && (p.accepted != some p.cand || (p.treatE && p.cand == 0))) = true)) ∧
    (∃ (o : ONum) (s : State),
        let p := (s.o o).pp
        ((s.cable o == 0 && decide (5 ≤ p.run) && (!p.accepted || p.acc != p.cand)) = true)) ∧
    (∃ (o : ONum) (locked : Bool) (s : State),
        ((s.hasLock o) = true)) ∧
    (∃ (o : ONum) (s : State),
        (((s.o o).sw.phase == .released) = true)) ∧
    (∃ (o : ONum) (s : State),
        let l := (s.o o).lock
        ((l.waiting && l.target.isSome && !s.coil o && !l.braking && s.bankPulses o < 2 && !s.pwr.shed) = true)) ∧
    (∃ (o : ONum) (s : State),
        (((s.o o).lock.drive != .off) = true)) ∧
    (∃ (o : ONum) (s : State),
        let l := (s.o o).lock
        ((l.due && l.target.isSome && l.target != some l.locked) = true)) :=
  ⟨by refine ⟨{ tag := 1, payload := [0, 3, 0, 0, 0, 0, 5, 5, 0, 0, 5, 0, 0, 0, 0, 0] }, run0, ?_⟩; decide,
   by refine ⟨{ tag := 1, payload := zeros 1, bulk := none }, run0, ?_⟩; decide,
   by refine ⟨{ tag := 1, payload := zeros 1, bulk := none }, run0, ?_⟩; decide,
   by refine ⟨{ tag := 1, payload := zeros 2, bulk := none }, run0, ?_⟩; decide,
   by refine ⟨{ tag := 1, payload := [0] }, { run0 with cfg := { run0.cfg with outlet := run0.cfg.outlet.set 0 [0, 3, 0, 0, 0, 1, 5, 5, 0, 0, 5, 0, 0, 0, 0, 0] } }, ?_⟩; decide,
   by refine ⟨0, (run0.setO 0 { run0.o 0 with pilot := { (run0.o 0).pilot with run := 3, cand := 1 } }), ?_⟩; decide,
   by refine ⟨0, (run0.setO 0 { run0.o 0 with pp := { (run0.o 0).pp with run := 5 } }), ?_⟩; decide,
   by refine ⟨0, true, { run0 with cfg := { run0.cfg with outlet := run0.cfg.outlet.set 0 [0, 3, 0, 0, 0, 1, 5, 5, 0, 0, 5, 0, 0, 0, 0, 0] } }, ?_⟩; decide,
   by refine ⟨0, (run0.setO 0 { run0.o 0 with sw := { (run0.o 0).sw with phase := .released } }), ?_⟩; decide,
   by refine ⟨0, (({ run0 with cfg := { run0.cfg with outlet := run0.cfg.outlet.set 0 [0, 3, 0, 0, 0, 1, 5, 5, 0, 0, 5, 0, 0, 0, 0, 0] } }).setO 0 { run0.o 0 with lock := { (run0.o 0).lock with waiting := true, target := some true } }), ?_⟩; decide,
   by refine ⟨0, (({ run0 with cfg := { run0.cfg with outlet := run0.cfg.outlet.set 0 [0, 3, 0, 0, 0, 1, 5, 5, 0, 0, 5, 0, 0, 0, 0, 0] } }).setO 0 { run0.o 0 with lock := { (run0.o 0).lock with drive := .lock } }), ?_⟩; decide,
   by refine ⟨0, (({ run0 with cfg := { run0.cfg with outlet := run0.cfg.outlet.set 0 [0, 3, 0, 0, 0, 1, 5, 5, 0, 0, 5, 0, 0, 0, 0, 0] } }).setO 0 { run0.o 0 with lock := { (run0.o 0).lock with due := true, target := some true, locked := false } }), ?_⟩; decide⟩

/-- Operands and states for LOCK_RETRY, IDENTIFICATION, AUTH_TIMEOUT, LOCK_BRAKE_END, FAULTED_PRESENCE_CLEAR. -/
theorem witness_SessionRowsComplete_2 :
    (∃ (o : ONum) (s : State),
        let l := (s.o o).lock
        ((l.target.isSome && l.tries == 1 && !l.due && !l.waiting && l.drive == .off) = true)) ∧
    (∃ (o : ONum) (src : Nat) (id : Bytes) (s : State),
        ((s.fwRuns && src < 3) = true)) ∧
    (∃ (o : ONum) (s : State),
        ((s.fwRuns && (s.o o).ses.st == .authorising && (s.o o).ses.pend.isSome) = true)) ∧
    (∃ (o : ONum) (s : State),
        ((s.o o).lock.braking = true)) ∧
    (∃ (o : ONum) (s : State),
        (((s.o o).ses.st == .faulted && (s.o o).sw.presence == 0 && !s.coil o && s.hasLock o && (s.o o).lock.locked && (s.o o).lock.target.isNone && decide ((s.o o).sw.presAt.getD 0 + 40 ≤ s.up)) = true)) :=
  ⟨by refine ⟨0, (({ run0 with cfg := { run0.cfg with outlet := run0.cfg.outlet.set 0 [0, 3, 0, 0, 0, 1, 5, 5, 0, 0, 5, 0, 0, 0, 0, 0] } }).setO 0 { run0.o 0 with lock := { (run0.o 0).lock with target := some true, tries := 1 } }), ?_⟩; decide,
   by refine ⟨0, 0, [], run0, ?_⟩; decide,
   by refine ⟨0, (run0.setO 0 { run0.o 0 with ses := { (run0.o 0).ses with st := .authorising, pend := some {} } }), ?_⟩; decide,
   by refine ⟨0, (({ run0 with cfg := { run0.cfg with outlet := run0.cfg.outlet.set 0 [0, 3, 0, 0, 0, 1, 5, 5, 0, 0, 5, 0, 0, 0, 0, 0] } }).setO 0 { run0.o 0 with lock := { (run0.o 0).lock with braking := true } }), ?_⟩; decide,
   by refine ⟨0, { ((({ run0 with cfg := { run0.cfg with outlet := run0.cfg.outlet.set 0 [0, 3, 0, 0, 0, 1, 5, 5, 0, 0, 5, 0, 0, 0, 0, 0] } }).setO 0 { run0.o 0 with lock := { (run0.o 0).lock with locked := true }, ses := { (run0.o 0).ses with st := .faulted } }) : State) with up := 4000000 }, ?_⟩; decide⟩

/-- Operands and states for PILOT_PERIOD, PILOT_LEVEL, PILOT_DIODE, PP_SAMPLE, MIRROR_CONTACT_CHANGE, CLOSING_START,
CLOSING_CONFIRMED, CLOSING_TIMEOUT, SSW_READY_CHECK, SSW_ENABLE_RETRY, OPENING_START. -/
theorem witness_SequencerRowsComplete_1 :
    (∃ (o : ONum) (pos : List Int) (neg : List Int) (s : State),
        ((s.domOn 3) = true)) ∧
    (∃ (o : ONum) (s : State),
        ((decide (100 ≤ (s.o o).pilot.undRun) && !s.latchedQ 33 o.val) = true)) ∧
    (∃ (o : ONum) (s : State),
        ((decide (3 ≤ (s.o o).pilot.diodeRun) && !s.latchedQ 32 o.val) = true)) ∧
    (∃ (o : ONum) (ohm : Nat) (s : State),
        ((s.domOn 3 && s.cable o == 0) = true)) ∧
    (∃ (o : ONum) (closed : Bool) (s : State),
        ((closed && (s.o o).sw.mirrorOpen && (s.o o).sw.phase == .closing) = false)) ∧
    (∃ (o : ONum) (s : State),
        ((s.o o).sw.mirrorOpen = true) ∧
        (((s.o o).sw.phase = .closing))) ∧
    (∃ (o : ONum) (s : State),
        ((s.fwRuns && s.mayClose o) = true)) ∧
    (∃ (o : ONum) (s : State),
        (((s.o o).sw.phase == .closing && (s.o o).sw.mirrorOpen && s.presentAll o) = true)) ∧
    (∃ (o : ONum) (s : State),
        (((s.o o).sw.phase == .closing && !((s.o o).sw.mirrorOpen && s.presentAll o)) = true)) ∧
    (∃ (o : ONum) (ready : Bool) (s : State),
        (((s.o o).sw.phase == .enabling) = true)) ∧
    (∃ (o : ONum) (s : State),
        (((s.o o).sw.phase == .retryWait && !(s.o o).prot.stRun) = true)) ∧
    (∃ (o : ONum) (cause : Nat) (s : State),
        ((s.energised o && ((s.o o).ses.st != .energising || (s.trigger115 o).isSome || s.refusesClose o)) = true)) :=
  ⟨by refine ⟨0, [], [], run0, ?_⟩; decide,
   by refine ⟨0, (run0.setO 0 { run0.o 0 with pilot := { (run0.o 0).pilot with undRun := 100 } }), ?_⟩; decide,
   by refine ⟨0, (run0.setO 0 { run0.o 0 with pilot := { (run0.o 0).pilot with diodeRun := 3 } }), ?_⟩; decide,
   by refine ⟨0, 0, run0, ?_⟩; decide,
   by refine ⟨0, true, run0, ?_⟩; decide,
   by refine ⟨0, (run0.setO 0 { run0.o 0 with sw := { (run0.o 0).sw with mirrorOpen := true, phase := .closing } }), ?_⟩; decide,
   by refine ⟨0, (({ run0 with up := 2000, store := { run0.store with safeMode := 0 }, isl := { run0.isl with img := putAt run0.isl.img 16 [1, 6, 64, 1], pairs := run0.isl.pairs.set 0 { tested := true, testedAt := 1995 } } } : State).setO 0 { run0.o 0 with ses := { (run0.o 0).ses with st := .ready }, pilot := { (run0.o 0).pilot with accepted := some 2, setpoint := 160 }, pp := { (run0.o 0).pp with accepted := true, acc := 32 } }), ?_⟩; decide +kernel,
   by refine ⟨0, (run0.setO 0 { run0.o 0 with sw := { (run0.o 0).sw with phase := .closing, mirrorOpen := true, presence := 7 } }), ?_⟩; decide,
   by refine ⟨0, (run0.setO 0 { run0.o 0 with sw := { (run0.o 0).sw with phase := .closing } }), ?_⟩; decide,
   by refine ⟨0, true, (run0.setO 0 { run0.o 0 with sw := { (run0.o 0).sw with phase := .enabling } }), ?_⟩; decide,
   by refine ⟨0, (run0.setO 0 { run0.o 0 with sw := { (run0.o 0).sw with phase := .retryWait } }), ?_⟩; decide,
   by refine ⟨0, 3, (run0.setO 0 { run0.o 0 with sw := { (run0.o 0).sw with sswen := true } }), ?_⟩; decide⟩

/-- Operands and states for CONTACTOR_RELEASE, DEFERRED_OPENING. -/
theorem witness_SequencerRowsComplete_2 :
    (∃ (o : ONum) (s : State),
        (((s.o o).sw.phase == .opening) = true)) ∧
    (∃ (o : ONum) (s : State),
        (((s.o o).sw.deferred && s.energised o && (s.zeroCurrent o || decide ((s.o o).sw.deferAt + 6000 ≤ s.up))) = true)) :=
  ⟨by refine ⟨0, (run0.setO 0 { run0.o 0 with sw := { (run0.o 0).sw with phase := .opening } }), ?_⟩; decide,
   by refine ⟨0, (run0.setO 0 { run0.o 0 with sw := { (run0.o 0).sw with deferred := true, sswen := true } }), ?_⟩; decide⟩

/-- Operands and states for HLC_CONFIG_SET, HLC_CONFIG_GET, HLC_SLAC_SET, HLC_STATUS_GET, HLC_CERT_FETCH, HLC_CERT_REPLY,
HLC_STATS_GET, PLC_FRAME_RX, PLC_TX_GRANT, PLC_TX_DISCARD, BEACON_TX. -/
theorem witness_CommunicationRowsComplete_1 :
    (∃ (q : Req) (s : State),
        let p := q.payload
        let o := outletArg p 0
        (Served { op := 0x0301, pair := 1, lo := 8, hi := 8 } q s (hlcCfgOk p)) ∧
        (let st := (s.o o).ses.st
        (¬(st != .idle && st != .outOfService)))) ∧
    (∃ (q : Req) (s : State),
        (Served { op := 0x0302, pair := 1, lo := 1, hi := 1 } q s (outletFits q.payload 0))) ∧
    (∃ (q : Req) (s : State),
        let p := q.payload
        (Served { op := 0x0303, pair := 1, lo := 2, hi := 2 } q s (3 ≤ u8 p 0 && u8 p 0 ≤ 30 && 20 ≤ u8 p 1 && u8 p 1 ≤ 70))) ∧
    (∃ (q : Req) (s : State),
        (Served { op := 0x0304, pair := 1, lo := 1, hi := 1 } q s (outletFits q.payload 0))) ∧
    (∃ (q : Req) (s : State),
        let o := outletArg q.payload 0
        (Served { op := 0x0306, pair := 1, lo := 1, hi := 1, bulk := 1 } q s (outletFits q.payload 0)) ∧
        ((¬(!s.feOn o)) ∧
        (((((s.o o).hlc.cert)).isSome = true)))) ∧
    (∃ (q : Req) (s : State),
        let o := outletArg q.payload 0
        let k := u8 q.payload 1
        (Served { op := 0x0307, pair := 1, lo := 2, hi := 2, bulk := 2 } q s (outletFits q.payload 0 && k ≤ 1 && q.bulk.isSome == (k == 0))) ∧
        ((¬(!s.feOn o)) ∧
        ((¬((s.o o).hlc.cert.isNone))))) ∧
    (∃ (q : Req) (s : State),
        (Served { op := 0x0308, pair := 1, lo := 1, hi := 1 } q s (outletFits q.payload 0 || u8 q.payload 0 == 0xFF))) ∧
    (∃ (l : List Preamble) (ended : List Nat) (s : State),
        ((s.fwRuns && s.domOn 4) = true)) ∧
    (∃ (o : ONum) (f : PlcFrame) (s : State),
        ((s.fwRuns && s.domOn 4) = true) ∧
        ((s.plc.txWait = [f]) ∧
        ((f.outlet = o.val) ∧
        ((s.plc.txOn = []) ∧
        ((1 ≤ s.plc.txLanes)))))) ∧
    (∃ (ended : List Nat) (clear : List Nat) (s : State),
        ((s.fwRuns && s.domOn 4) = true) ∧
        (let z : State := { s with plc := { s.plc with txOn := s.plc.txOn.filter fun f => !ended.contains f.outlet } }
        (z.plc.txLanes ≤ z.plc.txOn.length))) ∧
    (∃ (o : ONum) (f : PlcFrame) (s : State),
        ((s.plc.txWait.find? fun f => f.outlet == o.val && decide (f.at_ + 10 ≤ s.up)) = some f)) ∧
    (∃ (o : ONum) (s : State),
        ((s.fwRuns && s.feOn o) = true)) :=
  ⟨by refine ⟨{ tag := 1, payload := [0, 1, 1, 0, 0, 20, 0, 0] }, run0, ?_⟩; decide,
   by refine ⟨{ tag := 1, payload := zeros 1, bulk := none }, run0, ?_⟩; decide,
   by refine ⟨{ tag := 1, payload := [10, 60] }, run0, ?_⟩; decide,
   by refine ⟨{ tag := 1, payload := zeros 1, bulk := none }, run0, ?_⟩; decide,
   by refine ⟨{ tag := 1, payload := [0], bulk := some (0, 64) }, (({ run0 with cfg := { run0.cfg with outlet := run0.cfg.outlet.set 0 [0, 3, 0, 0, 0, 0, 5, 5, 1, 0, 5, 0, 0, 0, 0, 0] } }).setO 0 { run0.o 0 with pilot := { (run0.o 0).pilot with mode := .hlc, accepted := some 2 }, ses := { (run0.o 0).ses with st := .plugged }, hlc := { (run0.o 0).hlc with cert := some (0, []) } }), ?_⟩; decide,
   by refine ⟨{ tag := 1, payload := [0, 1] }, (({ run0 with cfg := { run0.cfg with outlet := run0.cfg.outlet.set 0 [0, 3, 0, 0, 0, 0, 5, 5, 1, 0, 5, 0, 0, 0, 0, 0] } }).setO 0 { run0.o 0 with pilot := { (run0.o 0).pilot with mode := .hlc, accepted := some 2 }, ses := { (run0.o 0).ses with st := .plugged }, hlc := { (run0.o 0).hlc with cert := some (0, []) } }), ?_⟩; decide,
   by refine ⟨{ tag := 1, payload := zeros 1, bulk := none }, run0, ?_⟩; decide,
   by refine ⟨[{ outlet := 0, start := 0, level := 50 }], [], (({ run0 with cfg := { run0.cfg with outlet := run0.cfg.outlet.set 0 [0, 3, 0, 0, 0, 0, 5, 5, 1, 0, 5, 0, 0, 0, 0, 0] } }).setO 0 { run0.o 0 with pilot := { (run0.o 0).pilot with mode := .hlc, accepted := some 2 }, ses := { (run0.o 0).ses with st := .plugged }, hlc := { (run0.o 0).hlc with framesRx := 0 } }), ?_⟩; decide,
   by refine ⟨0, { outlet := 0, src := 1, prio := 2, at_ := 0, body := .notRequired }, { run0 with plc := { run0.plc with txWait := [{ outlet := 0, src := 1, prio := 2, at_ := 0, body := .notRequired }] } }, ?_⟩; decide,
   by refine ⟨[], [], { run0 with plc := { run0.plc with txLanes := 0 } }, ?_⟩; decide,
   by refine ⟨0, { outlet := 0, src := 1, prio := 2, at_ := 0, body := .notRequired }, { run0 with up := 10, plc := { run0.plc with txWait := [{ outlet := 0, src := 1, prio := 2, at_ := 0, body := .notRequired }] } }, ?_⟩; decide,
   by refine ⟨0, run0, ?_⟩; decide⟩

/-- Operands and states for CM_SLAC_PARM_REQ, CM_MNBC_SOUND_IND, SLAC_DECISION, CM_VALIDATE_REQ, CM_SLAC_MATCH_REQ,
SLAC_INIT_EXPIRY, SESSION_SETUP_TIMEOUT, V2G_SESSION_LOST, SDP_REQUEST, SUPPORTED_APP_PROTOCOL, V2G_REQUEST. -/
theorem witness_CommunicationRowsComplete_2 :
    (∃ (o : ONum) (runid : Nat) (mac : Nat) (s : State),
        ((s.fwRuns && s.slacReady o) = true) ∧
        (((s.o o).hlc.run = none))) ∧
    (∃ (o : ONum) (runid : Nat) (mac : Nat) (r : SlacRun) (s : State),
        ((s.fwRuns && s.slacReady o) = true) ∧
        (((s.o o).hlc.run = some r) ∧
        ((r.decided = none)))) ∧
    (∃ (o : ONum) (l : List Sound) (sounds : Nat) (r : SlacRun) (s : State),
        ((s.fwRuns && s.feOn o) = true) ∧
        (((s.o o).hlc.run = some r) ∧
        ((r.decided = none)))) ∧
    (∃ (o : ONum) (r : SlacRun) (s : State),
        ((s.fwRuns && s.feOn o) = true) ∧
        (((s.o o).hlc.run = some r) ∧
        ((r.decided = none)))) ∧
    (∃ (o : ONum) (window : Bool) (n : Nat) (s : State),
        ((s.fwRuns && s.feOn o && (s.o o).hlc.run.isSome) = true)) ∧
    (∃ (o : ONum) (r : SlacRun) (s : State),
        ((s.fwRuns && s.slacReady o && s.key.trngOk) = true) ∧
        (((s.o o).hlc.run = some r) ∧
        ((r.decided = some true)))) ∧
    (∃ (o : ONum) (s : State),
        ((s.fwRuns && (s.o o).hlc.initOpen && s.hlcOn o) = true)) ∧
    (∃ (o : ONum) (s : State),
        ((s.fwRuns && (s.o o).hlc.setupOpen) = true)) ∧
    (∃ (o : ONum) (s : State),
        ((s.fwRuns && (s.o o).hlc.v2g) = true)) ∧
    (∃ (o : ONum) (tls : Bool) (s : State),
        ((s.fwRuns && s.feOn o && (s.o o).hlc.assoc) = true)) ∧
    (∃ (o : ONum) (hello : Option Hello) (offers20 : Bool) (offers2 : Bool) (s : State),
        ((s.fwRuns && s.feOn o && (s.o o).hlc.assoc) = true)) ∧
    (∃ (o : ONum) (m : V2gMsg) (s : State),
        ((s.fwRuns && s.feOn o && (s.o o).hlc.assoc) = true) ∧
        ((((s.o o).hlc.v2g || m == .setup) = true))) :=
  ⟨by refine ⟨0, 1, 1, (({ run0 with cfg := { run0.cfg with outlet := run0.cfg.outlet.set 0 [0, 3, 0, 0, 0, 0, 5, 5, 1, 0, 5, 0, 0, 0, 0, 0] } }).setO 0 { run0.o 0 with pilot := { (run0.o 0).pilot with mode := .hlc, accepted := some 2 }, ses := { (run0.o 0).ses with st := .plugged }, hlc := { (run0.o 0).hlc with framesRx := 0 } }), ?_⟩; decide,
   by refine ⟨0, 9, 1, {}, (({ run0 with cfg := { run0.cfg with outlet := run0.cfg.outlet.set 0 [0, 3, 0, 0, 0, 0, 5, 5, 1, 0, 5, 0, 0, 0, 0, 0] } }).setO 0 { run0.o 0 with pilot := { (run0.o 0).pilot with mode := .hlc, accepted := some 2 }, ses := { (run0.o 0).ses with st := .plugged }, hlc := { (run0.o 0).hlc with run := some {} } }), ?_⟩; decide,
   by refine ⟨0, [], 10, {}, (({ run0 with cfg := { run0.cfg with outlet := run0.cfg.outlet.set 0 [0, 3, 0, 0, 0, 0, 5, 5, 1, 0, 5, 0, 0, 0, 0, 0] } }).setO 0 { run0.o 0 with pilot := { (run0.o 0).pilot with mode := .hlc, accepted := some 2 }, ses := { (run0.o 0).ses with st := .plugged }, hlc := { (run0.o 0).hlc with run := some {} } }), ?_⟩; decide,
   by refine ⟨0, {}, (({ run0 with cfg := { run0.cfg with outlet := run0.cfg.outlet.set 0 [0, 3, 0, 0, 0, 0, 5, 5, 1, 0, 5, 0, 0, 0, 0, 0] } }).setO 0 { run0.o 0 with pilot := { (run0.o 0).pilot with mode := .hlc, accepted := some 2 }, ses := { (run0.o 0).ses with st := .plugged }, hlc := { (run0.o 0).hlc with run := some {} } }), ?_⟩; decide,
   by refine ⟨0, true, 1, (({ run0 with cfg := { run0.cfg with outlet := run0.cfg.outlet.set 0 [0, 3, 0, 0, 0, 0, 5, 5, 1, 0, 5, 0, 0, 0, 0, 0] } }).setO 0 { run0.o 0 with pilot := { (run0.o 0).pilot with mode := .hlc, accepted := some 2 }, ses := { (run0.o 0).ses with st := .plugged }, hlc := { (run0.o 0).hlc with run := some {} } }), ?_⟩; decide,
   by refine ⟨0, { decided := some true }, (({ run0 with cfg := { run0.cfg with outlet := run0.cfg.outlet.set 0 [0, 3, 0, 0, 0, 0, 5, 5, 1, 0, 5, 0, 0, 0, 0, 0] } }).setO 0 { run0.o 0 with pilot := { (run0.o 0).pilot with mode := .hlc, accepted := some 2 }, ses := { (run0.o 0).ses with st := .plugged }, hlc := { (run0.o 0).hlc with run := some { decided := some true } } }), ?_⟩; decide,
   by refine ⟨0, (({ run0 with cfg := { run0.cfg with outlet := run0.cfg.outlet.set 0 [0, 3, 0, 0, 0, 0, 5, 5, 1, 0, 5, 0, 0, 0, 0, 0] } }).setO 0 { run0.o 0 with pilot := { (run0.o 0).pilot with mode := .hlc, accepted := some 2 }, ses := { (run0.o 0).ses with st := .plugged }, hlc := { (run0.o 0).hlc with initOpen := true } }), ?_⟩; decide,
   by refine ⟨0, (({ run0 with cfg := { run0.cfg with outlet := run0.cfg.outlet.set 0 [0, 3, 0, 0, 0, 0, 5, 5, 1, 0, 5, 0, 0, 0, 0, 0] } }).setO 0 { run0.o 0 with pilot := { (run0.o 0).pilot with mode := .hlc, accepted := some 2 }, ses := { (run0.o 0).ses with st := .plugged }, hlc := { (run0.o 0).hlc with setupOpen := true } }), ?_⟩; decide,
   by refine ⟨0, (({ run0 with cfg := { run0.cfg with outlet := run0.cfg.outlet.set 0 [0, 3, 0, 0, 0, 0, 5, 5, 1, 0, 5, 0, 0, 0, 0, 0] } }).setO 0 { run0.o 0 with pilot := { (run0.o 0).pilot with mode := .hlc, accepted := some 2 }, ses := { (run0.o 0).ses with st := .plugged }, hlc := { (run0.o 0).hlc with v2g := true } }), ?_⟩; decide,
   by refine ⟨0, true, (({ run0 with cfg := { run0.cfg with outlet := run0.cfg.outlet.set 0 [0, 3, 0, 0, 0, 0, 5, 5, 1, 0, 5, 0, 0, 0, 0, 0] } }).setO 0 { run0.o 0 with pilot := { (run0.o 0).pilot with mode := .hlc, accepted := some 2 }, ses := { (run0.o 0).ses with st := .plugged }, hlc := { (run0.o 0).hlc with assoc := true } }), ?_⟩; decide,
   by refine ⟨0, some {}, true, true, (({ run0 with cfg := { run0.cfg with outlet := run0.cfg.outlet.set 0 [0, 3, 0, 0, 0, 0, 5, 5, 1, 0, 5, 0, 0, 0, 0, 0] } }).setO 0 { run0.o 0 with pilot := { (run0.o 0).pilot with mode := .hlc, accepted := some 2 }, ses := { (run0.o 0).ses with st := .plugged }, hlc := { (run0.o 0).hlc with assoc := true } }), ?_⟩; decide,
   by refine ⟨0, .setup, (({ run0 with cfg := { run0.cfg with outlet := run0.cfg.outlet.set 0 [0, 3, 0, 0, 0, 0, 5, 5, 1, 0, 5, 0, 0, 0, 0, 0] } }).setO 0 { run0.o 0 with pilot := { (run0.o 0).pilot with mode := .hlc, accepted := some 2 }, ses := { (run0.o 0).ses with st := .plugged }, hlc := { (run0.o 0).hlc with assoc := true } }), ?_⟩; decide⟩

/-- Operands and states for V2G_REQUEST, SERVICE_SELECTION_REQ, V2G_STOP_REQUEST, CERT_REQ, CERT_REPLY_TIMEOUT. -/
theorem witness_CommunicationRowsComplete_3 :
    (∃ (o : ONum) (m : V2gMsg) (s : State),
        ((s.fwRuns && s.feOn o && (s.o o).hlc.assoc) = true) ∧
        ((((s.o o).hlc.v2g || m == .setup) = false))) ∧
    (∃ (o : ONum) (service : Nat) (dynamic : Bool) (s : State),
        ((s.fwRuns && s.feOn o && (s.o o).hlc.v2g) = true)) ∧
    (∃ (o : ONum) (kind : Nat) (s : State),
        ((s.fwRuns && s.feOn o && (s.o o).hlc.v2g) = true)) ∧
    (∃ (o : ONum) (kind : Nat) (exi : Bytes) (s : State),
        ((s.fwRuns && s.feOn o && (s.o o).hlc.v2g) = true)) ∧
    (∃ (o : ONum) (s : State),
        ((s.fwRuns && (s.o o).hlc.cert.isSome) = true)) :=
  ⟨by refine ⟨0, .schedule, (({ run0 with cfg := { run0.cfg with outlet := run0.cfg.outlet.set 0 [0, 3, 0, 0, 0, 0, 5, 5, 1, 0, 5, 0, 0, 0, 0, 0] } }).setO 0 { run0.o 0 with pilot := { (run0.o 0).pilot with mode := .hlc, accepted := some 2 }, ses := { (run0.o 0).ses with st := .plugged }, hlc := { (run0.o 0).hlc with assoc := true } }), ?_⟩; decide,
   by refine ⟨0, 1, true, (({ run0 with cfg := { run0.cfg with outlet := run0.cfg.outlet.set 0 [0, 3, 0, 0, 0, 0, 5, 5, 1, 0, 5, 0, 0, 0, 0, 0] } }).setO 0 { run0.o 0 with pilot := { (run0.o 0).pilot with mode := .hlc, accepted := some 2 }, ses := { (run0.o 0).ses with st := .plugged }, hlc := { (run0.o 0).hlc with v2g := true } }), ?_⟩; decide,
   by refine ⟨0, 0, (({ run0 with cfg := { run0.cfg with outlet := run0.cfg.outlet.set 0 [0, 3, 0, 0, 0, 0, 5, 5, 1, 0, 5, 0, 0, 0, 0, 0] } }).setO 0 { run0.o 0 with pilot := { (run0.o 0).pilot with mode := .hlc, accepted := some 2 }, ses := { (run0.o 0).ses with st := .plugged }, hlc := { (run0.o 0).hlc with v2g := true } }), ?_⟩; decide,
   by refine ⟨0, 0, [], (({ run0 with cfg := { run0.cfg with outlet := run0.cfg.outlet.set 0 [0, 3, 0, 0, 0, 0, 5, 5, 1, 0, 5, 0, 0, 0, 0, 0] } }).setO 0 { run0.o 0 with pilot := { (run0.o 0).pilot with mode := .hlc, accepted := some 2 }, ses := { (run0.o 0).ses with st := .plugged }, hlc := { (run0.o 0).hlc with v2g := true } }), ?_⟩; decide,
   by refine ⟨0, (({ run0 with cfg := { run0.cfg with outlet := run0.cfg.outlet.set 0 [0, 3, 0, 0, 0, 0, 5, 5, 1, 0, 5, 0, 0, 0, 0, 0] } }).setO 0 { run0.o 0 with pilot := { (run0.o 0).pilot with mode := .hlc, accepted := some 2 }, ses := { (run0.o 0).ses with st := .plugged }, hlc := { (run0.o 0).hlc with cert := some (0, []) } }), ?_⟩; decide⟩

/-- Operands and states for PROT_CONFIG_SET, PROT_CONFIG_GET, PROT_STATUS_GET, PROT_SELFTEST, APEX_TRIP, APEX_LATCH_SEEN,
RC_FRONTEND, DC_FAST_UPDATE, RC_WARN, AC_RESIDUAL_UPDATE. -/
theorem witness_ProtectionRowsComplete_1 :
    (∃ (q : Req) (s : State),
        let p := q.payload
        let l := if u8 p 0 = 0xFF then outlets else [outletArg p 0]
        (Served { op := 0x0401, pair := 2, lo := 8, hi := 8 } q s ((outletFits p 0 || u8 p 0 == 0xFF) && 6 ≤ u8 p 1 && u8 p 1 ≤ 30 && (u16 p 2 == 0 || (50 ≤ u16 p 2 && u16 p 2 ≤ 250)) && 100 ≤ u16 p 4 && u16 p 4 ≤ 1000 && u16 p 4 % 10 == 0)) ∧
        ((¬(!(l.all fun o => ocThrAllowed (u16 p 2) (s.rated o)))) ∧
        ((¬(s.store.safeMode = 0)) ∧
        ((¬(l.any s.coil)))))) ∧
    (∃ (q : Req) (s : State),
        (Served { op := 0x0402, pair := 2, lo := 1, hi := 1 } q s (outletFits q.payload 0))) ∧
    (∃ (q : Req) (s : State),
        (Served { op := 0x0403, pair := 2, lo := 1, hi := 1 } q s (outletFits q.payload 0))) ∧
    (∃ (q : Req) (s : State),
        let o := outletArg q.payload 0
        (Served { op := 0x0404, pair := 2, lo := 1, hi := 1 } q s (outletFits q.payload 0)) ∧
        ((¬(s.coil o || (s.o o).sw.sswen)) ∧
        ((¬((s.o o).prot.stRun || (s.maint.any fun a => a.running && a.claimsPort o.val)))))) ∧
    (∃ (o : ONum) (cur : List Int) (wide : Int) (s : State),
        let z := s.modProt o fun p => { p with wide := wide }
        let inputs := (z.o o).prot.comparators cur
        (clearBits inputs (z.o o).prot.active = 0)) ∧
    (∃ (o : ONum) (cur : List Int) (wide : Int) (s : State),
        let z := s.modProt o fun p => { p with wide := wide }
        let p := (z.o o).prot
        let rise := clearBits (p.comparators cur) p.active
        (rise ≠ 0)) ∧
    (∃ (o : ONum) (s : State),
        (((s.o o).prot.latch != 0 && !(s.o o).prot.seen) = true)) ∧
    (∃ (o : ONum) (s : State),
        ((decide (8 ≤ (s.o o).prot.satRun) && !s.latchedQ 48 o.val) = true)) ∧
    (∃ (o : ONum) (mean : Int) (s : State),
        (mean.natAbs < 450)) ∧
    (∃ (o : ONum) (mean : Int) (s : State),
        (450 ≤ mean.natAbs) ∧
        (((s.o o).prot.fastArmed = true) ∧
        ((s.rcdTest o = false)))) ∧
    (∃ (o : ONum) (s : State),
        let p := (s.o o).prot
        let held := match p.warnSince with
          | some t => decide (t + 1000 ≤ s.up)
          | none => false
        ((held && p.warnArmed && p.slowArmed) = true)) ∧
    (∃ (o : ONum) (rms : Nat) (s : State),
        (rms < 8 * s.rcAc o) ∧
        ((s.acInjected o = false))) :=
  ⟨by refine ⟨{ tag := 1, payload := [0xFF, 6, 50, 0, 100, 0, 0, 0] }, run0, ?_⟩; decide,
   by refine ⟨{ tag := 1, payload := zeros 1, bulk := none }, run0, ?_⟩; decide,
   by refine ⟨{ tag := 1, payload := zeros 1, bulk := none }, run0, ?_⟩; decide,
   by refine ⟨{ tag := 1, payload := zeros 1, bulk := none }, run0, ?_⟩; decide,
   by refine ⟨0, [], 0, run0, ?_⟩; decide,
   by refine ⟨0, [1000000, 0, 0, 0], 0, (run0.setO 0 { run0.o 0 with prot := { (run0.o 0).prot with ocThr := 900 } }), ?_⟩; decide,
   by refine ⟨0, (run0.setO 0 { run0.o 0 with prot := { (run0.o 0).prot with latch := 1, seen := false } }), ?_⟩; decide,
   by refine ⟨0, (run0.setO 0 { run0.o 0 with prot := { (run0.o 0).prot with satRun := 8 } }), ?_⟩; decide,
   by refine ⟨0, 0, run0, ?_⟩; decide,
   by refine ⟨0, -450, (run0.setO 0 { run0.o 0 with prot := { (run0.o 0).prot with fastArmed := true } }), ?_⟩; decide,
   by refine ⟨0, { (run0.setO 0 { run0.o 0 with prot := { (run0.o 0).prot with warnSince := some 0, warnArmed := true, slowArmed := true } }) with up := 1000 }, ?_⟩; decide,
   by refine ⟨0, 0, run0, ?_⟩; decide⟩

/-- Operands and states for AC_RESIDUAL_UPDATE, SSW_DESAT, OVERLOAD, SELFTEST_START, SELFTEST_DONE. -/
theorem witness_ProtectionRowsComplete_2 :
    (∃ (o : ONum) (rms : Nat) (s : State),
        (8 * s.rcAc o ≤ rms) ∧
        (((s.o o).prot.acArmed = true) ∧
        ((s.acInjected o = false)))) ∧
    (∃ (o : ONum) (s : State),
        (((s.o o).sw.sswen && (s.o o).sw.readySeen) = true)) ∧
    (∃ (o : ONum) (cur : Nat) (s : State),
        ((s.energised o && ((s.o o).pilot.mode == .pwm || (s.o o).pilot.mode == .hlc) && decide (11 * s.iol o + 1000 < 100 * cur) && decide ((s.o o).prot.iolCut + 10000 ≤ s.up)) = true)) ∧
    (∃ (o : ONum) (trigger : Nat) (s : State),
        let due := match (s.o o).sw.sswFall with
          | some t => decide (t + 120 ≤ s.up)
          | none => false
        ((!(s.o o).prot.stRun && !(s.o o).sw.sswen && !s.coil o && ((trigger == 0 && due) || (trigger == 1 && !s.host.ready))) = true)) ∧
    (∃ (o : ONum) (m : RcdMeas) (s : State),
        ((s.o o).prot.stRun = true) ∧
        ((selftestResult m ≠ 0) ∧
        (((s.o o).prot.stRetry = false)))) ∧
    (∃ (o : ONum) (m : RcdMeas) (s : State),
        ((s.o o).prot.stRun = true) ∧
        ((selftestResult m = 0) ∧
        (((s.o o).prot.stRetry = false) ∧
        (((s.o o).prot.stTag = none))))) :=
  ⟨by refine ⟨0, 2000, (run0.setO 0 { run0.o 0 with prot := { (run0.o 0).prot with acArmed := true } }), ?_⟩; decide,
   by refine ⟨0, (run0.setO 0 { run0.o 0 with sw := { (run0.o 0).sw with sswen := true, readySeen := true } }), ?_⟩; decide,
   by refine ⟨0, 1000, { (run0.setO 0 { run0.o 0 with sw := { (run0.o 0).sw with sswen := true }, pilot := { (run0.o 0).pilot with mode := .pwm, duty := 200 } }) with up := 10000 }, ?_⟩; decide,
   by refine ⟨0, 0, { (run0.setO 0 { run0.o 0 with sw := { (run0.o 0).sw with sswFall := some 0 } }) with up := 120 }, ?_⟩; decide,
   by refine ⟨0, { dc := 84 }, (run0.setO 0 { run0.o 0 with prot := { (run0.o 0).prot with stRun := true } }), ?_⟩; decide,
   by refine ⟨0, { dc := 85, ac := 220 }, (run0.setO 0 { run0.o 0 with prot := { (run0.o 0).prot with stRun := true } }), ?_⟩; decide⟩

/-- Operands and states for SAFE_STATUS_GET, SAFE_CONFIG_READ, SAFE_PASSWORD_SET, SAFE_LOG_READ, ISLAND_SAFE_STATE,
SIN_ACCEPT, SIN_DISC, SITE_RELEASE, SITE_FB_CHECK, WELD_WATCH_END, PAIR_TEST_STEP_END. -/
theorem witness_SafetyIslandRowsComplete_1 :
    (∃ (q : Req) (s : State),
        (Served { op := 0x0501, pair := 2 } q s true)) ∧
    (∃ (q : Req) (s : State),
        (Served { op := 0x0502, pair := 2, bulk := 1 } q s true)) ∧
    (∃ (q : Req) (z : State),
        let role := u8 q.payload 0
        let oldLen := u8 q.payload 1
        let newLen := u8 q.payload 2
        (Served { op := 0x0506, pair := 2, lo := 36, hi := 36 } q z (1 ≤ role && role ≤ 2 && 8 ≤ newLen && newLen ≤ 16 && oldLen ≤ 16)) ∧
        (let never := !z.store.pwSet.getD (role - 1) false
        let a := if never then (z.store.safeMode == 1, z) else z.tryPassword role ((q.payload.drop 4).take oldLen)
        (¬(!a.1)))) ∧
    (∃ (q : Req) (s : State),
        let first := u32 q.payload 0
        let count := u8 q.payload 4
        let r := q.bulk.getD (0, 0)
        (Served { op := 0x0507, pair := 2, lo := 5, hi := 5, bulk := 1 } q s (1 ≤ count && count ≤ 170)) ∧
        (let log := s.store.safeLog
        let oldest := s.store.safeSeq - log.length
        (¬(!log.isEmpty && first < oldest)) ∧
        ((¬(r.2 < 24 * count))))) ∧
    (∃ (src : Nat) (s : State),
        (((src == 112 || src == 115) && !s.isl.safeState) = true)) ∧
    (∃ (n : Nat) (chan : Bool) (closed : Bool) (s : State),
        let c := if chan then (s.sin n).b else (s.sin n).a
        ((n < 8 && s.sinCfg n 0 1 != 0 && c.raw == closed && decide (4 * s.sinCfg n 2 1 ≤ c.run) && (!c.known || c.acc != closed)) = true)) ∧
    (∃ (n : Nat) (s : State),
        let due := match (s.sin n).disc with
          | some t => decide (t + s.sinCfg n 4 2 ≤ s.up)
          | none => false
        ((n < 8 && s.sinCfg n 0 1 != 0 && due && !s.latchedQ 114 n) = true)) ∧
    (∃ (j : Nat) (s : State),
        (((s.site j).opening && j < 2) = true)) ∧
    (∃ (j : Nat) (s : State),
        (((s.site j).opening && j < 2 && !(s.pair (24 + j)).on) = true)) ∧
    (∃ (o : ONum) (r : Resolve) (t : List Resolve) (s : State),
        ((s.site (s.bus o)).resolves = r :: t) ∧
        ((((s.site (s.bus o)).watch && r.outlet == o.val) = true))) ∧
    (∃ (o : ONum) (r : Resolve) (t : List Resolve) (s : State),
        ((s.site (s.bus o)).resolves = r :: t) ∧
        ((((s.site (s.bus o)).watch && r.outlet == o.val) = true))) ∧
    (∃ (p : Nat) (khs : Nat) (kls : Nat) (coil : Nat) (s : State),
        (p < 26) ∧
        ((s.pairTestable p = true) ∧
        ((pairVerdict false khs kls coil s.pwr.vkc = none)))) :=
  ⟨by refine ⟨{ tag := 1, payload := zeros 0, bulk := none }, run0, ?_⟩; decide,
   by refine ⟨{ tag := 1, payload := zeros 0, bulk := some (0, 4096) }, run0, ?_⟩; decide,
   by refine ⟨{ tag := 1, payload := [1, 0, 8] ++ zeros 33 }, run0, ?_⟩; decide,
   by refine ⟨{ tag := 1, payload := [0, 0, 0, 0, 1], bulk := some (0, 24) }, run0, ?_⟩; decide,
   by refine ⟨112, run0, ?_⟩; decide,
   by refine ⟨0, false, true, { run0 with isl := { run0.isl with img := putAt run0.isl.img 416 [1, 0, 1, 0, 0, 0, 0, 0, 0, 0, 0], sins := run0.isl.sins.set 0 { a := { raw := true, run := 4, acc := false } } } }, ?_⟩; decide,
   by refine ⟨0, { run0 with isl := { run0.isl with img := putAt run0.isl.img 416 [1, 0, 1, 0, 0, 0, 0, 0, 0, 0, 0], sins := run0.isl.sins.set 0 { disc := some 0 } } }, ?_⟩; decide,
   by refine ⟨0, { run0 with isl := { run0.isl with sites := run0.isl.sites.set 0 { opening := true } } }, ?_⟩; decide,
   by refine ⟨0, { run0 with isl := { run0.isl with sites := run0.isl.sites.set 0 { opening := true } } }, ?_⟩; decide,
   by refine ⟨0, { outlet := 0, tag := 5 }, [], { run0 with isl := { run0.isl with sites := run0.isl.sites.set 0 { watch := true, resolves := [{ outlet := 0, tag := 5 }] } } }, ?_⟩; decide,
   by refine ⟨0, { outlet := 0, tag := 5 }, [], { run0 with isl := { run0.isl with sites := run0.isl.sites.set 0 { watch := true, resolves := [{ outlet := 0, tag := 5 }] } } }, ?_⟩; decide,
   by refine ⟨0, 0, 0, 0, run0, ?_⟩; decide⟩

/-- Operands and states for PAIR_TEST_STEP_END, PULLIN_END, SITE_CLOSE_CHECK, COIL_CHECK, COIL_UNDERCURRENT,
SAFE_STATE_PAIRS_OFF. -/
theorem witness_SafetyIslandRowsComplete_2 :
    (∃ (p : Nat) (khs : Nat) (kls : Nat) (coil : Nat) (s : State),
        (p < 24) ∧
        ((s.pairTestable p = true) ∧
        (((s.pair p).testA = true) ∧
        ((pairVerdict true khs kls coil s.pwr.vkc = none))))) ∧
    (∃ (p : Nat) (khs : Nat) (kls : Nat) (coil : Nat) (s : State),
        (24 ≤ p) ∧
        ((p < 26) ∧
        ((s.pairTestable p = true) ∧
        (((s.pair p).testA = true) ∧
        ((s.pullinRoom = true) ∧
        ((pairVerdict true khs kls coil s.pwr.vkc = none))))))) ∧
    (∃ (p : Nat) (s : State),
        (((s.pair p).on && (s.pair p).pullin) = true)) ∧
    (∃ (j : Nat) (s : State),
        (((s.site j).closing && j < 2) = true)) ∧
    (∃ (p : Nat) (coil : Nat) (s : State),
        (((s.pair p).on) = true)) ∧
    (∃ (p : Nat) (s : State),
        ((p < 26 && (s.pair p).on && decide (10 ≤ (s.pair p).lowRun)) = true)) ∧
    (∃ (s : State),
        ((s.isl.safeState && !s.isl.pairsOff) = true)) :=
  ⟨by refine ⟨0, 149, 149, 19, { run0 with isl := { run0.isl with pairs := run0.isl.pairs.set 0 { testA := true } } }, ?_⟩; decide,
   by refine ⟨24, 0, 0, 0, { run0 with isl := { run0.isl with sites := run0.isl.sites.set 0 { auto := true }, pairs := run0.isl.pairs.set 24 { testA := true } } }, ?_⟩; decide,
   by refine ⟨0, { run0 with isl := { run0.isl with pairs := run0.isl.pairs.set 0 { on := true, pullin := true } } }, ?_⟩; decide,
   by refine ⟨1, { run0 with isl := { run0.isl with sites := run0.isl.sites.set 1 { closing := true } } }, ?_⟩; decide,
   by refine ⟨25, 100, { run0 with isl := { run0.isl with pairs := run0.isl.pairs.set 25 { on := true } } }, ?_⟩; decide,
   by refine ⟨25, { run0 with isl := { run0.isl with pairs := run0.isl.pairs.set 25 { on := true, lowRun := 10 } } }, ?_⟩; decide,
   by refine ⟨{ run0 with isl := { run0.isl with safeState := true, pairsOff := false } }, ?_⟩; decide⟩

/-- Operands and states for BUD_CONFIG_SET, BUD_CONFIG_GET, BUD_OUTLET_SET, BUD_OUTLET_GET, BUD_STATUS_GET, BUD_EXTLOAD,
BUD_STEP_AT, BUDGET_ROUND, TIMEBASE_TO_LINE, TIMEBASE_TO_PTP, LAT_CONFIG_SET, LAT_CONFIG_GET. -/
theorem witness_BudgetRowsComplete_1 :
    (∃ (q : Req) (s : State),
        (Served { op := 0x0601, pair := 3, lo := 36, hi := 36 } q s (budCfgOk q.payload))) ∧
    (∃ (q : Req) (s : State),
        (Served { op := 0x0602, pair := 3 } q s true)) ∧
    (∃ (q : Req) (s : State),
        let p := q.payload
        (Served { op := 0x0603, pair := 3, lo := 12, hi := 12 } q s (budOutOk p))) ∧
    (∃ (q : Req) (s : State),
        (Served { op := 0x0604, pair := 3, lo := 1, hi := 1 } q s (outletFits q.payload 0))) ∧
    (∃ (q : Req) (s : State),
        (Served { op := 0x0605, pair := 3 } q s true)) ∧
    (∃ (q : Req) (s : State),
        (Served { op := 0x0606, pair := 3, lo := 6, hi := 6 } q s (curOk q.payload 0 3))) ∧
    (∃ (q : Req) (s : State),
        let t := fld q.payload 0 8
        (Served { op := 0x0607, pair := 3, lo := 8, hi := 8 } q s true) ∧
        ((¬(t < s.stepMs + 200 || s.stepMs + 10000 < t)) ∧
        ((¬(s.bud.line || (s.inLattice && !s.lat.leading))) ∧
        ((¬(s.bud.stepAt.isSome)))))) ∧
    (∃ (reclaim : List Nat) (s : State),
        (s.fwRuns = true)) ∧
    (∃ (s : State),
        ((s.fwRuns && !s.bud.line && !(s.netOn && s.net.sync == 2) && decide (s.net.lostAt + 10000 ≤ s.up)) = true)) ∧
    (∃ (s : State),
        ((s.fwRuns && s.bud.line && s.netOn && s.net.sync == 2 && decide (s.net.lockedAt + 2000 ≤ s.up)) = true)) ∧
    (∃ (q : Req) (s : State),
        let p := q.payload
        (Served { op := 0x0608, pair := 3, lo := 24, hi := 24 } q s (latCfgOk p)) ∧
        ((¬(!s.slotHas (u8 p 2) 3)))) ∧
    (∃ (q : Req) (s : State),
        (Served { op := 0x0609, pair := 3 } q s true)) :=
  ⟨by refine ⟨{ tag := 1, payload := zeros 32 ++ [10, 0, 0, 0] }, run0, ?_⟩; decide,
   by refine ⟨{ tag := 1, payload := zeros 0, bulk := none }, run0, ?_⟩; decide,
   by refine ⟨{ tag := 1, payload := zeros 12, bulk := none }, run0, ?_⟩; decide,
   by refine ⟨{ tag := 1, payload := zeros 1, bulk := none }, run0, ?_⟩; decide,
   by refine ⟨{ tag := 1, payload := zeros 0, bulk := none }, run0, ?_⟩; decide,
   by refine ⟨{ tag := 1, payload := zeros 6, bulk := none }, run0, ?_⟩; decide,
   by refine ⟨{ tag := 1, payload := [244, 1, 0, 0, 0, 0, 0, 0] }, { run0 with bud := { run0.bud with line := false } }, ?_⟩; decide,
   by refine ⟨[], run0, ?_⟩; decide,
   by refine ⟨{ ({ run0 with bud := { run0.bud with line := false } } : State) with up := 4000000 }, ?_⟩; decide,
   by refine ⟨{ ({ run0 with bud := { run0.bud with line := true }, net := { run0.net with sync := 2 } } : State) with up := 4000000 }, ?_⟩; decide,
   by refine ⟨{ tag := 1, payload := [0, 2, 0, 0, 1, 0, 0, 0, 0, 0, 0, 0] ++ zeros 12 }, { run0 with store := { run0.store with keys := [(0, { state := 1, engines := 255, uses := 255 })] } }, ?_⟩; decide,
   by refine ⟨{ tag := 1, payload := zeros 0, bulk := none }, run0, ?_⟩; decide⟩

/-- Operands and states for LAT_STATUS_GET, STEP_INSTANT, LAT_REPORT_TX, LAT_ROUND_CLOSE, LAT_SHARE_TX. -/
theorem witness_BudgetRowsComplete_2 :
    (∃ (q : Req) (s : State),
        (Served { op := 0x060A, pair := 3, bulk := 1 } q s true)) ∧
    (∃ (s : State),
        let soon := s.bud.moved && match s.bud.lastStep with
          | some t => decide (s.up < t + 500)
          | none => false
        let early := match s.bud.stepAt with
          | some t => decide (s.stepMs < t)
          | none => false
        ((s.fwRuns && !soon && !early) = true)) ∧
    (∃ (s : State),
        ((s.fwRuns && s.inLattice && s.netOn && s.slotValid (u8 s.cfg.lat 2)) = true)) ∧
    (∃ (s : State),
        ((s.fwRuns && s.inLattice && s.netOn) = true)) ∧
    (∃ (round : Nat) (step : Nat) (s : State),
        (s.lat.computed = some (round, step)) ∧
        (((s.fwRuns && s.inLattice && s.netOn && s.lat.leading && s.slotValid (u8 s.cfg.lat 2)) = true))) :=
  ⟨by refine ⟨{ tag := 1, payload := zeros 0, bulk := some (0, 4096) }, run0, ?_⟩; decide,
   by refine ⟨run0, ?_⟩; decide,
   by refine ⟨{ run0 with cfg := { run0.cfg with lat := [1, 2, 0, 0, 1, 0, 0, 0, 0, 0, 0, 0, 0, 0, 0, 0, 0, 0, 0, 0, 0, 0, 0, 0] }, lat := { run0.lat with round := 0 }, store := { run0.store with keys := [(0, { state := 1, engines := 8, uses := 255 })] } }, ?_⟩; decide,
   by refine ⟨{ run0 with cfg := { run0.cfg with lat := [1, 2, 0, 0, 1, 0, 0, 0, 0, 0, 0, 0, 0, 0, 0, 0, 0, 0, 0, 0, 0, 0, 0, 0] }, lat := { run0.lat with round := 0 } }, ?_⟩; decide,
   by refine ⟨1, 2, { run0 with cfg := { run0.cfg with lat := [1, 2, 0, 0, 1, 0, 0, 0, 0, 0, 0, 0, 0, 0, 0, 0, 0, 0, 0, 0, 0, 0, 0, 0] }, lat := { run0.lat with leading := true, computed := some (1, 2) }, store := { run0.store with keys := [(0, { state := 1, engines := 8, uses := 255 })] } }, ?_⟩; decide⟩

/-- Operands and states for METRO_CONFIG_SET, METRO_CONFIG_GET, METRO_SCALE_SET, METRO_SCALE_GET, METRO_CAL_WRITE,
METRO_CAL_READ, METRO_TABLE_WRITE, METRO_TABLE_READ, METRO_CAL_DIGEST, METRO_CAL_REVERT, METRO_CH_STATUS, METRO_LINE_GET. -/
theorem witness_MetrologyRowsComplete_1 :
    (∃ (q : Req) (s : State),
        let p := q.payload
        (Served { op := 0x0701, pair := 4, lo := 16, hi := 16 } q s (metroCfgOk p))) ∧
    (∃ (q : Req) (s : State),
        (Served { op := 0x0702, pair := 4 } q s true)) ∧
    (∃ (q : Req) (s : State),
        let p := q.payload
        (Served { op := 0x0703, pair := 4, lo := 8, hi := 8 } q s (scaleOk p))) ∧
    (∃ (q : Req) (s : State),
        let p := q.payload
        (Served { op := 0x0704, pair := 4, lo := 2, hi := 2 } q s (u8 p 0 ≤ 25 && u8 p 1 ≤ 1))) ∧
    (∃ (q : Req) (s : State),
        let p := q.payload
        (Served { op := 0x0705, pair := 4, lo := 16, hi := 16 } q s (calWriteOk p))) ∧
    (∃ (q : Req) (s : State),
        let p := q.payload
        (Served { op := 0x0706, pair := 4, lo := 3, hi := 3 } q s (chOk p && u8 p 2 ≤ 1))) ∧
    (∃ (q : Req) (s : State),
        let p := q.payload
        (Served { op := 0x0707, pair := 4, lo := 2, hi := 2, bulk := 1 } q s (chOk p))) ∧
    (∃ (q : Req) (s : State),
        let p := q.payload
        (Served { op := 0x0708, pair := 4, lo := 3, hi := 3, bulk := 1 } q s (chOk p && u8 p 2 ≤ 1))) ∧
    (∃ (q : Req) (s : State),
        (Served { op := 0x0709, pair := 4 } q s true)) ∧
    (∃ (q : Req) (s : State),
        (Served { op := 0x070B, pair := 4 } q s true)) ∧
    (∃ (q : Req) (s : State),
        let c := u8 q.payload 0
        (Served { op := 0x070C, pair := 4, lo := 1, hi := 1 } q s (c ≤ 103))) ∧
    (∃ (q : Req) (s : State),
        (Served { op := 0x070D, pair := 4 } q s true)) :=
  ⟨by refine ⟨{ tag := 1, payload := [200, 0, 50, 1, 232, 3, 196, 9] ++ zeros 8 }, run0, ?_⟩; decide,
   by refine ⟨{ tag := 1, payload := zeros 0, bulk := none }, run0, ?_⟩; decide,
   by refine ⟨{ tag := 1, payload := [0, 0, 208, 7, 232, 3, 0, 0] }, run0, ?_⟩; decide,
   by refine ⟨{ tag := 1, payload := zeros 2, bulk := none }, run0, ?_⟩; decide,
   by refine ⟨{ tag := 1, payload := [0, 0, 0, 0, 0, 0, 0, 0x40] ++ zeros 8 }, run0, ?_⟩; decide,
   by refine ⟨{ tag := 1, payload := zeros 3, bulk := none }, run0, ?_⟩; decide,
   by refine ⟨{ tag := 1, payload := zeros 2, bulk := some (0, 4096) }, run0, ?_⟩; decide,
   by refine ⟨{ tag := 1, payload := zeros 3, bulk := some (0, 4096) }, run0, ?_⟩; decide,
   by refine ⟨{ tag := 1, payload := zeros 0, bulk := none }, run0, ?_⟩; decide,
   by refine ⟨{ tag := 1, payload := zeros 0, bulk := none }, run0, ?_⟩; decide,
   by refine ⟨{ tag := 1, payload := zeros 1, bulk := none }, run0, ?_⟩; decide,
   by refine ⟨{ tag := 1, payload := zeros 0, bulk := none }, run0, ?_⟩; decide⟩

/-- Operands and states for METRO_RAW, GAIN_DECISION, GAIN_SWITCH, TEMP_UPDATE, NTC_RESTORE, OFFSET_REMEASURE,
SELFCAL_VISIT_END, CAL_COMMIT_DONE, REFERENCE_LOST, SELFCAL_VISIT. -/
theorem witness_MetrologyRowsComplete_2 :
    (∃ (q : Req) (s : State),
        let p := q.payload
        (Served { op := 0x070E, pair := 4, lo := 3, hi := 3, bulk := 1 } q s (u8 p 0 ≤ 103 && 1 ≤ u16 p 1 && u16 p 1 ≤ 1024))) ∧
    (∃ (c : Nat) (s : State),
        (s.metaOn = true) ∧
        ((c < 96) ∧
        (((s.ch c).hiGain = true) ∧
        ((50 * fs16 < 100 * (s.ch c).peak))))) ∧
    (∃ (c : Nat) (s : State),
        (s.metaOn = true) ∧
        ((c < 96) ∧
        (((s.ch c).hiGain = false) ∧
        ((100 * (s.ch c).peak < 5 * fs16))))) ∧
    (∃ (c : Nat) (hi : Bool) (s : State),
        (s.metaOn = true) ∧
        ((c < 96) ∧
        (((s.ch c).pending = some hi)))) ∧
    (∃ (ntc : List Nat) (die10 : Int) (s : State),
        (s.metaOn = true)) ∧
    (∃ (k : Nat) (s : State),
        let n := s.met.ntcs.getD k {}
        ((s.metaOn && n.fallback && decide (60 ≤ n.good) && decide (k < 4)) = true)) ∧
    (∃ (o : ONum) (offs : List Int) (s : State),
        let low := match (s.o o).sw.sswFall with
          | some t => decide (t + 2000 ≤ s.up)
          | none => decide (2000 ≤ s.up)
        ((s.metaOn && !s.energised o && low) = true)) ∧
    (∃ (resp : List Int) (delay : List Int) (s : State),
        ((s.metaOn && s.fwRuns) = true)) ∧
    (∃ (tag : Nat) (s : State),
        (s.met.commit = some tag)) ∧
    (∃ (tag : Nat) (s : State),
        (s.met.commit = some tag)) ∧
    (∃ (s : State),
        ((s.metaOn && s.met.synth && !s.met.hold && decide (s.met.synthAt + 1000 ≤ s.up)) = true)) ∧
    (∃ (s : State),
        ((s.metaOn && s.fwRuns && u8 s.cfg.metro 8 == 1 && s.met.visitG.isNone) = true)) :=
  ⟨by refine ⟨{ tag := 1, payload := [0, 1, 0], bulk := some (0, 64) }, run0, ?_⟩; decide,
   by refine ⟨0, { run0 with met := { run0.met with chans := run0.met.chans.set 0 { hiGain := true, peak := 1000000 } } }, ?_⟩; decide,
   by refine ⟨0, run0, ?_⟩; decide,
   by refine ⟨0, true, { run0 with met := { run0.met with chans := run0.met.chans.set 0 { pending := some true } } }, ?_⟩; decide,
   by refine ⟨[], 0, run0, ?_⟩; decide,
   by refine ⟨0, { run0 with met := { run0.met with ntcs := [{ fallback := true, good := 60 }] } }, ?_⟩; decide,
   by refine ⟨0, [1, 2, 3, 4], { run0 with up := 2000 }, ?_⟩; decide,
   by refine ⟨[], [], { run0 with met := { run0.met with visitG := some 0 } }, ?_⟩; decide,
   by refine ⟨1, { run0 with met := { run0.met with commit := some 1 } }, ?_⟩; decide,
   by refine ⟨1, { run0 with met := { run0.met with commit := some 1 } }, ?_⟩; decide,
   by refine ⟨{ ({ run0 with met := { run0.met with synth := true } } : State) with up := 4000000 }, ?_⟩; decide,
   by refine ⟨run0, ?_⟩; decide⟩

/-- Operands and states for ENERGY_CONFIG_SET, ENERGY_CONFIG_GET, ENERGY_READ, ENERGY_INSTANT, ENERGY_LATCH_NOW, PQ_LOG_READ,
WAVE_LIST, WAVE_EXPORT, WAVE_TRIGGER, TAMPER_STATUS, TAMPER_CLEAR, METRO_SAMPLE. -/
theorem witness_EnergyRowsComplete_1 :
    (∃ (q : Req) (s : State),
        let p := q.payload
        (Served { op := 0x0710, pair := 4, lo := 20, hi := 20 } q s (energyCfgOk p))) ∧
    (∃ (q : Req) (s : State),
        (Served { op := 0x0711, pair := 4 } q s true)) ∧
    (∃ (q : Req) (s : State),
        let f := u8 q.payload 0
        let n := u8 q.payload 1
        (Served { op := 0x0712, pair := 4, lo := 2, hi := 2, bulk := 1 } q s (f < 24 && 1 ≤ n && n ≤ 18 && f + n ≤ 24))) ∧
    (∃ (q : Req) (s : State),
        (Served { op := 0x0713, pair := 4, lo := 1, hi := 1 } q s (outletFits q.payload 0))) ∧
    (∃ (q : Req) (s : State),
        (Served { op := 0x0714, pair := 4 } q s true)) ∧
    (∃ (q : Req) (s : State),
        let first := u32 q.payload 0
        let n := u8 q.payload 4
        let r := q.bulk.getD (0, 0)
        (Served { op := 0x0715, pair := 4, lo := 5, hi := 5, bulk := 1 } q s (1 ≤ n && n ≤ 128)) ∧
        (let l := s.store.pqLog.reverse
        let oldest := (l.head?.map fun x => x.seq).getD s.store.pqNext
        (¬(!l.isEmpty && older32 first oldest)) ∧
        ((¬(r.2 < 32 * n))))) ∧
    (∃ (q : Req) (s : State),
        let n := u8 q.payload 4
        (Served { op := 0x0716, pair := 4, lo := 5, hi := 5, bulk := 1 } q s (decide (1 ≤ n)))) ∧
    (∃ (q : Req) (s : State),
        (Served { op := 0x0717, pair := 4, lo := 4, hi := 4 } q s true) ∧
        (let id := u32 q.payload 0
        (¬(!s.store.captures.any (fun c => c.id == id))) ∧
        ((¬(s.en.exporting.isSome)) ∧
        ((¬((s.pr 14).state ≠ 1)))))) ∧
    (∃ (q : Req) (s : State),
        let o := u8 q.payload 0
        (Served { op := 0x0718, pair := 4, lo := 1, hi := 1 } q s (o < 24)) ∧
        (let again := s.en.capWait.any fun c => c.outlet == o && decide (s.en.sample ≤ c.sample + 2047)
        (¬(!again && 4 ≤ s.en.capWait.length)))) ∧
    (∃ (q : Req) (s : State),
        (Served { op := 0x0719, pair := 4 } q s true)) ∧
    (∃ (q : Req) (s : State),
        let p := q.payload
        let ks := tamperKinds (u8 p 0) (u8 p 1) (u8 p 2)
        (Served { op := 0x071A, pair := 4, lo := 3, hi := 3 } q s (ks.isSome)) ∧
        (let ks := (ks.getD []).filter fun k => s.tamperSet k.1 k.2
        (¬(ks.any fun k => s.tamperActive k.1 k.2)))) ∧
    (∃ (x : List Int) (lfxo : Nat) (s : State),
        (s.metaOn = true)) :=
  ⟨by refine ⟨{ tag := 1, payload := [10, 0, 90, 110, 5, 2, 100, 0, 5, 10, 50, 20, 0, 0, 255] ++ zeros 5 }, run0, ?_⟩; decide,
   by refine ⟨{ tag := 1, payload := zeros 0, bulk := none }, run0, ?_⟩; decide,
   by refine ⟨{ tag := 1, payload := [0, 1], bulk := some (0, 256) }, run0, ?_⟩; decide,
   by refine ⟨{ tag := 1, payload := zeros 1, bulk := none }, run0, ?_⟩; decide,
   by refine ⟨{ tag := 1, payload := zeros 0, bulk := none }, run0, ?_⟩; decide,
   by refine ⟨{ tag := 1, payload := [0, 0, 0, 0, 1], bulk := some (0, 64) }, run0, ?_⟩; decide,
   by refine ⟨{ tag := 1, payload := [0, 0, 0, 0, 1], bulk := some (0, 64) }, run0, ?_⟩; decide,
   by refine ⟨{ tag := 1, payload := [7, 0, 0, 0] }, ({ run0 with store := { run0.store with captures := [{ id := 7, sample := 0 }] } } : State).modPr 14 fun p => { p with state := 1 }, ?_⟩; decide,
   by refine ⟨{ tag := 1, payload := zeros 1, bulk := none }, run0, ?_⟩; decide,
   by refine ⟨{ tag := 1, payload := zeros 0, bulk := none }, run0, ?_⟩; decide,
   by refine ⟨{ tag := 1, payload := zeros 3, bulk := none }, run0, ?_⟩; decide,
   by refine ⟨[], 0, run0, ?_⟩; decide⟩

/-- Operands and states for DIRECTION_CHANGE, HALF_CYCLE_PQ, REVERSE_CURRENT, BYPASS_DETECT, BYPASS_END, NEUTRAL_MISSING,
NEUTRAL_END, TAMPER_SAMPLE, PERIODIC_LATCH, BOUNDARY_LATCH, CAPTURE_CUT. -/
theorem witness_EnergyRowsComplete_2 :
    (∃ (o : ONum) (s : State),
        let x := s.en.inst.get o
        ((s.metaOn && decide (8000 ≤ x.dirRun)) = true)) ∧
    (∃ (bus : Nat) (s : State),
        ((s.metaOn && decide (bus < 2)) = true)) ∧
    (∃ (o : ONum) (s : State),
        let x := s.en.inst.get o
        ((s.metaOn && !x.reverse && decide (0 < x.revRun) && decide (8000 * s.ec 8 ≤ x.revRun)) = true)) ∧
    (∃ (o : ONum) (s : State),
        let x := s.en.inst.get o
        ((s.metaOn && !x.bypass && decide (16000 < x.bypRun)) = true)) ∧
    (∃ (o : ONum) (s : State),
        let x := s.en.inst.get o
        ((s.metaOn && x.bypass && decide (80000 ≤ x.bypOff)) = true)) ∧
    (∃ (bus : Nat) (s : State),
        ((s.metaOn && decide (bus < 2) && !s.en.neutral.getD bus false && decide (16000 ≤ s.en.neRun.getD bus 0)) = true)) ∧
    (∃ (bus : Nat) (s : State),
        ((s.metaOn && s.en.neutral.getD bus false && decide (80000 ≤ s.en.neOff.getD bus 0)) = true)) ∧
    (∃ (t0 : Bool) (t1 : Bool) (s : State),
        ((s.pwr.state != .off) = true)) ∧
    (∃ (s : State),
        ((s.metaOn && s.periodicDue) = true)) ∧
    (∃ (s : State),
        ((s.metaOn && s.boundaryDue) = true)) ∧
    (∃ (c : Capture) (s : State),
        (s.fwRuns = true) ∧
        (((s.en.capWait.find? fun c => decide (c.sample + 2047 ≤ s.en.sample)) = some c) ∧
        ((215040 ≤ s.en.sample - c.sample + 2048)))) ∧
    (∃ (c : Capture) (s : State),
        (s.fwRuns = true) ∧
        (((s.en.capWait.find? fun c => decide (c.sample + 2047 ≤ s.en.sample)) = some c) ∧
        ((s.en.sample - c.sample + 2048 < 215040)))) :=
  ⟨by refine ⟨0, { run0 with en := { run0.en with inst := run0.en.inst.set 0 { dirRun := 8000 } } }, ?_⟩; decide,
   by refine ⟨0, run0, ?_⟩; decide,
   by refine ⟨0, { run0 with en := { run0.en with inst := run0.en.inst.set 0 { revRun := 100000000 } } }, ?_⟩; decide,
   by refine ⟨0, { run0 with en := { run0.en with inst := run0.en.inst.set 0 { bypRun := 16001 } } }, ?_⟩; decide,
   by refine ⟨0, { run0 with en := { run0.en with inst := run0.en.inst.set 0 { bypass := true, bypOff := 80000 } } }, ?_⟩; decide,
   by refine ⟨0, { run0 with en := { run0.en with neRun := [16000, 0] } }, ?_⟩; decide,
   by refine ⟨0, { run0 with en := { run0.en with neutral := [true, false], neOff := [80000, 0] } }, ?_⟩; decide,
   by refine ⟨true, true, run0, ?_⟩; decide,
   by refine ⟨{ run0 with en := { run0.en with sinceN := 10 } }, ?_⟩; decide,
   by refine ⟨{ run0 with en := { run0.en with armed := some 0 } }, ?_⟩; decide,
   by refine ⟨{ id := 7, sample := 0 }, { run0 with en := { run0.en with sample := 215040, capWait := [{ id := 7, sample := 0 }] } }, ?_⟩; decide,
   by refine ⟨{ id := 7, sample := 0 }, { run0 with en := { run0.en with sample := 2047, capWait := [{ id := 7, sample := 0 }] } }, ?_⟩; decide⟩

/-- Operands and states for WAVE_CHUNK_SEND, WAVE_EXPORT_TIMEOUT. -/
theorem witness_EnergyRowsComplete_3 :
    (∃ (x : Export) (c : Capture) (s : State),
        (s.en.exporting = some x) ∧
        (((s.store.captures.find? fun c => c.id == x.id) = some c) ∧
        ((s.fwRuns = true) ∧
        (((s.pr 14).state = 1) ∧
        ((s.chunkFree = true) ∧
        ((x.next < 36))))))) ∧
    (∃ (x : Export) (s : State),
        (s.en.exporting = some x) ∧
        ((x.headAt + 10000 ≤ s.up))) :=
  ⟨by refine ⟨{ id := 7 }, { id := 7, sample := 0 }, ({ run0 with en := { run0.en with exporting := some { id := 7 } }, store := { run0.store with captures := [{ id := 7, sample := 0 }] } } : State).modPr 14 fun p => { p with state := 1 }, ?_⟩; decide,
   by refine ⟨{ id := 7 }, { ({ run0 with en := { run0.en with exporting := some { id := 7 } } } : State) with up := 4000000 }, ?_⟩; decide⟩

/-- Operands and states for BILL_CONFIG_SET, BILL_CONFIG_GET, BILL_CALENDAR_READ, BILL_CALENDAR_ACTIVATE, BILL_TIME_GET,
BILL_TIME_SET, BILL_REGISTERS_GET, BILL_PERIOD_GET, BILL_PERIOD_CLOSE, LEDGER_READ, LEDGER_STATUS, BILL_COMMIT_NOW. -/
theorem witness_BillingRowsComplete_1 :
    (∃ (q : Req) (s : State),
        let p := q.payload
        (Served { op := 0x0801, pair := 5, lo := 24, hi := 24 } q s (billCfgOk p))) ∧
    (∃ (q : Req) (s : State),
        (Served { op := 0x0802, pair := 5 } q s true)) ∧
    (∃ (q : Req) (s : State),
        (Served { op := 0x0804, pair := 5, lo := 1, hi := 1, bulk := 1 } q s (u8 q.payload 0 ≤ 1))) ∧
    (∃ (q : Req) (s : State),
        (Served { op := 0x0805, pair := 5, lo := 8, hi := 8 } q s true) ∧
        ((fld q.payload 0 8 = 0))) ∧
    (∃ (q : Req) (s : State),
        (Served { op := 0x0806, pair := 5 } q s true)) ∧
    (∃ (q : Req) (s : State),
        (Served { op := 0x0807, pair := 5, lo := 8, hi := 8 } q s true) ∧
        ((¬(u8 s.cfg.bill 5 = 0)) ∧
        ((¬(s.bill.stepBusy))))) ∧
    (∃ (q : Req) (s : State),
        let o := u8 q.payload 0
        (Served { op := 0x0808, pair := 5, lo := 1, hi := 1, bulk := 1 } q s (o < 24 || o == 0xFF))) ∧
    (∃ (q : Req) (s : State),
        let ago := u8 q.payload 0
        let o := u8 q.payload 1
        (Served { op := 0x0809, pair := 5, lo := 2, hi := 2, bulk := 1 } q s (1 ≤ ago && ago ≤ 24 && (o < 24 || o == 0xFF)))) ∧
    (∃ (q : Req) (s : State),
        (Served { op := 0x080A, pair := 5 } q s true) ∧
        ((¬(s.bill.closeAt.isSome)))) ∧
    (∃ (q : Req) (s : State),
        let first := u32 q.payload 0
        let n := u8 q.payload 4
        let r := q.bulk.getD (0, 0)
        (Served { op := 0x080B, pair := 5, lo := 5, hi := 5, bulk := 1 } q s (1 ≤ n && n ≤ 32)) ∧
        (let oldest := (s.store.ledger.getLast?.map fun x => x.gen).getD (wrapInc 32 s.store.gen)
        (¬(!s.store.ledger.isEmpty && older32 first oldest)) ∧
        ((¬(r.2 < 128 * n))))) ∧
    (∃ (q : Req) (s : State),
        (Served { op := 0x080C, pair := 5 } q s true)) ∧
    (∃ (q : Req) (z : State),
        (Served { op := 0x080D, pair := 5 } q z true)) :=
  ⟨by refine ⟨{ tag := 1, payload := [0, 15, 1, 1] ++ zeros 20 }, run0, ?_⟩; decide,
   by refine ⟨{ tag := 1, payload := zeros 0, bulk := none }, run0, ?_⟩; decide,
   by refine ⟨{ tag := 1, payload := zeros 1, bulk := some (0, 4096) }, run0, ?_⟩; decide,
   by refine ⟨{ tag := 1, payload := zeros 8, bulk := none }, run0, ?_⟩; decide,
   by refine ⟨{ tag := 1, payload := zeros 0, bulk := none }, run0, ?_⟩; decide,
   by refine ⟨{ tag := 1, payload := zeros 8 }, { run0 with cfg := { run0.cfg with bill := [0, 15, 1, 1, 0, 1] ++ zeros 18 } }, ?_⟩; decide,
   by refine ⟨{ tag := 1, payload := zeros 1, bulk := some (0, 4096) }, run0, ?_⟩; decide,
   by refine ⟨{ tag := 1, payload := [1, 0], bulk := some (0, 192) }, { run0 with store := { run0.store with periods := [{}] } }, ?_⟩; decide,
   by refine ⟨{ tag := 1, payload := zeros 0, bulk := none }, run0, ?_⟩; decide,
   by refine ⟨{ tag := 1, payload := [1, 0, 0, 0, 1], bulk := some (0, 128) }, run0, ?_⟩; decide,
   by refine ⟨{ tag := 1, payload := zeros 0, bulk := none }, run0, ?_⟩; decide,
   by refine ⟨{ tag := 1, payload := zeros 0, bulk := none }, run0, ?_⟩; decide⟩

/-- Operands and states for LEDGER_COMMIT, BILL_TIME_CORRECTION, BOUNDARY_ARM, PERIODIC_COMMIT_TIMER, BOUNDARY_SEQUENCE. -/
theorem witness_BillingRowsComplete_2 :
    (∃ (s : State),
        ((s.fwRuns && s.en.loaded && s.commitDue) = true) ∧
        (let t := s.commitAll (if s.bill.plan.isSome then 2 else s.bill.trig.headD 8) 0
        (t.bill.corr = none))) ∧
    (∃ (delta : Int) (source : Nat) (s : State),
        ((s.fwRuns && s.sourceRules source) = true)) ∧
    (∃ (s : State),
        (s.fwRuns = true)) ∧
    (∃ (s : State),
        ((s.fwRuns && s.commitAge && !s.bill.trig.contains 0) = true)) ∧
    (∃ (s : State),
        ((s.fwRuns && s.bill.running && s.bill.plan.isNone) = true)) :=
  ⟨by refine ⟨{ run0 with en := { run0.en with loaded := true }, bill := { run0.bill with trig := [8] } }, ?_⟩; decide +kernel,
   by refine ⟨5, 3, run0, ?_⟩; decide,
   by refine ⟨run0, ?_⟩; decide,
   by refine ⟨{ run0 with bill := { run0.bill with time := 60000, lastCommit := 0, trig := [] } }, ?_⟩; decide,
   by refine ⟨{ run0 with bill := { run0.bill with running := true } }, ?_⟩; decide⟩

/-- Operands and states for DLMS_TUNNEL, DLMS_CONFIG_SET, DLMS_CONFIG_GET, DLMS_ASSOC_LIST, DLMS_ASSOC_ABORT, DLMS_AARQ,
DLMS_GET, DLMS_SET, DLMS_ACTION, DLMS_RLRQ. -/
theorem witness_DlmsRowsComplete_1 :
    (∃ (q : Req) (s : State),
        let r := q.bulk.getD (0, 0)
        (Served { op := 0x0901, pair := 5, lo := 4, hi := 4, bulk := 1 } q s (u8 q.payload 0 ≤ 7)) ∧
        ((¬(!wrapperOk (s.bulkGet 5 r))) ∧
        ((¬(!bit (u8 s.cfg.dlms 0) 2))))) ∧
    (∃ (q : Req) (s : State),
        let p := q.payload
        (Served { op := 0x0902, pair := 5, lo := 20, hi := 20 } q s (dlmsCfgOk p)) ∧
        ((¬((List.range 4).any fun r => !s.slotHas (u8 p (6 + 4 * r)) 1 || !s.slotHas (u8 p (7 + 4 * r)) 1)))) ∧
    (∃ (q : Req) (s : State),
        (Served { op := 0x0903, pair := 5 } q s true)) ∧
    (∃ (q : Req) (s : State),
        (Served { op := 0x0904, pair := 5 } q s true)) ∧
    (∃ (q : Req) (s : State),
        (Served { op := 0x0905, pair := 5, lo := 2, hi := 2 } q s true)) ∧
    (∃ (client : Nat) (server : Nat) (transport : Nat) (channel : Nat) (h : Hls) (s : State),
        (s.fwRuns = true) ∧
        ((s.transportOpen transport = true) ∧
        ((clientIdx client = none)))) ∧
    (∃ (server : Nat) (transport : Nat) (channel : Nat) (h : Hls) (s : State),
        (s.fwRuns = true) ∧
        ((s.transportOpen transport = true) ∧
        ((bit (u8 s.cfg.dlms 0) 0 = true) ∧
        ((s.serverOk server = true) ∧
        ((s.mechOk 0 h.mech = true) ∧
        ((s.dl.assocs = []) ∧
        ((s.bak.dlLock.getD 0 false = false)))))))) ∧
    (∃ (a : Nat) (prot : Nat) (ivc : Nat) (l : List DlItem) (x : Assoc) (s : State),
        (s.fwRuns = true) ∧
        ((s.dl.assocs[a]? = some x) ∧
        ((s.dlGranted x prot ivc = true) ∧
        ((l ≠ []) ∧
        ((l.length ≤ 10)))))) ∧
    (∃ (a : Nat) (prot : Nat) (ivc : Nat) (n : Nat) (x : Assoc) (s : State),
        (s.fwRuns = true) ∧
        ((s.dl.assocs[a]? = some x) ∧
        ((s.dlGranted x prot ivc = true)))) ∧
    (∃ (a : Nat) (prot : Nat) (ivc : Nat) (l : List DlWrite) (x : Assoc) (s : State),
        (s.fwRuns = true) ∧
        ((s.dl.assocs[a]? = some x) ∧
        ((s.dlGranted x prot ivc = true) ∧
        ((l ≠ []) ∧
        ((l.length ≤ 10)))))) ∧
    (∃ (a : Nat) (ic : Nat) (ob : Nat) (method : Nat) (val : Bytes) (prot : Nat) (ivc : Nat) (x : Assoc) (g : DlGroup) (s : State),
        (s.fwRuns = true) ∧
        ((s.dl.assocs[a]? = some x) ∧
        ((s.dlGranted x prot ivc = true) ∧
        (let r := (clientIdx x.client).getD 0
        (groupIn r x.server ic ob = some g) ∧
        (((rightsOf r g).2.2 = true)))))) ∧
    (∃ (a : Nat) (x : Assoc) (s : State),
        (s.fwRuns = true) ∧
        ((s.dl.assocs[a]? = some x))) :=
  ⟨by refine ⟨{ tag := 1, payload := zeros 4, bulk := some (0, 8) }, { run0 with cfg := { run0.cfg with dlms := 4 :: zeros 19 }, rings := { run0.rings with bulk := Memory.writeN [] 20480 [0, 1, 0, 16, 0, 1, 0, 0] } }, ?_⟩; decide,
   by refine ⟨{ tag := 1, payload := zeros 20 }, { run0 with store := { run0.store with keys := [(0, { state := 1, engines := 2, uses := 255 })] } }, ?_⟩; decide,
   by refine ⟨{ tag := 1, payload := zeros 0, bulk := none }, run0, ?_⟩; decide,
   by refine ⟨{ tag := 1, payload := zeros 0, bulk := none }, run0, ?_⟩; decide,
   by refine ⟨{ tag := 1, payload := zeros 2, bulk := none }, run0, ?_⟩; decide,
   by refine ⟨1, 1, 1, 0, {}, { run0 with cfg := { run0.cfg with dlms := [7, 0, 0, 0] ++ zeros 28 } }, ?_⟩; decide,
   by refine ⟨1, 1, 0, {}, { run0 with cfg := { run0.cfg with dlms := [7, 0, 0, 0] ++ zeros 28 } }, ?_⟩; decide,
   by refine ⟨0, 0, 1, [{ ic := 8, obis := 0, attr := 2 }], { client := 16, server := 1, transport := 1 }, { run0 with cfg := { run0.cfg with dlms := [7, 0, 0, 0] ++ zeros 28 }, dl := { run0.dl with assocs := [{ client := 16, server := 1, transport := 1 }] } }, ?_⟩; decide,
   by refine ⟨0, 0, 1, 2, { client := 16, server := 1, transport := 1 }, { run0 with cfg := { run0.cfg with dlms := [7, 0, 0, 0] ++ zeros 28 }, dl := { run0.dl with assocs := [{ client := 16, server := 1, transport := 1 }] } }, ?_⟩; decide,
   by refine ⟨0, 0, 1, [{ ic := 8, obis := 0, attr := 2, val := [] }], { client := 16, server := 1, transport := 1 }, { run0 with cfg := { run0.cfg with dlms := [7, 0, 0, 0] ++ zeros 28 }, dl := { run0.dl with assocs := [{ client := 16, server := 1, transport := 1 }] } }, ?_⟩; decide,
   by refine ⟨0, 8, obis 0 0 1 0 0 255, 1, [], 3, 1, { client := 48, server := 1, transport := 1 }, .clock, { { run0 with cfg := { run0.cfg with dlms := [7, 0, 0, 0] ++ zeros 28 }, dl := { run0.dl with assocs := [{ client := 48, server := 1, transport := 1 }] } } with store := { run0.store with keys := [(0, { state := 1, engines := 255, uses := 255 })] } }, ?_⟩; decide,
   by refine ⟨0, {}, { run0 with dl := { run0.dl with assocs := [{}] } }, ?_⟩; decide⟩

/-- Operands and states for DLMS_RLRQ, DLMS_IDLE_RELEASE, DLMS_LOCKOUT_END. -/
theorem witness_DlmsRowsComplete_2 :
    (∃ (a : Nat) (s : State),
        (s.fwRuns = false) ∧
        ((s.rings.pause = true))) ∧
    (∃ (a : Nat) (s : State),
        ((s.fwRuns && s.dl.assocs[a]?.any fun x => decide (x.last + 300000 ≤ s.up)) = true)) ∧
    (∃ (client : Nat) (r : Nat) (s : State),
        (clientIdx client = some r)) :=
  ⟨by refine ⟨0, { run0 with rings := { run0.rings with pause := true } }, ?_⟩; decide,
   by refine ⟨0, { ({ run0 with dl := { run0.dl with assocs := [{ client := 48, server := 1 }] } } : State) with up := 4000000 }, ?_⟩; decide,
   by refine ⟨16, 0, run0, ?_⟩; decide⟩

/-- Operands and states for CREDIT_ACCOUNT_SET, CREDIT_ACCOUNT_GET, CREDIT_ADJUST, CREDIT_CONFIG_SET, CREDIT_CONFIG_GET,
VOUCHER_STATUS, GRACE_EXPIRY, KEYPAD_SCAN, KEY_ACCEPT, CREDIT_EVALUATE. -/
theorem witness_CreditRowsComplete_1 :
    (∃ (q : Req) (s : State),
        let p := q.payload
        (Served { op := 0x0A01, pair := 6, lo := 12, hi := 12 } q s (u16 p 0 ≤ 1023 && u8 p 2 ≤ 15 && u32 p 4 ≤ 100000000))) ∧
    (∃ (q : Req) (s : State),
        let a := u16 q.payload 0
        (Served { op := 0x0A02, pair := 6, lo := 2, hi := 2 } q s (a ≤ 1023))) ∧
    (∃ (q : Req) (s : State),
        let p := q.payload
        let a := u16 p 0
        (Served { op := 0x0A03, pair := 6, lo := 16, hi := 16 } q s (a ≤ 1023 && balanceOk ((s.projected.acct a).balance + sfld p 4 8)))) ∧
    (∃ (q : Req) (s : State),
        let p := q.payload
        (Served { op := 0x0A05, pair := 6, lo := 108, hi := 108, chain := true } q s (creditCfgOk p)) ∧
        ((¬(!s.slotHas (u8 p 66) 4 || !s.slotHas (u8 p 67) 3)))) ∧
    (∃ (q : Req) (s : State),
        (Served { op := 0x0A06, pair := 6 } q s true)) ∧
    (∃ (q : Req) (s : State),
        (Served { op := 0x0A08, pair := 6 } q s true)) ∧
    (∃ (a : Nat) (s : State),
        ((s.fwRuns && s.cr.grace.any fun g => g.1 == a && decide (g.2 ≤ s.bak.rtc)) = true)) ∧
    (∃ (cols : Nat) (s : State),
        ((s.domOn 11 && s.fwRuns) = true) ∧
        ((s.cr.row % 4 ≠ 3))) ∧
    (∃ (cols : Nat) (s : State),
        ((s.domOn 11 && s.fwRuns) = true) ∧
        ((s.cr.row % 4 = 3) ∧
        ((((List.range 16).filter fun k => bit ((s.cr.cols.set 3 (cols % 16)).getD (k / 4) 0) (k % 4)) = [])))) ∧
    (∃ (key : Nat) (s : State),
        ((s.fwRuns && s.domOn 11 && s.cr.cand == some key && decide (4 ≤ s.cr.run) && !s.cr.taken && !s.cr.multi && decide (key < 16)) = true) ∧
        ((s.confirmPending = false) ∧
        ((u8 s.cfg.credit 68 ≠ 1) ∧
        ((key ≤ 9))))) ∧
    (∃ (key : Nat) (s : State),
        ((s.fwRuns && s.domOn 11 && s.cr.cand == some key && decide (4 ≤ s.cr.run) && !s.cr.taken && !s.cr.multi && decide (key < 16)) = true) ∧
        ((s.confirmPending = false) ∧
        ((u8 s.cfg.credit 68 = 1)))) ∧
    (∃ (s : State),
        (s.fwRuns = true)) :=
  ⟨by refine ⟨{ tag := 1, payload := zeros 12, bulk := none }, run0, ?_⟩; decide,
   by refine ⟨{ tag := 1, payload := zeros 2, bulk := none }, run0, ?_⟩; decide,
   by refine ⟨{ tag := 1, payload := zeros 16, bulk := none }, run0, ?_⟩; decide,
   by refine ⟨{ tag := 1, payload := zeros 108 }, { run0 with store := { run0.store with keys := [(0, { state := 1, engines := 24, uses := 255 })] } }, ?_⟩; decide,
   by refine ⟨{ tag := 1, payload := zeros 0, bulk := none }, run0, ?_⟩; decide,
   by refine ⟨{ tag := 1, payload := zeros 0, bulk := none }, run0, ?_⟩; decide,
   by refine ⟨0, { run0 with cr := { run0.cr with grace := [(0, 0)] } }, ?_⟩; decide,
   by refine ⟨0, run0, ?_⟩; decide,
   by refine ⟨0, { run0 with cr := { run0.cr with row := 3 } }, ?_⟩; decide,
   by refine ⟨1, { run0 with cr := { run0.cr with cand := some 1, run := 4 }, store := { run0.store with safeMode := 0 } }, ?_⟩; decide,
   by refine ⟨1, { run0 with cfg := { run0.cfg with credit := putAt run0.cfg.credit 68 [1] }, cr := { run0.cr with cand := some 1, run := 4 }, store := { run0.store with safeMode := 0 } }, ?_⟩; decide,
   by refine ⟨run0, ?_⟩; decide⟩

/-- Operands and states for FRIENDLY_WINDOW_END, CREDIT_EPOCH_CHECK, KEYPAD_ENTRY_TIMEOUT, OUTLET_SELECT_EXPIRY,
KEYPAD_LOCKOUT_END, KEYPAD_QUIET_WAKE. -/
theorem witness_CreditRowsComplete_2 :
    (∃ (s : State),
        ((s.fwRuns && s.cr.friendly && !s.inFriendly) = true)) ∧
    (∃ (s : State),
        let h := s.hourNow
        let day := s.bill.time / dayMs
        let gone := decide (99999 < h)
        ((s.fwRuns && decide (99000 ≤ h) && (s.cr.epochDay != some day || (gone && !s.cr.epochDone))) = true)) ∧
    (∃ (s : State),
        ((decide (s.cr.keyAt + 10000 ≤ s.up)) = true)) ∧
    (∃ (s : State),
        ((decide (s.cr.selAt + 60000 ≤ s.up)) = true)) ∧
    (∃ (s : State),
        ((decide (s.bak.kpUntil ≤ s.bak.rtc)) = true)) ∧
    (∃ (s : State),
        ((s.pwr.state == .quiet) = true)) :=
  ⟨by refine ⟨{ run0 with cr := { run0.cr with friendly := true } }, ?_⟩; decide,
   by refine ⟨{ run0 with bill := { run0.bill with time := 356400000000 } }, ?_⟩; decide,
   by refine ⟨{ (run0 : State) with up := 4000000 }, ?_⟩; decide,
   by refine ⟨{ (run0 : State) with up := 4000000 }, ?_⟩; decide,
   by refine ⟨run0, ?_⟩; decide,
   by refine ⟨{ run0 with pwr := { run0.pwr with state := .quiet } }, ?_⟩; decide⟩

/-- Operands and states for LINE_CONFIG_SET, LINE_CONFIG_GET, LINE_STATUS_GET, LINE_PEERS, LINE_SEND, LINE_MAP_GET,
LINE_MAP_REQUEST, LINE_STATS_GET, LINE_FRAME_RX, LINE_ACK_TX, LINE_CONTENTION_SLOT. -/
theorem witness_MainsModemRowsComplete_1 :
    (∃ (q : Req) (s : State),
        let p := q.payload
        (Served { op := 0x0B01, pair := 7, lo := 16, hi := 16 } q s (lineCfgOk p)) ∧
        ((¬(u8 p 10 ≠ 0 && !s.slotHas (u8 p 11) 2)))) ∧
    (∃ (q : Req) (s : State),
        (Served { op := 0x0B02, pair := 7 } q s true)) ∧
    (∃ (q : Req) (s : State),
        (Served { op := 0x0B03, pair := 7 } q s true) ∧
        ((s.lineOn = true))) ∧
    (∃ (q : Req) (s : State),
        (Served { op := 0x0B04, pair := 7, bulk := 1 } q s true) ∧
        ((s.lineOn = true))) ∧
    (∃ (q : Req) (s : State),
        let p := q.payload
        let n := u16 p 4
        let dst := u16 p 0
        let ack := bit (u8 p 3) 0
        (Served { op := 0x0B05, pair := 7, lo := 8, hi := 448, chain := true } q s (u8 p 2 ≤ 1 && decide (1 ≤ n) && decide (n ≤ 399) && decide (8 + n ≤ p.length) && !(ack && dst == 0xFFFF))) ∧
        ((s.lineOn = true) ∧
        ((¬(16 ≤ (s.line.queue.filter fun f => f.tag.isSome).length))))) ∧
    (∃ (q : Req) (s : State),
        let p := q.payload
        (Served { op := 0x0B06, pair := 7, lo := 3, hi := 3, bulk := 1 } q s (u8 p 2 ≤ 1)) ∧
        ((s.lineOn = true))) ∧
    (∃ (q : Req) (s : State),
        let a := u16 q.payload 0
        (Served { op := 0x0B07, pair := 7, lo := 2, hi := 2 } q s true) ∧
        ((s.lineOn = true) ∧
        ((¬((s.peer a).reqTag.isSome))))) ∧
    (∃ (q : Req) (s : State),
        (Served { op := 0x0B08, pair := 7 } q s true) ∧
        ((s.lineOn = true))) ∧
    (∃ (f : LineFrame) (s : State),
        ((s.fwRuns && s.lineOn && !s.lineCalRuns) = true)) ∧
    (∃ (ang : Nat) (kind : Nat) (info : Nat) (s : State),
        ((s.fwRuns && s.lineOn && !s.lineCalRuns) = true) ∧
        ((s.line.ack = some (kind, info)))) ∧
    (∃ (pre : Bool) (level : Nat) (draw : Nat) (i : Nat) (s : State),
        ((s.fwRuns && s.lineOn) = true) ∧
        ((s.mediumBusy pre level = false) ∧
        ((s.nextTx = some i) ∧
        (((s.line.queue.getD i {}).backoff = none))))) ∧
    (∃ (pre : Bool) (level : Nat) (draw : Nat) (i : Nat) (b : Nat) (s : State),
        ((s.fwRuns && s.lineOn) = true) ∧
        ((s.mediumBusy pre level = true) ∧
        ((s.nextTx = some i) ∧
        (((s.line.queue.getD i {}).backoff = some b))))) :=
  ⟨by refine ⟨{ tag := 1, payload := [0, 1, 0, 0, 1, 0, 1, 0, 3, 1, 0, 0, 60, 0, 6, 0] }, run0, ?_⟩; decide,
   by refine ⟨{ tag := 1, payload := zeros 0, bulk := none }, run0, ?_⟩; decide,
   by refine ⟨{ tag := 1 }, { run0 with cfg := { run0.cfg with line := [1, 1, 0, 0, 1, 0, 1, 0, 3, 1, 0, 0, 60, 0, 6, 0] }, line := { run0.line with seq := 0 } }, ?_⟩; decide,
   by refine ⟨{ tag := 1, bulk := some (0, 64) }, { run0 with cfg := { run0.cfg with line := [1, 1, 0, 0, 1, 0, 1, 0, 3, 1, 0, 0, 60, 0, 6, 0] }, line := { run0.line with seq := 0 } }, ?_⟩; decide,
   by refine ⟨{ tag := 1, payload := [1, 0, 0, 0, 1, 0, 0, 0, 5] }, { run0 with cfg := { run0.cfg with line := [1, 1, 0, 0, 1, 0, 1, 0, 3, 1, 0, 0, 60, 0, 6, 0] }, line := { run0.line with seq := 0 } }, ?_⟩; decide,
   by refine ⟨{ tag := 1, payload := [1, 0, 0], bulk := some (0, 132) }, { run0 with cfg := { run0.cfg with line := [1, 1, 0, 0, 1, 0, 1, 0, 3, 1, 0, 0, 60, 0, 6, 0] }, line := { run0.line with peers := [{ short := 1, held := some {} }] } }, ?_⟩; decide,
   by refine ⟨{ tag := 1, payload := [1, 0] }, { run0 with cfg := { run0.cfg with line := [1, 1, 0, 0, 1, 0, 1, 0, 3, 1, 0, 0, 60, 0, 6, 0] }, line := { run0.line with seq := 0 } }, ?_⟩; decide,
   by refine ⟨{ tag := 1 }, { run0 with cfg := { run0.cfg with line := [1, 1, 0, 0, 1, 0, 1, 0, 3, 1, 0, 0, 60, 0, 6, 0] }, line := { run0.line with seq := 0 } }, ?_⟩; decide,
   by refine ⟨{ netid := 1, dst := 1, src := 2 }, { run0 with cfg := { run0.cfg with line := [1, 1, 0, 0, 1, 0, 1, 0, 3, 1, 0, 0, 60, 0, 6, 0] }, line := { run0.line with seq := 0 } }, ?_⟩; decide,
   by refine ⟨0, 0, 0, { run0 with cfg := { run0.cfg with line := [1, 1, 0, 0, 1, 0, 1, 0, 3, 1, 0, 0, 60, 0, 6, 0] }, line := { run0.line with ack := some (0, 0) } }, ?_⟩; decide,
   by refine ⟨false, 0, 5, 0, { run0 with cfg := { run0.cfg with line := [1, 1, 0, 0, 1, 0, 1, 0, 3, 1, 0, 0, 60, 0, 60, 0] }, line := { run0.line with queue := [{}] } }, ?_⟩; decide,
   by refine ⟨true, 0, 5, 0, 3, { run0 with cfg := { run0.cfg with line := [1, 1, 0, 0, 1, 0, 1, 0, 3, 1, 0, 0, 60, 0, 60, 0] }, line := { run0.line with queue := [{ backoff := some 3 }] } }, ?_⟩; decide⟩

/-- Operands and states for LINE_CONTENTION_SLOT, LINE_FRAME_TX, MAP_REQUEST_TIMEOUT, ROBUST_HOLD_END, MAP_EXPIRY,
LINE_ACK_WAIT_EXPIRY, SECTOR_TIMING_LOST. -/
theorem witness_MainsModemRowsComplete_2 :
    (∃ (pre : Bool) (level : Nat) (draw : Nat) (i : Nat) (b : Nat) (s : State),
        ((s.fwRuns && s.lineOn) = true) ∧
        ((s.mediumBusy pre level = false) ∧
        ((s.nextTx = some i) ∧
        (((s.line.queue.getD i {}).backoff = some b))))) ∧
    (∃ (ang : Nat) (i : Nat) (s : State),
        ((s.fwRuns && s.lineOn && !s.lineCalRuns) = true) ∧
        (((s.line.queue.findIdx? fun f => f.ready) = some i) ∧
        (((s.line.queue.getD i {}).protect = false) ∧
        (((s.line.queue.getD i {}).type ≠ 0))))) ∧
    (∃ (a : Nat) (s : State),
        ((s.fwRuns && s.lineOn && decide ((s.peer a).reqs ≠ 0)) = true)) ∧
    (∃ (a : Nat) (s : State),
        ((s.fwRuns && s.lineOn && (s.peer a).hold) = true)) ∧
    (∃ (a : Nat) (m : MapSet) (s : State),
        ((s.fwRuns && s.lineOn) = true) ∧
        (((s.peer a).held = some m))) ∧
    (∃ (i : Nat) (s : State),
        ((s.fwRuns && s.lineOn) = true) ∧
        (((s.line.queue.findIdx? fun f => f.waitAck) = some i))) ∧
    (∃ (s : State),
        ((s.fwRuns && s.lineOn && s.met.hold && s.line.timing != 3) = true)) :=
  ⟨by refine ⟨false, 0, 5, 0, 3, { run0 with cfg := { run0.cfg with line := [1, 1, 0, 0, 1, 0, 1, 0, 3, 1, 0, 0, 60, 0, 60, 0] }, line := { run0.line with queue := [{ backoff := some 3 }] } }, ?_⟩; decide,
   by refine ⟨0, 0, { run0 with cfg := { run0.cfg with line := [1, 1, 0, 0, 1, 0, 1, 0, 3, 1, 0, 0, 60, 0, 6, 0] }, line := { run0.line with queue := [{ ready := true, type := 1 }] } }, ?_⟩; decide,
   by refine ⟨1, { run0 with cfg := { run0.cfg with line := [1, 1, 0, 0, 1, 0, 1, 0, 3, 1, 0, 0, 60, 0, 6, 0] }, line := { run0.line with peers := [{ short := 1, reqs := 1 }] } }, ?_⟩; decide,
   by refine ⟨1, { run0 with cfg := { run0.cfg with line := [1, 1, 0, 0, 1, 0, 1, 0, 3, 1, 0, 0, 60, 0, 6, 0] }, line := { run0.line with peers := [{ short := 1, hold := true }] } }, ?_⟩; decide,
   by refine ⟨1, {}, { run0 with cfg := { run0.cfg with line := [1, 1, 0, 0, 1, 0, 1, 0, 3, 1, 0, 0, 60, 0, 6, 0] }, line := { run0.line with peers := [{ short := 1, held := some {} }] } }, ?_⟩; decide,
   by refine ⟨0, { run0 with cfg := { run0.cfg with line := [1, 1, 0, 0, 1, 0, 1, 0, 3, 1, 0, 0, 60, 0, 6, 0] }, line := { run0.line with queue := [{ waitAck := true }] } }, ?_⟩; decide,
   by refine ⟨{ run0 with cfg := { run0.cfg with line := [1, 1, 0, 0, 1, 0, 1, 0, 3, 1, 0, 0, 60, 0, 6, 0] }, met := { run0.met with hold := true } }, ?_⟩; decide⟩

/-- Operands and states for NFC_CONFIG_SET, NFC_CONFIG_GET, NFC_TAG_READ, NFC_TAG_WRITE, NFC_TAG_KEY, NFC_TAG_STATUS,
TAG_FIELD_ON, TAG_REQA, TAG_ANTICOLLISION, TAG_SELECT, PAGE_READ, TAG_HELLO. -/
theorem witness_NfcRowsComplete_1 :
    (Config.variantIN = false → ∃ (q : Req) (s : State),
        (Served { op := 0x0D01, pair := 9, lo := 8, hi := 8 } q s (nfcCfgOk q.payload))) ∧
    (Config.variantIN = false → ∃ (q : Req) (s : State),
        (Served { op := 0x0D02, pair := 9 } q s true)) ∧
    (Config.variantIN = false → ∃ (q : Req) (s : State),
        let n := u8 q.payload 0
        (Served { op := 0x0D03, pair := 9, lo := 1, hi := 1, bulk := 1 } q s (decide (n ≤ 63))) ∧
        ((s.fieldOn = true))) ∧
    (Config.variantIN = false → ∃ (q : Req) (s : State),
        let p := q.payload
        let n := u16 p 2
        (Served { op := 0x0D04, pair := 9, lo := 4, hi := 4, bulk := 1 } q s (u8 p 0 ≤ 63 && decide (1 ≤ n) && decide (u8 p 1 + n ≤ 256))) ∧
        ((s.fieldOn = true))) ∧
    (Config.variantIN = false → ∃ (q : Req) (s : State),
        let n := u8 q.payload 0
        (Served { op := 0x0D05, pair := 9, lo := 1, hi := 1 } q s true) ∧
        ((s.fieldOn = true) ∧
        (let x := s.slot n
        (¬(x.state = 0 || !s.slotHas n 7)) ∧
        ((¬(x.state = 2)))))) ∧
    (Config.variantIN = false → ∃ (q : Req) (s : State),
        (Served { op := 0x0D06, pair := 9 } q s true)) ∧
    (Config.variantIN = false → ∃ (h : Nat) (s : State),
        let harvest := decide (15 ≤ h)
        ((nfcFitted && s.nfc.tag.st == 0 && !s.nfc.tag.guard && (harvest || (s.fieldOn && decide (8 ≤ h)))) = true)) ∧
    (∃ (wupa : Bool) (s : State),
        let t := s.nfc.tag
        ((t.st == 1 || (t.st == 2 && wupa)) = true)) ∧
    (∃ (nvb : Nat) (bits : Bytes) (s : State),
        (s.nfc.tag.ready = true)) ∧
    (∃ (uid : Bytes) (s : State),
        (s.nfc.tag.ready = true)) ∧
    (∃ (page : Nat) (off : Nat) (le : Nat) (mac : Bytes) (s : State),
        (s.nfc.tag.st = 4) ∧
        ((page ≤ 3) ∧
        ((1 ≤ le) ∧
        ((le ≤ 240) ∧
        ((off + le ≤ 256)))))) ∧
    (∃ (rndr : Bytes) (k : Bytes) (n : Nat) (s : State),
        (s.nfc.tag.st = 4) ∧
        ((rndr.length = 16) ∧
        ((s.store.tagKey = some (n, k)) ∧
        ((s.nfc.tag.locked = false))))) :=
  ⟨by intro h; refine ⟨{ tag := 1, payload := [0, 5, 100, 0, 1, 0, 0, 0] }, run0, ?_⟩; dsimp only [Served, State.screen, nfcFitted]; rw [h]; decide,
   by intro h; refine ⟨{ tag := 1, payload := zeros 0, bulk := none }, run0, ?_⟩; dsimp only [Served, State.screen, nfcFitted]; rw [h]; decide,
   by intro h; refine ⟨{ tag := 1, payload := zeros 1, bulk := some (0, 4096) }, run0, ?_⟩; dsimp only [Served, State.screen, nfcFitted]; rw [h]; decide,
   by intro h; refine ⟨{ tag := 1, payload := [32, 0, 1, 0], bulk := some (0, 1) }, run0, ?_⟩; dsimp only [Served, State.screen, nfcFitted]; rw [h]; decide,
   by intro h; refine ⟨{ tag := 1, payload := [16] }, { run0 with store := { run0.store with keys := [(16, { state := 1, engines := 128 })] } }, ?_⟩; dsimp only [Served, State.screen, nfcFitted]; rw [h]; decide,
   by intro h; refine ⟨{ tag := 1, payload := zeros 0, bulk := none }, run0, ?_⟩; dsimp only [Served, State.screen, nfcFitted]; rw [h]; decide,
   by intro h; refine ⟨15, run0, ?_⟩; dsimp only [Served, State.screen, nfcFitted]; rw [h]; decide,
   by refine ⟨false, { run0 with nfc := { run0.nfc with tag := { st := 1 } } }, ?_⟩; decide,
   by refine ⟨0x20, [], { run0 with nfc := { run0.nfc with tag := { ready := true } } }, ?_⟩; decide,
   by refine ⟨[], { run0 with nfc := { run0.nfc with tag := { ready := true } } }, ?_⟩; decide,
   by refine ⟨3, 16, 240, [], { run0 with nfc := { run0.nfc with tag := { st := 4 } } }, ?_⟩; decide,
   by refine ⟨zeros 16, [], 16, { run0 with nfc := { run0.nfc with tag := { st := 4 } }, store := { run0.store with tagKey := some (16, []) } }, ?_⟩; decide⟩

/-- Operands and states for TAG_PAGE_COMMIT, NFC_POLL_RESUME, TAG_GUARD_END, TAG_FIELD_OFF, TAG_RATS, TAG_HALT,
TAG_AUTH_LOCK_END, TAG_HOST_LOCK_TIMEOUT, LAST_STATE_UPDATE. -/
theorem witness_NfcRowsComplete_2 :
    (∃ (w : TagWrite) (rest : List TagWrite) (tag : Nat) (s : State),
        (s.nfc.tag.writes = w :: rest) ∧
        ((w.host = some tag))) ∧
    (∃ (s : State),
        ((s.nfc.tag.st == 0 && !s.nfc.tag.guard && decide (s.nfc.goneAt + 100 ≤ s.up)) = true)) ∧
    (∃ (s : State),
        (s.nfc.tag.guard = true)) ∧
    (∃ (s : State),
        ((s.nfc.tag.st != 0 || s.nfc.tag.guard) = true)) ∧
    (∃ (s : State),
        ((s.nfc.tag.st == 3) = true)) ∧
    (∃ (s : State),
        ((3 ≤ s.nfc.tag.st) = true)) ∧
    (∃ (s : State),
        ((s.nfc.tag.st == 0 && !s.nfc.tag.guard) = true)) ∧
    (∃ (h : TagWrite) (w : TagWrite) (rest : List TagWrite) (s : State),
        (s.nfc.tag.writes = h :: rest) ∧
        (((rest.find? fun w => w.host.isSome && h.host.isNone && w.page == h.page) = some w))) ∧
    (∃ (s : State),
        (s.fwRuns = true)) :=
  ⟨by refine ⟨{ host := some 1 }, [], 1, { run0 with nfc := { run0.nfc with tag := { writes := [{ host := some 1 }] } } }, ?_⟩; decide,
   by refine ⟨{ run0 with up := 100 }, ?_⟩; decide,
   by refine ⟨{ run0 with nfc := { run0.nfc with tag := { guard := true } } }, ?_⟩; decide,
   by refine ⟨{ run0 with nfc := { run0.nfc with tag := { st := 1 } } }, ?_⟩; decide,
   by refine ⟨{ run0 with nfc := { run0.nfc with tag := { st := 3 } } }, ?_⟩; decide,
   by refine ⟨{ run0 with nfc := { run0.nfc with tag := { st := 3 } } }, ?_⟩; decide,
   by refine ⟨run0, ?_⟩; decide,
   by refine ⟨{ page := 33 }, { host := some 1, page := 33 }, [{ host := some 1, page := 33 }], { run0 with nfc := { run0.nfc with tag := { writes := [{ page := 33 }, { host := some 1, page := 33 }] } } }, ?_⟩; decide,
   by refine ⟨run0, ?_⟩; decide⟩

/-- Operands and states for LSW_CHAN_SET, LSW_CHAN_GET, LSW_STATUS_GET, LSW_BANK_GET, LSW_CURRENT_LIMIT, LSW_BLANK_END,
LSW_OVERCURRENT, LSW_RETRY, LSW_RETRY_CONFIRM, LSW_THERMAL_TRIP, LSW_THERMAL_RELEASE. -/
theorem witness_LoadSwitchRowsComplete_1 :
    (∃ (q : Req) (s : State),
        let p := q.payload
        (Served { op := 0x0E01, pair := 10, lo := 8, hi := 8 } q s (lswCfgOk p))) ∧
    (∃ (q : Req) (s : State),
        let c := u8 q.payload 0
        (Served { op := 0x0E02, pair := 10, lo := 1, hi := 1 } q s (plainCh c))) ∧
    (∃ (q : Req) (s : State),
        let c := u8 q.payload 0
        (Served { op := 0x0E04, pair := 10, lo := 1, hi := 1 } q s (plainCh c))) ∧
    (∃ (q : Req) (s : State),
        let k := u8 q.payload 0
        (Served { op := 0x0E05, pair := 10, lo := 1, hi := 1 } q s (k ≤ 3))) ∧
    (∃ (ch : Nat) (ma : Nat) (s : State),
        ((decide (ch < 80) && ((s.lswCh ch).driven || !plainCh ch)) = true)) ∧
    (∃ (ch : Nat) (s : State),
        (((s.lswCh ch).driven && (s.lswCh ch).blank && decide ((s.lswCh ch).onAt + u8 (s.lswCh ch).run 2 ≤ s.up)) = true)) ∧
    (∃ (ch : Nat) (s : State),
        ((plainCh ch && (s.lswCh ch).driven && (s.lswCh ch).limit && !(s.lswCh ch).blank && decide ((s.lswCh ch).limAt + 1 ≤ s.up)) = true)) ∧
    (∃ (ch : Nat) (s : State),
        let x := s.lswCh ch
        ((x.wait && !x.latch && !(s.lswBank (bankOf ch)).uv && decide (x.waitAt + 10 * 2 ^ x.tries ≤ s.up)) = true)) ∧
    (∃ (ch : Nat) (s : State),
        let x := s.lswCh ch
        ((x.driven && x.confirm && !x.blank && !x.limit && decide (x.limAt + 1000 ≤ s.up)) = true)) ∧
    (∃ (k : Nat) (t : Int) (s : State),
        (k < 80) ∧
        ((1750 ≤ t))) ∧
    (∃ (k : Nat) (t : Int) (s : State),
        (k < 4) ∧
        ((1650 ≤ t))) ∧
    (∃ (k : Nat) (t : Int) (s : State),
        (t < 1550)) :=
  ⟨by refine ⟨{ tag := 1, payload := [0, 0, 0, 0, 0, 0, 60, 0] }, run0, ?_⟩; decide,
   by refine ⟨{ tag := 1, payload := zeros 1, bulk := none }, run0, ?_⟩; decide,
   by refine ⟨{ tag := 1, payload := zeros 1, bulk := none }, run0, ?_⟩; decide,
   by refine ⟨{ tag := 1, payload := zeros 1, bulk := none }, run0, ?_⟩; decide,
   by refine ⟨0, 5000, { run0 with lsw := { run0.lsw with chans := run0.lsw.chans.set 0 { run := [0, 0, 0, 0, 1, 0, 0, 0], driven := true } } }, ?_⟩; decide,
   by refine ⟨0, { run0 with lsw := { run0.lsw with chans := run0.lsw.chans.set 0 { run := [0, 0, 0, 0, 1, 0, 0, 0], driven := true, blank := true } } }, ?_⟩; decide,
   by refine ⟨0, { ({ run0 with lsw := { run0.lsw with chans := run0.lsw.chans.set 0 { run := [0, 0, 0, 0, 1, 0, 0, 0], driven := true, limit := true } } } : State) with up := 4000000 }, ?_⟩; decide,
   by refine ⟨0, { ({ run0 with lsw := { run0.lsw with chans := run0.lsw.chans.set 0 { run := [0, 0, 0, 0, 1, 0, 0, 0], wait := true } } } : State) with up := 4000000 }, ?_⟩; decide,
   by refine ⟨0, { ({ run0 with lsw := { run0.lsw with chans := run0.lsw.chans.set 0 { run := [0, 0, 0, 0, 1, 0, 0, 0], driven := true, confirm := true } } } : State) with up := 4000000 }, ?_⟩; decide,
   by refine ⟨79, 1750, run0, ?_⟩; decide,
   by refine ⟨3, 1650, run0, ?_⟩; decide,
   by refine ⟨0, 0, run0, ?_⟩; decide⟩

/-- Operands and states for LSW_THERMAL_RELEASE, LSW_OPEN_LOAD, BANK_UNDERVOLTAGE, BANK_RECOVER, LHIN_CHANGE,
CC_WATCHDOG_EXPIRY. -/
theorem witness_LoadSwitchRowsComplete_2 :
    (∃ (k : Nat) (t : Int) (s : State),
        (t < 1450)) ∧
    (∃ (ch : Nat) (s : State),
        let x := s.lswCh ch
        ((plainCh ch && x.olOn && decide (40 ≤ x.olRun)) = true)) ∧
    (∃ (k : Nat) (mv10 : Nat) (s : State),
        ((decide (k < 4) && !(s.lswBank k).uv && decide (mv10 < 600)) = true)) ∧
    (∃ (k : Nat) (mv10 : Nat) (s : State),
        ((decide (k < 4) && (s.lswBank k).uv && decide (650 < mv10)) = true)) ∧
    (∃ (n : Nat) (high : Bool) (s : State),
        ((decide (n < 8)) = true)) ∧
    (∃ (s : State),
        ((s.host.ready && !s.rings.pause) = true)) :=
  ⟨by refine ⟨0, 0, run0, ?_⟩; decide,
   by refine ⟨0, { run0 with lsw := { run0.lsw with chans := run0.lsw.chans.set 0 { run := [0, 0, 0, 0, 1, 0, 0, 0], driven := true, appl := 80, olRun := 40 } } }, ?_⟩; decide,
   by refine ⟨0, 0, run0, ?_⟩; decide,
   by refine ⟨3, 651, { run0 with lsw := { run0.lsw with banks := [{}, {}, {}, { uv := true }] } }, ?_⟩; decide,
   by refine ⟨0, true, run0, ?_⟩; decide,
   by refine ⟨run0, ?_⟩; decide⟩

/-- Operands and states for PANEL_CONFIG_SET, PANEL_CONFIG_GET, PANEL_WRITE, PANEL_FLIP, PANEL_CURVE_SET, PANEL_CURVE_GET,
PANEL_STATUS_GET, PANEL_STRESS_READ, VPAN_LOW, VPAN_RECOVER, PANEL_FRAME, STRESS_SAVE. -/
theorem witness_PanelAndKeyRowsComplete_1 :
    (∃ (q : Req) (s : State),
        let p := q.payload
        (Served { op := 0x0F01, pair := 10, lo := 4, hi := 4 } q s (u8 p 1 ≤ 1 && 50 ≤ u8 p 2 && u8 p 2 ≤ 100))) ∧
    (∃ (q : Req) (s : State),
        (Served { op := 0x0F02, pair := 10 } q s true)) ∧
    (∃ (q : Req) (s : State),
        let p := q.payload
        let n := u16 p 2
        (Served { op := 0x0F03, pair := 10, lo := 4, hi := 4, bulk := 1 } q s (decide (1 ≤ n) && decide (u16 p 0 + n ≤ 3840))) ∧
        ((s.panelOn = true))) ∧
    (∃ (q : Req) (s : State),
        (Served { op := 0x0F04, pair := 10 } q s true) ∧
        ((s.panelOn = true) ∧
        ((¬(s.panel.flip.isSome))))) ∧
    (∃ (q : Req) (s : State),
        (Served { op := 0x0F05, pair := 10, bulk := 1 } q s true) ∧
        ((s.panelOn = true))) ∧
    (∃ (q : Req) (s : State),
        (Served { op := 0x0F06, pair := 10, bulk := 1 } q s true) ∧
        ((s.panelOn = true))) ∧
    (∃ (q : Req) (s : State),
        (Served { op := 0x0F07, pair := 10 } q s true) ∧
        ((s.panelOn = true))) ∧
    (∃ (q : Req) (s : State),
        let row := u8 q.payload 0
        (Served { op := 0x0F08, pair := 10, lo := 1, hi := 1, bulk := 1 } q s (row ≤ 47)) ∧
        ((s.panelOn = true))) ∧
    (∃ (v : Nat) (s : State),
        ((s.panelOn && decide (v < 65)) = true)) ∧
    (∃ (v : Nat) (s : State),
        ((s.panelOn && decide (68 < v)) = true)) ∧
    (∃ (s : State),
        (s.panelOn = true)) ∧
    (∃ (s : State),
        ((s.fwRuns && decide (s.panel.stressAt + 3600000 ≤ s.up)) = true)) :=
  ⟨by refine ⟨{ tag := 1, payload := [0, 0, 50, 0] }, run0, ?_⟩; decide,
   by refine ⟨{ tag := 1, payload := zeros 0, bulk := none }, run0, ?_⟩; decide,
   by refine ⟨{ tag := 1, payload := [0, 0, 1, 0], bulk := some (0, 1) }, run0, ?_⟩; decide,
   by refine ⟨{ tag := 1, payload := zeros 0, bulk := none }, run0, ?_⟩; decide,
   by refine ⟨{ tag := 1, bulk := some (0, 96) }, { run0 with rings := { run0.rings with bulk := Memory.writeN [] 40960 (((List.range 16).map fun i => toLE 4 (i * 1000) ++ toLE 2 0x4000).flatten) } }, ?_⟩; decide,
   by refine ⟨{ tag := 1, payload := zeros 0, bulk := some (0, 4096) }, run0, ?_⟩; decide,
   by refine ⟨{ tag := 1, payload := zeros 0, bulk := none }, run0, ?_⟩; decide,
   by refine ⟨{ tag := 1, payload := zeros 1, bulk := some (0, 4096) }, run0, ?_⟩; decide,
   by refine ⟨0, run0, ?_⟩; decide,
   by refine ⟨69, run0, ?_⟩; decide,
   by refine ⟨run0, ?_⟩; decide,
   by refine ⟨{ (run0 : State) with up := 4000000 }, ?_⟩; decide⟩

/-- Operands and states for KEY_INFO, KEY_DERIVE, KEY_REVOKE, KEY_PUBLIC_READ, KEY_STATUS, TRNG_HEALTH_FAIL, KEY_REMASK. -/
theorem witness_PanelAndKeyRowsComplete_2 :
    (∃ (q : Req) (s : State),
        (Served { op := 0x1001, pair := 11, lo := 1, hi := 1 } q s true)) ∧
    (∃ (q : Req) (s : State),
        let p := q.payload
        let a := u8 p 0
        let c := u8 p 1
        let eng := u16 p 4
        let use := u16 p 6
        (Served { op := 0x1003, pair := 11, lo := 40, hi := 40 } q s (1 ≤ u8 p 2 && u8 p 2 ≤ 2 && 1 ≤ u8 p 3 && u8 p 3 ≤ 16 && decide (eng < 1024) && decide (use < 2048))) ∧
        ((s.slotRefuses a 9 7 = none) ∧
        ((¬(c < 16 || !s.childOf c a eng use (s.slot a).cls || isAnchor use))))) ∧
    (∃ (q : Req) (s : State),
        let n := u8 q.payload 0
        (Served { op := 0x1004, pair := 11, lo := 1, hi := 1 } q s (16 ≤ n)) ∧
        ((¬(!s.slotValid n)))) ∧
    (∃ (q : Req) (s : State),
        let n := u8 q.payload 0
        (Served { op := 0x1005, pair := 11, lo := 1, hi := 1, bulk := 1 } q s true) ∧
        (let x := s.slot n
        let k := if x.type = 16 then x.mat.length else publicLen x.type
        (¬(x.state ≠ 1 || k = 0)))) ∧
    (∃ (q : Req) (s : State),
        (Served { op := 0x1006, pair := 11 } q s true)) ∧
    (∃ (again : Bool) (test : Nat) (s : State),
        ((s.domOn 6 && s.key.trngOk) = true)) ∧
    (∃ (s : State),
        ((s.domOn 6 && s.key.trngOk) = true)) :=
  ⟨by refine ⟨{ tag := 1, payload := zeros 1, bulk := none }, run0, ?_⟩; decide,
   by refine ⟨{ tag := 1, payload := [16, 17, 1, 1] ++ zeros 36 }, { run0 with store := { run0.store with keys := [(16, { state := 1, engines := 512, uses := 128 })] } }, ?_⟩; decide,
   by refine ⟨{ tag := 1, payload := [16] }, { run0 with store := { run0.store with keys := [(16, { state := 1 })] } }, ?_⟩; decide,
   by refine ⟨{ tag := 1, payload := 1 :: zeros 0, bulk := some (0, 4096) }, run0, ?_⟩; decide,
   by refine ⟨{ tag := 1, payload := zeros 0, bulk := none }, run0, ?_⟩; decide,
   by refine ⟨true, 0, run0, ?_⟩; decide,
   by refine ⟨run0, ?_⟩; decide⟩

/-- Operands and states for FW_STATUS, FW_STAGE_BEGIN, FW_STAGE_DATA, FW_STAGE_VERIFY, FW_ACTIVATE, FW_STAGE_ABORT,
IMAGE_COPY_DONE, HANDOVER_ROLLBACK, SVC_FRAME, SVC_STAGE_BEGIN, SVC_STAGE_DATA. -/
theorem witness_FirmwareRowsComplete_1 :
    (∃ (q : Req) (s : State),
        (Served { op := 0x1201, pair := 12 } q s true)) ∧
    (∃ (q : Req) (s : State),
        (Served { op := 0x1202, pair := 12, lo := 4, hi := 4 } q s true)) ∧
    (∃ (q : Req) (s : State),
        (Served { op := 0x1203, pair := 12, lo := 4, hi := 4, bulk := 1 } q s true)) ∧
    (∃ (q : Req) (s : State),
        (Served { op := 0x1204, pair := 12 } q s true)) ∧
    (∃ (q : Req) (s : State),
        (Served { op := 0x1205, pair := 12 } q s true) ∧
        ((s.activateRefused = none))) ∧
    (∃ (q : Req) (s : State),
        (Served { op := 0x1206, pair := 12 } q s true)) ∧
    (∃ (copyok : Bool) (loadok : Bool) (h : Handover) (s : State),
        (s.fw.ho = some h) ∧
        ((h.step = 3) ∧
        ((h.roll = none) ∧
        ((s.rings.pause = true))))) ∧
    (∃ (step : Nat) (h : Handover) (s : State),
        (s.fw.ho = some h) ∧
        ((s.rings.pause = true) ∧
        ((h.dead = false) ∧
        ((h.roll = none))))) ∧
    (∃ (step : Nat) (h : Handover) (s : State),
        (s.fw.ho = some h) ∧
        ((s.rings.pause = true) ∧
        ((h.dead = false) ∧
        ((h.roll.isSome = true))))) ∧
    (∃ (b : Bytes) (s : State),
        ((s.svcServes && s.svc.srdy) = true) ∧
        ((svcFrameOk b = false))) ∧
    (∃ (seq : Nat) (total : Nat) (s : State),
        (s.svc.pend = some (2, seq, toLE 4 total)) ∧
        ((s.svcServes = true))) ∧
    (∃ (seq : Nat) (offset : Nat) (data : Bytes) (s : State),
        (s.svc.pend = some (3, seq, toLE 4 offset ++ data)) ∧
        ((s.svcServes = true) ∧
        (let x := s.stageData 2 offset data
        (x.1 = 0)))) :=
  ⟨by refine ⟨{ tag := 1, payload := zeros 0, bulk := none }, run0, ?_⟩; decide,
   by refine ⟨{ tag := 1, payload := zeros 4, bulk := none }, run0, ?_⟩; decide,
   by refine ⟨{ tag := 1, payload := zeros 4, bulk := some (0, 4096) }, run0, ?_⟩; decide,
   by refine ⟨{ tag := 1, payload := zeros 0, bulk := none }, run0, ?_⟩; decide,
   by refine ⟨{ tag := 1 }, { run0 with store := { run0.store with staged := some {} } }, ?_⟩; decide,
   by refine ⟨{ tag := 1, payload := zeros 0, bulk := none }, run0, ?_⟩; decide,
   by refine ⟨true, true, { step := 3 }, { run0 with fw := { run0.fw with ho := some { step := 3 } }, rings := { run0.rings with pause := true } }, ?_⟩; decide,
   by refine ⟨4, { step := 5 }, { run0 with fw := { run0.fw with ho := some { step := 5 } }, rings := { run0.rings with pause := true } }, ?_⟩; decide,
   by refine ⟨4, { step := 5, roll := some 4 }, { run0 with fw := { run0.fw with ho := some { step := 5, roll := some 4 } }, rings := { run0.rings with pause := true } }, ?_⟩; decide,
   by refine ⟨[], run0, ?_⟩; decide,
   by refine ⟨0, 4096, { run0 with svc := { run0.svc with pend := some (2, 0, toLE 4 4096) }, fw := { run0.fw with run := 0 } }, ?_⟩; decide,
   by refine ⟨0, 0, [1], { run0 with svc := { run0.svc with pend := some (3, 0, toLE 4 0 ++ [1]) }, fw := { run0.fw with rx := some { route := 2, total := 4096 } } }, ?_⟩; decide⟩

/-- Operands and states for SVC_ACTIVATE, FW_VERIFY_DONE, STAGING_TIMEOUT, HANDOVER_RESTART, SVC_INFO, SVC_VERIFY, SVC_ABORT,
SVC_EXIT. -/
theorem witness_FirmwareRowsComplete_2 :
    (∃ (seq : Nat) (s : State),
        (s.svc.pend = some (5, seq, [])) ∧
        ((s.svcServes = true) ∧
        ((s.fw.rom = false) ∧
        ((s.activateRefused = none))))) ∧
    (∃ (seq : Nat) (slots : Nat) (s : State),
        (s.svc.pend = some (5, seq, toLE 1 slots)) ∧
        ((s.svcServes = true) ∧
        ((s.fw.rom = true)))) ∧
    (∃ (tag : Nat) (x : FwRx) (s : State),
        (s.fw.rx = some x) ∧
        ((x.verify = true) ∧
        ((x.route = 1) ∧
        ((s.fwRuns = true) ∧
        ((x.tag = some tag)))))) ∧
    (∃ (x : FwRx) (s : State),
        (s.fw.rx = some x) ∧
        ((x.verify = false) ∧
        ((x.at_ + 60000 ≤ s.up)))) ∧
    (∃ (h : Handover) (s : State),
        (s.fw.ho = some h) ∧
        ((h.step = 1) ∧
        ((s.fwRuns = true)))) ∧
    (∃ (seq : Nat) (s : State),
        (s.svc.pend = some (1, seq, [])) ∧
        ((s.svcServes = true))) ∧
    (∃ (seq : Nat) (x : FwRx) (s : State),
        (s.svc.pend = some (4, seq, [])) ∧
        ((s.svcServes = true) ∧
        ((s.fw.rx = some x) ∧
        ((x.route = 2))))) ∧
    (∃ (seq : Nat) (s : State),
        (s.svc.pend = some (6, seq, [])) ∧
        ((s.svcServes = true))) ∧
    (∃ (seq : Nat) (s : State),
        (s.svc.pend = some (7, seq, [])) ∧
        ((s.svcServes = true) ∧
        ((s.fw.rom = true)))) :=
  ⟨by refine ⟨0, { run0 with svc := { run0.svc with pend := some (5, 0, []) }, fw := { run0.fw with run := 0 }, store := { run0.store with staged := some {} } }, ?_⟩; decide,
   by refine ⟨0, 1, { run0 with svc := { run0.svc with pend := some (5, 0, toLE 1 1) }, fw := { run0.fw with rom := true } }, ?_⟩; decide,
   by refine ⟨1, { verify := true, tag := some 1 }, { run0 with fw := { run0.fw with rx := some { verify := true, tag := some 1 } } }, ?_⟩; decide,
   by refine ⟨{}, { ({ run0 with fw := { run0.fw with rx := some {} } } : State) with up := 4000000 }, ?_⟩; decide,
   by refine ⟨{}, { run0 with fw := { run0.fw with ho := some {} } }, ?_⟩; decide,
   by refine ⟨0, { run0 with svc := { run0.svc with pend := some (1, 0, []) }, fw := { run0.fw with run := 0 } }, ?_⟩; decide,
   by refine ⟨0, { route := 2 }, { run0 with svc := { run0.svc with pend := some (4, 0, []) }, fw := { run0.fw with rx := some { route := 2 } } }, ?_⟩; decide,
   by refine ⟨0, { run0 with svc := { run0.svc with pend := some (6, 0, []) }, fw := { run0.fw with run := 0 } }, ?_⟩; decide,
   by refine ⟨0, { run0 with svc := { run0.svc with pend := some (7, 0, []) }, fw := { run0.fw with rom := true } }, ?_⟩; decide⟩

end Sys2Proof.Tests
end

section
/-! PROOFS. Register writes of the host and the write-locked registers (R7, R62), and the mailbox commands of the variant without
NFC (R2). -/

namespace Sys2Proof.Machine

/-! ### Register writes -/

/-- The row REGISTER_WRITE: a served word that no pause holds back, no gate zeroes and R34 does not leave undefined is written at once. -/
theorem exec_registerWrite_eq_regWrite {s : State} {a : Nat} (v : Nat) (hserves : s.portServes = true) (ha : a < 2 ^ 32)
    (halign : a % 4 = 0) (hheld : s.heldBack a = false) (hout : s.outside a = false) (hzero : s.zeroed a = false) :
    exec (.registerWrite a v) s = .next (s.regWrite a (v % 2 ^ 32)) := by
  have hword : exec (.registerWrite a v) s = s.hostWrite a v := by
    change execRegisterWrite a v s = _
    rw [execRegisterWrite, Nat.mod_eq_of_lt ha]
    simp [halign]
  rw [hword]
  simp [State.hostWrite, State.writeWord, hserves, hheld, hout, hzero]

/-- Only the RING block and the ring and bulk memory wait for the end of a ring service pause (R48). -/
theorem heldBack_eq_false {s : State} {a : Nat} (hlow : a < 0x10000) (hring : a / 4096 ≠ 1) : s.heldBack a = false := by
  have hmem : ¬ 0x10000 ≤ a := by omega
  simp [State.heldBack, hring, hmem]

/-- R72 and R80 speak of the ring and bulk memory alone. -/
theorem outside_eq_false {s : State} {a : Nat} (hlow : a < 0x10000) : s.outside a = false := by
  have hmem : ¬ 0x10000 ≤ a := by omega
  have hbulk : ¬ 0x40000 ≤ a := by omega
  simp [State.outside, hmem, hbulk]

/-- The blocks behind a gate or a domain are CLK and TIME (R53). -/
theorem zeroed_eq_false {s : State} {a : Nat} (hclk : a / 4096 ≠ 3) (htime : a / 4096 ≠ 7) : s.zeroed a = false := by
  have hmeter : ¬ (0x3018 ≤ a ∧ a < 0x3024) := by omega
  have hblock : (a / 4096 == 7) = false := beq_eq_false_iff_ne.mpr htime
  simp only [State.zeroed, ← Bool.decide_and, hmeter, hblock, decide_false, Bool.false_and, Bool.or_self]

/-- A register of a block other than RING, CLK and TIME takes its word at once. -/
theorem exec_registerWrite_plain {s : State} {a v : Nat} (hserves : s.portServes = true) (hv : v < 2 ^ 32) (hlow : a < 0x10000)
    (halign : a % 4 = 0) (hring : a / 4096 ≠ 1) (hclk : a / 4096 ≠ 3) (htime : a / 4096 ≠ 7) :
    exec (.registerWrite a v) s = .next (s.regWrite a v) := by
  rw [exec_registerWrite_eq_regWrite v hserves (by omega) halign (heldBack_eq_false hlow hring) (outside_eq_false hlow)
    (zeroed_eq_false hclk htime), Nat.mod_eq_of_lt hv]

/-! ### Write-locked registers -/

/-- A reset puts the host port and the low-side switches back, and with them the three write locks (R62). -/
theorem afterReset_host (s : State) (awaiting : Option Nat) : (s.afterReset awaiting).host = State.reset.host := rfl

theorem afterReset_lsw (s : State) (awaiting : Option Nat) : (s.afterReset awaiting).lsw = State.reset.lsw := rfl

theorem regWrite_bnwOutlet (s : State) (v : Nat) : s.regWrite 0x34 v = s.bnwSelect v := rfl

theorem regWrite_limpMap0 (s : State) (v : Nat) : s.regWrite 0x6000 v = s.lswWrite 0x00 v := rfl

theorem regWrite_limpMap1 (s : State) (v : Nat) : s.regWrite 0x6004 v = s.lswWrite 0x04 v := rfl

theorem bnwSelect_unlocked {s : State} (v : Nat) (h : s.host.bnwLocked = false) :
    s.bnwSelect v = { s with host := { s.host with bnwOutlet := v % 32, bnwLocked := true } } := by
  simp [State.bnwSelect, h]

theorem bnwSelect_locked {s : State} (v : Nat) (h : s.host.bnwLocked = true) : s.bnwSelect v = s.raise 18 0xFFFF 0x34 := by
  simp [State.bnwSelect, h]

theorem lswWrite_map0_unlocked {s : State} (v : Nat) (h : s.lsw.lock0 = false) :
    s.lswWrite 0x00 v = (({ s with lsw := { s.lsw with map0 := v % 2 ^ 32, lock0 := true } }).tmrWritten 0x6000).remap := by
  simp [State.lswWrite, h]

theorem lswWrite_map0_locked {s : State} (v : Nat) (h : s.lsw.lock0 = true) : s.lswWrite 0x00 v = s.raise 18 0xFFFF 0x6000 := by
  simp [State.lswWrite, h]

theorem lswWrite_map1_unlocked {s : State} (v : Nat) (h : s.lsw.lock1 = false) :
    s.lswWrite 0x04 v = (({ s with lsw := { s.lsw with map1 := v % 2 ^ 32, lock1 := true } }).tmrWritten 0x6004).remap := by
  simp [State.lswWrite, h]

theorem lswWrite_map1_locked {s : State} (v : Nat) (h : s.lsw.lock1 = true) : s.lswWrite 0x04 v = s.raise 18 0xFFFF 0x6004 := by
  simp [State.lswWrite, h]

/-! ### The variant without NFC -/

/-- A command's opcode stands in the table with it. -/
theorem mem_opcodes_of_commandOf {op : Nat} {q : Req} {c : Instr} (h : commandOf op q = some c) :
    ∃ f, (op, f) ∈ opcodes ∧ f q = c := by
  unfold commandOf at h
  split at h
  next e hfind =>
    obtain rfl : e.1 = op := by simpa using List.find?_some hfind
    exact ⟨e.2, List.mem_of_find?_eq_some hfind, Option.some.inj h⟩
  next => cases h

/-- The opcodes with high byte 0x0D are those of the NFC chapter. -/
theorem filter_opcodes_nfc : (opcodes.filter fun e => e.1 / 256 == 0x0D) = opcodes0D := rfl

/-- The screening of R734 refuses a command of the NFC chapter first, on the variant without NFC (R2). -/
theorem screen_nfc_unsupported {c : Cmd} (q : Req) (s : State) (fits : Bool) (hIN : Config.variantIN = true) (hop : c.op / 256 = 0x0D) :
    s.screen c q fits = some 0x0A := by
  simp [State.screen, hIN, hop]

theorem mail_nfc_unsupported {c : Cmd} {q : Req} {s : State} {fits : Bool} {body : State → Ans} (hIN : Config.variantIN = true)
    (hop : c.op / 256 = 0x0D) (hruns : s.fwRuns = true) :
    mail c q s fits body = .next (s.complete c.pair c.op q.tag 0x0A [] none) := by
  simp [mail, hruns, screen_nfc_unsupported q s fits hIN hop]

/-- Each command of the NFC chapter is a mailbox command of RP9 under its own opcode, and so is refused by the screening. -/
theorem exec_nfc_unsupported {op : Nat} {f : Req → Instr} (q : Req) (s : State) (h : (op, f) ∈ opcodes0D)
    (hIN : Config.variantIN = true) (hruns : s.fwRuns = true) :
    exec (f q) s = .next (s.complete 9 op q.tag 0x0A [] none) := by
  simp only [opcodes0D, List.mem_cons, Prod.mk.injEq, List.not_mem_nil, or_false] at h
  obtain ⟨rfl, rfl⟩ | ⟨rfl, rfl⟩ | ⟨rfl, rfl⟩ | ⟨rfl, rfl⟩ | ⟨rfl, rfl⟩ | ⟨rfl, rfl⟩ := h
  · change execNfcConfigSet q s = _
    rw [execNfcConfigSet]
    exact mail_nfc_unsupported hIN (by rfl) hruns
  · change execNfcConfigGet q s = _
    rw [execNfcConfigGet]
    exact mail_nfc_unsupported hIN (by rfl) hruns
  · change execNfcTagRead q s = _
    rw [execNfcTagRead, nfcMail]
    exact mail_nfc_unsupported hIN (by rfl) hruns
  · change execNfcTagWrite q s = _
    rw [execNfcTagWrite, nfcMail]
    exact mail_nfc_unsupported hIN (by rfl) hruns
  · change execNfcTagKey q s = _
    rw [execNfcTagKey, nfcMail]
    exact mail_nfc_unsupported hIN (by rfl) hruns
  · change execNfcTagStatus q s = _
    rw [execNfcTagStatus]
    exact mail_nfc_unsupported hIN (by rfl) hruns

end Sys2Proof.Machine

namespace Sys2Proof.Proofs

open Sys2Proof.Machine

/-- Settles O11: no register of the three is held back, zeroed or left undefined by R34, so the word reaches its
block, whose two cases are those of the lock. -/
theorem writeLockedRegisters : Obligations.WriteLockedRegisters := by
  refine ⟨fun s t cause ht => ?_, fun v s hserves hv => ?_⟩
  · obtain rfl | rfl := ht
    · exact ⟨rfl, rfl, rfl⟩
    · rw [State.resetTo, afterReset_host, afterReset_lsw]
      exact ⟨rfl, rfl, rfl⟩
  · have write {a : Nat} (ha : a = 0x34 ∨ a = 0x6000 ∨ a = 0x6004) : exec (.registerWrite a v) s = .next (s.regWrite a v) :=
      exec_registerWrite_plain hserves hv (by omega) (by omega) (by omega) (by omega) (by omega)
    rw [write (by decide), write (by decide), write (by decide), regWrite_bnwOutlet, regWrite_limpMap0,
      regWrite_limpMap1]
    refine ⟨fun h => ?_, fun h => ?_, fun h => ?_, fun h => ?_, fun h => ?_, fun h => ?_⟩
    · rw [bnwSelect_unlocked v h]
    · rw [bnwSelect_locked v h]
    · rw [lswWrite_map0_unlocked v h, Nat.mod_eq_of_lt hv]
    · rw [lswWrite_map0_locked v h]
    · rw [lswWrite_map1_unlocked v h, Nat.mod_eq_of_lt hv]
    · rw [lswWrite_map1_locked v h]

/-- Settles O38: an opcode with high byte 0x0D is one of the six of the NFC chapter, each a mailbox command
of RP9 that the screening refuses. -/
theorem variantWithoutNfc : Obligations.VariantWithoutNfc := by
  intro op q c s hIN hop hc hruns
  obtain ⟨f, hmem, rfl⟩ := mem_opcodes_of_commandOf hc
  have hnfc : (op, f) ∈ opcodes0D := by
    rw [← filter_opcodes_nfc, List.mem_filter]
    exact ⟨hmem, by simpa using hop⟩
  exact exec_nfc_unsupported q s hnfc hIN hruns

end Sys2Proof.Proofs
end

section
/-! PROOFS. What a row can answer: a next state, and the fault of R34 only where the host writes words (R34, R72, R80). -/

namespace Sys2Proof.Machine

/-! ### Rows that always go on -/

theorem next_ite {p : Prop} [Decidable p] {x y : Out} (hx : p → ∃ t, x = .next t) (hy : ∃ t, y = .next t) :
    ∃ t, (if p then x else y) = .next t := by
  split
  · exact hx ‹p›
  · exact hy

/-- A register is no ring slot and no bulk region, so R34 leaves no write of it undefined. -/
theorem hostWrite_next {s : State} {addr v : Nat} (hlow : addr < 0x10000) : ∃ t, s.hostWrite addr v = .next t := by
  rw [State.hostWrite, outside_eq_false hlow]
  exact next_ite (fun _ => ⟨_, rfl⟩) (next_ite (fun _ => ⟨_, rfl⟩) ⟨_, rfl⟩)

theorem execWaveChunkSend_next (s : State) : ∃ t, execWaveChunkSend s = .next t := by
  unfold execWaveChunkSend
  split
  · exact ⟨_, rfl⟩
  · extract_lets p
    split <;> exact ⟨_, rfl⟩

theorem execTagHostLockTimeout_next (s : State) : ∃ t, execTagHostLockTimeout s = .next t := by
  unfold execTagHostLockTimeout
  split
  · exact ⟨_, rfl⟩
  · split <;> exact ⟨_, rfl⟩

/-! ### Rows that can meet R34 -/

/-- A next state, or the fault of R34. -/
abbrev NextOrEnvironment (x : Out) : Prop := (∃ t, x = .next t) ∨ x = .fault .environment

theorem nextOrEnvironment_next (s : State) : NextOrEnvironment (.next s) := .inl ⟨s, rfl⟩

theorem nextOrEnvironment_ite {p : Prop} [Decidable p] {x y : Out} (hx : NextOrEnvironment x) (hy : NextOrEnvironment y) :
    NextOrEnvironment (if p then x else y) := by
  split
  · exact hx
  · exact hy

theorem writeWords_nextOrEnvironment (s : State) (l : List Nat) (addr : Nat) : NextOrEnvironment (s.writeWords l addr) := by
  induction l generalizing s addr with
  | nil => exact nextOrEnvironment_next _
  | cons v l ih =>
    rw [State.writeWords]
    exact nextOrEnvironment_ite (nextOrEnvironment_next _) (nextOrEnvironment_ite (.inr rfl) (ih _ _))

theorem goOn_nextOrEnvironment (s : State) (x : Xact) (answered : Bool) : NextOrEnvironment (s.goOn x answered) :=
  nextOrEnvironment_ite (nextOrEnvironment_next _) (writeWords_nextOrEnvironment _ _ _)

theorem serveWord_nextOrEnvironment (s : State) (x : Xact) : NextOrEnvironment (s.serveWord x) :=
  nextOrEnvironment_ite (goOn_nextOrEnvironment _ _ _) (nextOrEnvironment_ite (.inr rfl) (goOn_nextOrEnvironment _ _ _))

theorem serveHeld_nextOrEnvironment (s : State) : NextOrEnvironment s.serveHeld := by
  unfold State.serveHeld
  split
  · exact nextOrEnvironment_next _
  · exact nextOrEnvironment_ite (nextOrEnvironment_next _) (serveWord_nextOrEnvironment _ _)

theorem afterPause_nextOrEnvironment (s : State) (c : Bool) (f : State → State) : NextOrEnvironment (s.afterPause c f) :=
  nextOrEnvironment_ite (serveHeld_nextOrEnvironment _) (nextOrEnvironment_next _)

theorem hostWrite_nextOrEnvironment (s : State) (addr v : Nat) : NextOrEnvironment (s.hostWrite addr v) :=
  nextOrEnvironment_ite (nextOrEnvironment_next _)
    (nextOrEnvironment_ite (nextOrEnvironment_next _) (nextOrEnvironment_ite (.inr rfl) (nextOrEnvironment_next _)))

/-- Of a transaction, only the words written outside the Base-Note Window can meet R34. -/
theorem execHostTransaction_nextOrEnvironment (cmd : Nat) (addr : List Nat) (wr : List (List Nat)) (nrd : Nat) (s : State) :
    NextOrEnvironment (execHostTransaction cmd addr wr nrd s) :=
  nextOrEnvironment_ite (nextOrEnvironment_next _) <|
    nextOrEnvironment_ite (nextOrEnvironment_next _) <|
      nextOrEnvironment_ite (nextOrEnvironment_next _) <|
        nextOrEnvironment_ite (writeWords_nextOrEnvironment _ _ _) (nextOrEnvironment_next _)

theorem execIslandCrossingDone_nextOrEnvironment (s : State) : NextOrEnvironment (execIslandCrossingDone s) := by
  unfold execIslandCrossingDone
  split
  · exact nextOrEnvironment_next _
  · exact nextOrEnvironment_ite (nextOrEnvironment_next _) (serveWord_nextOrEnvironment _ _)

theorem execStallLimit_nextOrEnvironment (s : State) : NextOrEnvironment (execStallLimit s) := by
  unfold execStallLimit
  split
  · exact nextOrEnvironment_next _
  · exact nextOrEnvironment_ite (nextOrEnvironment_next _) (goOn_nextOrEnvironment _ _ _)

theorem execGateForceClose_nextOrEnvironment (g : Nat) (s : State) : NextOrEnvironment (execGateForceClose g s) := by
  unfold execGateForceClose
  split
  · exact nextOrEnvironment_next _
  · extract_lets s
    split
    · exact nextOrEnvironment_next _
    · exact goOn_nextOrEnvironment _ _ _

theorem execHandoverAccept_nextOrEnvironment (dropped : List Nat) (s : State) :
    NextOrEnvironment (execHandoverAccept dropped s) := by
  unfold execHandoverAccept
  split
  · exact nextOrEnvironment_next _
  · exact afterPause_nextOrEnvironment _ _ _

theorem execPauseLimit_nextOrEnvironment (s : State) : NextOrEnvironment (execPauseLimit s) := by
  unfold execPauseLimit
  exact afterPause_nextOrEnvironment _ _ _

/-! ### Every row -/

/-- The rows that carry words of the host, or let a transaction with such words go on. -/
def CarriesHostWords (c : Instr) : Prop :=
  (∃ cmd a wr nrd, c = .hostTransaction cmd a wr nrd) ∨ (∃ a v, c = .registerWrite a v) ∨ c = .islandCrossingDone ∨
    c = .stallLimit ∨ (∃ g, c = .gateForceClose g) ∨ (∃ l, c = .handoverAccept l) ∨ c = .pauseLimit

theorem exec_nextOrEnvironment_of_carriesHostWords {c : Instr} (s : State) (h : CarriesHostWords c) :
    NextOrEnvironment (exec c s) := by
  obtain ⟨cmd, a, wr, nrd, rfl⟩ | ⟨a, v, rfl⟩ | rfl | rfl | ⟨g, rfl⟩ | ⟨l, rfl⟩ | rfl := h
  · exact execHostTransaction_nextOrEnvironment cmd a wr nrd s
  · exact hostWrite_nextOrEnvironment _ _ _
  · exact execIslandCrossingDone_nextOrEnvironment s
  · exact execStallLimit_nextOrEnvironment s
  · exact execGateForceClose_nextOrEnvironment g s
  · exact execHandoverAccept_nextOrEnvironment l s
  · exact execPauseLimit_nextOrEnvironment s

/-- The other rows. Some write one register, some branch on a test or on what waits in the state; the last case has all the rows
whose meaning is one frame (`mail`, `onlyIf` or alike) or a next state as it stands. -/
theorem exec_next_of_not_carriesHostWords {c : Instr} (s : State) (h : ¬ CarriesHostWords c) : ∃ t, exec c s = .next t := by
  cases c with
  | hostTransaction | registerWrite | islandCrossingDone | stallLimit | gateForceClose | handoverAccept | pauseLimit =>
    simp [CarriesHostWords] at h
  | doorbellWrite n | cqHeadWrite n => exact hostWrite_next (by omega)
  | ringCfgWrite n base => exact hostWrite_next (by split <;> omega)
  | bnwOutletWrite | clkSelWrite | clkForceWrite | clkMeterStart | clkGateWrite | pwrPfCfgWrite | strRecover | strRetryPrimary
  | timeSnapWrite => exact hostWrite_next (by decide)
  | fltUnreadAck m | fltForce m | fltSevWrite m => exact next_ite (fun _ => hostWrite_next (by omega)) ⟨_, rfl⟩
  | sysPowerSet | fwActivate | lswThermalTrip => exact next_ite (fun _ => ⟨_, rfl⟩) ⟨_, rfl⟩
  | waveChunkSend => exact execWaveChunkSend_next s
  | tagHostLockTimeout => exact execTagHostLockTimeout_next s
  | domainSwitchTimeout | weldWatchEnd | plcTxDiscard | latShareTx | calCommitDone | captureCut | waveExportTimeout
  | dlmsLockoutEnd | tagPageCommit | maStart | maActivityEnd | fwVerifyDone | stagingTimeout | handoverRestart | imageCopyDone
  | handoverRollback =>
    delta exec
    dsimp only [execDomainSwitchTimeout, execWeldWatchEnd, execPlcTxDiscard, execLatShareTx, execCalCommitDone,
      execCaptureCut, execWaveExportTimeout, execDlmsLockoutEnd, execTagPageCommit, execMaStart, execMaActivityEnd,
      execFwVerifyDone, execStagingTimeout, execHandoverRestart, execImageCopyDone, execHandoverRollback]
    split <;> exact ⟨_, rfl⟩
  | _ => exact ⟨_, rfl⟩

/-- A row answers a next state, or it carries words of the host and meets the fault of R34. -/
theorem exec_cases (c : Instr) (s : State) :
    (∃ t, exec c s = .next t) ∨ (exec c s = .fault .environment ∧ CarriesHostWords c) := by
  by_cases h : CarriesHostWords c
  · exact (exec_nextOrEnvironment_of_carriesHostWords s h).imp_right (⟨·, h⟩)
  · exact .inl (exec_next_of_not_carriesHostWords s h)

end Sys2Proof.Machine

namespace Sys2Proof.Proofs

open Sys2Proof.Machine

/-- Settles O5, by the two answers that `exec_cases` leaves. -/
theorem stopsOnlyOnHostWords : Obligations.StopsOnlyOnHostWords := by
  refine ⟨fun c s r hr => ?_, fun c s f hf => ?_⟩
  · obtain ⟨_, ht⟩ | ⟨he, -⟩ := exec_cases c s
    · cases hr.symm.trans ht
    · cases hr.symm.trans he
  · obtain ⟨_, ht⟩ | ⟨he, hwords⟩ := exec_cases c s
    · cases hf.symm.trans ht
    · cases hf.symm.trans he
      exact ⟨rfl, hwords⟩

end Sys2Proof.Proofs
end

section
/-! PROOFS. Transactions of the host port (R36 to R43, R52), and silent zeros of register writes (R53). -/

namespace Sys2Proof.Machine

/-! ### Before ST15 -/

theorem portServes_eq_false {s : State} (h : s.host.ready = false) : s.portServes = false := by
  simp [State.portServes, h]

/-- A word of the host is dropped while the port does not serve (R52). -/
theorem hostWrite_not_served {s : State} (a v : Nat) (h : s.portServes = false) : s.hostWrite a v = .next s := by
  simp [State.hostWrite, h]

/-- A word at an unaligned address is dropped with no count while the port does not serve (R52). -/
theorem exec_registerWrite_not_served {s : State} (a v : Nat) (h : s.portServes = false) :
    exec (.registerWrite a v) s = .next s := by
  change execRegisterWrite a v s = _
  simp [execRegisterWrite, h, hostWrite_not_served]

/-- A transaction is ignored while the port does not serve (R52), and none begins while HCS# is low already. -/
theorem exec_hostTransaction_ignored {s : State} (cmd nrd : Nat) (addr : List Nat) (wr : List (List Nat))
    (h : s.portServes = false ∨ s.host.hcsLow = true) : exec (.hostTransaction cmd addr wr nrd) s = .next s := by
  have hguard : (!s.portServes || s.host.hcsLow) = true := by simpa using h
  exact if_pos hguard

/-! ### The address phase -/

/-- The state once the address phase outside the Base-Note Window is over: bits [1:0] that are not 0 are counted (R39). -/
def State.addressed (s : State) (w : Bool) (cmd a : Nat) : State :=
  if a % 4 = 0 then s.begun w cmd a else (s.begun w cmd a).proto 2 a

theorem addressed_aligned (s : State) (w : Bool) (cmd : Nat) {a : Nat} (h : a % 4 = 0) : s.addressed w cmd a = s.begun w cmd a := by
  simp [State.addressed, h]

theorem addressed_unaligned (s : State) (w : Bool) (cmd : Nat) {a : Nat} (h : a % 4 ≠ 0) :
    s.addressed w cmd a = (s.begun w cmd a).proto 2 a := by
  simp [State.addressed, h]

theorem inWindow_eq_false {a : Nat} (h : ¬(0x80000 ≤ a ∧ a < 0x80100)) : inWindow a = false := by
  simpa [inWindow] using h

theorem not_mem_writeCmds_of_mem_readCmds : ∀ cmd ∈ readCmds, cmd ∉ writeCmds := by decide

section Transaction

variable {cmd : Nat} {addr : List Nat} {s : State}

/-- HOST_TRANSACTION with an unknown command byte (R38). -/
theorem exec_hostTransaction_unknown (wr : List (List Nat)) (nrd : Nat) (hserves : s.portServes = true)
    (hidle : s.host.hcsLow = false) (hread : cmd ∉ readCmds) (hwrite : cmd ∉ writeCmds) :
    let z := s.begun false cmd (ofUnits (lanesOf cmd) addr % 2 ^ 32)
    exec (.hostTransaction cmd addr wr nrd) s = .next (({ z with host := { z.host with ignored := true } }).proto 1 0) := by
  change execHostTransaction cmd addr wr nrd s = _
  simp [execHostTransaction, State.begun, hserves, hidle, hread, hwrite]

/-- HOST_TRANSACTION with a read command: the words from the aligned address on (R39, R40). -/
theorem exec_hostTransaction_read (wr : List (List Nat)) (nrd : Nat) (hserves : s.portServes = true) (hidle : s.host.hcsLow = false)
    (hcmd : cmd ∈ readCmds) (ha : ofUnits (lanesOf cmd) addr < 2 ^ 32) (hout : inWindow (ofUnits (lanesOf cmd) addr) = false) :
    let a := ofUnits (lanesOf cmd) addr
    exec (.hostTransaction cmd addr wr nrd) s = .next ((s.addressed false cmd a).readWords none nrd (a - a % 4)) := by
  have hdir := not_mem_writeCmds_of_mem_readCmds cmd hcmd
  change execHostTransaction cmd addr wr nrd s = _
  simp only [execHostTransaction, Nat.mod_eq_of_lt ha]
  simp [State.addressed, State.begun, hserves, hidle, hcmd, hdir, hout]

/-- HOST_TRANSACTION with a write command: the words from the aligned address on (R39, R40). -/
theorem exec_hostTransaction_write (wr : List (List Nat)) (nrd : Nat) (hserves : s.portServes = true) (hidle : s.host.hcsLow = false)
    (hcmd : cmd ∈ writeCmds) (ha : ofUnits (lanesOf cmd) addr < 2 ^ 32) (hout : inWindow (ofUnits (lanesOf cmd) addr) = false) :
    let a := ofUnits (lanesOf cmd) addr
    exec (.hostTransaction cmd addr wr nrd) s =
      (s.addressed true cmd a).writeWords (wr.map (ofUnits (lanesOf cmd))) (a - a % 4) := by
  change execHostTransaction cmd addr wr nrd s = _
  simp only [execHostTransaction, Nat.mod_eq_of_lt ha]
  simp [State.addressed, State.begun, hserves, hidle, hcmd, hout]

end Transaction

/-- A protocol error counts, and latches HPC_PROTO under the qualifier of its first cause (R735, log entry 58). -/
theorem proto_eq_raise (s : State) (cause addr : Nat) :
    s.proto cause addr = ({ s with host := { s.host with protoCount := satInc 16 s.host.protoCount, protoCause := cause } }).raise 16
      (((s.flt.occ.find? fun (x : Occ) => x.src == 16).map Occ.qual).getD cause) addr := by
  unfold State.proto
  dsimp only
  cases s.flt.occ.find? fun x => x.src == 16 <;> rfl

/-! ### Reads touch the host port alone -/

theorem readWord_host (s : State) (addr : Nat) : (s.readWord addr).2 = { s with host := (s.readWord addr).2.host } := by
  unfold State.readWord
  split <;> rfl

theorem driveHio_readWord_host (s : State) (addr : Nat) :
    (s.readWord addr).2.driveHio (s.readWord addr).1 =
      { s with host := ((s.readWord addr).2.driveHio (s.readWord addr).1).host } := by
  rw [State.driveHio, readWord_host]

/-- Words read change nothing but the host port: the open transaction, the words driven, and the silent zeros (R43, R53). -/
theorem readWords_host (s : State) (ahead : Option Nat) (k addr : Nat) :
    s.readWords ahead k addr = { s with host := (s.readWords ahead k addr).host } := by
  induction k generalizing s addr with
  | zero => rfl
  | succ k ih =>
    unfold State.readWords
    split
    · rfl
    · extract_lets r
      rw [ih, driveHio_readWord_host]

/-! ### Silent zeros -/

theorem zeroed_time {s : State} {a : Nat} (hblock : a / 4096 = 7) (hoff : s.netOn = false ∨ bit s.clk.gate 3 = false) :
    s.zeroed a = true := by
  have hgate : (s.netOn && bit s.clk.gate 3) = false := Bool.and_eq_false_iff.mpr hoff
  simp [State.zeroed, hblock, hgate]

theorem zeroed_meter {s : State} {a : Nat} (hlo : 0x3018 ≤ a) (hhi : a < 0x3024) (hgate : bit s.clk.gate 5 = false) :
    s.zeroed a = true := by
  simp [State.zeroed, hlo, hhi, hgate]

/-- The row REGISTER_WRITE at an aligned address is one word that the host writes. -/
theorem exec_registerWrite_aligned (s : State) {a : Nat} (v : Nat) (ha : a < 2 ^ 32) (halign : a % 4 = 0) :
    exec (.registerWrite a v) s = s.hostWrite a v := by
  change execRegisterWrite a v s = _
  rw [execRegisterWrite, Nat.mod_eq_of_lt ha]
  simp [halign]

/-- The row REGISTER_WRITE: a word at an aligned register that reads as silent zeros is dropped and counted (R53). -/
theorem exec_registerWrite_zeroed {s : State} {a : Nat} (v : Nat) (hserves : s.portServes = true) (hlow : a < 0x10000)
    (hring : a / 4096 ≠ 1) (halign : a % 4 = 0) (hzero : s.zeroed a = true) :
    exec (.registerWrite a v) s = .next (s.zeroAccess a) := by
  rw [exec_registerWrite_aligned s v (by omega) halign]
  simp [State.hostWrite, State.writeWord, hserves, hzero, heldBack_eq_false hlow hring, outside_eq_false hlow]

end Sys2Proof.Machine

namespace Sys2Proof.Proofs

open Sys2Proof.Machine

/-- Settles O14: a transaction that the port does not take changes nothing, and one that it takes changes the host port in its
address phase and in each word read. -/
theorem readsHaveNoSideEffect : Obligations.ReadsHaveNoSideEffect := by
  intro cmd nrd addr wr s t hcmd a ha halign hwin hexec
  by_cases htaken : s.portServes = true ∧ s.host.hcsLow = false
  · obtain ⟨hserves, hidle⟩ := htaken
    rw [exec_hostTransaction_read wr nrd hserves hidle hcmd ha (inWindow_eq_false hwin), addressed_aligned s false cmd halign] at hexec
    cases hexec
    exact readWords_host (s.begun false cmd a) none nrd _
  · have hignored : s.portServes = false ∨ s.host.hcsLow = true := by simpa [imp_iff_not_or] using htaken
    rw [exec_hostTransaction_ignored cmd nrd addr wr hignored] at hexec
    cases hexec
    rfl

/-- Settles O12: a byte outside the table is neither a read nor a write command, and the port counts cause 1. -/
theorem unknownHostCommand : Obligations.UnknownHostCommand := by
  intro cmd nrd addr wr s hserves hidle hcmd a
  have hread : cmd ∉ readCmds := fun h => hcmd (List.mem_append_left writeCmds h)
  have hwrite : cmd ∉ writeCmds := fun h => hcmd (List.mem_append_right readCmds h)
  refine ⟨?_, rfl⟩
  rw [exec_hostTransaction_unknown wr nrd hserves hidle hread hwrite, proto_eq_raise]
  rfl

/-- Settles O13, by the equation of each direction with the misaligned address counted. -/
theorem unalignedAddress : Obligations.UnalignedAddress := by
  intro cmd nrd addr wr s hserves hidle a ha hbits hwin
  refine ⟨fun hcmd => ?_, fun hcmd => ?_⟩
  · rw [exec_hostTransaction_read wr nrd hserves hidle hcmd ha (inWindow_eq_false hwin), addressed_unaligned s false cmd hbits]
  · rw [exec_hostTransaction_write wr nrd hserves hidle hcmd ha (inWindow_eq_false hwin), addressed_unaligned s true cmd hbits]

/-- Settles O15: each row is a transaction or one host write, and the port takes neither. -/
theorem portBeforeStart : Obligations.PortBeforeStart := by
  intro s cmd a v nrd addr wr n base hready
  have hport := portServes_eq_false hready
  have dropped (addr : Nat) : s.hostWrite addr v = .next s := hostWrite_not_served addr v hport
  exact ⟨exec_hostTransaction_ignored cmd nrd addr wr (.inl hport), exec_registerWrite_not_served a v hport, dropped _, dropped _,
    dropped _, dropped _, dropped _⟩

/-- Settles O16: both ranges lie among the registers that no pause holds back, and both read as silent zeros. -/
theorem silentZeroWrite : Obligations.SilentZeroWrite := by
  rintro a v s hserves - halign (⟨hblock, hoff⟩ | ⟨hlo, hhi, hgate⟩)
  · exact exec_registerWrite_zeroed v hserves (by omega) (by omega) halign (zeroed_time hblock hoff)
  · exact exec_registerWrite_zeroed v hserves (by omega) (by omega) halign (zeroed_meter hlo hhi hgate)

end Sys2Proof.Proofs
end

section
/-! PROOFS. Rings as index arithmetic: the number of entries after each index moves (R69 to R72), and what a unit written leaves. -/

namespace Sys2Proof.Machine

/-! ### Ring indices -/

theorem ringCount_lt (head tail : Nat) : ringCount head tail < 65536 := Nat.mod_lt _ (by omega)

/-- R69 in integers, as R70 and R71 state their tests. -/
theorem ringCount_eq_emod (head tail : Nat) : (ringCount head tail : Int) = ((tail : Int) - head) % 65536 := by
  unfold ringCount
  omega

theorem ringCount_wrapInc (head tail : Nat) : ringCount head (wrapInc 16 tail) = (ringCount head tail + 1) % 65536 := by
  unfold ringCount wrapInc
  omega

theorem ringCount_iterate_wrapInc (head tail k : Nat) :
    ringCount head ((wrapInc 16)^[k] tail) = (ringCount head tail + k) % 65536 := by
  induction k generalizing tail with
  | zero => exact (Nat.mod_eq_of_lt (ringCount_lt head tail)).symm
  | succ k ih => rw [Function.iterate_succ_apply, ih, ringCount_wrapInc]; omega

/-- A head moved forward by entries that the ring holds. -/
theorem ringCount_consume {head tail k : Nat} (h : k ≤ ringCount head tail) :
    ringCount ((head + k) % 65536) tail = ringCount head tail - k := by
  unfold ringCount at *
  omega

/-- A head moved to an index between the head and the tail. -/
theorem ringCount_headMoved {head new tail : Nat} (h : ringCount head new ≤ ringCount head tail) :
    ringCount new tail = ringCount head tail - ringCount head new := by
  unfold ringCount at *
  omega

/-- A tail moved to an index within the room that the ring has. -/
theorem ringCount_tailMoved {head tail new depth : Nat} (hcount : ringCount head tail ≤ depth)
    (h : ringCount tail new ≤ depth - ringCount head tail) : ringCount head new ≤ depth := by
  unfold ringCount at *
  omega

/-! ### Units written -/

theorem putEntries_pr_same (s : State) (n : PNum) (l : List Bytes) :
    (s.putEntries n l).pr n = { s.pr n with cqTail := (wrapInc 16)^[l.length] (s.pr n).cqTail } := by
  induction l generalizing s with
  | nil => rfl
  | cons e t ih => rw [State.putEntries, ih, pr_setPr, if_pos rfl, List.length_cons, Function.iterate_succ_apply]

theorem putEntries_mem_wf {s : State} (n : PNum) (l : List Bytes) (h : Memory.wf s.rings.mem = true) :
    Memory.wf (s.putEntries n l).rings.mem = true := by
  induction l generalizing s with
  | nil => exact h
  | cons e t ih => exact ih (Memory.writeN_wf h ..)

theorem putEntries_bulk (s : State) (n : PNum) (l : List Bytes) : (s.putEntries n l).rings.bulk = s.rings.bulk := by
  induction l generalizing s with
  | nil => rfl
  | cons e t ih => rw [State.putEntries, ih, setPr_rings_bulk]

/-- The pair of a unit written, but for the number of final completions. -/
def Pair.put (p : Pair) (d : Held) : Pair :=
  { p with
    cqTail := (wrapInc 16)^[d.entries.length] p.cqTail
    done := if d.final then wrapInc 32 p.done else p.done }

theorem putUnit_pr_same (s : State) (n : PNum) (d : Held) : (s.putUnit n d).pr n = (s.pr n).put d := by
  unfold State.putUnit Pair.put
  rw [putEntries_pr_same]
  split
  · simp [State.modPr]
  · rfl

theorem putUnit_mem_wf {s : State} (n : PNum) (d : Held) (h : Memory.wf s.rings.mem = true) :
    Memory.wf (s.putUnit n d).rings.mem = true := by
  unfold State.putUnit
  apply putEntries_mem_wf
  split
  · exact h
  · exact h

theorem putUnit_bulk (s : State) (n : PNum) (d : Held) : (s.putUnit n d).rings.bulk = s.rings.bulk := by
  unfold State.putUnit
  rw [putEntries_bulk]
  split
  · rfl
  · rfl

/-- A unit that the ring has room for keeps the bounds of its pair. -/
theorem pairOk_put {p : Pair} {d : Held} (h : PairOk p) (hroom : d.entries.length ≤ p.cqDepth - ringCount p.cqHead p.cqTail) :
    PairOk (p.put d) := by
  obtain ⟨hstate, hheld, hbounds⟩ := h
  refine ⟨hstate, hheld, fun hon => ?_⟩
  obtain ⟨hsq, hcq, hsqn, hcqn⟩ := hbounds hon
  refine ⟨hsq, hcq, hsqn, ?_⟩
  change ringCount p.cqHead ((wrapInc 16)^[d.entries.length] p.cqTail) ≤ p.cqDepth
  rw [ringCount_iterate_wrapInc]
  exact (Nat.mod_le _ _).trans (by omega)

theorem heldEntries_eq_sum (l : List Held) : heldEntries l = ((l.filter fun x => x.event).map fun x => x.entries.length).sum :=
  List.sum_eq_foldl.symm

theorem heldEntries_append (l : List Held) (d : Held) :
    heldEntries (l ++ [d]) = heldEntries l + if d.event then d.entries.length else 0 := by
  cases hd : d.event <;> simp [heldEntries_eq_sum, hd]

/-- The rest of a holding queue holds no more than the whole. -/
theorem heldEntries_tail_le (d : Held) (l : List Held) : heldEntries l ≤ heldEntries (d :: l) := by
  cases hd : d.event <;> simp [heldEntries_eq_sum, hd]

/-- A unit put into the holding queue: a completion, or an event that finds room among the 32 entries (R83). -/
theorem pairOk_hold {p : Pair} {d : Held} (h : PairOk p) (hroom : d.event = true → heldEntries p.held + d.entries.length ≤ 32) :
    PairOk { p with held := p.held ++ [d] } := by
  obtain ⟨hstate, hheld, hbounds⟩ := h
  refine ⟨hstate, ?_, hbounds⟩
  change heldEntries (p.held ++ [d]) ≤ 32
  rw [heldEntries_append]
  split
  · exact hroom ‹_›
  · exact hheld

end Sys2Proof.Machine
end

section
/-! PROOFS. The registers of the RING block (R65, R66, R70, R71, R87). -/

namespace Sys2Proof.Machine

/-! ### After a reset -/

theorem get_resetPairs : ∀ n : PNum, resetPairs.get n = resetPair n.val := by decide

theorem reset_pr (n : PNum) : State.reset.pr n = resetPair n.val := get_resetPairs n

theorem resetTo_pr (s : State) (cause : Nat) (n : PNum) : (s.resetTo cause).pr n = resetPair n.val := get_resetPairs n

/-- A slot lies inside its ring (R67). -/
theorem slotOff_le (base i : Nat) {depth : Nat} (h : 0 < depth) : slotOff base depth i + 64 ≤ base * 512 + depth * 64 := by
  have hslot := Nat.mod_lt i h
  unfold slotOff
  omega

/-! ### Words that reach the RING block -/

/-- A register of the RING block takes its word at once while no pause holds it back (R48). -/
theorem hostWrite_ring {s : State} {off v : Nat} (hserves : s.portServes = true) (hpause : s.rings.pause = false)
    (hoff : off < 4096) : s.hostWrite (0x1000 + off) v = .next (ringWrite s off (v % 2 ^ 32)) := by
  have hblock : (0x1000 + off) / 4096 = 1 := by omega
  have hword : (0x1000 + off) % 4096 = off := by omega
  have hmem : ¬ 0x10000 ≤ 0x1000 + off := by omega
  have hbulk : ¬ 0x40000 ≤ 0x1000 + off := by omega
  have hheld : s.heldBack (0x1000 + off) = false := by simp [State.heldBack, hpause]
  have hout : s.outside (0x1000 + off) = false := outside_eq_false (by omega)
  have hzero : s.zeroed (0x1000 + off) = false := zeroed_eq_false (by omega) (by omega)
  simp [State.hostWrite, State.writeWord, State.regWrite, hserves, hheld, hout, hzero, hblock, hword, hmem, hbulk]

theorem ringWrite_cfg (s : State) (n : PNum) (v : Nat) : ringWrite s (64 * n.val) v = ringCfgWrite s n v := by
  have hpair : 64 * n.val / 64 = n.val := by omega
  have hword : 64 * n.val % 64 = 0 := by omega
  simp [ringWrite, hpair, hword]

theorem ringWrite_base (s : State) (n : PNum) (v : Nat) : ringWrite s (64 * n.val + 4) v = ringBaseWrite s n v := by
  have hpair : (64 * n.val + 4) / 64 = n.val := by omega
  have hword : (64 * n.val + 4) % 64 = 4 := by omega
  simp [ringWrite, hpair, hword]

theorem ringWrite_db (s : State) (n : PNum) (v : Nat) : ringWrite s (64 * n.val + 0x0C) v = doorbell s n v := by
  have hpair : (64 * n.val + 0x0C) / 64 = n.val := by omega
  have hword : (64 * n.val + 0x0C) % 64 = 0x0C := by omega
  simp [ringWrite, hpair, hword]

theorem ringWrite_cqHead (s : State) (n : PNum) (v : Nat) : ringWrite s (64 * n.val + 0x14) v = headWrite s n v := by
  have hpair : (64 * n.val + 0x14) / 64 = n.val := by omega
  have hword : (64 * n.val + 0x14) % 64 = 0x14 := by omega
  simp [ringWrite, hpair, hword]

section Rows

variable {s : State} (n : PNum) {v : Nat} (hserves : s.portServes = true) (hpause : s.rings.pause = false) (hv : v < 2 ^ 32)

include hserves hpause hv

theorem exec_doorbellWrite : exec (.doorbellWrite n v) s = .next (doorbell s n v) := by
  change s.hostWrite (0x100C + 64 * n.val) v = _
  rw [show 0x100C + 64 * n.val = 0x1000 + (64 * n.val + 0x0C) by omega, hostWrite_ring hserves hpause (by omega),
    Nat.mod_eq_of_lt hv, ringWrite_db]

theorem exec_cqHeadWrite : exec (.cqHeadWrite n v) s = .next (headWrite s n v) := by
  change s.hostWrite (0x1014 + 64 * n.val) v = _
  rw [show 0x1014 + 64 * n.val = 0x1000 + (64 * n.val + 0x14) by omega, hostWrite_ring hserves hpause (by omega),
    Nat.mod_eq_of_lt hv, ringWrite_cqHead]

theorem exec_ringCfgWrite : exec (.ringCfgWrite n false v) s = .next (ringCfgWrite s n v) := by
  change s.hostWrite (0x1000 + 64 * n.val + 0) v = _
  rw [Nat.add_zero, hostWrite_ring hserves hpause (by omega), Nat.mod_eq_of_lt hv, ringWrite_cfg]

theorem exec_ringBaseWrite : exec (.ringCfgWrite n true v) s = .next (ringBaseWrite s n v) := by
  change s.hostWrite (0x1000 + 64 * n.val + 4) v = _
  rw [Nat.add_assoc, hostWrite_ring hserves hpause (by omega), Nat.mod_eq_of_lt hv, ringWrite_base]

end Rows

/-! ### The completion head -/

section Head

variable {s : State} {n : PNum} {h : Nat} (hh : h < 65536)

include hh

theorem headWrite_taken (hon : (s.pr n).state = 1)
    (hin : ringCount (s.pr n).cqHead h ≤ ringCount (s.pr n).cqHead (s.pr n).cqTail) :
    headWrite s n h = { s.setPr n { s.pr n with cqHead := h } with en := { s.en with
      exporting := if n = 14 ∧ h ≠ (s.pr n).cqHead then s.en.exporting.map fun x => { x with headAt := s.up }
        else s.en.exporting } } := by
  simp only [headWrite, Nat.mod_eq_of_lt hh, hon, hin, decide_true, Bool.and_self, if_true]
  split <;> rfl

theorem headWrite_ignored (hin : ¬ ringCount (s.pr n).cqHead h ≤ ringCount (s.pr n).cqHead (s.pr n).cqTail) :
    headWrite s n h = (s.setPr n { s.pr n with headErr := true }).raise 22 n.val h := by
  simp only [headWrite, Nat.mod_eq_of_lt hh, hin, decide_false, Bool.and_false, Bool.false_eq_true, if_false]

end Head

/-! ### The layout rule -/

theorem ringsApart_iff {b1 k1 b2 k2 : Nat} : ringsApart b1 k1 b2 k2 = true ↔ Apart b1 k1 b2 k2 := by
  simp [ringsApart]

/-- The test of R65 that a write of RINGn_CFG makes. -/
theorem layoutOk_iff {s : State} {n : PNum} {a b : Nat} : layoutOk s n a b = true ↔ RingLayout s n a b := by
  simp only [layoutOk, RingLayout, cfgDepthOk, ringFits, Bool.and_eq_true, Bool.or_eq_true, decide_eq_true_eq, beq_iff_eq,
    ringsApart_iff, List.all_eq_true, List.mem_finRange, true_imp_iff, and_assoc, or_assoc]
  have hother (m : PNum) (x : Prop) : (m = n ∨ (s.pr m).state = 0 ∨ x) ↔ (m ≠ n → (s.pr m).state ≠ 0 → x) := by
    tauto
  simp only [hother]

end Sys2Proof.Machine

namespace Sys2Proof.Proofs

open Sys2Proof.Machine

/-- Settles O8: the sixteen pairs after a reset are those of `resetPair`, each with its 8 KiB below 0x30000. -/
theorem resetRings : Obligations.ResetRings := by
  intro s t cause ht n
  have hpair : t.pr n = resetPair n.val := by
    obtain rfl | rfl := ht
    · exact reset_pr n
    · exact resetTo_pr s cause n
  rw [hpair]
  refine ⟨rfl, rfl, ?_, ?_, rfl, fun i => ?_⟩
  · change 0x10000 + (16 * n.val * 512 + 0 % 64 * 64) = _
    omega
  · change 0x10000 + ((16 * n.val + 8) * 512 + 0 % 64 * 64) = _
    omega
  · have hsq := slotOff_le (16 * n.val) i (depth := 64) (by decide)
    have hcq := slotOff_le (16 * n.val + 8) i (depth := 64) (by decide)
    change 0x10000 + slotOff (16 * n.val) 64 i + 64 ≤ _ ∧ 0x10000 + slotOff (16 * n.val + 8) 64 i + 64 ≤ _
    omega

/-- Settles O9: the word reaches `doorbell`, whose test counts entries as R69 does; the ring's bounds make the room that is left a
natural number. -/
theorem doorbellTail : Obligations.DoorbellTail := by
  refine ⟨fun n t s hserves hpause ht hon hbounds => ?_, rfl⟩
  obtain ⟨-, -, hroom, -⟩ := hbounds
  intro p
  have htest : ringCount p.sqTail t ≤ p.sqDepth - ringCount p.sqHead p.sqTail ↔
      ((t : Int) - p.sqTail) % 65536 ≤ (p.sqDepth : Int) - ((p.sqTail : Int) - p.sqHead) % 65536 := by
    change ringCount p.sqHead p.sqTail ≤ p.sqDepth at hroom
    rw [← ringCount_eq_emod, ← ringCount_eq_emod]
    omega
  rw [exec_doorbellWrite n hserves hpause (by omega), ← if_congr htest rfl rfl]
  simp [doorbell, Nat.mod_eq_of_lt ht, hon, p]

/-- Settles O10: the word reaches `headWrite`, whose test counts entries as R69 does. -/
theorem completionHead : Obligations.CompletionHead := by
  intro n h s hserves hpause hh hon p
  have htest : ringCount p.cqHead h ≤ ringCount p.cqHead p.cqTail ↔
      ((h : Int) - p.cqHead) % 65536 ≤ ((p.cqTail : Int) - p.cqHead) % 65536 := by
    rw [← ringCount_eq_emod, ← ringCount_eq_emod, Int.ofNat_le]
  rw [exec_cqHeadWrite n hserves hpause (by omega), ← if_congr htest rfl rfl]
  split
  · rw [headWrite_taken hh hon ‹_›]
  · rw [headWrite_ignored hh ‹_›]

/-- Settles O17, by the branches of the two register writes; the test of the layout is R65. -/
theorem ringConfiguration : Obligations.RingConfiguration := by
  refine ⟨fun n v s hserves hpause hv hon => ⟨fun hfields => ?_, fun hfields => ?_⟩,
    fun n v s hserves hpause hv hoff hen => ⟨fun hlayout => ?_, fun hlayout => ?_⟩⟩
  · rw [exec_ringCfgWrite n hserves hpause hv]
    have hdrop : (field v 4 4 ≠ (s.pr n).sqLog2 || field v 8 4 ≠ (s.pr n).cqLog2 || ((s.pr n).state == 2 && bit v 0)) = true := by
      simp [hfields]
    unfold ringCfgWrite
    extract_lets p en sq cq
    rw [if_pos hon, if_pos hdrop]
  · rw [exec_ringBaseWrite n hserves hpause hv]
    simp [ringBaseWrite, hon, hfields]
  · rw [exec_ringCfgWrite n hserves hpause hv]
    simp [ringCfgWrite, hoff, hen, layoutOk_iff.mpr hlayout]
  · rw [exec_ringCfgWrite n hserves hpause hv]
    have hbad : layoutOk s n (field v 4 4) (field v 8 4) = false := by rw [← Bool.not_eq_true, layoutOk_iff]; exact hlayout
    simp [ringCfgWrite, hoff, hen, hbad]

end Sys2Proof.Proofs
end

section
/-! PROOFS. Units in the completion ring: their entries (R78), where they stand (R67, R73), events (R81, R83), and consumption
(R74). -/

namespace Sys2Proof.Machine

/-! ### Entries -/

section Entry

variable (op tag flags status : Nat) (payload : Bytes)

/-- An entry without a bulk region: eight bytes of header, then the payload filled up with zeros (03, Entries). -/
theorem entryBytes_none : entryBytes op tag flags status payload none =
    toLE 2 op ++ (toLE 2 tag ++ (toLE 1 flags ++ (toLE 1 status ++ (toLE 2 payload.length ++ padTo 56 payload)))) := by
  simp [entryBytes]

theorem entryBytes_length : (entryBytes op tag flags status payload none).length = 64 := by
  simp [entryBytes]

theorem fld_entryBytes_op : fld (entryBytes op tag flags status payload none) 0 2 = op % 65536 := by
  rw [entryBytes_none]
  exact fld_append_toLE [] _ 2 op

theorem fld_entryBytes_tag : fld (entryBytes op tag flags status payload none) 2 2 = tag % 65536 := by
  rw [entryBytes_none]
  exact fld_append_toLE (toLE 2 op) _ 2 tag

theorem u8_entryBytes_flags : u8 (entryBytes op tag flags status payload none) 4 = flags % 256 := by
  rw [entryBytes_none, ← List.append_assoc]
  exact fld_append_toLE (toLE 2 op ++ toLE 2 tag) _ 1 flags

theorem fld_entryBytes_len : fld (entryBytes op tag flags status payload none) 6 2 = payload.length % 65536 := by
  rw [entryBytes_none, ← List.append_assoc, ← List.append_assoc, ← List.append_assoc]
  exact fld_append_toLE (toLE 2 op ++ toLE 2 tag ++ toLE 1 flags ++ toLE 1 status) _ 2 payload.length

theorem padTo_take_length {k : Nat} (h : payload.length ≤ k) : (padTo k payload).take payload.length = payload := by
  rw [padTo, List.take_take, Nat.min_eq_left h, List.take_left]

/-- The payload of an entry is read back by its LEN. -/
theorem entryBytes_payload (h : payload.length ≤ 56) :
    ((entryBytes op tag flags status payload none).drop 8).take
      (fld (entryBytes op tag flags status payload none) 6 2) = payload := by
  have hpayload : (entryBytes op tag flags status payload none).drop 8 = padTo 56 payload := by
    rw [entryBytes_none, ← List.append_assoc, ← List.append_assoc, ← List.append_assoc, ← List.append_assoc]
    exact List.drop_left' (by simp)
  rw [fld_entryBytes_len, Nat.mod_eq_of_lt (by omega), hpayload, padTo_take_length payload h]

end Entry

/-! ### Units of entries -/

section Unit

variable (op tag evt st k : Nat) (payload : Bytes)

theorem unitEntries_short (h : payload.length ≤ 56) :
    unitEntries op tag evt st none k payload = [entryBytes op tag evt st payload none] := by
  cases k <;> simp [unitEntries, h]

theorem unitEntries_long (h : ¬ payload.length ≤ 56) : unitEntries op tag evt st none (k + 1) payload =
    entryBytes op tag (evt + 4) st (payload.take 56) none :: unitEntries op tag evt st none k (payload.drop 56) := by
  simp [unitEntries, h]

theorem unitEntries_ne_nil : unitEntries op tag evt st none k payload ≠ [] := by
  cases k with
  | zero => simp [unitEntries]
  | succ k =>
    by_cases h : payload.length ≤ 56
    · simp [unitEntries_short, h]
    · simp [unitEntries_long, h]

theorem unitEntries_length_le : (unitEntries op tag evt st none k payload).length ≤ k + 1 := by
  induction k generalizing payload with
  | zero => simp [unitEntries]
  | succ k ih =>
    by_cases h : payload.length ≤ 56
    · simp [unitEntries_short, h]
    · rw [unitEntries_long op tag evt st k payload h, List.length_cons]
      exact Nat.succ_le_succ (ih _)

/-- Every entry of a unit is an entry of its opcode, tag and status. -/
theorem mem_unitEntries {e : Bytes} (h : e ∈ unitEntries op tag evt st none k payload) :
    ∃ flags p, e = entryBytes op tag flags st p none := by
  induction k generalizing payload with
  | zero => exact ⟨_, _, List.mem_singleton.mp h⟩
  | succ k ih =>
    by_cases hshort : payload.length ≤ 56
    · rw [unitEntries_short op tag evt st _ payload hshort] at h
      exact ⟨_, _, List.mem_singleton.mp h⟩
    · rw [unitEntries_long op tag evt st k payload hshort] at h
      obtain rfl | h := List.mem_cons.mp h
      · exact ⟨_, _, rfl⟩
      · exact ih _ h

/-- MORE is set in each entry of a chain but the last (R78). -/
theorem unitEntries_more {i : Nat} (h : i < (unitEntries op tag 0 st none k payload).length) :
    bit (u8 ((unitEntries op tag 0 st none k payload).getD i []) 4) 2 = true ↔
      i + 1 < (unitEntries op tag 0 st none k payload).length := by
  induction k generalizing payload i with
  | zero =>
    obtain rfl : i = 0 := by simpa [unitEntries] using h
    simp [unitEntries, u8_entryBytes_flags, bit]
  | succ k ih =>
    by_cases hshort : payload.length ≤ 56
    · rw [unitEntries_short op tag 0 st _ payload hshort] at h ⊢
      obtain rfl : i = 0 := by simpa using h
      simp [u8_entryBytes_flags, bit]
    · rw [unitEntries_long op tag 0 st k payload hshort] at h ⊢
      cases i with
      | zero =>
        have hrest := List.length_pos_iff.mpr (unitEntries_ne_nil op tag 0 st k (payload.drop 56))
        simp only [List.getD_cons_zero, u8_entryBytes_flags, List.length_cons, Nat.zero_add, Nat.succ_lt_succ_iff, hrest, iff_true]
        decide
      | succ i =>
        rw [List.length_cons, Nat.succ_lt_succ_iff] at h ⊢
        rw [List.getD_cons_succ]
        exact ih _ h

/-- The payloads of a chain, joined, are the payload of the unit, while eight entries hold it (R78). -/
theorem unitEntries_payload (h : payload.length ≤ 56 * (k + 1)) :
    ((unitEntries op tag evt st none k payload).map fun e => (e.drop 8).take (fld e 6 2)).flatten = payload := by
  induction k generalizing payload with
  | zero => rw [unitEntries_short op tag evt st 0 payload h, List.map_singleton, List.flatten_singleton,
      entryBytes_payload op tag evt st payload h]
  | succ k ih =>
    by_cases hshort : payload.length ≤ 56
    · rw [unitEntries_short op tag evt st _ payload hshort, List.map_singleton, List.flatten_singleton,
        entryBytes_payload op tag evt st payload hshort]
    · have hrest : (payload.drop 56).length ≤ 56 * (k + 1) := by
        rw [List.length_drop]
        omega
      rw [unitEntries_long op tag evt st k payload hshort, List.map_cons, List.flatten_cons, ih _ hrest,
        entryBytes_payload op tag _ st _ (List.length_take_le 56 payload), List.take_append_drop]

end Unit

/-! ### A unit of one entry in the ring -/

/-- What a unit of one entry writes: the slot at the old tail (R67). -/
theorem putUnit_mem_single (s : State) (n : PNum) (event final : Bool) (e : Bytes) :
    (s.putUnit n { event := event, final := final, entries := [e] }).rings.mem =
      Memory.writeN s.rings.mem (slotOff (s.pr n).cqBase (s.pr n).cqDepth (s.pr n).cqTail) e := by
  cases final <;> simp [State.putUnit, State.putEntries, State.modPr, Pair.cqDepth]

theorem deliver_of_room {s : State} {n : PNum} {d : Held} (seq : Nat) (hon : (s.pr n).state = 1) (hheld : (s.pr n).held = [])
    (hroom : d.entries.length + (if d.event then s.reserved n else 0) ≤ s.cqFree n) : s.deliver n d seq = s.putUnit n d := by
  simp [State.deliver, hon, hheld, hroom]

theorem deliver_event_lost {s : State} {n : PNum} {d : Held} (seq : Nat) (hon : (s.pr n).state = 1) (hheld : (s.pr n).held ≠ [])
    (hevent : d.event = true) (hfull : 32 < heldEntries (s.pr n).held + d.entries.length) :
    s.deliver n d seq = s.loseEvent n seq := by
  simp [State.deliver, hon, hheld, hevent, hfull]

/-- A final completion with room: the command leaves the list of commands in flight, and one entry is written (R73, R77). -/
theorem release_of_room {s : State} {n : PNum} {op tag st : Nat} {payload : Bytes} (hon : (s.pr n).state = 1)
    (hheld : (s.pr n).held = []) (hroom : 1 ≤ s.cqFree n) (hlen : payload.length ≤ 56) (hst : st ≠ 1) :
    s.release n op tag st payload none =
      (s.modPr n fun p => { p with inflight := p.inflight.filter fun x => x.tag != tag }).putUnit n
        { final := true, entries := [entryBytes op tag 0 st payload none] } := by
  have hfree : (s.modPr n fun p => { p with inflight := p.inflight.filter fun x => x.tag != tag }).cqFree n = s.cqFree n := by
    simp [State.cqFree, State.modPr, Pair.cqDepth]
  rw [State.release, State.complete, unitEntries_short op tag 0 st 7 payload hlen, deliver_of_room]
  · have hfinal : (st != 1) = true := bne_iff_ne.mpr hst
    rw [hfinal]
  · simpa [State.modPr] using hon
  · simpa [State.modPr] using hheld
  · simpa [hfree] using hroom

/-! ### Events -/

theorem tagHistory_rings (s : State) : s.tagHistory.rings = s.rings := by
  unfold State.tagHistory
  split <;> rfl

theorem tagHistory_flt (s : State) : s.tagHistory.flt = s.flt := by
  unfold State.tagHistory
  split <;> rfl

theorem logPut_rings (s : State) (e : LogEntry) : (s.logPut e).rings = s.rings := by
  unfold State.logPut
  extract_lets
  split
  · rw [tagHistory_rings]
  · rfl

theorem logPut_occ (s : State) (e : LogEntry) : (s.logPut e).flt.occ = s.flt.occ := by
  unfold State.logPut
  extract_lets
  split
  · rw [tagHistory_flt]
  · rfl

theorem latchRec_rings (s : State) (src qual data : Nat) (forced retried : Bool) :
    (s.latchRec src qual data forced retried).rings = s.rings := by
  unfold State.latchRec
  split
  · rfl
  · split
    · rfl
    · extract_lets sev first _ s' s''
      rw [logPut_rings]
      simp only [s'', apply_ite State.rings]
      exact ite_self _

theorem latchRec_latched (s : State) {src : Nat} (qual data : Nat) (forced retried : Bool) (hsrc : reservedSrc src = false)
    (hlt : src < 128) : (s.latchRec src qual data forced retried).latched src = true := by
  have hlisted : ¬ (reservedSrc src || decide (128 ≤ src)) = true := by simp [hsrc, hlt]
  unfold State.latchRec
  rw [if_neg hlisted]
  split
  · obtain ⟨x, hx, hsame⟩ := List.any_eq_true.mp ‹_›
    exact List.any_eq_true.mpr ⟨x, hx, (Bool.and_eq_true_iff.mp hsame).1⟩
  · extract_lets sev first _ s' s''
    have hocc : s''.flt.occ = s.flt.occ ++ [{ src := src, qual := qual, forced := forced }] := by
      simp only [s'']
      split <;> rfl
    rw [State.latched, logPut_occ, hocc]
    simp

/-- A lost event changes the rings by its count and flag alone (R83). -/
theorem loseEvent_rings (s : State) (n : PNum) (seq : Nat) : (s.loseEvent n seq).rings =
    (s.modPr n fun p => { p with evtLost := satInc 16 p.evtLost, evtLostFlag := true }).rings := by
  unfold State.loseEvent
  extract_lets first s'
  split
  · exact latchRec_rings _ 24 n.val seq false false
  · exact latchRec_rings _ 24 n.val seq false false

theorem loseEvent_pr_same (s : State) (n : PNum) (seq : Nat) : (s.loseEvent n seq).pr n =
    { s.pr n with evtLost := satInc 16 (s.pr n).evtLost, evtLostFlag := true } := by
  rw [State.pr, loseEvent_rings]
  exact (pr_setPr _ _ _ _).trans (if_pos rfl)

theorem loseEvent_latched (s : State) (n : PNum) (seq : Nat) : (s.loseEvent n seq).latched 24 = true := by
  have hlatched := latchRec_latched (s.modPr n fun p => { p with evtLost := satInc 16 p.evtLost, evtLostFlag := true })
    n.val seq false false (src := 24) (by decide) (by decide)
  unfold State.loseEvent
  extract_lets first s'
  split
  · exact hlatched
  · exact hlatched

/-- What becomes of a unit (R83, R88): it is discarded, written, lost, or held. -/
theorem deliver_cases (s : State) (n : PNum) (d : Held) (seq : Nat) :
    s.deliver n d seq = s ∨ s.deliver n d seq = s.putUnit n d ∨ s.deliver n d seq = s.loseEvent n seq ∨
      s.deliver n d seq = s.setPr n { s.pr n with held := (s.pr n).held ++ [d] } := by
  simp only [State.deliver]
  split_ifs <;> simp

/-- A unit written, held or lost leaves the event sequence as it is. -/
theorem deliver_evtSeq (s : State) (n : PNum) (d : Held) (seq : Nat) : ((s.deliver n d seq).pr n).evtSeq = (s.pr n).evtSeq := by
  obtain h | h | h | h := deliver_cases s n d seq
  · rw [h]
  · rw [h, putUnit_pr_same]
    rfl
  · rw [h, loseEvent_pr_same]
  · rw [h, pr_setPr, if_pos rfl]

/-- The state in which an event's unit is delivered: the pair's sequence has advanced (R81). -/
def State.sequenced (s : State) (n : PNum) : State := s.setPr n { s.pr n with evtSeq := wrapInc 16 (s.pr n).evtSeq }

theorem sequenced_pr (s : State) (n : PNum) : (s.sequenced n).pr n = { s.pr n with evtSeq := wrapInc 16 (s.pr n).evtSeq } := by
  rw [State.sequenced, pr_setPr, if_pos rfl]

theorem sequenced_cqFree (s : State) (n : PNum) : (s.sequenced n).cqFree n = s.cqFree n := by
  rw [State.cqFree, sequenced_pr]
  rfl

theorem sequenced_reserved (s : State) (n : PNum) : (s.sequenced n).reserved n = s.reserved n := by
  rw [State.reserved, sequenced_pr]
  rfl

/-- An event of one entry on a pair that is on, while firmware runs. -/
theorem emit_eq_deliver {s : State} {n : PNum} (op : Nat) {payload : Bytes} (hruns : s.fwRuns = true) (hon : (s.pr n).state = 1)
    (hlen : payload.length ≤ 56) : s.emit n op payload = (s.sequenced n).deliver n
      { event := true, entries := [entryBytes op (s.pr n).evtSeq 1 0 payload none] } (s.pr n).evtSeq := by
  rw [State.emit, if_pos hruns, ← unitEntries_short op (s.pr n).evtSeq 1 0 7 payload hlen]
  simp [State.emitNow, State.sequenced, hon]

/-! ### Consumption -/

/-- No submission is consumed while no completion slot can be reserved (R74). -/
theorem fetch_of_full {s : State} {n : PNum} (par : List Nat) (h : s.cqFree n = 0) : fetch s n par = s := by
  have hfull : s.cqFree n ≤ s.reserved n := by omega
  simp [fetch, hfull]

theorem parityRetries_clean (s : State) (n : PNum) (l : List Nat) : parityRetries s n [] l = s := by
  induction l with
  | nil => rfl
  | cons i t ih => exact ih

theorem find_clean (l : List Nat) : (l.find? fun i => decide (2 ≤ ([] : List Nat).getD i 0)) = none := by
  simp

/-- Consumption without a parity error is about one pair. -/
theorem fetch_pr (s : State) (n m : PNum) (h : m ≠ n) : (fetch s n []).pr m = s.pr m := by
  have hset (p : Pair) : (s.setPr n p).pr m = s.pr m := (pr_setPr s n m p).trans (if_neg h)
  unfold fetch
  extract_lets p r es e op tag s₁ s₂
  split
  · rfl
  · have hs₂ : s₂.pr m = s.pr m := by
      simp only [s₂, s₁, parityRetries_clean, hset]
    split
    next i hbad =>
      rw [find_clean] at hbad
      cases hbad
    next =>
      split
      · rw [complete_pr _ _ _ _ _ _ _ _ h, hs₂]
      · split
        · rw [complete_pr _ _ _ _ _ _ _ _ h, hs₂]
        · split
          · rw [complete_pr _ _ _ _ _ _ _ _ h, hs₂]
          · exact hs₂

end Sys2Proof.Machine

namespace Sys2Proof.Proofs

open Sys2Proof.Machine

/-- Settles O18, by induction on the room that the chain has left. -/
theorem chainOfEntries : Obligations.ChainOfEntries := by
  intro op tag st payload hlen _ es
  refine ⟨unitEntries_length_le op tag 0 st 7 payload, unitEntries_ne_nil op tag 0 st 7 payload, fun i hi => ?_,
    unitEntries_payload op tag 0 st 7 payload hlen⟩
  have hmem : es.getD i [] ∈ es := by
    rw [List.getD_eq_getElem _ _ hi]
    exact List.getElem_mem hi
  have hmore := unitEntries_more op tag st 7 payload hi
  obtain ⟨flags, p, he⟩ := mem_unitEntries op tag 0 st 7 payload hmem
  refine ⟨?_, ?_, ?_, hmore⟩
  · rw [he, entryBytes_length]
  · rw [he, fld_entryBytes_op]
  · rw [he, fld_entryBytes_tag]

/-- Settles O19: with room and nothing held, the completion is one entry written at the tail. -/
theorem completionInSlot : Obligations.CompletionInSlot := by
  intro s n op tag st payload hwf hon hheld hroom hlen hst t off
  let e := entryBytes op tag 0 st payload none
  let s' := s.modPr n fun p => { p with inflight := p.inflight.filter fun x => x.tag != tag }
  have he : e.length = 64 := entryBytes_length op tag 0 st payload
  have hs' : s'.pr n = { s.pr n with inflight := (s.pr n).inflight.filter fun x => x.tag != tag } :=
    (pr_setPr s n n _).trans (if_pos rfl)
  have ht : t = s'.putUnit n { final := true, entries := [e] } := release_of_room hon hheld hroom hlen hst
  have hpair : t.pr n = (s'.pr n).put { final := true, entries := [e] } := by rw [ht, putUnit_pr_same]
  have hmem : t.rings.mem = Memory.writeN s.rings.mem off e := by
    rw [ht, putUnit_mem_single, hs']
    rfl
  refine ⟨?_, ?_, ?_, fun x hx => ?_, fun a ha => ?_, fun m hm => ?_, ?_⟩
  · rw [hmem, ← he]
    exact Memory.readN_writeN hwf off e
  · rw [hpair, hs']
    rfl
  · rw [hpair, hs']
    rfl
  · rw [hpair, hs'] at hx
    simpa using (List.mem_filter.mp hx).2
  · rw [hmem, Memory.read_writeN hwf, he, if_neg ha]
  · rw [ht, putUnit_pr _ _ _ _ hm]
    exact (pr_setPr s n m _).trans (if_neg hm)
  · exact (complete_rings s' n op tag st payload none).trans rfl

/-- Settles O20: an event takes its number before its unit is delivered, and then the three ways of delivery are those of R83. -/
theorem eventSequence : Obligations.EventSequence := by
  intro s n op payload hruns hon hlen t
  let e := entryBytes op (s.pr n).evtSeq 1 0 payload none
  have ht : t = (s.sequenced n).deliver n { event := true, entries := [e] } (s.pr n).evtSeq := emit_eq_deliver op hruns hon hlen
  have hon' : ((s.sequenced n).pr n).state = 1 := by rw [sequenced_pr, hon]
  refine ⟨?_, fun hheld hroom hwf => ?_, fun hheld hfull => ?_⟩
  · rw [ht, deliver_evtSeq, sequenced_pr]
    rfl
  · have hput : t = (s.sequenced n).putUnit n { event := true, entries := [e] } := by
      rw [ht, deliver_of_room _ hon' (by rw [sequenced_pr, hheld])]
      rw [sequenced_cqFree, sequenced_reserved]
      exact hroom
    rw [hput, putUnit_mem_single, sequenced_pr, ← entryBytes_length op (s.pr n).evtSeq 1 0 payload]
    exact Memory.readN_writeN hwf _ e
  · have hlost : t = (s.sequenced n).loseEvent n (s.pr n).evtSeq := by
      rw [ht, deliver_event_lost _ hon' (by rw [sequenced_pr]; exact hheld) rfl]
      rw [sequenced_pr]
      exact Nat.lt_succ_of_le hfull
    rw [hlost, loseEvent_pr_same, sequenced_pr]
    exact ⟨rfl, rfl, rfl, loseEvent_latched _ n _⟩

/-- Settles O21: a full completion ring leaves no slot to reserve, and a fetch writes its own pair alone. -/
theorem fullRingHoldsSubmissions : Obligations.FullRingHoldsSubmissions := by
  refine ⟨fun n par s hfull => ?_, fun n m s t hm hexec => ?_⟩
  · change execSubmissionFetch n par s = _
    rw [execSubmissionFetch, fetch_of_full par hfull]
  · cases hexec
    exact fetch_pr s n m hm

end Sys2Proof.Proofs
end

section
/-! PROOFS. Queries: an answer as it stands in the state, or one laid into the bulk window (R79, R82, R733). -/

namespace Sys2Proof.Machine

/-! ### Answers -/

/-- The answer `a`, given in state `s`, changes nothing, or lays bytes into the bulk window. -/
def Asks (s : State) (a : Ans) : Prop := a.st = s ∨ ∃ n r l, a.st = s.bulkPut n r l

theorem asks_ok (s : State) (p : Bytes) : Asks s (s.ok p) := .inl rfl

theorem asks_no (s : State) (status : Nat) : Asks s (s.no status) := .inl rfl

theorem asks_bulkPut (s : State) (n : PNum) (r : Nat × Nat) (l p : Bytes) (b : Option (Nat × Nat)) :
    Asks s { st := s.bulkPut n r l, payload := p, bulk := b } := .inr ⟨n, r, l, rfl⟩

theorem asks_ite {s : State} {p : Prop} [Decidable p] {a b : Ans} (ha : Asks s a) (hb : Asks s b) : Asks s (if p then a else b) := by
  split
  · exact ha
  · exact hb

theorem asks_sized {s : State} {a : Ans} (r : Nat × Nat) (n : Nat) (h : Asks s a) : Asks s (s.sized r n a) :=
  asks_ite (asks_no s 0x05) h

theorem Asks.onlyRings {s : State} {a : Ans} (h : Asks s a) : a.st = { s with rings := a.st.rings } := by
  obtain hst | ⟨n, r, l, hst⟩ := h
  · rw [hst]
  · rw [hst]
    rfl

/-! ### Rows -/

/-- A mailbox command that only asks. -/
def IsQuery (s : State) (x : Out) : Prop := ∃ c q fits body, x = mail c q s fits body ∧ Asks s (body s)

theorem isQuery_mail {c : Cmd} {q : Req} {s : State} {fits : Bool} {body : State → Ans} (h : Asks s (body s)) :
    IsQuery s (mail c q s fits body) := ⟨c, q, fits, body, rfl, h⟩

/-- A query is served with its answer, refused by the screening, or waits for firmware; each touches the rings alone. -/
theorem IsQuery.onlyRings {s t : State} (h : IsQuery s (.next t)) : t = { s with rings := t.rings } := by
  obtain ⟨c, q, fits, body, hmail, hbody⟩ := h
  obtain hrings | ⟨-, rfl⟩ := mail_cases hmail.symm
  · exact hrings
  · calc answered c q (body s)
      _ = { (body s).st with rings := (answered c q (body s)).rings } := answered_rings c q (body s)
      _ = { s with rings := (answered c q (body s)).rings } := by rw [hbody.onlyRings]

/-- A query answers a payload as it stands in the state, or lays it into the bulk window, once the region is found large enough and
what it asks for is there. -/
theorem exec_isQuery {c : Instr} (s : State) (hc : c.query = true) : IsQuery s (exec c s) := by
  delta exec
  cases c with
  | sysVersion | sysIdentity | sysPowerGet | outletStatusGet | hlcConfigGet | hlcStatsGet | safeStatusGet | budConfigGet
  | budStatusGet | latConfigGet | metroConfigGet | metroLineGet | energyConfigGet | tamperStatus | billConfigGet | billTimeGet
  | ledgerStatus | dlmsConfigGet | dlmsAssocList | creditConfigGet | voucherStatus | lineConfigGet | netConfigGet
  | nfcConfigGet | nfcTagStatus | panelConfigGet | keyStatus | fwStatus =>
    dsimp only
    exact isQuery_mail (asks_ok _ _)
  | sysSeqQuery | outletConfigGet | hlcStatusGet | protConfigGet | protStatusGet | budOutletGet | metroScaleGet | metroCalRead
  | energyInstant | creditAccountGet | lswChanGet | lswStatusGet | lswBankGet | keyInfo =>
    dsimp only [execSysSeqQuery, execOutletConfigGet, execHlcStatusGet, execProtConfigGet, execProtStatusGet, execBudOutletGet,
      execMetroScaleGet, execMetroCalRead, execEnergyInstant, execCreditAccountGet, execLswChanGet, execLswStatusGet,
      execLswBankGet, execKeyInfo]
    exact isQuery_mail (asks_ok _ _)
  | lineStatusGet | lineStatsGet | netStatusGet | netToutGet | netStats | panelStatusGet =>
    dsimp only [execLineStatusGet, execLineStatsGet, execNetStatusGet, execNetToutGet, execNetStats, execPanelStatusGet]
    exact isQuery_mail (asks_ite (asks_no _ _) (asks_ok _ _))
  | safeConfigRead | latStatusGet | metroTableRead | energyRead | waveList | billCalendarRead | billRegistersGet =>
    dsimp only [execSafeConfigRead, execLatStatusGet, execMetroTableRead, execEnergyRead, execWaveList, execBillCalendarRead,
      execBillRegistersGet]
    exact isQuery_mail (asks_sized _ _ (asks_bulkPut _ _ _ _ _ _))
  | safeLogRead | pqLogRead | ledgerRead | fltLogRead =>
    dsimp only [execSafeLogRead, execPqLogRead, execLedgerRead, execFltLogRead]
    exact isQuery_mail (asks_ite (asks_no _ _) (asks_ite (asks_no _ _) (asks_bulkPut _ _ _ _ _ _)))
  | panelCurveGet | panelStressRead =>
    dsimp only [execPanelCurveGet, execPanelStressRead]
    exact isQuery_mail (asks_ite (asks_no _ _) (asks_sized _ _ (asks_bulkPut _ _ _ _ _ _)))
  | linePeers =>
    dsimp only [execLinePeers]
    exact isQuery_mail (asks_ite (asks_no _ _) (asks_bulkPut _ _ _ _ _ _))
  | nfcTagRead =>
    dsimp only [execNfcTagRead]
    exact isQuery_mail (asks_ite (asks_no _ _)
      (asks_sized _ _ (asks_ite (asks_no _ _) (asks_bulkPut _ _ _ _ _ _))))
  | keyPublicRead =>
    dsimp only [execKeyPublicRead]
    exact isQuery_mail (asks_ite (asks_no _ _) (asks_bulkPut _ _ _ _ _ _))
  | sysLoopback q =>
    dsimp only
    refine isQuery_mail ?_
    cases q.bulk with
    | none => exact asks_ok _ _
    | some r => exact asks_ok _ _
  | billPeriodGet q =>
    dsimp only [execBillPeriodGet]
    refine isQuery_mail (asks_sized _ _ ?_)
    split
    · exact asks_no _ _
    · exact asks_bulkPut _ _ _ _ _ _
  | lineMapGet q =>
    dsimp only [execLineMapGet]
    refine isQuery_mail (asks_ite (asks_no _ _) (asks_sized _ _ ?_))
    extract_lets
    split
    · exact asks_no _ _
    · exact asks_bulkPut _ _ _ _ _ _
  | _ => cases hc

end Sys2Proof.Machine

namespace Sys2Proof.Proofs

open Sys2Proof.Machine

/-- Settles O39: every query is a mailbox command whose meaning keeps all but the rings. -/
theorem queriesOnlyAnswer : Obligations.QueriesOnlyAnswer := fun _ s _ hc hexec => (hexec ▸ exec_isQuery s hc).onlyRings

end Sys2Proof.Proofs
end

section
/-! PROOFS. The bounds of `State.Inv` and the severity floors as a relation between two states that every operation of the model
extends: the rule of a record update, and the operations on rings, collector, outlets and memories that write what the bounds
speak of. -/

namespace Sys2Proof.Machine

/-! ### The relation -/

/-- Each bound that `s₀` keeps, `s` keeps: the parts of `State.Inv`, and the severity floors of R611. And no SSWEN has risen: only the
two rows that drive one high (R117, R119) are outside this relation. -/
structure Kept (s₀ s : State) : Prop where
  rings : RingsOk s₀.rings → RingsOk s.rings
  flt : FltOk s₀.flt → FltOk s.flt
  sev : SevOk s₀.flt.sev → SevOk s.flt.sev
  out : OutOk s₀.out → OutOk s.out
  tag : Memory.wf s₀.store.tagMem = true → Memory.wf s.store.tagMem = true
  panel : Memory.wf s₀.panel.mem = true → Memory.wf s.panel.mem = true
  sswen : ∀ o, (s.o o).sw.sswen = true → (s₀.o o).sw.sswen = true

theorem Kept.refl (s : State) : Kept s s := ⟨id, id, id, id, id, id, fun _ => id⟩

theorem Kept.trans {s₀ s t : State} (h : Kept s₀ s) (h' : Kept s t) : Kept s₀ t where
  rings := h'.rings ∘ h.rings
  flt := h'.flt ∘ h.flt
  sev := h'.sev ∘ h.sev
  out := h'.out ∘ h.out
  tag := h'.tag ∘ h.tag
  panel := h'.panel ∘ h.panel
  sswen o := h.sswen o ∘ h'.sswen o

theorem Kept.inv {s₀ s : State} (h : Kept s₀ s) (h₀ : s₀.Inv) : s.Inv where
  rings := h.rings h₀.rings
  flt := h.flt h₀.flt
  out := h.out h₀.out
  tag := h.tag h₀.tag
  panel := h.panel h₀.panel

/-- The next state of a row, if it answers one, keeps the bounds. -/
def OutKept (s₀ : State) (x : Out) : Prop := ∀ t, x = .next t → Kept s₀ t

variable {s₀ s : State}

theorem outKept_next (h : Kept s₀ s) : OutKept s₀ (.next s) := by
  rintro t ⟨⟩
  exact h

theorem outKept_fault (f : Fault) : OutKept s₀ (.fault f) := by
  rintro t ⟨⟩

theorem kept_ite {p : Prop} [Decidable p] {x y : State} (hx : p → Kept s₀ x) (hy : ¬p → Kept s₀ y) : Kept s₀ (if p then x else y) := by
  split
  · exact hx ‹_›
  · exact hy ‹_›

theorem kept_ans_ite {p : Prop} [Decidable p] {x y : Ans} (hx : p → Kept s₀ x.st) (hy : ¬p → Kept s₀ y.st) :
    Kept s₀ (if p then x else y).st := by
  split
  · exact hx ‹_›
  · exact hy ‹_›

theorem outKept_ite {p : Prop} [Decidable p] {x y : Out} (hx : p → OutKept s₀ x) (hy : ¬p → OutKept s₀ y) :
    OutKept s₀ (if p then x else y) := by
  split
  · exact hx ‹_›
  · exact hy ‹_›

/-- A step that keeps the bounds, taken over a list. -/
theorem kept_foldl {α : Type} {f : State → α → State} (l : List α) (h : Kept s₀ s) (hf : ∀ s a, Kept s₀ s → Kept s₀ (f s a)) :
    Kept s₀ (l.foldl f s) := by
  induction l generalizing s with
  | nil => exact h
  | cons a l ih => exact ih (hf s a h)

theorem kept_foldl_fst {α β : Type} {f : State × β → α → State × β} (l : List α) {x : State × β} (h : Kept s₀ x.1)
    (hf : ∀ x a, Kept s₀ x.1 → Kept s₀ (f x a).1) : Kept s₀ (l.foldl f x).1 := by
  induction l generalizing x with
  | nil => exact h
  | cons a l ih => exact ih (hf x a h)

theorem kept_foldl_snd {α β : Type} {f : β × State → α → β × State} (l : List α) {x : β × State} (h : Kept s₀ x.2)
    (hf : ∀ x a, Kept s₀ x.2 → Kept s₀ (f x a).2) : Kept s₀ (l.foldl f x).2 := by
  induction l generalizing x with
  | nil => exact h
  | cons a l ih => exact ih (hf x a h)

/-- The rule of a record update that leaves the outlets, the pairs and the memories, the log and the severities: every other field, and
the rest of these, may take any value. -/
theorem kept_update {pending started free up fwAct host rings flt tmr clk pwr isl bak cfg store plc bud lat met en bill dl cr line
    net nfc lsw panel key maint fw svc bnw} (h : Kept s₀ s) (hpairs : rings.pairs = s.rings.pairs) (hmem : rings.mem = s.rings.mem)
    (hbulk : rings.bulk = s.rings.bulk) (hlog : flt.log.length = s.flt.log.length) (hsev : flt.sev = s.flt.sev)
    (htag : store.tagMem = s.store.tagMem) (hpanel : panel.mem = s.panel.mem) :
    Kept s₀ { s with
      pending, started, free, up, fwAct, host, rings, flt, tmr, clk, pwr, isl, bak, cfg, store, plc, bud, lat, met, en, bill, dl, cr
      line, net, nfc, lsw, panel, key, maint, fw, svc, bnw } where
  rings h₀ := by simpa only [RingsOk, hpairs, hmem, hbulk] using h.rings h₀
  flt h₀ := by simpa only [FltOk, hlog] using h.flt h₀
  sev h₀ := by simpa only [hsev] using h.sev h₀
  out := h.out
  tag h₀ := by simpa only [htag] using h.tag h₀
  panel h₀ := by simpa only [hpanel] using h.panel h₀
  sswen := h.sswen

/-! ### Ring pairs -/

theorem kept_rings {r : Rings} (h : Kept s₀ s) (hr : RingsOk s.rings → RingsOk r) : Kept s₀ { s with rings := r } where
  rings h₀ := hr (h.rings h₀)
  flt := h.flt
  sev := h.sev
  out := h.out
  tag := h.tag
  panel := h.panel
  sswen := h.sswen

theorem kept_setPr {n : PNum} {p : Pair} (h : Kept s₀ s) (hp : PairOk (s.pr n) → PairOk p) : Kept s₀ (s.setPr n p) := by
  refine kept_rings h fun ⟨hmem, hpairs⟩ => ⟨hmem, fun m => ?_⟩
  change PairOk ((s.setPr n p).pr m)
  rw [pr_setPr]
  split
  · exact hp (hpairs n)
  · exact hpairs m

theorem kept_modPr {n : PNum} {f : Pair → Pair} (h : Kept s₀ s) (hp : PairOk (s.pr n) → PairOk (f (s.pr n))) : Kept s₀ (s.modPr n f) :=
  kept_setPr h hp

theorem kept_putUnit {n : PNum} {d : Held} (h : Kept s₀ s) (hroom : d.entries.length ≤ s.cqFree n) : Kept s₀ (s.putUnit n d) := by
  rw [putUnit_rings]
  refine kept_rings h fun ⟨⟨hmem, hbulk⟩, hpairs⟩ =>
    ⟨⟨putUnit_mem_wf n d hmem, (putUnit_bulk s n d).symm ▸ hbulk⟩, fun m => ?_⟩
  change PairOk ((s.putUnit n d).pr m)
  by_cases hm : m = n
  · subst hm
    rw [putUnit_pr_same]
    exact pairOk_put (hpairs m) hroom
  · rw [putUnit_pr s n m d hm]
    exact hpairs m

/-! ### The fault collector -/

theorem kept_countUp (src : Nat) (h : Kept s₀ s) : Kept s₀ (s.countUp src) := by
  grind [State.countUp, kept_update]

theorem kept_store {x : Store} (h : Kept s₀ s) (htag : Memory.wf s.store.tagMem = true → Memory.wf x.tagMem = true) :
    Kept s₀ { s with store := x } where
  rings := h.rings
  flt := h.flt
  sev := h.sev
  out := h.out
  tag h₀ := htag (h.tag h₀)
  panel := h.panel
  sswen := h.sswen

theorem wf_foldl_of_writeN {α : Type} {f : Memory × Nat → α → Memory × Nat} (hf : ∀ x e, ∃ a b, (f x e).1 = Memory.writeN x.1 a b)
    (l : List α) {x : Memory × Nat} (h : Memory.wf x.1 = true) : Memory.wf (l.foldl f x).1 = true := by
  induction l generalizing x with
  | nil => exact h
  | cons e l ih =>
    obtain ⟨a, b, hx⟩ := hf x e
    exact ih (hx ▸ Memory.writeN_wf h a b)

theorem kept_tagHistory (h : Kept s₀ s) : Kept s₀ s.tagHistory := by
  unfold State.tagHistory
  refine kept_ite (fun _ => h) fun _ => kept_store h fun htag => ?_
  exact wf_foldl_of_writeN (fun x e => ⟨_, _, rfl⟩) _ htag

theorem length_logPut_le {log : List LogEntry} (h : log.length ≤ 64) (e : LogEntry) :
    (if decide (64 ≤ log.length) then log.set (logVictim log) e else log ++ [e]).length ≤ 64 := by
  split
  · rwa [List.length_set]
  · simp_all

theorem kept_logPut (e : LogEntry) (h : Kept s₀ s) : Kept s₀ (s.logPut e) := by
  unfold State.logPut
  extract_lets e full flt store s'
  have hs' : Kept s₀ s' := ⟨h.rings, fun h₀ => length_logPut_le (h.flt h₀) e, h.sev, h.out, h.tag, h.panel, h.sswen⟩
  exact kept_ite (fun _ => kept_tagHistory hs') fun _ => hs'

theorem kept_latchRec (src qual data : Nat) (forced retried : Bool) (h : Kept s₀ s) :
    Kept s₀ (s.latchRec src qual data forced retried) := by
  grind [State.latchRec, State.countUp, kept_update, kept_logPut]

theorem kept_loseEvent (n : PNum) (seq : Nat) (h : Kept s₀ s) : Kept s₀ (s.loseEvent n seq) := by
  have hmod : Kept s₀ (s.modPr n fun p => { p with evtLost := satInc 16 p.evtLost, evtLostFlag := true }) := kept_modPr h id
  grind [State.loseEvent, kept_update, kept_latchRec]

theorem kept_clearOcc (src qual : Nat) (h : Kept s₀ s) : Kept s₀ (s.clearOcc src qual) := by
  grind [State.clearOcc, kept_update]

/-! ### Delivery -/

theorem kept_deliver (n : PNum) (d : Held) (seq : Nat) (h : Kept s₀ s) : Kept s₀ (s.deliver n d seq) := by
  unfold State.deliver
  extract_lets p
  refine kept_ite (fun _ => h) fun _ => kept_ite (fun hfits => kept_putUnit h ?_) fun _ =>
    kept_ite (fun _ => kept_loseEvent n seq h) fun hroom => ?_
  · rw [Bool.and_eq_true, decide_eq_true_eq] at hfits
    omega
  · exact kept_setPr h fun hp => pairOk_hold hp fun hevent => by simpa [hevent] using hroom

theorem kept_emitNow (n : PNum) (op : Nat) (payload : Bytes) (bulk : Option (Nat × Nat)) (h : Kept s₀ s) :
    Kept s₀ (s.emitNow n op payload bulk) := by
  unfold State.emitNow
  extract_lets p
  exact kept_ite (fun _ => h) fun _ => kept_deliver _ _ _ (kept_setPr h id)

theorem kept_emit (n : PNum) (op : Nat) (payload : Bytes) (h : Kept s₀ s) : Kept s₀ (s.emit n op payload) := by
  grind [State.emit, kept_emitNow, kept_update]

theorem kept_complete (n : PNum) (op tag status : Nat) (payload : Bytes) (bulk : Option (Nat × Nat)) (h : Kept s₀ s) :
    Kept s₀ (s.complete n op tag status payload bulk) := kept_deliver _ _ _ h

theorem kept_release (n : PNum) (op tag status : Nat) (payload : Bytes) (bulk : Option (Nat × Nat)) (h : Kept s₀ s) :
    Kept s₀ (s.release n op tag status payload bulk) := kept_complete _ _ _ _ _ _ (kept_modPr h id)

theorem kept_emitAll (l : List Deferred) (h : Kept s₀ s) : Kept s₀ (s.emitAll l) := by
  induction l generalizing s with
  | nil => exact h
  | cons d l ih =>
    rw [State.emitAll]
    apply ih
    split
    · exact kept_emitNow _ _ _ _ h
    · exact kept_release _ _ _ _ _ _ h

theorem kept_flushDeferred (h : Kept s₀ s) : Kept s₀ s.flushDeferred := by
  grind [State.flushDeferred, kept_emitAll, kept_update]

theorem kept_finishWith (n : PNum) (tag status : Nat) (payload : Bytes) (bulk : Option (Nat × Nat)) (h : Kept s₀ s) :
    Kept s₀ (s.finishWith n tag status payload bulk) := by
  grind [State.finishWith, kept_release, kept_update]

theorem kept_finish (n : PNum) (tag status : Nat) (payload : Bytes) (h : Kept s₀ s) : Kept s₀ (s.finish n tag status payload) :=
  kept_finishWith _ _ _ _ _ h

theorem kept_bulkPut (n : PNum) (r : Nat × Nat) (b : Bytes) (h : Kept s₀ s) : Kept s₀ (s.bulkPut n r b) :=
  kept_rings h fun ⟨⟨hmem, hbulk⟩, hpairs⟩ => ⟨⟨hmem, Memory.writeN_wf hbulk ..⟩, hpairs⟩

/-! ### Outlets -/

/-- The outlets replaced: each keeps its rules, and no SSWEN rises. -/
theorem kept_out {v : Vector Outlet 24} (h : Kept s₀ s) (hout : OutOk s₀.out → OutOk s.out → OutOk v)
    (hen : ∀ o : ONum, (v.get o).sw.sswen = true → (s.o o).sw.sswen = true) : Kept s₀ { s with out := v } where
  rings := h.rings
  flt := h.flt
  sev := h.sev
  out h₀ := hout h₀ (h.out h₀)
  tag := h.tag
  panel := h.panel
  sswen o ho := h.sswen o (hen o ho)

theorem kept_setO {o : ONum} {x : Outlet} (h : Kept s₀ s) (hx : OutOk s₀.out → OutletOk (s.o o) → OutletOk x)
    (hen : x.sw.sswen = true → (s.o o).sw.sswen = true) : Kept s₀ (s.setO o x) := by
  refine kept_out h (fun h₀ hout p => ?_) fun p => ?_
  · change OutletOk ((s.setO o x).o p)
    rw [o_setO]
    split
    · exact hx h₀ (hout o)
    · exact hout p
  · change ((s.setO o x).o p).sw.sswen = true → _
    rw [o_setO]
    split
    · next hp => exact hp ▸ hen
    · exact id

theorem get_vmap {α β : Type} {n : Nat} (f : α → β) (v : Vector α n) (i : Fin n) : (vmap f v).get i = f (v.get i) := by
  simp [vmap, Vector.get]
  rfl

theorem get_vmapi {α β : Type} {n : Nat} (f : Nat → α → β) (v : Vector α n) (i : Fin n) : (vmapi f v).get i = f i (v.get i) := by
  simp [vmapi, Vector.get]
  rfl

/-- Every outlet changed by one rule. -/
theorem kept_vmap {f : Outlet → Outlet} (h : Kept s₀ s) (hf : ∀ x, OutletOk x → OutletOk (f x))
    (hen : ∀ x, (f x).sw.sswen = true → x.sw.sswen = true) : Kept s₀ { s with out := vmap f s.out } :=
  kept_out h (fun _ hout o => get_vmap f s.out o ▸ hf _ (hout o)) fun o ho => hen _ (get_vmap f s.out o ▸ ho)

theorem kept_vmapi {f : Nat → Outlet → Outlet} (h : Kept s₀ s) (hf : ∀ i x, OutletOk x → OutletOk (f i x))
    (hen : ∀ i x, (f i x).sw.sswen = true → x.sw.sswen = true) : Kept s₀ { s with out := vmapi f s.out } :=
  kept_out h (fun _ hout o => get_vmapi f s.out o ▸ hf _ _ (hout o)) fun o ho => hen _ _ (get_vmapi f s.out o ▸ ho)

theorem kept_modPilot (o : ONum) (f : Pilot → Pilot) (h : Kept s₀ s) : Kept s₀ (s.modPilot o f) := kept_setO h (fun _ => id) id
theorem kept_modPp (o : ONum) (f : Prox → Prox) (h : Kept s₀ s) : Kept s₀ (s.modPp o f) := kept_setO h (fun _ => id) id
theorem kept_modLock (o : ONum) (f : Lock → Lock) (h : Kept s₀ s) : Kept s₀ (s.modLock o f) := kept_setO h (fun _ => id) id
theorem kept_modSes (o : ONum) (f : Session → Session) (h : Kept s₀ s) : Kept s₀ (s.modSes o f) := kept_setO h (fun _ => id) id
theorem kept_modHlc (o : ONum) (f : Hlc → Hlc) (h : Kept s₀ s) : Kept s₀ (s.modHlc o f) := kept_setO h (fun _ => id) id

/-- The sequencer of an outlet changed: SSWEN goes low, or stays as it was while the phase stays, goes to one that enables SSWEN, or
leaves one in which SSWEN is low. -/
theorem kept_modSw {o : ONum} {f : Switch → Switch} (h : Kept s₀ s)
    (hf : (f (s.o o).sw).sswen = false ∨ ((f (s.o o).sw).sswen = (s.o o).sw.sswen ∧
      ((f (s.o o).sw).phase = (s.o o).sw.phase ∨ (f (s.o o).sw).phase = .enabling ∨ (f (s.o o).sw).phase = .on ∨
        ((s.o o).sw.phase ≠ .enabling ∧ (s.o o).sw.phase ≠ .on)))) :
    Kept s₀ (s.modSw o f) := by
  obtain hlow | ⟨hsame, hphase⟩ := hf
  · have hnot : (f (s.o o).sw).sswen ≠ true := by simp [hlow]
    exact kept_setO h (fun _ _ => ⟨fun hen => absurd hen hnot, fun _ => hlow⟩) fun hen => absurd hen hnot
  · exact kept_setO h (fun _ ⟨hsw, hlatch⟩ => ⟨fun hen => by grind, fun hl => hsame.trans (hlatch hl)⟩) fun hen => hsame ▸ hen

/-- The protection of an outlet changed, with an apex latch that is not set anew. -/
theorem kept_modProt {o : ONum} {f : Protect → Protect} (h : Kept s₀ s)
    (hf : (f (s.o o).prot).latch ≠ 0 → (s.o o).prot.latch ≠ 0) : Kept s₀ (s.modProt o f) :=
  kept_setO h (fun _ ⟨hsw, hlatch⟩ => ⟨hsw, fun hl => hlatch (hf hl)⟩) id

/-! ### Mailbox commands -/

theorem kept_ok (payload : Bytes) (h : Kept s₀ s) : Kept s₀ (s.ok payload).st := h
theorem kept_no (status : Nat) (h : Kept s₀ s) : Kept s₀ (s.no status).st := h
theorem kept_wait (h : Kept s₀ s) : Kept s₀ s.wait.st := h
theorem kept_queued (h : Kept s₀ s) : Kept s₀ s.queued.st := h

theorem kept_sized (r : Nat × Nat) (n : Nat) {a : Ans} (h : Kept s₀ s) (ha : Kept s₀ a.st) : Kept s₀ (s.sized r n a).st :=
  kept_ans_ite (fun _ => h) fun _ => ha

theorem kept_answered (c : Cmd) (q : Req) {a : Ans} (h : Kept s₀ a.st) : Kept s₀ (answered c q a) := by
  unfold answered
  extract_lets st
  have hst : Kept s₀ st := kept_ite (fun _ => kept_modPr h id) fun _ => h
  exact kept_ite (fun _ => hst) fun _ => kept_complete _ _ _ _ _ _ hst

theorem outKept_mail {c : Cmd} {q : Req} {fits : Bool} {body : State → Ans} (h : Kept s₀ s) (hb : Kept s₀ (body s).st) :
    OutKept s₀ (mail c q s fits body) := by
  refine outKept_next (kept_ite (fun _ => h) fun _ => ?_)
  split
  · exact kept_complete _ _ _ _ _ _ h
  · exact kept_answered c q hb

theorem Asks.kept {a : Ans} (ha : Asks s a) (h : Kept s₀ s) : Kept s₀ a.st := by
  obtain hst | ⟨n, r, l, hst⟩ := ha
  · exact hst ▸ h
  · exact hst ▸ kept_bulkPut n r l h

theorem IsQuery.outKept {x : Out} (hx : IsQuery s x) (h : Kept s₀ s) : OutKept s₀ x := by
  obtain ⟨c, q, fits, body, rfl, hbody⟩ := hx
  exact outKept_mail h (hbody.kept h)

theorem kept_flown (c : Cmd) (q : Req) (h : Kept s₀ s) : Kept s₀ (flown c q s) := kept_complete _ _ _ _ _ _ (kept_modPr h id)

theorem kept_ended (c : Cmd) (q : Req) {a : Ans} (h : Kept s₀ a.st) : Kept s₀ (ended c q a) :=
  kept_ite (fun _ => h) fun _ => kept_release _ _ _ _ _ _ h

theorem outKept_mailQ {c : Cmd} {q : Req} {fits : Bool} {body : State → Ans} (h : Kept s₀ s)
    (hb : Kept s₀ (flown c q s) → Kept s₀ (body (flown c q s)).st) : OutKept s₀ (mailQ c q s fits body) := by
  refine outKept_next (kept_ite (fun _ => h) fun _ => ?_)
  split
  · exact kept_complete _ _ _ _ _ _ h
  · exact kept_ended c q (hb (kept_flown c q h))

theorem outKept_lineMail {c : Cmd} {q : Req} {fits : Bool} {body : State → Ans} (h : Kept s₀ s) (hb : Kept s₀ (body s).st) :
    OutKept s₀ (lineMail c q s fits body) := outKept_mail h (kept_ans_ite (fun _ => h) fun _ => hb)

theorem outKept_netMail {c : Cmd} {q : Req} {fits : Bool} {body : State → Ans} (h : Kept s₀ s) (hb : Kept s₀ (body s).st) :
    OutKept s₀ (netMail c q s fits body) := outKept_mail h (kept_ans_ite (fun _ => h) fun _ => hb)

theorem outKept_nfcMail {c : Cmd} {q : Req} {fits : Bool} {body : State → Ans} (h : Kept s₀ s) (hb : Kept s₀ (body s).st) :
    OutKept s₀ (nfcMail c q s fits body) := outKept_mail h (kept_ans_ite (fun _ => h) fun _ => hb)

theorem outKept_panelMail {c : Cmd} {q : Req} {fits : Bool} {body : State → Ans} (h : Kept s₀ s) (hb : Kept s₀ (body s).st) :
    OutKept s₀ (panelMail c q s fits body) := outKept_mail h (kept_ans_ite (fun _ => h) fun _ => hb)

/-! ### Events -/

theorem outKept_onlyIf {c : Bool} {f : State → State} (h : Kept s₀ s) (hf : c = true → Kept s₀ (f s)) : OutKept s₀ (onlyIf c s f) :=
  outKept_next (kept_ite hf fun _ => h)

theorem outKept_apdu {i : Instr} {f : State → State} (h : Kept s₀ s) (hf : Kept s₀ (f s)) : OutKept s₀ (s.apdu i f) := by
  grind [State.apdu, outKept_next, kept_update, modDl_eq]

end Sys2Proof.Machine
end

section
/-! PROOFS. The bounds under the operations that the chapters share. A function that composes others is closed by `grind` from its
definition and the lemmas of what it calls; a function whose own tests the bounds turn on is taken apart by hand. The lemmas stand in
the order of the definitions they speak of, here and in the sections that follow. -/

namespace Sys2Proof.Machine

variable {s₀ s : State}

/-! ### Triplicated fields -/

theorem kept_putCell (c : TmrCell) (h : Kept s₀ s) : Kept s₀ (s.putCell c) := by
  grind [State.putCell, kept_update]

theorem kept_tmrWritten (addr : Nat) (h : Kept s₀ s) : Kept s₀ (s.tmrWritten addr) := by
  grind [State.tmrWritten, kept_update]

theorem kept_tmrWrite (addr mask v : Nat) (h : Kept s₀ s) : Kept s₀ (s.tmrWrite addr mask v) := by
  grind [State.tmrWrite, kept_update, kept_putCell]

/-! ### Operations of State -/

theorem kept_modPairOut (p : Nat) (f : OutPair → OutPair) (h : Kept s₀ s) : Kept s₀ (s.modPairOut p f) := by
  grind [State.modPairOut, kept_update]

theorem kept_draw (h : Kept s₀ s) : Kept s₀ s.draw.2 := by
  grind [State.draw, kept_update]

theorem kept_effect (n : PNum) (tag op : Nat) (h : Kept s₀ s) : Kept s₀ (s.effect n tag op) := by
  grind [State.effect, kept_update]

theorem kept_activateCal (c : CalSet) (h : Kept s₀ s) : Kept s₀ (s.activateCal c) := by
  grind [State.activateCal, kept_update, kept_emit]

theorem kept_latchNow (kind : Nat) (late : Bool) (h : Kept s₀ s) : Kept s₀ (s.latchNow kind late) := by
  grind [State.latchNow, kept_update, kept_activateCal]

theorem kept_trigger (cause : Nat) (h : Kept s₀ s) : Kept s₀ (s.trigger cause) := by
  grind [State.trigger, kept_update]

theorem kept_iolFrom (o : ONum) (was : Nat) (h : Kept s₀ s) : Kept s₀ (s.iolFrom o was) := by
  grind [State.iolFrom, kept_update, kept_modProt]

theorem kept_setPilot (o : ONum) (h : Kept s₀ s) : Kept s₀ (s.setPilot o) := by
  grind [State.setPilot, kept_update, kept_iolFrom, kept_modPilot]

theorem kept_capPilot (o : ONum) (was : Nat) (h : Kept s₀ s) : Kept s₀ (s.capPilot o was) := by
  grind [State.capPilot, kept_update, kept_iolFrom, kept_setPilot, kept_modPilot]

theorem kept_ceilingsFollow (was : State) (l : List ONum) (h : Kept s₀ s) : Kept s₀ (s.ceilingsFollow was l) := by
  induction l generalizing s with
  | nil => exact h
  | cons a l ih =>
    rw [State.ceilingsFollow]
    exact ih (by grind [kept_tmrWritten, kept_capPilot])

theorem kept_outSwitch (o : ONum) (step : Nat) (h : Kept s₀ s) : Kept s₀ (s.outSwitch o step) := by
  grind [State.outSwitch, kept_emit]

theorem kept_lastState (h : Kept s₀ s) : Kept s₀ s.lastState := by
  unfold State.lastState
  refine kept_ite (fun _ => h) fun _ => kept_tagHistory (kept_store h fun htag => ?_)
  exact Memory.writeN_wf htag ..

theorem kept_setSess (o : ONum) (st : SessState) (cause : Nat) (h : Kept s₀ s) : Kept s₀ (s.setSess o st cause) := by
  grind [State.setSess, kept_update, kept_modSes, kept_emit, kept_setPilot, kept_lastState]

theorem kept_markEnd (o : ONum) (cause : Nat) (h : Kept s₀ s) : Kept s₀ (s.markEnd o cause) := by
  grind [State.markEnd, kept_update, kept_modHlc, kept_modSes]

theorem kept_queueSess (o : ONum) (h : Kept s₀ s) : Kept s₀ (s.queueSess o) := by
  grind [State.queueSess, kept_update, kept_modSes, kept_latchNow, kept_trigger]

theorem kept_dropSession (o : ONum) (h : Kept s₀ s) : Kept s₀ (s.dropSession o) := by
  grind [State.dropSession, kept_update, kept_modSes]

theorem kept_askLock (o : ONum) (locked : Bool) (h : Kept s₀ s) : Kept s₀ (s.askLock o locked) := by
  grind [State.askLock, kept_update, kept_modLock]

theorem o_modPairOut (p : Nat) (f : OutPair → OutPair) (o : ONum) : (s.modPairOut p f).o o = s.o o := rfl

theorem kept_startOpening (o : ONum) (cause : Nat) (h : Kept s₀ s) : Kept s₀ (s.startOpening o cause) := by
  unfold State.startOpening
  grind [kept_modSw, kept_modSes, kept_modPairOut, kept_outSwitch, o_modPairOut]

theorem kept_toEnding (o : ONum) (cause : Nat) (h : Kept s₀ s) : Kept s₀ (s.toEnding o cause) := by
  grind [State.toEnding, kept_setSess, kept_markEnd, kept_startOpening, kept_modHlc, kept_askLock, kept_queueSess]

theorem kept_sessTo (o : ONum) (goal : SessState) (cause : Nat) (h : Kept s₀ s) : Kept s₀ (s.sessTo o goal cause) := by
  unfold State.sessTo
  grind [kept_setSess, kept_markEnd, kept_modSes, kept_queueSess, kept_toEnding, kept_dropSession]


theorem kept_fwTo (o : ONum) (goal : SessState) (cause : Nat) (h : Kept s₀ s) : Kept s₀ (s.fwTo o goal cause) := by
  grind [State.fwTo, kept_update, kept_sessTo]

theorem kept_evtPower (new cause : Nat) (h : Kept s₀ s) : Kept s₀ (s.evtPower new cause) := by
  grind [State.evtPower, kept_emit]

theorem kept_evtDomain (old cause : Nat) (h : Kept s₀ s) : Kept s₀ (s.evtDomain old cause) := by
  grind [State.evtDomain, kept_emit]

theorem kept_wake (cause : Nat) (h : Kept s₀ s) : Kept s₀ (s.wake cause) := by
  grind [State.wake, kept_update, kept_evtPower, kept_evtDomain]

theorem kept_openList (cause : Nat) (l : List ONum) (h : Kept s₀ s) : Kept s₀ (s.openList cause l) := by
  induction l generalizing s with
  | nil => exact h
  | cons a l ih =>
    rw [State.openList]
    exact ih (by grind [kept_startOpening])

theorem kept_outletFault (src qual : Nat) (h : Kept s₀ s) : Kept s₀ (s.outletFault src qual) := by
  grind [State.outletFault, kept_startOpening, kept_fwTo]

theorem kept_openGates (l : List Nat) (h : Kept s₀ s) : Kept s₀ (s.openGates l) := by
  grind [State.openGates, kept_update, kept_foldl]

theorem kept_maintEnd (cause : Nat) (p : MaAct → Bool) (h : Kept s₀ s) : Kept s₀ (s.maintEnd cause p) := by
  grind [State.maintEnd, kept_update]

theorem kept_maintFault (qual : Nat) (h : Kept s₀ s) : Kept s₀ (s.maintFault qual) := by
  grind [State.maintFault, kept_maintEnd]

theorem kept_react (src qual sev : Nat) (h : Kept s₀ s) : Kept s₀ (s.react src qual sev) := by
  grind [State.react, kept_maintFault, kept_outletFault, kept_openList, kept_wake]

theorem kept_reactForced (sev : Nat) (h : Kept s₀ s) : Kept s₀ (s.reactForced sev) := by
  grind [State.reactForced, kept_openList, kept_wake]

theorem kept_raiseWith (src qual data : Nat) (forced retried : Bool) (h : Kept s₀ s) :
    Kept s₀ (s.raiseWith src qual data forced retried) := by
  grind [State.raiseWith, kept_latchRec, kept_reactForced, kept_react, kept_emit]

theorem kept_raise (src qual data : Nat) (h : Kept s₀ s) : Kept s₀ (s.raise src qual data) := by
  grind [State.raise, kept_raiseWith]

theorem kept_raiseRetried (src qual data : Nat) (h : Kept s₀ s) : Kept s₀ (s.raiseRetried src qual data) := by
  grind [State.raiseRetried, kept_raiseWith]

theorem kept_rowOf (src : Nat) (o : ONum) (h : Kept s₀ s) : Kept s₀ (s.rowOf src o) := by
  grind [State.rowOf, kept_outletFault]

theorem kept_raiseFor (src : Nat) (o : ONum) (data : Nat) (h : Kept s₀ s) : Kept s₀ (s.raiseFor src o data) := by
  grind [State.raiseFor, kept_rowOf, kept_raise]

theorem kept_transient (src qual data : Nat) (h : Kept s₀ s) : Kept s₀ (s.transient src qual data) := by
  grind [State.transient, kept_logPut, kept_countUp, kept_emit]

/-! ### Accounts -/

theorem kept_setAcct (a : Nat) (x : Account) (h : Kept s₀ s) : Kept s₀ (s.setAcct a x) := by
  grind [State.setAcct, kept_update]

theorem kept_askEmergency (a : Nat) (h : Kept s₀ s) : Kept s₀ (s.askEmergency a) := by
  grind [State.askEmergency, kept_update, kept_trigger]

/-! ### Captures -/

theorem kept_modEn (f : Energy → Energy) (h : Kept s₀ s) : Kept s₀ (s.modEn f) := by
  grind [State.modEn, kept_update]

theorem kept_waveTrigger (trig outlet : Nat) (h : Kept s₀ s) : Kept s₀ (s.waveTrigger trig outlet) := by
  grind [State.waveTrigger, kept_update, kept_modEn]

theorem kept_waveIf (trig outlet : Nat) (h : Kept s₀ s) : Kept s₀ (s.waveIf trig outlet) := by
  grind [State.waveIf, kept_waveTrigger]

theorem kept_tamperRec (kind st : Nat) (idx src : Nat) (h : Kept s₀ s) : Kept s₀ (s.tamperRec kind st idx src) := by
  grind [State.tamperRec, kept_update]

theorem kept_evtTamper (kind st : Nat) (idx src : Nat) (value : Int) (h : Kept s₀ s) :
    Kept s₀ (s.evtTamper kind st idx src value) := by
  grind [State.evtTamper, kept_emit]

theorem kept_tamperFound (kind idx : Nat) (value : Int) (h : Kept s₀ s) : Kept s₀ (s.tamperFound kind idx value) := by
  grind [State.tamperFound, kept_update, kept_tamperRec, kept_evtTamper]

theorem kept_tamperClear (src : Nat) (k : Nat × Nat) (h : Kept s₀ s) : Kept s₀ (s.tamperClear src k) := by
  grind [State.tamperClear, kept_update, kept_evtTamper, kept_tamperRec]

theorem kept_takeCovers (h : Kept s₀ s) : Kept s₀ s.takeCovers := by
  grind [State.takeCovers, kept_update, kept_foldl, kept_tamperFound, kept_raise]

/-! ### Credit operations -/

theorem kept_credit (a : Nat) (amount : Int) (h : Kept s₀ s) : Kept s₀ (s.credit a amount) := by
  grind [State.credit, kept_setAcct]

theorem kept_applyCredit (op : CreditOp) (h : Kept s₀ s) : Kept s₀ (s.applyCredit op).1 := by
  unfold State.applyCredit
  grind [kept_update, kept_setAcct, kept_credit, kept_foldl, kept_tamperClear, kept_emit]

theorem kept_evtCredit (a old new : Nat) (balance : Int) (h : Kept s₀ s) : Kept s₀ (s.evtCredit a old new balance) := by
  grind [State.evtCredit, kept_emit]

theorem kept_followCredit (a : Nat) (balance : Int) (h : Kept s₀ s) : Kept s₀ (s.followCredit a balance) := by
  grind [State.followCredit, kept_update, kept_evtCredit]

theorem kept_followAll (h : Kept s₀ s) : Kept s₀ s.followAll := by
  grind [State.followAll, kept_foldl, kept_followCredit]

/-! ### Line operations -/

theorem kept_modLine (f : Line → Line) (h : Kept s₀ s) : Kept s₀ (s.modLine f) := by
  grind [State.modLine, kept_update]

theorem kept_lineEnq (f : LineTx) (h : Kept s₀ s) : Kept s₀ (s.lineEnq f) := by
  grind [State.lineEnq, kept_modLine]

theorem kept_lineDlms (peer : Nat) (apdu : Bytes) (h : Kept s₀ s) : Kept s₀ (s.lineDlms peer apdu) := by
  grind [State.lineDlms, kept_lineEnq]

/-! ### DLMS operations -/

theorem kept_modDl (f : Dlms → Dlms) (h : Kept s₀ s) : Kept s₀ (s.modDl f) := by
  grind [State.modDl, kept_update]

theorem kept_tunnelEnd (channel : Nat) (b : Bytes) (h : Kept s₀ s) : Kept s₀ (s.tunnelEnd channel b) := by
  grind [State.tunnelEnd, kept_finishWith, kept_bulkPut, kept_modDl]

theorem kept_carry (client server : Nat) (transport channel : Nat) (apdu : Bytes) (h : Kept s₀ s) :
    Kept s₀ (s.carry client server transport channel apdu) := by
  grind [State.carry, kept_lineDlms, kept_tunnelEnd]

theorem kept_sendApdu (client server : Nat) (transport channel : Nat) (apdu : Bytes) (h : Kept s₀ s) :
    Kept s₀ (s.sendApdu client server transport channel apdu) := by
  grind [State.sendApdu, kept_update, kept_modDl, kept_carry]

theorem kept_respondAll (client server : Nat) (transport channel : Nat) (l : List (Nat × List Int)) (h : Kept s₀ s) :
    Kept s₀ (s.respondAll client server transport channel l) := by
  grind [State.respondAll, kept_sendApdu, kept_modDl]

theorem kept_respond (client server : Nat) (transport channel result : Nat) (vals : List Int) (h : Kept s₀ s) :
    Kept s₀ (s.respond client server transport channel result vals) := by
  grind [State.respond, kept_respondAll]

theorem kept_sendReply (r : DlReply) (h : Kept s₀ s) : Kept s₀ (s.sendReply r) := by
  grind [State.sendReply, kept_respondAll]

theorem kept_replyAfter (n : Nat) (r : DlReply) (h : Kept s₀ s) : Kept s₀ (s.replyAfter n r) := by
  grind [State.replyAfter, kept_update, kept_sendReply]

/-! ### Key operations -/

theorem kept_setSlot (n : Nat) (x : Slot) (h : Kept s₀ s) : Kept s₀ (s.setSlot n x) := by
  grind [State.setSlot, kept_update]

end Sys2Proof.Machine
end

section
/-! PROOFS. The bounds under the sequencers of the outlets, metrology and energy (05, 09, 10). -/

namespace Sys2Proof.Machine

variable {s₀ s : State}

/-! ### Sequencers -/

theorem kept_modSin (n : Nat) (f : Sin → Sin) (h : Kept s₀ s) : Kept s₀ (s.modSin n f) := by
  grind [State.modSin, kept_update]

theorem kept_modSite (j : Nat) (f : Site → Site) (h : Kept s₀ s) : Kept s₀ (s.modSite j f) := by
  grind [State.modSite, kept_update]

theorem kept_evtSafe (fn src : Nat) (st outs : Nat) (h : Kept s₀ s) : Kept s₀ (s.evtSafe fn src st outs) := by
  grind [State.evtSafe, kept_emit]

theorem kept_sfDemand (fn src outs : Nat) (h : Kept s₀ s) : Kept s₀ (s.sfDemand fn src outs) := by
  grind [State.sfDemand, kept_update, kept_evtSafe]

theorem kept_sfEnd (fn src : Nat) (h : Kept s₀ s) : Kept s₀ (s.sfEnd fn src) := by
  grind [State.sfEnd, kept_update, kept_evtSafe]

theorem kept_endSessions (cause : Nat) (l : List ONum) (h : Kept s₀ s) : Kept s₀ (s.endSessions cause l) := by
  induction l generalizing s with
  | nil => exact h
  | cons a l ih =>
    rw [State.endSessions]
    exact ih (by grind [kept_fwTo])

theorem kept_openBus (j : Nat) (ends : Bool) (h : Kept s₀ s) : Kept s₀ (s.openBus j ends) := by
  grind [State.openBus, kept_openList, kept_modSite, kept_endSessions]

theorem kept_finishTags (status : Nat) (l : List Nat) (h : Kept s₀ s) : Kept s₀ (s.finishTags status l) := by
  induction l generalizing s with
  | nil => exact h
  | cons a l ih =>
    rw [State.finishTags]
    exact ih (by grind [kept_finish])

theorem kept_cutOff (j : Nat) (h : Kept s₀ s) : Kept s₀ (s.cutOff j) := by
  grind [State.cutOff, kept_finishTags, kept_modSite]

theorem kept_weld (o : ONum) (phases : Nat) (h : Kept s₀ s) : Kept s₀ (s.weld o phases) := by
  unfold State.weld
  grind [kept_outSwitch, kept_raiseFor, kept_cutOff, kept_sfDemand, kept_openBus]

theorem kept_actOn115 (o : ONum) (h : Kept s₀ s) : Kept s₀ (s.actOn115 o) := by
  grind [State.actOn115, kept_startOpening]

theorem phase_of_mayClose {o : ONum} (h : s.mayClose o = true) : (s.o o).sw.phase = .off := by
  grind [State.mayClose]

/-- A contactor closes from the phase in which SSWEN is low. -/
theorem kept_close (o : ONum) (h : Kept s₀ s) (hoff : (s.o o).sw.phase = .off) : Kept s₀ (s.close o) := by
  grind [State.close, kept_modPairOut, o_modPairOut, kept_modSw, kept_outSwitch, kept_setSess, kept_startOpening]

theorem kept_pairOff (p : Nat) (h : Kept s₀ s) : Kept s₀ (s.pairOff p) := by
  grind [State.pairOff, kept_modPairOut]

theorem kept_tripAdd (o : ONum) (code : Nat) (value : Int) (h : Kept s₀ s) : Kept s₀ (s.tripAdd o code value) := by
  grind [State.tripAdd, kept_modProt]

theorem kept_tripReport (o : ONum) (h : Kept s₀ s) : Kept s₀ (s.tripReport o) := by
  grind [State.tripReport, kept_emit, kept_modProt]

theorem kept_trip (o : ONum) (src code : Nat) (value : Int) (h : Kept s₀ s) : Kept s₀ (s.trip o src code value) := by
  unfold State.trip
  extract_lets outs known s1 s2 s3 s4
  have h1 : Kept s₀ s1 := kept_ite (fun _ => h) fun _ => kept_waveIf _ _ h
  have h3 : Kept s₀ s3 := kept_raiseFor _ _ _ (kept_startOpening _ _ (kept_tripAdd _ _ _ h1))
  have h4 : Kept s₀ s4 := kept_ite (fun _ => kept_sfDemand _ _ _ h3) fun _ => h3
  exact kept_ite (fun _ => kept_tripReport _ h4) fun _ => h4

theorem outKept_execPilotPeriod (o : ONum) (pos neg : List Int) (h : Kept s₀ s) : OutKept s₀ (execPilotPeriod o pos neg s) := by
  grind [execPilotPeriod, outKept_onlyIf, kept_modPilot]

theorem outKept_execPilotLevel (o : ONum) (h : Kept s₀ s) : OutKept s₀ (execPilotLevel o s) := by
  grind [execPilotLevel, outKept_onlyIf, kept_raise, kept_actOn115, kept_modPilot]

theorem outKept_execPilotDiode (o : ONum) (h : Kept s₀ s) : OutKept s₀ (execPilotDiode o s) := by
  grind [execPilotDiode, outKept_onlyIf, kept_raise, kept_actOn115, kept_modPilot]

theorem outKept_execPpSample (o : ONum) (ohm : Nat) (h : Kept s₀ s) : OutKept s₀ (execPpSample o ohm s) := by
  grind [execPpSample, outKept_onlyIf, kept_modPp]

theorem outKept_execMirrorContactChange (p : Nat) (closed : Bool) (h : Kept s₀ s) :
    OutKept s₀ (execMirrorContactChange p closed s) := by
  grind [execMirrorContactChange, kept_modSw, kept_actOn115, kept_startOpening, kept_modSite, outKept_next]

theorem outKept_execClosingStart (o : ONum) (h : Kept s₀ s) : OutKept s₀ (execClosingStart o s) :=
  outKept_onlyIf h fun hgo => kept_close o h (phase_of_mayClose (Bool.and_eq_true_iff.mp hgo).2)

theorem outKept_execClosingTimeout (o : ONum) (h : Kept s₀ s) : OutKept s₀ (execClosingTimeout o s) := by
  grind [execClosingTimeout, outKept_onlyIf, kept_modSw, kept_startOpening, kept_raise]

theorem outKept_execSswReadyCheck (o : ONum) (ready : Bool) (h : Kept s₀ s) : OutKept s₀ (execSswReadyCheck o ready s) := by
  grind [execSswReadyCheck, outKept_onlyIf, kept_outSwitch, kept_modSw, kept_actOn115, kept_transient, kept_rowOf,
    kept_raiseRetried, kept_startOpening, kept_tripAdd]

theorem outKept_execOpeningStart (o : ONum) (cause : Nat) (h : Kept s₀ s) : OutKept s₀ (execOpeningStart o cause s) := by
  grind [execOpeningStart, outKept_onlyIf, kept_startOpening]

/-- A contactor is released after the opening that has put SSWEN low. -/
theorem kept_releaseContactor (o : ONum) (h : Kept s₀ s) (hopening : (s.o o).sw.phase = .opening) :
    Kept s₀ (s.releaseContactor o) := by
  grind [State.releaseContactor, State.pairOff, kept_modPairOut, o_modPairOut, kept_modSw, kept_outSwitch, kept_queueSess,
    kept_raiseFor]

theorem outKept_execContactorRelease (o : ONum) (h : Kept s₀ s) : OutKept s₀ (execContactorRelease o s) := by
  grind [execContactorRelease, outKept_onlyIf, kept_releaseContactor]

theorem kept_judgeWeld (o : ONum) (h : Kept s₀ s) : Kept s₀ (s.judgeWeld o) := by
  grind [State.judgeWeld, kept_modSw, kept_weld]

theorem kept_presenceSeen (o : ONum) (phases : Nat) (h : Kept s₀ s) : Kept s₀ (s.presenceSeen o phases) := by
  grind [State.presenceSeen, kept_judgeWeld, kept_modSw]

theorem kept_weldTick (l : List ONum) (h : Kept s₀ s) : Kept s₀ (s.weldTick l) := by
  induction l generalizing s with
  | nil => exact h
  | cons a l ih =>
    rw [State.weldTick]
    exact ih (by grind [kept_judgeWeld])

theorem outKept_execPresenceDetect (o : ONum) (phases : Nat) (h : Kept s₀ s) : OutKept s₀ (execPresenceDetect o phases s) := by
  grind [execPresenceDetect, kept_presenceSeen, outKept_next]

theorem outKept_execDeferredOpening (o : ONum) (h : Kept s₀ s) : OutKept s₀ (execDeferredOpening o s) := by
  grind [execDeferredOpening, outKept_onlyIf, kept_startOpening]

/-! ### Metrology -/

theorem kept_modCh (c : Nat) (f : ChanRun → ChanRun) (h : Kept s₀ s) : Kept s₀ (s.modCh c f) := by
  grind [State.modCh, kept_update]

theorem kept_modMet (f : Metro → Metro) (h : Kept s₀ s) : Kept s₀ (s.modMet f) := by
  grind [State.modMet, kept_update]

theorem kept_clip (c : Nat) (h : Kept s₀ s) : Kept s₀ (s.clip c) := by
  grind [State.clip, kept_raise, kept_modCh]

theorem kept_visitRestart (h : Kept s₀ s) : Kept s₀ s.visitRestart := by
  grind [State.visitRestart, kept_modMet, kept_emit]

theorem kept_switchGain (c : Nat) (hi : Bool) (h : Kept s₀ s) : Kept s₀ (s.switchGain c hi) := by
  grind [State.switchGain, kept_modCh, kept_visitRestart]

theorem kept_overload (c : Nat) (h : Kept s₀ s) : Kept s₀ (s.overload c) := by
  grind [State.overload, kept_switchGain, kept_modCh]

theorem outKept_execGainDecision (c : Nat) (h : Kept s₀ s) : OutKept s₀ (execGainDecision c s) := by
  grind [execGainDecision, outKept_onlyIf, kept_modCh]

theorem outKept_execGainSwitch (c : Nat) (h : Kept s₀ s) : OutKept s₀ (execGainSwitch c s) := by
  grind [execGainSwitch, outKept_onlyIf, kept_switchGain]

theorem kept_evtLine (ev : Nat) (h : Kept s₀ s) : Kept s₀ (s.evtLine ev) := by
  grind [State.evtLine, kept_emit]

theorem kept_refCrossing (h : Kept s₀ s) : Kept s₀ s.refCrossing := by
  grind [State.refCrossing, kept_update, kept_modMet]

theorem kept_refValid (period : Nat) (h : Kept s₀ s) : Kept s₀ (s.refValid period) := by
  grind [State.refValid, kept_update, kept_modMet, kept_foldl, kept_refCrossing, kept_evtLine]

theorem kept_synthCross (h : Kept s₀ s) : Kept s₀ s.synthCross := by
  grind [State.synthCross, kept_modMet, kept_refCrossing]

theorem kept_zeroCross (c period : Nat) (h : Kept s₀ s) : Kept s₀ (s.zeroCross c period) := by
  grind [State.zeroCross, kept_modMet, kept_refValid, kept_evtLine, kept_synthCross]

theorem outKept_execReferenceLost (h : Kept s₀ s) : OutKept s₀ (execReferenceLost s) := by
  grind [execReferenceLost, outKept_onlyIf, kept_evtLine, kept_modMet, kept_raise]

theorem kept_evtTemp (k st : Nat) (h : Kept s₀ s) : Kept s₀ (s.evtTemp k st) := by
  grind [State.evtTemp, kept_emit]

theorem kept_setTemps (gs : List Nat) (t : Int) (h : Kept s₀ s) : Kept s₀ (s.setTemps gs t) := by
  grind [State.setTemps, kept_modMet]

theorem kept_setNtc (k : Nat) (x : Ntc) (h : Kept s₀ s) : Kept s₀ (s.setNtc k x) := by
  grind [State.setNtc, kept_modMet]

theorem kept_readNtc (k r : Nat) (die : Int) (h : Kept s₀ s) : Kept s₀ (s.readNtc k r die) := by
  grind [State.readNtc, kept_setNtc, kept_setTemps, kept_evtTemp, kept_raise]

theorem outKept_execTempUpdate (ntc : List Nat) (die10 : Int) (h : Kept s₀ s) : OutKept s₀ (execTempUpdate ntc die10 s) := by
  grind [execTempUpdate, outKept_onlyIf, kept_foldl, kept_readNtc, kept_modMet]

theorem outKept_execNtcRestore (k : Nat) (h : Kept s₀ s) : OutKept s₀ (execNtcRestore k s) := by
  grind [execNtcRestore, outKept_onlyIf, kept_evtTemp, kept_setTemps, kept_setNtc]

theorem kept_measureOffset (c g : Nat) (first second : Int) (h : Kept s₀ s) : Kept s₀ (s.measureOffset c g first second) := by
  grind [State.measureOffset, kept_modCh, kept_transient, kept_raiseRetried]

theorem outKept_execOffsetRemeasure (o : ONum) (offs : List Int) (h : Kept s₀ s) : OutKept s₀ (execOffsetRemeasure o offs s) := by
  grind [execOffsetRemeasure, outKept_onlyIf, kept_foldl, kept_measureOffset]

theorem outKept_execSelfcalVisit (h : Kept s₀ s) : OutKept s₀ (execSelfcalVisit s) := by
  grind [execSelfcalVisit, outKept_onlyIf, kept_modMet]

theorem kept_visitChan (c : Nat) (resp delay : Int) (h : Kept s₀ s) : Kept s₀ (s.visitChan c resp delay) := by
  grind [State.visitChan, kept_modCh, kept_transient, kept_raiseRetried]

theorem kept_evtSelfcal (g result c : Nat) (h : Kept s₀ s) : Kept s₀ (s.evtSelfcal g result c) := by
  grind [State.evtSelfcal, kept_emit]

theorem kept_visitEnded (resp delay : List Int) (h : Kept s₀ s) : Kept s₀ (s.visitEnded resp delay) := by
  unfold State.visitEnded
  grind [kept_modMet, kept_foldl, kept_visitChan, kept_evtSelfcal]

theorem outKept_execSelfcalVisitEnd (resp delay : List Int) (h : Kept s₀ s) : OutKept s₀ (execSelfcalVisitEnd resp delay s) := by
  grind [execSelfcalVisitEnd, outKept_onlyIf, kept_visitEnded]

theorem kept_abandonVisit (h : Kept s₀ s) : Kept s₀ s.abandonVisit := by
  grind [State.abandonVisit, kept_emit, kept_modMet]

theorem outKept_execCalCommitDone (ok : Bool) (h : Kept s₀ s) : OutKept s₀ (execCalCommitDone ok s) := by
  unfold execCalCommitDone
  grind [kept_update, kept_modMet, kept_effect, kept_finish, outKept_next]

theorem kept_writeCal (f : CalSet → CalSet) (h : Kept s₀ s) : Kept s₀ (s.writeCal f).st := by
  grind [State.writeCal, kept_no, kept_ok, kept_modMet]

theorem outKept_execMetroConfigSet (q : Req) (h : Kept s₀ s) : OutKept s₀ (execMetroConfigSet q s) := by
  grind [execMetroConfigSet, kept_update, outKept_mail, kept_modMet, kept_abandonVisit, kept_ok, kept_effect]

theorem outKept_execMetroScaleSet (q : Req) (h : Kept s₀ s) : OutKept s₀ (execMetroScaleSet q s) := by
  grind [execMetroScaleSet, outKept_mail, kept_writeCal]

theorem outKept_execMetroCalWrite (q : Req) (h : Kept s₀ s) : OutKept s₀ (execMetroCalWrite q s) := by
  grind [execMetroCalWrite, outKept_mail, kept_writeCal]

theorem outKept_execMetroTableWrite (q : Req) (h : Kept s₀ s) : OutKept s₀ (execMetroTableWrite q s) := by
  grind [execMetroTableWrite, outKept_mail, kept_sized, kept_no, kept_writeCal]

theorem outKept_execMetroCalDigest (q : Req) (h : Kept s₀ s) : OutKept s₀ (execMetroCalDigest q s) := by
  grind [execMetroCalDigest, outKept_mail, kept_ok, kept_modMet]

theorem outKept_execMetroCalCommit (q : Req) (h : Kept s₀ s) : OutKept s₀ (execMetroCalCommit q s) := by
  grind [execMetroCalCommit, outKept_mail, kept_no, kept_queued, kept_modMet]

theorem outKept_execMetroCalRevert (q : Req) (h : Kept s₀ s) : OutKept s₀ (execMetroCalRevert q s) := by
  grind [execMetroCalRevert, outKept_mail, kept_writeCal]

theorem outKept_execMetroChStatus (q : Req) (h : Kept s₀ s) : OutKept s₀ (execMetroChStatus q s) := by
  grind [execMetroChStatus, outKept_mail, kept_ok, kept_modCh]

theorem outKept_execMetroRaw (q : Req) (h : Kept s₀ s) : OutKept s₀ (execMetroRaw q s) := by
  grind [execMetroRaw, outKept_mail, kept_sized, kept_wait, kept_modMet]

/-! ### Energy -/

theorem kept_endReverse (l : List ONum) (h : Kept s₀ s) : Kept s₀ (s.endReverse l) := by
  induction l generalizing s with
  | nil => exact h
  | cons a l ih =>
    rw [State.endReverse]
    exact ih (by grind [kept_modEn, kept_evtTamper])

theorem kept_rawSample (y : List Int) (h : Kept s₀ s) : Kept s₀ (s.rawSample y) := by
  grind [State.rawSample, kept_bulkPut, kept_finishWith, kept_modMet]

theorem kept_latchAt (kind : Nat) (h : Kept s₀ s) : Kept s₀ (s.latchAt kind) := by
  grind [State.latchAt, kept_update, kept_latchNow, kept_modEn, kept_raise]

theorem kept_neutralRuns (h : Kept s₀ s) : Kept s₀ s.neutralRuns := by
  grind [State.neutralRuns, kept_modEn]

theorem kept_commandLatch (h : Kept s₀ s) : Kept s₀ s.commandLatch := by
  grind [State.commandLatch, kept_latchAt, kept_modEn, kept_foldl, kept_finish]

theorem kept_sampleEnergy (ns : Nat) (h : Kept s₀ s) : Kept s₀ (s.sampleEnergy ns) := by
  grind [State.sampleEnergy, kept_modEn]

theorem kept_sampled (x : List Int) (lfxo : Nat) (h : Kept s₀ s) : Kept s₀ (s.sampled x lfxo) := by
  unfold State.sampled
  extract_lets ns tops cut s1 s2 y s3 s4 s5
  have h4 : Kept s₀ s4 := kept_neutralRuns (kept_sampleEnergy _ (kept_modEn _ (kept_modMet _ (kept_modEn _ h))))
  have h5 : Kept s₀ s5 := kept_foldl _ (kept_foldl _ h4 fun s c => kept_overload (s := s) c) fun s c => kept_clip (s := s) c
  exact kept_endReverse _ (kept_commandLatch (kept_rawSample _ h5))

theorem outKept_execMetroSample (l : List Int) (lfxo : Nat) (h : Kept s₀ s) : OutKept s₀ (execMetroSample l lfxo s) := by
  grind [execMetroSample, outKept_onlyIf, kept_sampled]

theorem outKept_execDirectionChange (o : ONum) (h : Kept s₀ s) : OutKept s₀ (execDirectionChange o s) := by
  grind [execDirectionChange, outKept_onlyIf, kept_modEn, kept_waveIf, kept_emit]

theorem outKept_execPeriodicLatch (h : Kept s₀ s) : OutKept s₀ (execPeriodicLatch s) := by
  grind [execPeriodicLatch, outKept_onlyIf, kept_latchAt]

theorem outKept_execBoundaryLatch (h : Kept s₀ s) : OutKept s₀ (execBoundaryLatch s) := by
  grind [execBoundaryLatch, outKept_onlyIf, kept_latchAt]

theorem kept_evtPq (st : Nat) (r : PqRec) (h : Kept s₀ s) : Kept s₀ (s.evtPq st r) := by
  grind [State.evtPq, kept_emit]

theorem kept_pqStore (r : PqRec) (h : Kept s₀ s) : Kept s₀ (s.pqStore r) := by
  grind [State.pqStore, kept_update, kept_evtPq]

theorem kept_pqHalf (bus : Nat) (rms : List Nat) (low : Bool) (h : Kept s₀ s) : Kept s₀ (s.pqHalf bus rms low) := by
  grind [State.pqHalf, kept_waveIf, kept_evtPq, kept_modEn, kept_pqStore]

theorem outKept_execHalfCyclePq (bus : Nat) (h : Kept s₀ s) : OutKept s₀ (execHalfCyclePq bus s) := by
  grind [execHalfCyclePq, outKept_onlyIf, kept_modEn, kept_pqHalf]

theorem outKept_execCaptureCut (h : Kept s₀ s) : OutKept s₀ (execCaptureCut s) := by
  grind [execCaptureCut, kept_update, outKept_onlyIf, kept_modEn, kept_emit, outKept_next]

theorem outKept_execWaveChunkSend (h : Kept s₀ s) : OutKept s₀ (execWaveChunkSend s) := by
  unfold execWaveChunkSend
  split
  · exact outKept_next h
  · extract_lets p head
    split
    · exact outKept_next h
    · refine outKept_onlyIf h fun _ => ?_
      extract_lets b s'
      have hs' : Kept s₀ s' := kept_emitNow _ _ _ _ (kept_bulkPut _ _ _ (kept_modEn _ h))
      exact kept_ite (fun _ => kept_finish _ _ _ _ (kept_modEn _ hs')) fun _ => kept_modEn _ hs'

theorem outKept_execWaveExportTimeout (h : Kept s₀ s) : OutKept s₀ (execWaveExportTimeout s) := by
  grind [execWaveExportTimeout, outKept_onlyIf, kept_finish, kept_modEn, outKept_next]

theorem outKept_execReverseCurrent (o : ONum) (h : Kept s₀ s) : OutKept s₀ (execReverseCurrent o s) := by
  grind [execReverseCurrent, outKept_onlyIf, kept_modEn, kept_raise, kept_waveIf, kept_tamperFound]

theorem outKept_execBypassDetect (o : ONum) (h : Kept s₀ s) : OutKept s₀ (execBypassDetect o s) := by
  unfold execBypassDetect
  extract_lets x
  exact outKept_onlyIf h fun _ => kept_raise _ _ _ (kept_waveIf _ _ (kept_tamperFound _ _ _ (kept_modEn _ h)))

theorem outKept_execBypassEnd (o : ONum) (h : Kept s₀ s) : OutKept s₀ (execBypassEnd o s) := by
  grind [execBypassEnd, outKept_onlyIf, kept_evtTamper, kept_modEn]

theorem outKept_execNeutralMissing (bus : Nat) (h : Kept s₀ s) : OutKept s₀ (execNeutralMissing bus s) := by
  grind [execNeutralMissing, outKept_onlyIf, kept_modEn, kept_raise, kept_waveIf, kept_tamperFound]

theorem outKept_execNeutralEnd (bus : Nat) (h : Kept s₀ s) : OutKept s₀ (execNeutralEnd bus s) := by
  grind [execNeutralEnd, outKept_onlyIf, kept_evtTamper, kept_modEn]

theorem kept_sampleCover (n : Nat) (opened : Bool) (h : Kept s₀ s) : Kept s₀ (s.sampleCover n opened) := by
  grind [State.sampleCover, kept_update, kept_modEn, kept_evtTamper]

theorem outKept_execTamperSample (t0 t1 : Bool) (h : Kept s₀ s) : OutKept s₀ (execTamperSample t0 t1 s) := by
  grind [execTamperSample, outKept_onlyIf, kept_sampleCover, kept_takeCovers]

theorem outKept_execEnergyConfigSet (q : Req) (h : Kept s₀ s) : OutKept s₀ (execEnergyConfigSet q s) := by
  grind [execEnergyConfigSet, kept_update, outKept_mail, kept_ok, kept_effect]

theorem outKept_execEnergyLatchNow (q : Req) (h : Kept s₀ s) : OutKept s₀ (execEnergyLatchNow q s) := by
  grind [execEnergyLatchNow, outKept_mail, kept_wait, kept_modEn]

theorem outKept_execWaveExport (q : Req) (h : Kept s₀ s) : OutKept s₀ (execWaveExport q s) := by
  grind [execWaveExport, outKept_mail, kept_no, kept_queued, kept_modEn]

theorem outKept_execWaveTrigger (q : Req) (h : Kept s₀ s) : OutKept s₀ (execWaveTrigger q s) := by
  grind [execWaveTrigger, outKept_mail, kept_no, kept_waveTrigger, kept_ok]

theorem outKept_execTamperClear (q : Req) (h : Kept s₀ s) : OutKept s₀ (execTamperClear q s) := by
  grind [execTamperClear, outKept_mail, kept_no, kept_ok, kept_effect, kept_foldl, kept_tamperClear]

end Sys2Proof.Machine
end

section
/-! PROOFS. The bounds under sessions, ledger and billing (05, 11). -/

namespace Sys2Proof.Machine

variable {s₀ s : State}

/-! ### Sessions -/

theorem kept_evtHlc (o : ONum) (ev reason : Nat) (h : Kept s₀ s) : Kept s₀ (s.evtHlc o ev reason) := by
  grind [State.evtHlc, kept_emit]

theorem kept_evtSlac (o : ONum) (r : SlacRun) (result dom : Nat) (atten other sounds : Nat) (h : Kept s₀ s) :
    Kept s₀ (s.evtSlac o r result dom atten other sounds) := by
  grind [State.evtSlac, kept_emit]

theorem kept_setFallback (o : ONum) (reason : Nat) (h : Kept s₀ s) : Kept s₀ (s.setFallback o reason) := by
  grind [State.setFallback, kept_modHlc, kept_evtHlc]

theorem kept_hlcUnplug (o : ONum) (h : Kept s₀ s) : Kept s₀ (s.hlcUnplug o) := by
  grind [State.hlcUnplug, kept_evtSlac, kept_modHlc]

theorem kept_authorise (o : ONum) (cause : Nat) (h : Kept s₀ s) : Kept s₀ (s.authorise o cause) := by
  grind [State.authorise, kept_setSess]

theorem kept_refuseAuth (o : ONum) (cause : Nat) (h : Kept s₀ s) : Kept s₀ (s.refuseAuth o cause) := by
  grind [State.refuseAuth, kept_setSess, kept_modSes]

theorem kept_acceptAuth (o : ONum) (account cause : Nat) (h : Kept s₀ s) : Kept s₀ (s.acceptAuth o account cause) := by
  grind [State.acceptAuth, kept_update, kept_refuseAuth, kept_modSes, kept_modHlc, kept_askLock, kept_setSess]

theorem kept_forgetSess (num : Nat) (h : Kept s₀ s) : Kept s₀ (s.forgetSess num) := by
  grind [State.forgetSess, kept_update]

theorem kept_markBidir (o : ONum) (h : Kept s₀ s) : Kept s₀ (s.markBidir o) := by
  grind [State.markBidir, kept_update]

theorem kept_abandon (o : ONum) (h : Kept s₀ s) : Kept s₀ (s.abandon o) := by
  grind [State.abandon, kept_dropSession, kept_forgetSess, kept_askLock]

theorem kept_evtIdent (o : ONum) (source seq : Nat) (id : Bytes) (h : Kept s₀ s) : Kept s₀ (s.evtIdent o source seq id) := by
  grind [State.evtIdent, kept_emit]

theorem kept_decideAuth (o : ONum) (i : Ident) (h : Kept s₀ s) : Kept s₀ (s.decideAuth o i) := by
  grind [State.decideAuth, kept_evtIdent, kept_modSes, kept_acceptAuth, kept_refuseAuth]

theorem kept_endStep (o : ONum) (h : Kept s₀ s) : Kept s₀ (s.endStep o) := by
  grind [State.endStep, kept_setSess, kept_modSes]

theorem kept_setControl (o : ONum) (c : Nat) (h : Kept s₀ s) : Kept s₀ (s.setControl o c) := by
  grind [State.setControl, kept_update]

theorem kept_plug (o : ONum) (cause : Nat) (h : Kept s₀ s) : Kept s₀ (s.plug o cause) := by
  unfold State.plug
  grind [kept_setSess, kept_modSes, kept_modHlc, kept_decideAuth, kept_authorise, kept_acceptAuth]

theorem kept_goHome (o : ONum) (st : SessState) (cause : Nat) (h : Kept s₀ s) : Kept s₀ (s.goHome o st cause) := by
  grind [State.goHome, kept_plug, kept_setSess]

theorem kept_faultedExit (o : ONum) (onlyA : Bool) (cause : Nat) (h : Kept s₀ s) : Kept s₀ (s.faultedExit o onlyA cause) := by
  grind [State.faultedExit, kept_goHome, kept_modSes]

theorem kept_oosExit (o : ONum) (cause : Nat) (h : Kept s₀ s) : Kept s₀ (s.oosExit o cause) := by
  grind [State.oosExit, kept_goHome]

theorem kept_identify (o : ONum) (i : Ident) (h : Kept s₀ s) : Kept s₀ (s.identify o i) := by
  grind [State.identify, kept_oosExit, kept_modSes, kept_setControl, kept_decideAuth, kept_authorise, kept_toEnding,
    kept_evtIdent]

theorem kept_pilotSession (o : ONum) (cause : Nat) (h : Kept s₀ s) : Kept s₀ (s.pilotSession o cause) := by
  grind [State.pilotSession, kept_plug, kept_setSess, kept_acceptAuth, kept_authorise, kept_modSes, kept_abandon, kept_toEnding,
    kept_faultedExit]

theorem kept_finishUnlocks (status : Nat) (l : List Nat) (h : Kept s₀ s) : Kept s₀ (s.finishUnlocks status l) := by
  induction l generalizing s with
  | nil => exact h
  | cons a l ih =>
    rw [State.finishUnlocks]
    exact ih (by grind [kept_finish])

theorem kept_lockSession (o : ONum) (h : Kept s₀ s) : Kept s₀ (s.lockSession o) := by
  grind [State.lockSession, kept_setSess, kept_modSes, kept_askLock, kept_endStep]

theorem kept_lockDone (o : ONum) (h : Kept s₀ s) : Kept s₀ (s.lockDone o) := by
  unfold State.lockDone
  grind [kept_modLock, kept_finishUnlocks, kept_askLock, kept_lockSession]

theorem kept_acceptPilot (o : ONum) (h : Kept s₀ s) : Kept s₀ (s.acceptPilot o) := by
  unfold State.acceptPilot
  extract_lets p prev draws sf5 home s1 s2 s3 s4 s5 s6 s7 outs s8 s9 s10 s11
  have h2 : Kept s₀ s2 := kept_modSes _ _ (kept_modPilot _ _ h)
  have h4 : Kept s₀ s4 := kept_modHlc _ _ (kept_ite (fun _ => kept_hlcUnplug _ h2) fun _ => h2)
  have h5 : Kept s₀ s5 := kept_ite (fun _ => kept_clearOcc _ _ (kept_clearOcc _ _ (kept_clearOcc _ _ h4))) fun _ => h4
  have h6 : Kept s₀ s6 := kept_ite (fun _ => kept_wake _ h5) fun _ => h5
  have h7 : Kept s₀ s7 := kept_ite (fun _ => kept_maintEnd _ _ h6) fun _ => h6
  have h9 : Kept s₀ s9 := kept_emit _ _ _ (kept_actOn115 _ h7)
  have h10 : Kept s₀ s10 := kept_ite (fun _ => kept_sfDemand _ _ _ (kept_raiseFor _ _ _ h9)) fun _ => h9
  have h11 : Kept s₀ s11 := kept_ite (fun _ => kept_raise _ _ _ h10) fun _ => h10
  exact kept_ite (fun _ => kept_pilotSession _ _ h11) fun _ => kept_ite (fun _ => kept_fwTo _ _ _ h11) fun _ => h11

theorem outKept_execPilotStateAccept (o : ONum) (h : Kept s₀ s) : OutKept s₀ (execPilotStateAccept o s) := by
  grind [execPilotStateAccept, outKept_onlyIf, kept_acceptPilot]

theorem kept_ceilingTo (o : ONum) (f : State → State) (h : Kept s₀ (f s)) : Kept s₀ (s.ceilingTo o f) := kept_ceilingsFollow _ _ h

theorem outKept_execPpAccept (o : ONum) (h : Kept s₀ s) : OutKept s₀ (execPpAccept o s) := by
  grind [execPpAccept, outKept_onlyIf, kept_ceilingTo, kept_modPp, kept_actOn115, kept_raise, kept_fwTo, kept_pilotSession]

theorem outKept_execLockFeedbackChange (o : ONum) (locked : Bool) (h : Kept s₀ s) :
    OutKept s₀ (execLockFeedbackChange o locked s) := by
  grind [execLockFeedbackChange, outKept_onlyIf, kept_lockDone, kept_actOn115, kept_modLock]

/-- The weld window ends on a contactor that is open: SSWEN has been low since it opened. -/
theorem kept_weldEnded (o : ONum) (h : Kept s₀ s) (hlow : OutOk s₀.out → (s.o o).sw.sswen = false) : Kept s₀ (s.weldEnded o) := by
  have hoff : Kept s₀ (s.modSw o fun w => { w with phase := .off, faultEnd := false }) :=
    kept_setO h (fun h₀ ⟨_, hlatch⟩ => ⟨fun hen => absurd hen (by simp [hlow h₀]), hlatch⟩) id
  grind [State.weldEnded, kept_outSwitch, kept_modSes, kept_raiseFor, kept_tripReport, kept_fwTo, kept_lockSession]

/-- SSWEN is low outside the two phases that may raise it. -/
theorem sswen_eq_false {o : ONum} (h : OutOk s.out) (henabling : (s.o o).sw.phase ≠ .enabling) (hon : (s.o o).sw.phase ≠ .on) :
    (s.o o).sw.sswen = false := by
  obtain ⟨hsw, -⟩ := h o
  exact Bool.eq_false_iff.mpr fun hen => (hsw hen).elim henabling hon

theorem outKept_execWeldWindowEnd (o : ONum) (h : Kept s₀ s) : OutKept s₀ (execWeldWindowEnd o s) := by
  refine outKept_onlyIf h fun hreleased => kept_weldEnded o (kept_judgeWeld o h) fun h₀ => ?_
  have hphase : (s.o o).sw.phase = .released := beq_iff_eq.mp hreleased
  have hlow : (s.o o).sw.sswen = false := sswen_eq_false (h.out h₀) (by simp [hphase]) (by simp [hphase])
  exact Bool.eq_false_iff.mpr fun hen => Bool.eq_false_iff.mp hlow ((kept_judgeWeld o (Kept.refl s)).sswen o hen)

theorem outKept_execFaultedPresenceClear (o : ONum) (h : Kept s₀ s) : OutKept s₀ (execFaultedPresenceClear o s) := by
  grind [execFaultedPresenceClear, outKept_onlyIf, kept_askLock]

theorem outKept_execLockPulse (o : ONum) (h : Kept s₀ s) : OutKept s₀ (execLockPulse o s) := by
  grind [execLockPulse, outKept_onlyIf, kept_modLock]

theorem outKept_execLockPulseEnd (o : ONum) (h : Kept s₀ s) : OutKept s₀ (execLockPulseEnd o s) := by
  grind [execLockPulseEnd, outKept_onlyIf, kept_lockDone, kept_modLock]

theorem outKept_execLockBrakeEnd (o : ONum) (h : Kept s₀ s) : OutKept s₀ (execLockBrakeEnd o s) := by
  grind [execLockBrakeEnd, outKept_onlyIf, kept_modLock]

theorem kept_lockFailed (o : ONum) (h : Kept s₀ s) : Kept s₀ (s.lockFailed o) := by
  grind [State.lockFailed, kept_askLock, kept_modLock, kept_raiseRetried, kept_finishUnlocks]

theorem outKept_execLockFeedbackCheck (o : ONum) (h : Kept s₀ s) : OutKept s₀ (execLockFeedbackCheck o s) := by
  grind [execLockFeedbackCheck, outKept_onlyIf, kept_lockFailed]

theorem outKept_execLockRetry (o : ONum) (h : Kept s₀ s) : OutKept s₀ (execLockRetry o s) := by
  grind [execLockRetry, outKept_onlyIf, kept_modLock]

theorem kept_present (o : ONum) (src : Nat) (id : Bytes) (h : Kept s₀ s) : Kept s₀ (s.present o src id) := by
  grind [State.present, kept_update, kept_askEmergency, kept_identify]

theorem outKept_execIdentification (o : ONum) (src : Nat) (id : Bytes) (h : Kept s₀ s) :
    OutKept s₀ (execIdentification o src id s) := by
  grind [execIdentification, outKept_onlyIf, kept_present]

theorem outKept_execHeldIdentExpiry (o : ONum) (h : Kept s₀ s) : OutKept s₀ (execHeldIdentExpiry o s) := by
  grind [execHeldIdentExpiry, kept_modSes, outKept_next]

theorem outKept_execAuthTimeout (o : ONum) (h : Kept s₀ s) : OutKept s₀ (execAuthTimeout o s) := by
  grind [execAuthTimeout, outKept_onlyIf, kept_refuseAuth]

theorem outKept_execOutletConfigSet (q : Req) (h : Kept s₀ s) : OutKept s₀ (execOutletConfigSet q s) := by
  grind [execOutletConfigSet, kept_update, outKept_mail, kept_no, kept_ok, kept_effect, kept_ceilingTo]

theorem outKept_execOutletAuth (q : Req) (h : Kept s₀ s) : OutKept s₀ (execOutletAuth q s) := by
  grind [execOutletAuth, outKept_mail, kept_ok, kept_acceptAuth, kept_refuseAuth, kept_no, kept_authorise]

theorem outKept_execOutletStop (q : Req) (h : Kept s₀ s) : OutKept s₀ (execOutletStop q s) := by
  grind [execOutletStop, outKept_mail, kept_ok, kept_toEnding, kept_modSes, kept_setSess, kept_abandon, kept_no]

theorem kept_clearAll (o : ONum) (l : List Nat) (h : Kept s₀ s) : Kept s₀ (s.clearAll o l) := by
  induction l generalizing s with
  | nil => exact h
  | cons a l ih =>
    rw [State.clearAll]
    exact ih (by grind [kept_clearOcc])

theorem kept_clearOutlet (o : ONum) (h : Kept s₀ s) : Kept s₀ (s.clearOutlet o) := by
  grind [State.clearOutlet, kept_clearAll, kept_modProt, kept_sfEnd, kept_faultedExit]

theorem kept_service (action : Nat) (o : ONum) (h : Kept s₀ s) : Kept s₀ (s.service action o) := by
  grind [State.service, kept_sessTo, kept_oosExit, kept_setControl, kept_clearOutlet]

theorem kept_serviceAll (action : Nat) (l : List ONum) (h : Kept s₀ s) : Kept s₀ (s.serviceAll action l) := by
  induction l generalizing s with
  | nil => exact h
  | cons a l ih =>
    rw [State.serviceAll]
    exact ih (by grind [kept_service])

theorem outKept_execOutletService (q : Req) (h : Kept s₀ s) : OutKept s₀ (execOutletService q s) := by
  grind [execOutletService, outKept_mail, kept_no, kept_ok, kept_serviceAll]

theorem outKept_execOutletUnlock (q : Req) (h : Kept s₀ s) : OutKept s₀ (execOutletUnlock q s) := by
  grind [execOutletUnlock, outKept_mail, kept_no, kept_wait, kept_modLock, kept_askLock]

/-! ### Ledger -/

theorem kept_charge (m : Meter) (h : Kept s₀ s) : Kept s₀ (s.charge m).1 := by
  grind [State.charge, kept_credit]

theorem kept_keepCharge (o : ONum) (m : Meter) (h : Kept s₀ s) : Kept s₀ (s.keepCharge o m) := by
  grind [State.keepCharge, kept_update, kept_modSes]

theorem kept_chargeAll (segs : List (List (List Nat) × Nat)) (h : Kept s₀ s) : Kept s₀ (s.chargeAll segs).1 := by
  unfold State.chargeAll
  extract_lets book ended live
  have hended (s : State) (o : ONum) (h : Kept s₀ s) : Kept s₀ (ended s o).1 := by
    refine kept_update (kept_foldl_fst _ h fun x r hx => ?_) rfl rfl rfl rfl rfl rfl rfl
    split
    · exact kept_charge _ hx
    · exact hx
  have hlive (s : State) (o : ONum) (h : Kept s₀ s) : Kept s₀ (live s o).1 := by
    simp only [live]
    split
    · exact h
    · exact kept_keepCharge _ _ (kept_charge _ h)
  exact kept_foldl_fst _ h fun x o hx => hlive _ o (hended _ o hx)

theorem kept_sessEnd (r : SessRec) (v : List (List Nat)) (gen : Nat) (h : Kept s₀ s) : Kept s₀ (s.sessEnd r v gen) := by
  grind [State.sessEnd, kept_update, kept_emit, kept_forgetSess, kept_lastState, kept_modSes, kept_endStep]

theorem kept_appendCommit (recs : List LRec) (closing : Bool) (lseq : Nat) (a : CommitArgs) (h : Kept s₀ s) :
    Kept s₀ (s.appendCommit recs closing lseq a).1 := by
  grind [State.appendCommit, kept_update]

theorem kept_evtBoundary (p : BPlan) (src flags gen : Nat) (h : Kept s₀ s) : Kept s₀ (s.evtBoundary p src flags gen) := by
  grind [State.evtBoundary, kept_emit]

theorem kept_periodDone (p : BPlan) (gen : Nat) (h : Kept s₀ s) : Kept s₀ (s.periodDone p gen) := by
  unfold State.periodDone
  grind [kept_update, kept_emit, kept_finish, kept_effect]

theorem kept_enforce (p : BPlan) (h : Kept s₀ s) : Kept s₀ (s.enforce p) := by
  grind [State.enforce, kept_update]

theorem kept_monitor (was : Nat) (h : Kept s₀ s) : Kept s₀ (s.monitor was) := by
  grind [State.monitor, kept_update, kept_foldl, kept_emit]

theorem kept_keepRun (v : List (List Nat)) (h : Kept s₀ s) : Kept s₀ (s.keepRun v) := by
  grind [State.keepRun, kept_update]

theorem kept_commitAll (cause flags : Nat) (h : Kept s₀ s) : Kept s₀ (s.commitAll cause flags) := by
  unfold State.commitAll
  extract_lets plan was old src pv tI1 tE1 recs1 s1 newer lseq v tI2 tE2 recs2 bill s2 segs closing
  have h1 : Kept s₀ s1 := by
    simp only [s1]
    clear_value plan
    split
    · exact kept_enforce _ h
    · exact h
  have h2 : Kept s₀ s2 := kept_update h1 rfl rfl rfl rfl rfl rfl rfl
  have h3 := kept_chargeAll segs h2
  generalize s2.chargeAll segs = charged at h3 ⊢
  obtain ⟨s3, recsC⟩ := charged
  dsimp -zeta only at h3 ⊢
  extract_lets ended recsS ops cr s4 recs3 cmds bill' s5 gen s6 gens s7 s8 s9 s10
  clear_value plan
  have h4 : Kept s₀ s4 := kept_update h3 rfl rfl rfl rfl rfl rfl rfl
  have h5 : Kept s₀ s5 :=
    kept_update (kept_foldl_fst _ h4 fun _ _ hx => kept_applyCredit _ hx) rfl rfl rfl rfl rfl rfl rfl
  have h6 : Kept s₀ s6 := by
    refine kept_foldl _ (kept_appendCommit _ _ _ _ h5) fun s c hs => ?_
    split
    · exact kept_finish _ _ _ _ hs
    · exact hs
  have h7 : Kept s₀ s7 := kept_foldl _ h6 fun s e hs => kept_sessEnd _ _ _ hs
  have h8 : Kept s₀ s8 := by
    simp only [s8]
    split
    · exact kept_monitor _ (kept_periodDone _ _ (kept_evtBoundary _ _ _ _ h7))
    · exact kept_monitor _ (kept_keepRun _ h7)
  have h9 : Kept s₀ s9 := kept_keepRun _ h8
  refine kept_followAll (kept_foldl _ h9 fun s e hs => ?_)
  extract_lets s'
  have hs' : Kept s₀ s' := by
    simp only [s']
    split
    · exact kept_sendReply _ hs
    · exact hs
  split
  · split
    · exact kept_finish _ _ _ _ (kept_effect _ _ _ hs')
    · exact hs'
  · exact hs'

theorem outKept_execBoundarySequence (h : Kept s₀ s) : OutKept s₀ (execBoundarySequence s) := by
  grind [execBoundarySequence, kept_update, outKept_onlyIf, kept_trigger]

theorem kept_evtTime (kind source : Nat) (old new : Nat) (h : Kept s₀ s) : Kept s₀ (s.evtTime kind source old new) := by
  grind [State.evtTime, kept_emit]

theorem kept_timeRec (kind source : Nat) (old new : Nat) (h : Kept s₀ s) : Kept s₀ (s.timeRec kind source old new) := by
  grind [State.timeRec, kept_update]

theorem kept_correctTime (d : Int) (source : Nat) (h : Kept s₀ s) : Kept s₀ (s.correctTime d source) := by
  grind [State.correctTime, kept_update, kept_timeRec, kept_evtTime, kept_raise]

theorem kept_offerCorrection (d : Int) (source : Nat) (h : Kept s₀ s) : Kept s₀ (s.offerCorrection d source) := by
  grind [State.offerCorrection, kept_update, kept_correctTime]

theorem outKept_execBillTimeCorrection (delta : Int) (source : Nat) (h : Kept s₀ s) :
    OutKept s₀ (execBillTimeCorrection delta source s) := by
  grind [execBillTimeCorrection, outKept_onlyIf, kept_offerCorrection]

theorem outKept_execSlewEnd (h : Kept s₀ s) : OutKept s₀ (execSlewEnd s) := by
  grind [execSlewEnd, kept_update, outKept_next]

theorem kept_armBoundary (h : Kept s₀ s) : Kept s₀ s.armBoundary := by
  grind [State.armBoundary, kept_update]

theorem outKept_execBoundaryArm (h : Kept s₀ s) : OutKept s₀ (execBoundaryArm s) := by
  grind [execBoundaryArm, outKept_onlyIf, kept_armBoundary]

theorem outKept_execPeriodicCommitTimer (h : Kept s₀ s) : OutKept s₀ (execPeriodicCommitTimer s) := by
  grind [execPeriodicCommitTimer, outKept_onlyIf, kept_trigger]

theorem outKept_execLedgerCommit (ok retried : Bool) (h : Kept s₀ s) : OutKept s₀ (execLedgerCommit ok retried s) := by
  grind [execLedgerCommit, kept_update, outKept_onlyIf, kept_transient, kept_commitAll, kept_correctTime, kept_raiseRetried,
    kept_foldl, kept_finish]

/-! ### Billing -/

theorem outKept_execBillConfigSet (q : Req) (h : Kept s₀ s) : OutKept s₀ (execBillConfigSet q s) := by
  unfold execBillConfigSet
  grind [kept_update, outKept_mail, kept_ok, kept_armBoundary, kept_effect]

theorem outKept_execBillCalendarWrite (q : Req) (h : Kept s₀ s) : OutKept s₀ (execBillCalendarWrite q s) := by
  grind [execBillCalendarWrite, kept_update, outKept_mail, kept_no, kept_ok, kept_effect]

theorem outKept_execBillCalendarActivate (q : Req) (h : Kept s₀ s) : OutKept s₀ (execBillCalendarActivate q s) := by
  grind [execBillCalendarActivate, kept_update, outKept_mail, kept_ok, kept_armBoundary, kept_effect, kept_no]

theorem kept_setTime (t source : Nat) (h : Kept s₀ s) : Kept s₀ (s.setTime t source) := by
  grind [State.setTime, kept_update, kept_offerCorrection]

theorem outKept_execBillTimeSet (q : Req) (h : Kept s₀ s) : OutKept s₀ (execBillTimeSet q s) := by
  grind [execBillTimeSet, outKept_mail, kept_no, kept_ok, kept_effect, kept_setTime]

theorem kept_armClose (cause : Nat) (tag : Option Nat) (h : Kept s₀ s) : Kept s₀ (s.armClose cause tag) := by
  grind [State.armClose, kept_update, kept_armBoundary]

theorem outKept_execBillPeriodClose (q : Req) (h : Kept s₀ s) : OutKept s₀ (execBillPeriodClose q s) := by
  grind [execBillPeriodClose, outKept_mail, kept_no, kept_queued, kept_armClose]

theorem outKept_execBillCommitNow (q : Req) (h : Kept s₀ s) : OutKept s₀ (execBillCommitNow q s) := by
  grind [execBillCommitNow, kept_update, outKept_mailQ, kept_wait, kept_trigger]

end Sys2Proof.Machine
end

section
/-! PROOFS. The bounds under the safety island and the protection of the outlets (06, 07). -/

namespace Sys2Proof.Machine

variable {s₀ s : State}

/-! ### The safety island -/

theorem kept_changeLog (kind role : Nat) (old new : Nat) (h : Kept s₀ s) : Kept s₀ (s.changeLog kind role old new) := by
  grind [State.changeLog, kept_update, kept_emit]

theorem kept_confirmReq (h : Kept s₀ s) : Kept s₀ s.confirmReq := by
  grind [State.confirmReq, kept_maintEnd, kept_emit]

/-- The thresholds of every outlet loaded again: no latch and no switch moves. -/
theorem kept_reloadDacs (h : Kept s₀ s) : Kept s₀ s.reloadDacs := by
  refine kept_vmapi h (fun i x hx => ?_) fun i x => ?_ <;> split
  exacts [hx, hx, id, id]

theorem kept_setConfirmed (h : Kept s₀ s) : Kept s₀ s.setConfirmed := by
  grind [State.setConfirmed, kept_update]

theorem kept_allOos (cause : Nat) (l : List ONum) (h : Kept s₀ s) : Kept s₀ (s.allOos cause l) := by
  induction l generalizing s with
  | nil => exact h
  | cons a l ih =>
    rw [State.allOos]
    exact ih (by grind [kept_fwTo])

theorem kept_enterSafe (h : Kept s₀ s) : Kept s₀ s.enterSafe := by
  grind [State.enterSafe, kept_confirmReq, kept_allOos, kept_openList]

theorem kept_freshInputs (old : Bytes) (h : Kept s₀ s) : Kept s₀ (s.freshInputs old) := by
  grind [State.freshInputs, kept_update]

theorem kept_putImage (img : Bytes) (role : Nat) (h : Kept s₀ s) : Kept s₀ (s.putImage img role) := by
  unfold State.putImage
  extract_lets old was z isl store s1 s2 s3 s4
  have h1 : Kept s₀ s1 := kept_update h rfl rfl rfl rfl rfl rfl rfl
  have h2 : Kept s₀ s2 := kept_ceilingsFollow _ _ (kept_tmrWritten _ (kept_freshInputs _ h1))
  have h3 : Kept s₀ s3 := kept_ite (fun _ => h2) fun _ => kept_setConfirmed h2
  have h4 : Kept s₀ s4 := kept_changeLog _ _ _ _ (kept_reloadDacs h3)
  exact kept_ite (fun _ => kept_confirmReq h4) fun _ => h4

theorem kept_autoClose (h : Kept s₀ s) : Kept s₀ s.autoClose := by
  grind [State.autoClose, kept_update]

theorem kept_allReturn (cause : Nat) (l : List ONum) (h : Kept s₀ s) : Kept s₀ (s.allReturn cause l) := by
  induction l generalizing s with
  | nil => exact h
  | cons a l ih =>
    rw [State.allReturn]
    exact ih (by grind [kept_oosExit])

theorem kept_confirm (role : Nat) (h : Kept s₀ s) : Kept s₀ (s.confirm role) := by
  unfold State.confirm
  extract_lets old isl store s1 s2 due st isl' s3
  have h1 : Kept s₀ s1 := kept_update h rfl rfl rfl rfl rfl rfl rfl
  have h2 : Kept s₀ s2 := kept_changeLog _ _ _ _ (kept_setConfirmed h1)
  have h3 : Kept s₀ s3 := kept_update (kept_allReturn _ _ h2) rfl rfl rfl rfl rfl rfl rfl
  exact kept_ite (fun _ => kept_autoClose h3) fun _ => h3

theorem kept_tryPassword (role : Nat) (pw : Bytes) (h : Kept s₀ s) : Kept s₀ (s.tryPassword role pw).2 := by
  grind [State.tryPassword, kept_update]

theorem kept_tryCreds (p : Bytes) (off : Nat) (h : Kept s₀ s) : Kept s₀ (s.tryCreds p off).2 := by
  grind [State.tryCreds, kept_tryPassword]

theorem kept_openSites (mask : Nat) (h : Kept s₀ s) : Kept s₀ (s.openSites mask) := by
  grind [State.openSites, kept_update]

theorem kept_sfStart (n : Nat) (h : Kept s₀ s) : Kept s₀ (s.sfStart n) := by
  unfold State.sfStart
  extract_lets l outs fn s1 s2 s3
  have h1 : Kept s₀ s1 := kept_openList _ _ (kept_modSin _ _ h)
  have h2 : Kept s₀ s2 := kept_ite (fun _ => kept_raise _ _ _ (kept_openSites _ h1)) fun _ =>
    kept_ite (fun _ => kept_raise _ _ _ h1) fun _ => h1
  have h3 : Kept s₀ s3 := kept_evtSafe _ _ _ _ h2
  exact kept_ite (fun _ => kept_foldl _ h3 fun s j => kept_cutOff (s := s) j) fun _ => h3

theorem kept_sfSettle (n : Nat) (h : Kept s₀ s) : Kept s₀ (s.sfSettle n) := by
  grind [State.sfSettle, kept_evtSafe, kept_modSin]

theorem kept_sinTake (n : Nat) (chan closed : Bool) (h : Kept s₀ s) : Kept s₀ (s.sinTake n chan closed) := by
  grind [State.sinTake, kept_modSin, kept_sfStart, kept_sfSettle]

theorem kept_releaseAll (l : List ONum) (h : Kept s₀ s) : Kept s₀ (s.releaseAll l) := by
  induction l generalizing s with
  | nil => exact h
  | cons a l ih =>
    rw [State.releaseAll]
    exact ih (by grind [kept_releaseContactor])

theorem kept_closeFails (j status : Nat) (h : Kept s₀ s) : Kept s₀ (s.closeFails j status) := by
  grind [State.closeFails, kept_finishTags, kept_modSite]

theorem kept_closeDone (j : Nat) (h : Kept s₀ s) : Kept s₀ (s.closeDone j) := by
  grind [State.closeDone, kept_update, kept_finishTags, kept_modSite]

theorem kept_openDone (j : Nat) (bad : Bool) (h : Kept s₀ s) : Kept s₀ (s.openDone j bad) := by
  grind [State.openDone, kept_modSite, kept_finishTags, kept_raise, kept_cutOff]

theorem outKept_execIslandSafeState (src : Nat) (h : Kept s₀ s) : OutKept s₀ (execIslandSafeState src s) := by
  grind [execIslandSafeState, kept_update, outKept_onlyIf, kept_raise, kept_openList]

theorem kept_dropPairs (h : Kept s₀ s) : Kept s₀ s.dropPairs := by
  grind [State.dropPairs, kept_update]

theorem outKept_execSafeStatePairsOff (h : Kept s₀ s) : OutKept s₀ (execSafeStatePairsOff s) :=
  outKept_onlyIf h fun _ => kept_closeFails _ _ (kept_closeFails _ _ (kept_dropPairs (kept_releaseAll _ h)))

theorem outKept_execSinSample (n : Nat) (a b : Bool) (h : Kept s₀ s) : OutKept s₀ (execSinSample n a b s) := by
  grind [execSinSample, kept_modSin, outKept_next]

theorem outKept_execSinAccept (n : Nat) (chan closed : Bool) (h : Kept s₀ s) : OutKept s₀ (execSinAccept n chan closed s) := by
  grind [execSinAccept, outKept_onlyIf, kept_sinTake]

theorem outKept_execSinDisc (n : Nat) (h : Kept s₀ s) : OutKept s₀ (execSinDisc n s) := by
  grind [execSinDisc, outKept_onlyIf, kept_raise, kept_modSin]

theorem outKept_execSiteRelease (j : Nat) (h : Kept s₀ s) : OutKept s₀ (execSiteRelease j s) := by
  grind [execSiteRelease, outKept_onlyIf, kept_pairOff, kept_releaseAll]

theorem outKept_execSiteFbCheck (j : Nat) (h : Kept s₀ s) : OutKept s₀ (execSiteFbCheck j s) := by
  grind [execSiteFbCheck, outKept_onlyIf, kept_openDone]

theorem kept_resolveEnds (j : Nat) (r : Resolve) (status : Nat) (h : Kept s₀ s) : Kept s₀ (s.resolveEnds j r status) := by
  grind [State.resolveEnds, kept_finish, kept_modSite]

theorem outKept_execWeldWatchEnd (o : ONum) (seen : Bool) (h : Kept s₀ s) : OutKept s₀ (execWeldWatchEnd o seen s) := by
  unfold execWeldWatchEnd
  extract_lets j
  split
  · exact outKept_next h
  · refine outKept_onlyIf h fun _ => kept_ite (fun _ => ?_) fun _ => ?_
    · exact kept_cutOff _ (kept_resolveEnds _ _ _ (kept_sfDemand _ _ _ (kept_openBus _ _ h)))
    · refine kept_oosExit _ _ (kept_resolveEnds _ _ _ (kept_effect _ _ _ ?_))
      exact kept_sfEnd _ _ (kept_changeLog _ _ _ _ (kept_clearOcc _ _ h))

theorem outKept_execPairTestStepEnd (p : Nat) (stepb : Bool) (khs kls coil : Nat) (h : Kept s₀ s) :
    OutKept s₀ (execPairTestStepEnd p stepb khs kls coil s) := by
  grind [execPairTestStepEnd, outKept_onlyIf, kept_modPairOut, kept_raise, kept_closeFails, kept_modSite]

theorem outKept_execPullinEnd (p : Nat) (h : Kept s₀ s) : OutKept s₀ (execPullinEnd p s) := by
  grind [execPullinEnd, outKept_onlyIf, kept_modPairOut]

theorem outKept_execSiteCloseCheck (j : Nat) (h : Kept s₀ s) : OutKept s₀ (execSiteCloseCheck j s) := by
  grind [execSiteCloseCheck, outKept_onlyIf, kept_closeFails, kept_raise, kept_pairOff, kept_closeDone]

theorem outKept_execCoilCheck (p coil : Nat) (h : Kept s₀ s) : OutKept s₀ (execCoilCheck p coil s) := by
  grind [execCoilCheck, outKept_onlyIf, kept_modPairOut]

theorem outKept_execCoilUndercurrent (p : Nat) (h : Kept s₀ s) : OutKept s₀ (execCoilUndercurrent p s) := by
  grind [execCoilUndercurrent, kept_update, outKept_onlyIf, kept_raise, kept_startOpening, kept_cutOff, kept_openBus]

theorem outKept_execVkcUv (h : Kept s₀ s) : OutKept s₀ (execVkcUv s) := by
  grind [execVkcUv, kept_raise, kept_openList, outKept_next]

theorem outKept_execPasswordLockoutEnd (role : Nat) (h : Kept s₀ s) : OutKept s₀ (execPasswordLockoutEnd role s) := by
  grind [execPasswordLockoutEnd, kept_update, outKept_next]

theorem kept_confirmKey (d : Nat) (h : Kept s₀ s) : Kept s₀ (s.confirmKey d) := by
  grind [State.confirmKey, kept_update, kept_foldl, kept_confirm]

theorem outKept_execConfirmKeypadTimeout (h : Kept s₀ s) : OutKept s₀ (execConfirmKeypadTimeout s) := by
  grind [execConfirmKeypadTimeout, kept_update, outKept_next]

theorem outKept_execConfirmKeypadLockoutEnd (h : Kept s₀ s) : OutKept s₀ (execConfirmKeypadLockoutEnd s) := by
  grind [execConfirmKeypadLockoutEnd, kept_update, outKept_next]

theorem outKept_execSafeConfigWrite (q : Req) (h : Kept s₀ s) : OutKept s₀ (execSafeConfigWrite q s) := by
  grind [execSafeConfigWrite, outKept_mail, kept_no, kept_tryCreds, kept_effect, kept_putImage, kept_ok]

theorem outKept_execSafeConfirm (q : Req) (h : Kept s₀ s) : OutKept s₀ (execSafeConfirm q s) := by
  grind [execSafeConfirm, outKept_mail, kept_tryCreds, kept_no, kept_ok, kept_effect, kept_confirm]

theorem outKept_execSafeModeSet (q : Req) (h : Kept s₀ s) : OutKept s₀ (execSafeModeSet q s) := by
  grind [execSafeModeSet, kept_update, outKept_mail, kept_tryCreds, kept_no, kept_ok, kept_effect, kept_enterSafe, kept_changeLog]

theorem outKept_execSafePasswordSet (q : Req) (h : Kept s₀ s) : OutKept s₀ (execSafePasswordSet q s) := by
  grind [execSafePasswordSet, kept_update, outKept_mail, kept_tryPassword, kept_no, kept_draw, kept_ok, kept_effect,
    kept_changeLog]

theorem outKept_execSafeWeldResolve (q : Req) (h : Kept s₀ s) : OutKept s₀ (execSafeWeldResolve q s) := by
  grind [execSafeWeldResolve, outKept_mail, kept_tryCreds, kept_no, kept_modSite, kept_queued]

theorem outKept_execSafeSiteSet (q : Req) (h : Kept s₀ s) : OutKept s₀ (execSafeSiteSet q s) := by
  grind [execSafeSiteSet, kept_update, outKept_mail, kept_no, kept_ok, kept_wait, kept_modSite, kept_cutOff, kept_openBus]

/-! ### Protection -/

theorem kept_apexTrips (o : ONum) (vals : List Int) (l : List Nat) (h : Kept s₀ s) : Kept s₀ (s.apexTrips o vals l) := by
  induction l generalizing s with
  | nil => exact h
  | cons a l ih =>
    rw [State.apexTrips]
    exact ih (by grind [kept_trip])

/-- The apex latch: SSWEN goes low with it (R187). -/
theorem kept_setLatch (o : ONum) (inputs : Nat) (vals : List Int) (h : Kept s₀ s) : Kept s₀ (s.setLatch o inputs vals) := by
  unfold State.setLatch
  extract_lets p fresh first s1
  have h1 : Kept s₀ s1 := kept_modSw h (by grind)
  have hlow : (s1.o o).sw.sswen = false := by
    simp only [s1, modSw_eq, o_setO, if_true]
    split <;> simp_all
  refine kept_ite (fun _ => ?_) fun _ => kept_apexTrips _ _ _ h1
  exact kept_setO h1 (fun _ ⟨hsw, _⟩ => ⟨hsw, fun _ => hlow⟩) id

theorem kept_applyInputs (o : ONum) (inputs : Nat) (vals : List Int) (h : Kept s₀ s) : Kept s₀ (s.applyInputs o inputs vals) := by
  grind [State.applyInputs, kept_modProt, kept_setLatch]

theorem outKept_execApexTrip (o : ONum) (cur : List Int) (wide : Int) (h : Kept s₀ s) :
    OutKept s₀ (execApexTrip o cur wide s) := by
  grind [execApexTrip, kept_modProt, kept_applyInputs, outKept_next]

theorem outKept_execApexLatchSeen (o : ONum) (h : Kept s₀ s) : OutKept s₀ (execApexLatchSeen o s) := by
  grind [execApexLatchSeen, outKept_onlyIf, kept_modProt, kept_apexTrips]

theorem outKept_execThresholdReload (h : Kept s₀ s) : OutKept s₀ (execThresholdReload s) := by
  grind [execThresholdReload, kept_reloadDacs, outKept_next]

theorem outKept_execDcEstimate (o : ONum) (est : Int) (sat : Bool) (h : Kept s₀ s) : OutKept s₀ (execDcEstimate o est sat s) := by
  grind [execDcEstimate, kept_modProt, kept_applyInputs, outKept_next]

theorem outKept_execRcFrontend (o : ONum) (h : Kept s₀ s) : OutKept s₀ (execRcFrontend o s) := by
  grind [execRcFrontend, outKept_onlyIf, kept_trip]

theorem outKept_execDcSlowUpdate (o : ONum) (mean : Int) (h : Kept s₀ s) : OutKept s₀ (execDcSlowUpdate o mean s) := by
  grind [execDcSlowUpdate, kept_modProt, kept_trip, outKept_next]

theorem outKept_execDcFastUpdate (o : ONum) (mean : Int) (h : Kept s₀ s) : OutKept s₀ (execDcFastUpdate o mean s) := by
  grind [execDcFastUpdate, kept_modProt, kept_trip, outKept_next]

theorem outKept_execRcWarn (o : ONum) (h : Kept s₀ s) : OutKept s₀ (execRcWarn o s) := by
  grind [execRcWarn, outKept_onlyIf, kept_emit, kept_modProt]

theorem outKept_execAcResidualUpdate (o : ONum) (rms : Nat) (h : Kept s₀ s) : OutKept s₀ (execAcResidualUpdate o rms s) := by
  grind [execAcResidualUpdate, kept_modProt, kept_trip, outKept_next]

theorem outKept_execSswDesat (o : ONum) (h : Kept s₀ s) : OutKept s₀ (execSswDesat o s) := by
  grind [execSswDesat, outKept_onlyIf, kept_setLatch]

theorem outKept_execOverload (o : ONum) (cur : Nat) (h : Kept s₀ s) : OutKept s₀ (execOverload o cur s) := by
  grind [execOverload, outKept_onlyIf, kept_trip]

theorem kept_startTest (o : ONum) (trigger : Nat) (h : Kept s₀ s) : Kept s₀ (s.startTest o trigger) := by
  grind [State.startTest, kept_modProt]

theorem outKept_execSelftestStart (o : ONum) (trigger : Nat) (h : Kept s₀ s) : OutKept s₀ (execSelftestStart o trigger s) := by
  grind [execSelftestStart, outKept_onlyIf, kept_startTest]

theorem kept_testEnds (o : ONum) (m : RcdMeas) (h : Kept s₀ s) : Kept s₀ (s.testEnds o m) := by
  grind [State.testEnds, kept_modProt, kept_transient, kept_raiseRetried, kept_emit, kept_finish]

theorem outKept_execSelftestDone (o : ONum) (m : RcdMeas) (h : Kept s₀ s) : OutKept s₀ (execSelftestDone o m s) := by
  grind [execSelftestDone, outKept_onlyIf, kept_testEnds]

theorem kept_testAtStart (o : ONum) (m : RcdMeas × RcdMeas) (h : Kept s₀ s) : Kept s₀ (s.testAtStart o m) := by
  grind [State.testAtStart, kept_testEnds, kept_startTest]

theorem outKept_execProtConfigSet (q : Req) (h : Kept s₀ s) : OutKept s₀ (execProtConfigSet q s) := by
  grind [execProtConfigSet, outKept_mail, kept_no, kept_ok, kept_effect, kept_putImage]

theorem outKept_execProtSelftest (q : Req) (h : Kept s₀ s) : OutKept s₀ (execProtSelftest q s) := by
  grind [execProtSelftest, outKept_mail, kept_no, kept_queued, kept_modProt, kept_startTest]

end Sys2Proof.Machine
end

section
/-! PROOFS. The bounds under budgets and high-level communication (05, 08). -/

namespace Sys2Proof.Machine

variable {s₀ s : State}

/-! ### Budgets -/

theorem kept_round (cur : List Nat) (h : Kept s₀ s) : Kept s₀ (s.round cur) := by
  grind [State.round, kept_update]

theorem kept_setSetpoint (o : ONum) (v : Int) (h : Kept s₀ s) : Kept s₀ (s.setSetpoint o v) := by
  grind [State.setSetpoint, kept_modPilot, kept_iolFrom, kept_setPilot, kept_modSes, kept_modSw]

theorem kept_setAll (g : List Int) (l : List ONum) (h : Kept s₀ s) : Kept s₀ (s.setAll g l) := by
  induction l generalizing s with
  | nil => exact h
  | cons a l ih =>
    rw [State.setAll]
    exact ih (by grind [kept_setSetpoint])

theorem kept_endExhausted (l : List ONum) (h : Kept s₀ s) : Kept s₀ (s.endExhausted l) := by
  induction l generalizing s with
  | nil => exact h
  | cons a l ih =>
    rw [State.endExhausted]
    exact ih (by grind [kept_toEnding])

theorem kept_loadStep (h : Kept s₀ s) : Kept s₀ s.loadStep := by
  grind [State.loadStep, kept_update]

theorem kept_applyStep (h : Kept s₀ s) : Kept s₀ s.applyStep := by
  grind [State.applyStep, kept_update, kept_loadStep, kept_endExhausted, kept_setAll, kept_emit]

theorem outKept_execBudgetRound (reclaim : List Nat) (h : Kept s₀ s) : OutKept s₀ (execBudgetRound reclaim s) := by
  grind [execBudgetRound, outKept_onlyIf, kept_round]

theorem outKept_execPauseHoldEnd (o : ONum) (h : Kept s₀ s) : OutKept s₀ (execPauseHoldEnd o s) := by
  grind [execPauseHoldEnd, kept_update, outKept_next]

theorem outKept_execExtloadLapse (h : Kept s₀ s) : OutKept s₀ (execExtloadLapse s) := by
  grind [execExtloadLapse, kept_update, outKept_next]

theorem kept_evtTimebase (src dst : Nat) (h : Kept s₀ s) : Kept s₀ (s.evtTimebase src dst) := by
  grind [State.evtTimebase, kept_emit]

theorem kept_rebase (h : Kept s₀ s) : Kept s₀ s.rebase := kept_vmap (kept_draw h) (fun _ => id) fun _ => id

theorem kept_sourceTo (line : Bool) (h : Kept s₀ s) : Kept s₀ (s.sourceTo line) := by
  grind [State.sourceTo, kept_update, kept_evtTimebase, kept_rebase]

theorem outKept_execTimebaseToLine (h : Kept s₀ s) : OutKept s₀ (execTimebaseToLine s) := by
  grind [execTimebaseToLine, outKept_onlyIf, kept_sourceTo]

theorem outKept_execTimebaseToPtp (h : Kept s₀ s) : OutKept s₀ (execTimebaseToPtp s) := by
  grind [execTimebaseToPtp, outKept_onlyIf, kept_sourceTo]

theorem outKept_execBudConfigSet (q : Req) (h : Kept s₀ s) : OutKept s₀ (execBudConfigSet q s) := by
  grind [execBudConfigSet, kept_update, outKept_mail, kept_ok, kept_effect]

theorem outKept_execBudOutletSet (q : Req) (h : Kept s₀ s) : OutKept s₀ (execBudOutletSet q s) := by
  grind [execBudOutletSet, kept_update, outKept_mail, kept_ok, kept_effect]

theorem outKept_execBudExtload (q : Req) (h : Kept s₀ s) : OutKept s₀ (execBudExtload q s) := by
  grind [execBudExtload, kept_update, outKept_mail, kept_ok]

theorem outKept_execBudStepAt (q : Req) (h : Kept s₀ s) : OutKept s₀ (execBudStepAt q s) := by
  grind [execBudStepAt, kept_update, outKept_mail, kept_no, kept_ok]

/-! ### High-level communication -/

theorem kept_plcSend (o : ONum) (prio : Nat) (body : PlcBody) (h : Kept s₀ s) : Kept s₀ (s.plcSend o prio body) := by
  grind [State.plcSend, kept_update]

theorem kept_plcAnswer (o : ONum) (body : PlcBody) (h : Kept s₀ s) : Kept s₀ (s.plcAnswer o body) := by
  grind [State.plcAnswer, kept_plcSend]

theorem kept_groupRx (l : List Preamble) (h : Kept s₀ s) : Kept s₀ (s.groupRx l) := by
  grind [State.groupRx, kept_update, kept_modHlc]

theorem outKept_execPlcFrameRx (l : List Preamble) (ended : List Nat) (h : Kept s₀ s) :
    OutKept s₀ (execPlcFrameRx l ended s) := by
  grind [execPlcFrameRx, kept_update, outKept_onlyIf, kept_foldl, kept_groupRx]

theorem outKept_execPlcTxGrant (ended clear : List Nat) (h : Kept s₀ s) : OutKept s₀ (execPlcTxGrant ended clear s) := by
  grind [execPlcTxGrant, kept_update, outKept_onlyIf, kept_foldl, kept_modHlc]

theorem outKept_execPlcTxDiscard (o : ONum) (h : Kept s₀ s) : OutKept s₀ (execPlcTxDiscard o s) := by
  grind [execPlcTxDiscard, kept_update, kept_modHlc, outKept_next]

theorem outKept_execBeaconTx (o : ONum) (h : Kept s₀ s) : OutKept s₀ (execBeaconTx o s) := by
  grind [execBeaconTx, outKept_onlyIf, kept_plcSend]

theorem outKept_execCmSlacParmReq (o : ONum) (runid mac : Nat) (h : Kept s₀ s) :
    OutKept s₀ (execCmSlacParmReq o runid mac s) := by
  grind [execCmSlacParmReq, outKept_onlyIf, kept_plcAnswer, kept_modHlc]

theorem outKept_execCmMnbcSoundInd (o : ONum) (runid : Nat) (l : List Sound) (sounds : Nat) (h : Kept s₀ s) :
    OutKept s₀ (execCmMnbcSoundInd o runid l sounds s) := by
  grind [execCmMnbcSoundInd, outKept_onlyIf, kept_modHlc]

theorem outKept_execSlacDecision (o : ONum) (h : Kept s₀ s) : OutKept s₀ (execSlacDecision o s) := by
  grind [execSlacDecision, outKept_onlyIf, kept_modHlc, kept_evtSlac, kept_plcAnswer]

theorem outKept_execCmValidateReq (o : ONum) (window : Bool) (n : Nat) (h : Kept s₀ s) :
    OutKept s₀ (execCmValidateReq o window n s) := by
  grind [execCmValidateReq, outKept_onlyIf, kept_plcAnswer, kept_modHlc]

theorem outKept_execCmSlacMatchReq (o : ONum) (runid mac : Nat) (h : Kept s₀ s) :
    OutKept s₀ (execCmSlacMatchReq o runid mac s) := by
  grind [execCmSlacMatchReq, outKept_onlyIf, kept_draw, kept_plcAnswer, kept_modHlc]

theorem outKept_execSlacInitExpiry (o : ONum) (h : Kept s₀ s) : OutKept s₀ (execSlacInitExpiry o s) := by
  grind [execSlacInitExpiry, outKept_onlyIf, kept_setFallback]

theorem outKept_execSessionSetupTimeout (o : ONum) (h : Kept s₀ s) : OutKept s₀ (execSessionSetupTimeout o s) := by
  grind [execSessionSetupTimeout, outKept_onlyIf, kept_setFallback]

theorem outKept_execV2gSessionLost (o : ONum) (h : Kept s₀ s) : OutKept s₀ (execV2gSessionLost o s) := by
  grind [execV2gSessionLost, outKept_onlyIf, kept_modHlc, kept_setFallback]

theorem kept_hlcAnswer (o : ONum) (r : V2gRes) (h : Kept s₀ s) : Kept s₀ (s.hlcAnswer o r) := by
  grind [State.hlcAnswer, kept_plcAnswer, kept_modHlc]

theorem outKept_execSdpRequest (o : ONum) (tls : Bool) (h : Kept s₀ s) : OutKept s₀ (execSdpRequest o tls s) := by
  grind [execSdpRequest, outKept_onlyIf, kept_hlcAnswer, kept_evtHlc, kept_modHlc]

theorem kept_chooseProto (o : ONum) (p : Nat) (c : Option TlsConn) (h : Kept s₀ s) : Kept s₀ (s.chooseProto o p c) := by
  grind [State.chooseProto, kept_hlcAnswer, kept_evtHlc, kept_modHlc]

theorem outKept_execSupportedAppProtocol (o : ONum) (hello : Option Hello) (offers20 offers2 : Bool) (h : Kept s₀ s) :
    OutKept s₀ (execSupportedAppProtocol o hello offers20 offers2 s) := by
  grind [execSupportedAppProtocol, outKept_onlyIf, kept_chooseProto, kept_hlcAnswer]

theorem kept_v2gSetup (o : ONum) (h : Kept s₀ s) : Kept s₀ (s.v2gSetup o) := by
  grind [State.v2gSetup, kept_modHlc, kept_hlcAnswer, kept_evtHlc]

theorem kept_v2gParameters (o : ONum) (current charge discharge : Nat) (h : Kept s₀ s) :
    Kept s₀ (s.v2gParameters o current charge discharge) := by
  grind [State.v2gParameters, kept_hlcAnswer, kept_modHlc]

theorem kept_v2gSchedule (o : ONum) (h : Kept s₀ s) : Kept s₀ (s.v2gSchedule o) := by
  grind [State.v2gSchedule, kept_hlcAnswer, kept_modHlc]

theorem kept_v2gAuthorised (o : ONum) (h : Kept s₀ s) : Kept s₀ (s.v2gAuthorised o) := by
  grind [State.v2gAuthorised, kept_hlcAnswer, kept_evtHlc, kept_modHlc]

theorem kept_v2gContract (o : ONum) (emaid : Bytes) (chain : List Cert) (h : Kept s₀ s) :
    Kept s₀ (s.v2gContract o emaid chain) := by
  grind [State.v2gContract, kept_identify, kept_hlcAnswer, kept_modHlc]

theorem kept_v2gServe (o : ONum) (m : V2gMsg) (h : Kept s₀ s) : Kept s₀ (s.v2gServe o m) := by
  unfold State.v2gServe
  grind [kept_v2gSetup, kept_hlcAnswer, kept_v2gContract, kept_v2gAuthorised, kept_v2gParameters, kept_v2gSchedule]

theorem outKept_execV2gRequest (o : ONum) (m : V2gMsg) (h : Kept s₀ s) : OutKept s₀ (execV2gRequest o m s) := by
  grind [execV2gRequest, outKept_onlyIf, kept_v2gServe, kept_hlcAnswer]

theorem outKept_execServiceSelectionReq (o : ONum) (service : Nat) (dynamic : Bool) (h : Kept s₀ s) :
    OutKept s₀ (execServiceSelectionReq o service dynamic s) := by
  grind [execServiceSelectionReq, outKept_onlyIf, kept_hlcAnswer, kept_modHlc, kept_evtHlc, kept_markBidir]

theorem outKept_execV2gStopRequest (o : ONum) (kind : Nat) (h : Kept s₀ s) : OutKept s₀ (execV2gStopRequest o kind s) := by
  grind [execV2gStopRequest, outKept_onlyIf, kept_hlcAnswer, kept_evtHlc, kept_modHlc, kept_toEnding]

theorem outKept_execCertReq (o : ONum) (kind : Nat) (exi : Bytes) (h : Kept s₀ s) : OutKept s₀ (execCertReq o kind exi s) := by
  grind [execCertReq, outKept_onlyIf, kept_emit, kept_modHlc]

theorem outKept_execCertReplyTimeout (o : ONum) (h : Kept s₀ s) : OutKept s₀ (execCertReplyTimeout o s) := by
  grind [execCertReplyTimeout, outKept_onlyIf, kept_hlcAnswer, kept_modHlc]

theorem kept_pilOff (l : List ONum) (h : Kept s₀ s) : Kept s₀ (s.pilOff l) := by
  induction l generalizing s with
  | nil => exact h
  | cons a l ih =>
    rw [State.pilOff]
    exact ih (by grind [kept_update, kept_setFallback, kept_modHlc])

theorem kept_v2gRevoked (n : Nat) (h : Kept s₀ s) : Kept s₀ (s.v2gRevoked n) := by
  grind [State.v2gRevoked, kept_foldl, kept_setFallback]

theorem outKept_execHlcConfigSet (q : Req) (h : Kept s₀ s) : OutKept s₀ (execHlcConfigSet q s) := by
  grind [execHlcConfigSet, kept_update, outKept_mail, kept_no, kept_ok, kept_effect]

theorem outKept_execHlcSlacSet (q : Req) (h : Kept s₀ s) : OutKept s₀ (execHlcSlacSet q s) := by
  grind [execHlcSlacSet, kept_update, outKept_mail, kept_ok]

theorem outKept_execHlcExportSet (q : Req) (h : Kept s₀ s) : OutKept s₀ (execHlcExportSet q s) := by
  grind [execHlcExportSet, outKept_mail, kept_ok, kept_modHlc, kept_no]

theorem outKept_execHlcCertFetch (q : Req) (h : Kept s₀ s) : OutKept s₀ (execHlcCertFetch q s) := by
  grind [execHlcCertFetch, outKept_mail, kept_no, kept_bulkPut]

theorem outKept_execHlcCertReply (q : Req) (h : Kept s₀ s) : OutKept s₀ (execHlcCertReply q s) := by
  grind [execHlcCertReply, outKept_mail, kept_no, kept_ok, kept_hlcAnswer, kept_modHlc]

end Sys2Proof.Machine
end

section
/-! PROOFS. The bounds under the line links and the low-side switches (14, 17). -/

namespace Sys2Proof.Machine

variable {s₀ s : State}

/-! ### Line links -/

theorem kept_modPeer (a : Nat) (f : LinePeer → LinePeer) (h : Kept s₀ s) : Kept s₀ (s.modPeer a f) := by
  grind [State.modPeer, kept_modLine]

theorem kept_hear (a : Nat) (f : LinePeer → LinePeer) (h : Kept s₀ s) : Kept s₀ (s.hear a f) := by
  grind [State.hear, kept_modLine]

theorem kept_lineStat (k : Nat) (h : Kept s₀ s) : Kept s₀ (s.lineStat k) := by
  grind [State.lineStat, kept_modLine]

theorem kept_evtMap (peer ev : Nat) (setno offset sectors : Nat) (h : Kept s₀ s) :
    Kept s₀ (s.evtMap peer ev setno offset sectors) := by
  grind [State.evtMap, kept_emit]

theorem kept_evtLineSec (kind peer fcnt : Nat) (h : Kept s₀ s) : Kept s₀ (s.evtLineSec kind peer fcnt) := by
  grind [State.evtLineSec, kept_emit]

theorem kept_issueSet (a flags sectors : Nat) (h : Kept s₀ s) : Kept s₀ (s.issueSet a flags sectors) := by
  unfold State.issueSet
  extract_lets
  refine kept_ite (fun _ => h) fun _ => ?_
  exact kept_evtMap _ _ _ _ _ (kept_lineEnq _ (kept_modPeer _ _ h))

theorem kept_issueAll (l : List LinePeer) (h : Kept s₀ s) : Kept s₀ (s.issueAll l) := by
  induction l generalizing s with
  | nil => exact h
  | cons a l ih =>
    rw [State.issueAll]
    exact ih (by grind [kept_issueSet])

theorem kept_requestSet (a : Nat) (h : Kept s₀ s) : Kept s₀ (s.requestSet a) := by
  grind [State.requestSet, kept_lineEnq, kept_modPeer]

theorem kept_endMapRequest (a status : Nat) (payload : Bytes) (h : Kept s₀ s) : Kept s₀ (s.endMapRequest a status payload) := by
  grind [State.endMapRequest, kept_finish, kept_modPeer]

theorem kept_requestFailed (a : Nat) (h : Kept s₀ s) : Kept s₀ (s.requestFailed a) := by
  grind [State.requestFailed, kept_requestSet, kept_endMapRequest, kept_modPeer]

theorem outKept_execMapRequestTimeout (a : Nat) (h : Kept s₀ s) : OutKept s₀ (execMapRequestTimeout a s) := by
  grind [execMapRequestTimeout, outKept_onlyIf, kept_requestFailed]

theorem outKept_execRobustHoldEnd (a : Nat) (h : Kept s₀ s) : OutKept s₀ (execRobustHoldEnd a s) := by
  grind [execRobustHoldEnd, outKept_onlyIf, kept_requestSet, kept_modPeer]

theorem outKept_execMapExpiry (a : Nat) (gone : Bool) (h : Kept s₀ s) : OutKept s₀ (execMapExpiry a gone s) := by
  grind [execMapExpiry, outKept_onlyIf, kept_evtMap, kept_modPeer, kept_requestSet]

theorem kept_realign (a : Nat) (h : Kept s₀ s) : Kept s₀ (s.realign a) := by
  grind [State.realign, kept_modPeer, kept_issueSet, kept_evtMap]

theorem kept_takeDelta (a : Nat) (f : LineFrame) (h : Kept s₀ s) : Kept s₀ (s.takeDelta a f) := by
  grind [State.takeDelta, kept_realign, kept_modPeer]

theorem kept_refTurned (ang : Nat) (h : Kept s₀ s) : Kept s₀ (s.refTurned ang) := by
  grind [State.refTurned, kept_modLine, kept_issueAll, kept_foldl, kept_evtMap]

theorem outKept_execZeroCrossing (c : Nat) (rising : Bool) (period since : Nat) (h : Kept s₀ s) :
    OutKept s₀ (execZeroCrossing c rising period since s) := by
  grind [execZeroCrossing, outKept_onlyIf, kept_zeroCross, kept_modMet, kept_refTurned, kept_emit, kept_modLine]

theorem outKept_execSectorTimingLost (h : Kept s₀ s) : OutKept s₀ (execSectorTimingLost s) := by
  grind [execSectorTimingLost, outKept_onlyIf, kept_modLine, kept_raise, kept_issueAll]

theorem kept_modTx (i : Nat) (f : LineTx → LineTx) (h : Kept s₀ s) : Kept s₀ (s.modTx i f) := by
  grind [State.modTx, kept_modLine]

theorem kept_endTx (i status : Nat) (h : Kept s₀ s) : Kept s₀ (s.endTx i status) := by
  grind [State.endTx, kept_modLine, kept_finish]

theorem kept_dropTx (i : Nat) (h : Kept s₀ s) : Kept s₀ (s.dropTx i) := by
  grind [State.dropTx, kept_endTx, kept_lineStat, kept_requestFailed]

theorem kept_retryTx (i : Nat) (h : Kept s₀ s) : Kept s₀ (s.retryTx i) := by
  grind [State.retryTx, kept_dropTx, kept_modTx, kept_lineStat]

theorem kept_failTx (i : Nat) (h : Kept s₀ s) : Kept s₀ (s.failTx i) := by
  grind [State.failTx, kept_raiseRetried, kept_dropTx, kept_retryTx]

theorem outKept_execLineContentionSlot (pre : Bool) (level draw : Nat) (h : Kept s₀ s) :
    OutKept s₀ (execLineContentionSlot pre level draw s) := by
  grind [execLineContentionSlot, outKept_onlyIf, kept_modTx, kept_retryTx]

theorem kept_takeFcnt (h : Kept s₀ s) : Kept s₀ s.takeFcnt.2 := by
  grind [State.takeFcnt, kept_update, kept_modLine]

theorem kept_onAir (air : LineAir) (h : Kept s₀ s) : Kept s₀ (s.onAir air) := by
  grind [State.onAir, kept_modLine]

theorem kept_sendTx (i ang : Nat) (f : LineTx) (h : Kept s₀ s) : Kept s₀ (s.sendTx i ang f) := by
  grind [State.sendTx, kept_takeFcnt, kept_lineStat, kept_modTx, kept_onAir, kept_endTx]

theorem outKept_execLineFrameTx (ang : Nat) (h : Kept s₀ s) : OutKept s₀ (execLineFrameTx ang s) := by
  grind [execLineFrameTx, outKept_onlyIf, kept_endTx, kept_evtLineSec, kept_raise, kept_modLine, kept_sendTx, kept_requestSet]

theorem outKept_execLineAckWaitExpiry (h : Kept s₀ s) : OutKept s₀ (execLineAckWaitExpiry s) := by
  grind [execLineAckWaitExpiry, outKept_onlyIf, kept_failTx]

theorem outKept_execLineAckTx (ang : Nat) (h : Kept s₀ s) : OutKept s₀ (execLineAckTx ang s) := by
  grind [execLineAckTx, outKept_onlyIf, kept_onAir, kept_modLine]

theorem kept_gotAck (f : LineFrame) (h : Kept s₀ s) : Kept s₀ (s.gotAck f) := by
  unfold State.gotAck
  split
  · exact h
  · extract_lets x s1 s2 s3 s4 third s5
    have h1 : Kept s₀ s1 := kept_takeDelta _ _ (kept_modPeer _ _ h)
    have h2 : Kept s₀ s2 := kept_ite (fun _ => kept_lineStat _ (kept_transient _ _ _ h1)) fun _ => h1
    have h4 : Kept s₀ s4 := kept_modPeer _ _ (kept_lineStat _ h1)
    have h5 : Kept s₀ s5 := kept_ite (fun _ => kept_requestSet _ (kept_modPeer _ _ h4)) fun _ => h4
    refine kept_ite (fun _ => h) fun _ => kept_ite (fun _ => kept_endTx _ _ (kept_modPeer _ _ h2)) fun _ => ?_
    split
    · exact h5
    · exact kept_failTx _ h5

theorem kept_badFrame (kind src fcnt : Nat) (h : Kept s₀ s) : Kept s₀ (s.badFrame kind src fcnt) := by
  grind [State.badFrame, kept_lineStat, kept_modLine, kept_evtLineSec, kept_raise]

theorem kept_takeSeen (src fcnt : Nat) (h : Kept s₀ s) : Kept s₀ (s.takeSeen src fcnt) := by
  grind [State.takeSeen, kept_update, kept_modLine]

theorem kept_gotSet (src : Nat) (b : Bytes) (h : Kept s₀ s) : Kept s₀ (s.gotSet src b) := by
  grind [State.gotSet, kept_modPeer, kept_endMapRequest, kept_evtMap]

theorem kept_lineRx (f : LineFrame) (h : Kept s₀ s) : Kept s₀ (s.lineRx f) := by
  grind [State.lineRx, kept_emit]

theorem kept_lineContent (f : LineFrame) (h : Kept s₀ s) : Kept s₀ (s.lineContent f) := by
  grind [State.lineContent, kept_lineRx, kept_issueSet, kept_gotSet]

theorem kept_ackDue (f : LineFrame) (h : Kept s₀ s) : Kept s₀ (s.ackDue f) := by
  grind [State.ackDue, kept_modLine]

theorem kept_acceptFrame (f : LineFrame) (h : Kept s₀ s) : Kept s₀ (s.acceptFrame f) := by
  grind [State.acceptFrame, kept_lineStat, kept_modLine, kept_takeSeen, kept_hear, kept_takeDelta, kept_issueSet,
    kept_lineContent, kept_ackDue]

theorem kept_gotData (f : LineFrame) (h : Kept s₀ s) : Kept s₀ (s.gotData f) := by
  grind [State.gotData, kept_issueSet, kept_modLine, kept_modPeer, kept_ackDue, kept_lineStat, kept_badFrame, kept_acceptFrame]

theorem kept_lineReceive (f : LineFrame) (h : Kept s₀ s) : Kept s₀ (s.lineReceive f) := by
  grind [State.lineReceive, kept_foldl, kept_modLine]

theorem outKept_execLineFrameRx (f : LineFrame) (h : Kept s₀ s) : OutKept s₀ (execLineFrameRx f s) := by
  grind [execLineFrameRx, outKept_onlyIf, kept_lineReceive, kept_gotData, kept_gotAck]

theorem kept_dropProtected (l : List LineTx) (h : Kept s₀ s) : Kept s₀ (s.dropProtected l) := by
  induction l generalizing s with
  | nil => exact h
  | cons a l ih =>
    rw [State.dropProtected]
    exact ih (by grind [kept_endTx])

theorem kept_lineRevoked (n : Nat) (h : Kept s₀ s) : Kept s₀ (s.lineRevoked n) := by
  grind [State.lineRevoked, kept_evtLineSec, kept_modLine, kept_dropProtected]

theorem kept_stopSends (l : List LineTx) (h : Kept s₀ s) : Kept s₀ (s.stopSends l) := by
  induction l generalizing s with
  | nil => exact h
  | cons a l ih =>
    rw [State.stopSends]
    exact ih (by grind [kept_finish])

theorem kept_stopRequests (l : List LinePeer) (h : Kept s₀ s) : Kept s₀ (s.stopRequests l) := by
  induction l generalizing s with
  | nil => exact h
  | cons a l ih =>
    rw [State.stopRequests]
    exact ih (by grind [kept_endMapRequest])

theorem kept_lineStop (h : Kept s₀ s) : Kept s₀ s.lineStop := by
  grind [State.lineStop, kept_stopRequests, kept_stopSends, kept_modLine]

theorem outKept_execLineConfigSet (q : Req) (h : Kept s₀ s) : OutKept s₀ (execLineConfigSet q s) := by
  grind [execLineConfigSet, kept_update, outKept_mail, kept_no, kept_lineStop, kept_modLine, kept_ok, kept_effect]

theorem outKept_execLineSend (q : Req) (h : Kept s₀ s) : OutKept s₀ (execLineSend q s) := by
  grind [execLineSend, outKept_lineMail, kept_no, kept_queued, kept_lineEnq]

theorem outKept_execLineMapRequest (q : Req) (h : Kept s₀ s) : OutKept s₀ (execLineMapRequest q s) := by
  grind [execLineMapRequest, outKept_lineMail, kept_no, kept_hear, kept_queued, kept_requestSet]

/-! ### Low-side switches -/

theorem kept_modLswCh (c : Nat) (f : LswCh → LswCh) (h : Kept s₀ s) : Kept s₀ (s.modLswCh c f) := by
  grind [State.modLswCh, kept_update]

theorem kept_modLswBank (k : Nat) (f : LswBank → LswBank) (h : Kept s₀ s) : Kept s₀ (s.modLswBank k f) := by
  grind [State.modLswBank, kept_update]

theorem kept_evtLsw (c kind : Nat) (h : Kept s₀ s) : Kept s₀ (s.evtLsw c kind) := by
  grind [State.evtLsw, kept_emit]

theorem kept_evtBank (k ev : Nat) (h : Kept s₀ s) : Kept s₀ (s.evtBank k ev) := by
  grind [State.evtBank, kept_emit]

theorem kept_lswApply (c : Nat) (h : Kept s₀ s) : Kept s₀ (s.lswApply c) := by
  grind [State.lswApply, kept_modLswCh]

theorem kept_lswOn (c : Nat) (h : Kept s₀ s) : Kept s₀ (s.lswOn c) := by
  grind [State.lswOn, kept_lswApply, kept_modLswCh]

theorem kept_lswOff (c : Nat) (h : Kept s₀ s) : Kept s₀ (s.lswOff c) := by
  grind [State.lswOff, kept_modLswCh]

theorem kept_lswFollow (c : Nat) (h : Kept s₀ s) : Kept s₀ (s.lswFollow c) := by
  grind [State.lswFollow, kept_lswOn, kept_modLswCh, kept_lswOff]

theorem kept_limpFollow (l : List Nat) (h : Kept s₀ s) : Kept s₀ (s.limpFollow l) := by
  induction l generalizing s with
  | nil => exact h
  | cons a l ih =>
    rw [State.limpFollow]
    exact ih (by grind [kept_lswFollow, kept_lswApply])

theorem kept_setLimp (pin wdg : Bool) (h : Kept s₀ s) : Kept s₀ (s.setLimp pin wdg) := by
  grind [State.setLimp, kept_update, kept_maintEnd, kept_limpFollow, kept_emit]

theorem outKept_execLimpHomeInput (low : Bool) (h : Kept s₀ s) : OutKept s₀ (execLimpHomeInput low s) := by
  grind [execLimpHomeInput, kept_setLimp, outKept_next]

theorem outKept_execCcWatchdogExpiry (h : Kept s₀ s) : OutKept s₀ (execCcWatchdogExpiry s) := by
  grind [execCcWatchdogExpiry, outKept_onlyIf, kept_setLimp]

theorem outKept_execLhinChange (n : Nat) (high : Bool) (h : Kept s₀ s) : OutKept s₀ (execLhinChange n high s) := by
  grind [execLhinChange, kept_update, outKept_onlyIf, kept_limpFollow]

theorem kept_limitSample (k : Nat) (h : Kept s₀ s) : Kept s₀ (s.limitSample k) := by
  grind [State.limitSample, kept_modLswBank]

theorem outKept_execLswCurrentLimit (ch ma : Nat) (h : Kept s₀ s) : OutKept s₀ (execLswCurrentLimit ch ma s) := by
  grind [execLswCurrentLimit, outKept_onlyIf, kept_limitSample, kept_modLswCh]

theorem kept_lswTripOff (c : Nat) (h : Kept s₀ s) : Kept s₀ (s.lswTripOff c) := by
  grind [State.lswTripOff, kept_limitSample, kept_lswOff, kept_evtLsw, kept_modLswCh, kept_raise, kept_raiseRetried]

theorem outKept_execLswBlankEnd (ch : Nat) (h : Kept s₀ s) : OutKept s₀ (execLswBlankEnd ch s) := by
  grind [execLswBlankEnd, outKept_onlyIf, kept_modLswCh, kept_lswTripOff]

theorem outKept_execLswOvercurrent (ch : Nat) (h : Kept s₀ s) : OutKept s₀ (execLswOvercurrent ch s) := by
  grind [execLswOvercurrent, outKept_onlyIf, kept_lswTripOff]

theorem outKept_execLswRetry (ch : Nat) (h : Kept s₀ s) : OutKept s₀ (execLswRetry ch s) := by
  grind [execLswRetry, outKept_onlyIf, kept_modLswCh, kept_lswOn]

theorem outKept_execLswRetryConfirm (ch : Nat) (h : Kept s₀ s) : OutKept s₀ (execLswRetryConfirm ch s) := by
  grind [execLswRetryConfirm, outKept_onlyIf, kept_modLswCh, kept_evtLsw, kept_transient]

theorem kept_lswLatch (kind c : Nat) (h : Kept s₀ s) : Kept s₀ (s.lswLatch kind c) := by
  grind [State.lswLatch, kept_evtLsw, kept_raise, kept_modLswCh, kept_lswOff]

theorem outKept_execLswThermalTrip (bank : Bool) (k : Nat) (t : Int) (h : Kept s₀ s) :
    OutKept s₀ (execLswThermalTrip bank k t s) := by
  grind [execLswThermalTrip, outKept_onlyIf, kept_limitSample, kept_foldl, kept_lswLatch, kept_modLswBank, kept_modLswCh]

theorem outKept_execLswThermalRelease (bank : Bool) (k : Nat) (t : Int) (h : Kept s₀ s) :
    OutKept s₀ (execLswThermalRelease bank k t s) := by
  grind [execLswThermalRelease, outKept_onlyIf, kept_modLswBank, kept_modLswCh]

theorem outKept_execLswOpenLoad (ch : Nat) (h : Kept s₀ s) : OutKept s₀ (execLswOpenLoad ch s) := by
  grind [execLswOpenLoad, outKept_onlyIf, kept_modLswCh, kept_evtLsw, kept_raise]

theorem kept_cutPulses (l : List ONum) (h : Kept s₀ s) : Kept s₀ (s.cutPulses l) := by
  induction l generalizing s with
  | nil => exact h
  | cons a l ih =>
    rw [State.cutPulses]
    exact ih (by grind [kept_modLock, kept_lockFailed])

theorem outKept_execBankUndervoltage (k mv10 : Nat) (h : Kept s₀ s) : OutKept s₀ (execBankUndervoltage k mv10 s) := by
  refine outKept_onlyIf h fun _ => kept_evtBank _ _ (kept_raise _ _ _ (kept_limitSample _ (kept_cutPulses _ ?_)))
  exact kept_foldl _ (kept_modLswBank _ _ h) fun s c hs => kept_lswOff c hs

theorem outKept_execBankRecover (k mv10 : Nat) (h : Kept s₀ s) : OutKept s₀ (execBankRecover k mv10 s) := by
  grind [execBankRecover, outKept_onlyIf, kept_modLswBank, kept_lswFollow, kept_modLswCh, kept_evtBank, kept_foldl]

theorem outKept_execPwmPeriod (v cur : List Nat) (temp : List Int) (bcur : List Nat) (btemp : List Int) (h : Kept s₀ s) :
    OutKept s₀ (execPwmPeriod v cur temp bcur btemp s) := by
  grind [execPwmPeriod, kept_update, kept_modLswBank, kept_foldl, kept_lswApply, outKept_next]

theorem kept_lswShed (h : Kept s₀ s) : Kept s₀ s.lswShed := by
  grind [State.lswShed, kept_foldl, kept_lswOff]

theorem outKept_execLswChanSet (q : Req) (h : Kept s₀ s) : OutKept s₀ (execLswChanSet q s) := by
  grind [execLswChanSet, kept_update, outKept_mail, kept_ok, kept_effect]

theorem outKept_execLswOut (q : Req) (h : Kept s₀ s) : OutKept s₀ (execLswOut q s) := by
  grind [execLswOut, outKept_mail, kept_modLswCh, kept_ok, kept_lswFollow, kept_no, kept_lswApply]

theorem outKept_execLswClear (q : Req) (h : Kept s₀ s) : OutKept s₀ (execLswClear q s) := by
  grind [execLswClear, outKept_mail, kept_no, kept_ok, kept_modLswCh, kept_lswFollow]

end Sys2Proof.Machine
end

section
/-! PROOFS. The bounds under the lattice, the network and NFC (08, 15, 16). -/

namespace Sys2Proof.Machine

variable {s₀ s : State}

/-! ### The lattice -/

theorem kept_modLat (f : Lattice → Lattice) (h : Kept s₀ s) : Kept s₀ (s.modLat f) := by
  grind [State.modLat, kept_update]

theorem kept_evtMember (event id : Nat) (h : Kept s₀ s) : Kept s₀ (s.evtMember event id) := by
  grind [State.evtMember, kept_emit]

theorem kept_evtFloor (st : Nat) (h : Kept s₀ s) : Kept s₀ (s.evtFloor st) := by
  grind [State.evtFloor, kept_emit]

theorem kept_toFloor (h : Kept s₀ s) : Kept s₀ s.toFloor := by
  grind [State.toFloor, kept_evtFloor, kept_raise, kept_modLat]

theorem kept_launchPort (p : Nat) (x : Launch) (h : Kept s₀ s) : Kept s₀ (s.launchPort p x) := by
  grind [State.launchPort, kept_update, kept_raise]

theorem kept_launchOn (sec ns : Nat) (type round : Nat) (body : Bytes) (h : Kept s₀ s) :
    Kept s₀ (s.launchOn sec ns type round body) := by
  grind [State.launchOn, kept_foldl, kept_launchPort]

theorem kept_leadRound (h : Kept s₀ s) : Kept s₀ s.leadRound := by
  grind [State.leadRound, kept_raise, kept_modLat, kept_evtMember]

theorem kept_lostEvents (l : List Nat) (h : Kept s₀ s) : Kept s₀ (s.lostEvents l) := by
  induction l generalizing s with
  | nil => exact h
  | cons a l ih =>
    rw [State.lostEvents]
    exact ih (by grind [kept_evtMember])

theorem kept_putMember (m : Member) (h : Kept s₀ s) : Kept s₀ (s.putMember m) := by
  grind [State.putMember, kept_modLat]

theorem kept_takeReport (f : LatFrame) (h : Kept s₀ s) : Kept s₀ (s.takeReport f) := by
  grind [State.takeReport, kept_putMember, kept_evtMember]

theorem kept_newLeader (id : Nat) (h : Kept s₀ s) : Kept s₀ (s.newLeader id) := by
  grind [State.newLeader, kept_evtMember, kept_modLat]

theorem kept_takeShare (f : LatFrame) (h : Kept s₀ s) : Kept s₀ (s.takeShare f) := by
  grind [State.takeShare, kept_update, kept_putMember, kept_modLat, kept_newLeader]

theorem kept_latStep (h : Kept s₀ s) : Kept s₀ s.latStep := by
  grind [State.latStep, kept_update, kept_modLat, kept_evtFloor, kept_toFloor]

theorem outKept_execStepInstant (h : Kept s₀ s) : OutKept s₀ (execStepInstant s) := by
  grind [execStepInstant, kept_update, outKept_onlyIf, kept_rebase, kept_latStep, kept_applyStep]

theorem outKept_execLatFrameRx (frame : Bytes) (h : Kept s₀ s) : OutKept s₀ (execLatFrameRx frame s) := by
  grind [execLatFrameRx, outKept_onlyIf, kept_modLat, kept_raise, kept_takeShare, kept_takeReport]

theorem outKept_execLatReportTx (h : Kept s₀ s) : OutKept s₀ (execLatReportTx s) := by
  grind [execLatReportTx, outKept_onlyIf, kept_launchOn, kept_modLat]

theorem kept_closeRound (h : Kept s₀ s) : Kept s₀ s.closeRound := by
  unfold State.closeRound
  extract_lets next ms lost s1 s2 lowest lead gone s3 s4 repeats s5
  have h2 : Kept s₀ s2 := kept_lostEvents _ (kept_modLat _ h)
  have h3 : Kept s₀ s3 := kept_ite (fun _ => kept_newLeader _ h2) fun _ => kept_ite (fun _ => kept_newLeader _ h2) fun _ => h2
  have h4 : Kept s₀ s4 := kept_modLat _ h3
  have h5 : Kept s₀ s5 := kept_ite (fun _ => h4) fun _ => kept_ite (fun _ => kept_modLat _ h4) fun _ => kept_leadRound h4
  exact kept_modLat _ h5

theorem outKept_execLatRoundClose (h : Kept s₀ s) : OutKept s₀ (execLatRoundClose s) := by
  grind [execLatRoundClose, outKept_onlyIf, kept_closeRound]

theorem kept_shareOut (round : Nat) (body : Bytes) (h : Kept s₀ s) : Kept s₀ (s.shareOut round body) := by
  grind [State.shareOut, kept_update, kept_launchOn]

theorem outKept_execLatShareTx (h : Kept s₀ s) : OutKept s₀ (execLatShareTx s) := by
  grind [execLatShareTx, outKept_onlyIf, kept_shareOut, kept_modLat, outKept_next]

theorem outKept_execLatConfigSet (q : Req) (h : Kept s₀ s) : OutKept s₀ (execLatConfigSet q s) := by
  grind [execLatConfigSet, kept_update, outKept_mail, kept_no, kept_effect, kept_ok, kept_toFloor]

/-! ### Network and time -/

theorem kept_modNet (f : Net → Net) (h : Kept s₀ s) : Kept s₀ (s.modNet f) := by
  grind [State.modNet, kept_update]

theorem kept_netStat (k : Nat) (h : Kept s₀ s) : Kept s₀ (s.netStat k) := by
  grind [State.netStat, kept_modNet]

theorem outKept_execEthFrameRx (port : Nat) (f : EthFrame) (residence : Nat) (h : Kept s₀ s) :
    OutKept s₀ (execEthFrameRx port f residence s) := by
  grind [execEthFrameRx, outKept_onlyIf, kept_modNet, kept_netStat]

theorem outKept_execAddressAgeing (mac : Nat) (h : Kept s₀ s) : OutKept s₀ (execAddressAgeing mac s) := by
  grind [execAddressAgeing, outKept_onlyIf, kept_modNet]

theorem outKept_execPhyLinkChange (port : Nat) (up fast : Bool) (h : Kept s₀ s) :
    OutKept s₀ (execPhyLinkChange port up fast s) := by
  grind [execPhyLinkChange, outKept_onlyIf, kept_modNet, kept_emit]

theorem kept_evtSync (src dst : Nat) (step : Int) (h : Kept s₀ s) : Kept s₀ (s.evtSync src dst step) := by
  grind [State.evtSync, kept_emit]

theorem kept_setSync (k : Nat) (h : Kept s₀ s) : Kept s₀ (s.setSync k) := by
  grind [State.setSync, kept_evtSync, kept_modNet]

theorem kept_lateFrames (p : Nat) (l : List Launch) (h : Kept s₀ s) : Kept s₀ (s.lateFrames p l) := by
  induction l generalizing s with
  | nil => exact h
  | cons a l ih =>
    rw [State.lateFrames]
    exact ih (by grind [kept_modNet, kept_launchPort])

theorem kept_clockStep (d : Int) (dst : Nat) (h : Kept s₀ s) : Kept s₀ (s.clockStep d dst) := by
  grind [State.clockStep, kept_modNet, kept_evtSync, kept_lateFrames]

theorem kept_loseLock (h : Kept s₀ s) : Kept s₀ s.loseLock := by
  grind [State.loseLock, kept_setSync, kept_modNet]

theorem kept_ptpOffset (offset : Int) (h : Kept s₀ s) : Kept s₀ (s.ptpOffset offset) := by
  unfold State.ptpOffset
  grind [kept_update, kept_modNet, kept_loseLock, kept_setSync, kept_clockStep]

theorem kept_chooseParent (h : Kept s₀ s) : Kept s₀ s.chooseParent := by
  grind [State.chooseParent, kept_modNet, kept_setSync]

theorem kept_syncTaken (d : Int) (h : Kept s₀ s) : Kept s₀ (s.syncTaken d) := by
  grind [State.syncTaken, kept_update, kept_modNet, kept_ptpOffset]

theorem kept_takeStamps (h : Kept s₀ s) : Kept s₀ s.takeStamps := by
  grind [State.takeStamps, kept_modNet, kept_foldl]

theorem kept_answerPeer (h : Kept s₀ s) : Kept s₀ s.answerPeer := by
  grind [State.answerPeer, kept_modNet]

theorem kept_ptpHandle (x : PtpRx) (rx : Nat) (h : Kept s₀ s) : Kept s₀ (s.ptpHandle x rx) := by
  grind [State.ptpHandle, kept_chooseParent, kept_modNet, kept_syncTaken, kept_answerPeer]

theorem outKept_execPtpMessage (x : PtpRx) (h : Kept s₀ s) : OutKept s₀ (execPtpMessage x s) := by
  grind [execPtpMessage, outKept_onlyIf, kept_draw, kept_ptpHandle, kept_takeStamps]

theorem outKept_execPtpSyncTimeout (h : Kept s₀ s) : OutKept s₀ (execPtpSyncTimeout s) := by
  grind [execPtpSyncTimeout, outKept_onlyIf, kept_loseLock]

theorem outKept_execNetHoldover (h : Kept s₀ s) : OutKept s₀ (execNetHoldover s) := by
  grind [execNetHoldover, outKept_onlyIf, kept_raise, kept_modNet]

theorem outKept_execTxTimestamp (port ident : Nat) (sec ns : Nat) (h : Kept s₀ s) :
    OutKept s₀ (execTxTimestamp port ident sec ns s) := by
  grind [execTxTimestamp, outKept_onlyIf, kept_raise, kept_netStat, kept_draw, kept_modNet]

theorem outKept_execLaunchTime (port : Nat) (h : Kept s₀ s) : OutKept s₀ (execLaunchTime port s) := by
  grind [execLaunchTime, outKept_onlyIf, kept_modNet, kept_foldl, kept_netStat]

theorem outKept_execToutEdge (k : Nat) (h : Kept s₀ s) : OutKept s₀ (execToutEdge k s) := by
  grind [execToutEdge, outKept_onlyIf, kept_modNet]

theorem outKept_execTcapEdge (k : Nat) (rising : Bool) (frac : Nat) (h : Kept s₀ s) :
    OutKept s₀ (execTcapEdge k rising frac s) := by
  grind [execTcapEdge, outKept_onlyIf, kept_netStat, kept_modNet, kept_emit]

theorem kept_snapshot (h : Kept s₀ s) : Kept s₀ s.snapshot := by
  grind [State.snapshot, kept_modNet]

theorem outKept_execSysTimeSnapshot (q : Req) (h : Kept s₀ s) : OutKept s₀ (execSysTimeSnapshot q s) := by
  grind [execSysTimeSnapshot, outKept_mail, kept_ok, kept_snapshot]

theorem kept_ptpRestart (h : Kept s₀ s) : Kept s₀ s.ptpRestart := by
  grind [State.ptpRestart, kept_modNet, kept_loseLock, kept_setSync]

theorem outKept_execNetConfigSet (q : Req) (h : Kept s₀ s) : OutKept s₀ (execNetConfigSet q s) := by
  grind [execNetConfigSet, kept_update, outKept_mail, kept_effect, kept_ok, kept_ptpRestart]

theorem outKept_execNetToutSet (q : Req) (h : Kept s₀ s) : OutKept s₀ (execNetToutSet q s) := by
  grind [execNetToutSet, outKept_netMail, kept_ok, kept_modNet]

theorem outKept_execNetTcapSet (q : Req) (h : Kept s₀ s) : OutKept s₀ (execNetTcapSet q s) := by
  grind [execNetTcapSet, outKept_netMail, kept_ok, kept_modNet]

theorem outKept_execNetTcapRead (q : Req) (h : Kept s₀ s) : OutKept s₀ (execNetTcapRead q s) := by
  grind [execNetTcapRead, outKept_netMail, kept_ok, kept_modNet]

theorem outKept_execNetTimeSet (q : Req) (h : Kept s₀ s) : OutKept s₀ (execNetTimeSet q s) := by
  grind [execNetTimeSet, outKept_netMail, kept_no, kept_clockStep, kept_ok, kept_offerCorrection]

/-! ### NFC and the service tag -/

theorem kept_modNfc (f : Nfc → Nfc) (h : Kept s₀ s) : Kept s₀ (s.modNfc f) := by
  grind [State.modNfc, kept_update]

theorem kept_modTag (f : Tag → Tag) (h : Kept s₀ s) : Kept s₀ (s.modTag f) := by
  grind [State.modTag, kept_update]

theorem kept_evtCard (count type : Nat) (outlet result : Nat) (id : Bytes) (h : Kept s₀ s) :
    Kept s₀ (s.evtCard count type outlet result id) := by
  grind [State.evtCard, kept_emit]

theorem kept_oneCard (type : Nat) (id : Bytes) (h : Kept s₀ s) : Kept s₀ (s.oneCard type id) := by
  grind [State.oneCard, kept_evtCard, kept_modNfc, kept_askEmergency, kept_identify]

theorem outKept_execNfcPoll (field : Nat) (typeA : List Card) (typeB : List (List (List Bytes))) (h : Kept s₀ s) :
    OutKept s₀ (execNfcPoll field typeA typeB s) := by
  refine outKept_onlyIf h fun _ => ?_
  extract_lets s1 a b s2
  have h1 : Kept s₀ s1 := kept_openGates _ h
  have h2 : Kept s₀ s2 := by
    simp only [s2]
    split
    · exact kept_modNfc _ h1
    · exact h1
  split
  · exact h2
  · exact kept_oneCard _ _ h2
  · exact kept_evtCard _ _ _ _ _ h2

theorem outKept_execNfcPollResume (h : Kept s₀ s) : OutKept s₀ (execNfcPollResume s) := by
  grind [execNfcPollResume, outKept_onlyIf, kept_modNfc]

theorem kept_evtTag (ev page : Nat) (h : Kept s₀ s) : Kept s₀ (s.evtTag ev page) := by
  grind [State.evtTag, kept_emit]

theorem kept_tagUid (h : Kept s₀ s) : Kept s₀ s.tagUid := by
  grind [State.tagUid, kept_update, kept_modTag]

theorem kept_tagSay (sw : Nat) (data : Bytes) (h : Kept s₀ s) : Kept s₀ (s.tagSay sw data) := by
  grind [State.tagSay, kept_modTag]

theorem outKept_execTagFieldOn (h' : Nat) (h : Kept s₀ s) : OutKept s₀ (execTagFieldOn h' s) := by
  grind [execTagFieldOn, outKept_onlyIf, kept_modNfc, kept_modTag, kept_evtTag, kept_tagUid]

theorem outKept_execTagGuardEnd (h : Kept s₀ s) : OutKept s₀ (execTagGuardEnd s) := by
  grind [execTagGuardEnd, outKept_onlyIf, kept_modTag]

theorem kept_tagDown (h : Kept s₀ s) : Kept s₀ s.tagDown := by
  grind [State.tagDown, kept_modTag]

theorem kept_fieldDown (h : Kept s₀ s) : Kept s₀ s.fieldDown := by
  grind [State.fieldDown, kept_modTag, kept_foldl, kept_finish, kept_tagDown]

theorem outKept_execTagFieldOff (h : Kept s₀ s) : OutKept s₀ (execTagFieldOff s) := by
  grind [execTagFieldOff, outKept_onlyIf, kept_evtTag, kept_modNfc, kept_tagDown]

theorem outKept_execTagReqa (wupa : Bool) (h : Kept s₀ s) : OutKept s₀ (execTagReqa wupa s) := by
  grind [execTagReqa, outKept_onlyIf, kept_tagSay, kept_modTag]

theorem outKept_execTagAnticollision (nvb : Nat) (bits : Bytes) (h : Kept s₀ s) :
    OutKept s₀ (execTagAnticollision nvb bits s) := by
  grind [execTagAnticollision, outKept_onlyIf, kept_tagSay, kept_modTag]

theorem outKept_execTagSelect (uid : Bytes) (h : Kept s₀ s) : OutKept s₀ (execTagSelect uid s) := by
  grind [execTagSelect, outKept_onlyIf, kept_tagSay, kept_modTag]

theorem outKept_execTagRats (h : Kept s₀ s) : OutKept s₀ (execTagRats s) := by
  grind [execTagRats, outKept_onlyIf, kept_tagSay, kept_modTag]

theorem outKept_execTagHalt (h : Kept s₀ s) : OutKept s₀ (execTagHalt s) := by
  grind [execTagHalt, outKept_onlyIf, kept_modTag]

theorem outKept_execTagHello (rndr : Bytes) (h : Kept s₀ s) : OutKept s₀ (execTagHello rndr s) := by
  grind [execTagHello, outKept_onlyIf, kept_modTag, kept_tagSay, kept_draw]

theorem kept_tagAuthCheck (h : Kept s₀ s) : Kept s₀ s.tagAuthCheck :=
  kept_ite (fun _ => kept_raise _ _ _ (kept_store h id)) fun _ => h

theorem kept_tagWrong (h : Kept s₀ s) : Kept s₀ s.tagWrong := by
  grind [State.tagWrong, kept_update, kept_modTag, kept_evtTag, kept_tagSay, kept_tagAuthCheck]

theorem outKept_execTagProve (pr : Bytes) (h : Kept s₀ s) : OutKept s₀ (execTagProve pr s) := by
  grind [execTagProve, outKept_onlyIf, kept_modTag, kept_tagSay, kept_evtTag, kept_tagWrong]

theorem outKept_execTagAuthLockEnd (h : Kept s₀ s) : OutKept s₀ (execTagAuthLockEnd s) := by
  grind [execTagAuthLockEnd, outKept_onlyIf, kept_modTag]

theorem kept_tagSecured (sw : Nat) (data : Bytes) (h : Kept s₀ s) : Kept s₀ (s.tagSecured sw data) := by
  grind [State.tagSecured, kept_modTag, kept_tagSay]

theorem kept_tagAnswer (sw : Nat) (data : Bytes) (h : Kept s₀ s) : Kept s₀ (s.tagAnswer sw data) := by
  grind [State.tagAnswer, kept_tagSecured, kept_tagSay]

/-- A command of the tag behind its authentication: its effect keeps the bounds wherever it starts. -/
theorem kept_tagGate (apdu mac : Bytes) {f : State → State} (h : Kept s₀ s) (hf : ∀ s, Kept s₀ s → Kept s₀ (f s)) :
    Kept s₀ (s.tagGate apdu mac f) := by
  have hhello := kept_modTag (fun t => { t with hello := none }) h
  exact kept_ite (fun _ => kept_tagSay _ _ (kept_modTag _ hhello)) fun _ => hf _ hhello

theorem outKept_execPageRead (page off le : Nat) (mac : Bytes) (h : Kept s₀ s) : OutKept s₀ (execPageRead page off le mac s) := by
  grind [execPageRead, outKept_onlyIf, kept_tagGate, kept_tagAnswer]

theorem outKept_execPageWrite (page off : Nat) (data mac : Bytes) (h : Kept s₀ s) :
    OutKept s₀ (execPageWrite page off data mac s) := by
  grind [execPageWrite, outKept_onlyIf, kept_tagGate, kept_tagSay, kept_tagSecured, kept_modTag]

theorem outKept_execTagPageCommit (ok retried : Bool) (h : Kept s₀ s) : OutKept s₀ (execTagPageCommit ok retried s) := by
  unfold execTagPageCommit
  split
  · exact outKept_next h
  · next w rest _ =>
    extract_lets s1 store sw s2 s3
    have h1 : Kept s₀ s1 := kept_modTag _ h
    have hw : Kept s₀ sw := kept_store h1 fun hm => Memory.writeN_wf hm ..
    have h2 : Kept s₀ s2 :=
      kept_ite (fun _ => kept_ite (fun _ => kept_transient _ _ _ hw) fun _ => hw) fun _ => kept_raiseRetried _ _ _ h1
    refine outKept_next ?_
    split
    · exact kept_finish _ _ _ _ (kept_ite (fun _ => kept_effect _ _ _ h2) fun _ => h2)
    · have h3 : Kept s₀ s3 := kept_ite (fun _ => kept_tagSecured _ _ h2) fun _ => h2
      exact kept_ite (fun _ => kept_evtTag _ _ h3) fun _ => h3

theorem outKept_execTagHostLockTimeout (h : Kept s₀ s) : OutKept s₀ (execTagHostLockTimeout s) := by
  grind [execTagHostLockTimeout, kept_finish, kept_modTag, outKept_next]

theorem outKept_execLastStateUpdate (h : Kept s₀ s) : OutKept s₀ (execLastStateUpdate s) := by
  grind [execLastStateUpdate, outKept_onlyIf, kept_tagAuthCheck, kept_lastState]

theorem kept_tagRevoked (n : Nat) (h : Kept s₀ s) : Kept s₀ (s.tagRevoked n) := by
  grind [State.tagRevoked, kept_update]

theorem kept_tagStart (h : Kept s₀ s) : Kept s₀ s.tagStart := by
  unfold State.tagStart
  extract_lets d s1 fitted page store
  refine kept_ite (fun _ => h) fun _ => kept_store (s := s1) (kept_draw h) fun hm => ?_
  have hwritten (l : Bytes) : Memory.wf (Memory.writeN s1.store.tagMem 0 l) = true := Memory.writeN_wf hm 0 l
  apply hwritten

theorem outKept_execNfcConfigSet (q : Req) (h : Kept s₀ s) : OutKept s₀ (execNfcConfigSet q s) := by
  grind [execNfcConfigSet, kept_update, outKept_mail, kept_ok, kept_effect]

theorem outKept_execNfcTagWrite (q : Req) (h : Kept s₀ s) : OutKept s₀ (execNfcTagWrite q s) := by
  grind [execNfcTagWrite, outKept_nfcMail, kept_sized, kept_no, kept_wait, kept_modTag]

theorem outKept_execNfcTagKey (q : Req) (h : Kept s₀ s) : OutKept s₀ (execNfcTagKey q s) := by
  grind [execNfcTagKey, kept_update, outKept_nfcMail, kept_no, kept_ok, kept_effect]

end Sys2Proof.Machine
end

section
/-! PROOFS. The bounds under panel, power, resets, faults and clocks (18, 20 to 22, 24). -/

namespace Sys2Proof.Machine

variable {s₀ s : State}

/-! ### Panel -/

/-- The panel changed, with a frame memory that stays canonical. -/
theorem kept_modPanel (f : Panel → Panel) (h : Kept s₀ s) (hf : Memory.wf s.panel.mem = true → Memory.wf (f s.panel).mem = true) :
    Kept s₀ (s.modPanel f) where
  rings := h.rings
  flt := h.flt
  sev := h.sev
  out := h.out
  tag := h.tag
  panel h₀ := hf (h.panel h₀)
  sswen := h.sswen

theorem kept_integrate (h : Kept s₀ s) : Kept s₀ s.integrate := by
  grind [State.integrate, kept_foldl, kept_modPanel]

theorem kept_buildMap (h : Kept s₀ s) : Kept s₀ s.buildMap := by
  grind [State.buildMap, kept_modPanel]

theorem outKept_execStressSave (h : Kept s₀ s) : OutKept s₀ (execStressSave s) :=
  outKept_onlyIf h fun _ => kept_buildMap (kept_modPanel _ (kept_store h id) id)

theorem kept_loadStress (h : Kept s₀ s) : Kept s₀ s.loadStress := by
  grind [State.loadStress, kept_foldl, kept_buildMap, kept_modPanel, kept_raise]

theorem kept_panelUp (h : Kept s₀ s) : Kept s₀ s.panelUp := kept_modPanel _ h fun _ => rfl

theorem outKept_execPanelFrame (h : Kept s₀ s) : OutKept s₀ (execPanelFrame s) := by
  grind [execPanelFrame, outKept_onlyIf, kept_finish, kept_modPanel, kept_integrate]

theorem outKept_execVpanLow (v : Nat) (h : Kept s₀ s) : OutKept s₀ (execVpanLow v s) := by
  grind [execVpanLow, outKept_onlyIf, kept_raise, kept_modPanel]

theorem outKept_execVpanRecover (v : Nat) (h : Kept s₀ s) : OutKept s₀ (execVpanRecover v s) := by
  grind [execVpanRecover, outKept_onlyIf, kept_modPanel]

theorem outKept_execPanelConfigSet (q : Req) (h : Kept s₀ s) : OutKept s₀ (execPanelConfigSet q s) := by
  grind [execPanelConfigSet, kept_update, outKept_mail, kept_effect, kept_ok, kept_buildMap]

theorem outKept_execPanelWrite (q : Req) (h : Kept s₀ s) : OutKept s₀ (execPanelWrite q s) := by
  refine outKept_panelMail h (kept_sized _ _ h (kept_ans_ite (fun _ => h) fun _ => ?_))
  exact kept_ok _ (kept_modPanel _ h fun hm => Memory.writeN_wf hm ..)

theorem outKept_execPanelFlip (q : Req) (h : Kept s₀ s) : OutKept s₀ (execPanelFlip q s) := by
  grind [execPanelFlip, outKept_panelMail, kept_no, kept_queued, kept_modPanel]

theorem outKept_execPanelCurveSet (q : Req) (h : Kept s₀ s) : OutKept s₀ (execPanelCurveSet q s) := by
  grind [execPanelCurveSet, kept_update, outKept_panelMail, kept_sized, kept_no, kept_ok, kept_effect, kept_buildMap]

/-! ### Power domains -/

theorem kept_metaDown (h : Kept s₀ s) : Kept s₀ s.metaDown :=
  kept_update (kept_vmap (f := fun x => { x with pilot := {}, pp := {} }) h (fun _ => id) fun _ => id) rfl rfl rfl rfl rfl rfl rfl

theorem kept_panelDown (h : Kept s₀ s) : Kept s₀ s.panelDown := by
  grind [State.panelDown, kept_finish, kept_panelUp]

theorem kept_domainDown (d : Nat) (h : Kept s₀ s) : Kept s₀ (s.domainDown d) := by
  unfold State.domainDown
  grind [kept_update, kept_openList, kept_metaDown, kept_pilOff, kept_sourceTo, kept_lineStop, kept_fieldDown, kept_panelDown]

theorem kept_domainsDown (l : List Nat) (h : Kept s₀ s) : Kept s₀ (s.domainsDown l) := by
  induction l generalizing s with
  | nil => exact h
  | cons a l ih =>
    rw [State.domainsDown]
    exact ih (by grind [kept_domainDown, kept_maintEnd])

theorem kept_setDomains (on : Nat) (h : Kept s₀ s) : Kept s₀ (s.setDomains on) := by
  grind [State.setDomains, kept_update, kept_domainsDown]

theorem kept_toQuiet (net : Bool) (h : Kept s₀ s) : Kept s₀ (s.toQuiet net) := by
  grind [State.toQuiet, kept_update, kept_setDomains, kept_evtPower, kept_evtDomain]

theorem outKept_execSysPowerSet (q : Req) (h : Kept s₀ s) : OutKept s₀ (execSysPowerSet q s) := by
  grind [execSysPowerSet, kept_update, kept_evtPower, kept_complete, outKept_mail, kept_no, kept_ok, kept_wake, kept_toQuiet,
    outKept_next]

theorem outKept_execSysDomainSet (q : Req) (h : Kept s₀ s) : OutKept s₀ (execSysDomainSet q s) := by
  grind [execSysDomainSet, kept_update, outKept_mail, kept_no, kept_setDomains, kept_ok, kept_evtDomain, kept_wait]

theorem kept_domainsGood (h : Kept s₀ s) : Kept s₀ s.domainsGood := by
  grind [State.domainsGood, kept_update, kept_evtDomain, kept_finish]

theorem outKept_execDomainSwitchTimeout (d : Nat) (h : Kept s₀ s) : OutKept s₀ (execDomainSwitchTimeout d s) := by
  grind [execDomainSwitchTimeout, kept_update, outKept_onlyIf, kept_finish, kept_setDomains, outKept_next]

theorem kept_domainFailed (d : Nat) (h : Kept s₀ s) : Kept s₀ (s.domainFailed d) := by
  grind [State.domainFailed, kept_update, kept_setDomains, kept_openList, kept_evtDomain, kept_raiseRetried]

theorem outKept_execDomainPgLoss (d : Nat) (back : Bool) (h : Kept s₀ s) : OutKept s₀ (execDomainPgLoss d back s) := by
  grind [execDomainPgLoss, outKept_onlyIf, kept_transient, kept_domainDown, kept_domainFailed]

theorem outKept_execPilotRail (vpn : Bool) (v : Int) (h : Kept s₀ s) : OutKept s₀ (execPilotRail vpn v s) := by
  grind [execPilotRail, kept_update, kept_raise, kept_openList, outKept_next]

theorem outKept_execBakSwitchover (vbak : Bool) (h : Kept s₀ s) : OutKept s₀ (execBakSwitchover vbak s) := by
  grind [execBakSwitchover, kept_update, outKept_next]

theorem outKept_execVbakLow (mv : Nat) (h : Kept s₀ s) : OutKept s₀ (execVbakLow mv s) := by
  grind [execVbakLow, kept_update, kept_raise, outKept_next]

theorem kept_pfCfgWrite (v : Nat) (h : Kept s₀ s) : Kept s₀ (pfCfgWrite s v) := by
  grind [pfCfgWrite, kept_update, kept_tmrWritten]

/-! ### Power states and resets -/

theorem kept_gasp1 (h : Kept s₀ s) : Kept s₀ s.gasp1 :=
  kept_vmap h (fun _ _ => ⟨fun hen => Bool.noConfusion hen, fun _ => rfl⟩) fun _ hen => Bool.noConfusion hen

theorem kept_closePq (l : List PqRec) (h : Kept s₀ s) : Kept s₀ (s.closePq l) := by
  induction l generalizing s with
  | nil => exact h
  | cons a l ih =>
    rw [State.closePq]
    exact ih (by grind [kept_pqStore])

theorem kept_gasp2 (h : Kept s₀ s) : Kept s₀ s.gasp2 := by
  unfold State.gasp2
  extract_lets old s1 cut pwr s2 q en s3
  have hcut : Kept s₀ { s1 with out := vmap cut s1.out } := kept_vmap (kept_lswShed h) (fun _ => id) fun _ => id
  have h2 : Kept s₀ s2 := kept_setDomains _ (kept_update hcut rfl rfl rfl rfl rfl rfl rfl)
  have h3 : Kept s₀ s3 := kept_closePq _ (kept_update h2 rfl rfl rfl rfl rfl rfl rfl)
  exact kept_ite (fun _ => h3) fun _ => kept_evtDomain _ _ h3

theorem kept_gasp3 (h : Kept s₀ s) : Kept s₀ s.gasp3 := by
  grind [State.gasp3, kept_update, kept_latchNow]

theorem kept_gasp4 (h : Kept s₀ s) : Kept s₀ s.gasp4 := by
  unfold State.gasp4
  extract_lets hit open_ isl bak
  have hopen : Kept s₀ { s with out := vmapi open_ s.out } := by
    refine kept_vmapi h (fun i x hx => ?_) fun i x => ?_ <;> simp only [open_] <;> split
    exacts [hx, ⟨fun hen => Bool.noConfusion hen, fun _ => rfl⟩, id, fun hen => Bool.noConfusion hen]
  exact kept_update hopen rfl rfl rfl rfl rfl rfl rfl

theorem kept_gasp5 (h : Kept s₀ s) : Kept s₀ s.gasp5 := by
  grind [State.gasp5, kept_update]

theorem kept_gasp6 (h : Kept s₀ s) : Kept s₀ s.gasp6.1 := by
  grind [State.gasp6, kept_update, kept_commitAll]

theorem kept_lastGasp (upto : Nat) (fail : Bool) (h : Kept s₀ s) : Kept s₀ (s.lastGasp upto fail) := by
  unfold State.lastGasp
  extract_lets s1 s2 s3 s4 s5 d s6 bak
  have h1 : Kept s₀ s1 := kept_ite (fun _ => kept_gasp1 h) fun _ => h
  have h2 : Kept s₀ s2 := kept_ite (fun _ => kept_gasp2 h1) fun _ => h1
  have h3 : Kept s₀ s3 := kept_ite (fun _ => kept_gasp3 h2) fun _ => h2
  have h4 : Kept s₀ s4 := kept_ite (fun _ => kept_gasp4 h3) fun _ => h3
  have h5 : Kept s₀ s5 := kept_ite (fun _ => kept_gasp5 h4) fun _ => h4
  have h6 : Kept s₀ s6 := by
    simp only [s6, d]
    split
    · exact kept_gasp6 h5
    · exact h5
  exact kept_ite (fun _ => h6) fun _ => kept_update h6 rfl rfl rfl rfl rfl rfl rfl

theorem sevOk_defaultSev : SevOk defaultSev := by
  unfold SevOk
  decide

theorem ringBounds_resetPair (n : Nat) : RingBounds (resetPair n) := by
  change (3 ≤ 6 ∧ 6 ≤ 9) ∧ (3 ≤ 6 ∧ 6 ≤ 9) ∧ ringCount 0 0 ≤ 2 ^ 6 ∧ ringCount 0 0 ≤ 2 ^ 6
  decide

theorem pairOk_resetPair (n : Nat) : PairOk (resetPair n) := by
  refine ⟨?_, Nat.zero_le 32, fun _ => ringBounds_resetPair n⟩
  change (if n = 0 then 1 else 0) ≤ 2
  split <;> omega

theorem ringsOk_reset : RingsOk State.reset.rings := ⟨⟨rfl, rfl⟩, fun n => get_resetPairs n ▸ pairOk_resetPair n.val⟩

/-- A reset leaves the bounds of what it clears, and keeps the committed pages of the tag. -/
theorem kept_afterReset (awaiting : Option Nat) (h : Kept s₀ s) : Kept s₀ (s.afterReset awaiting) where
  rings _ := ringsOk_reset
  flt _ := Nat.zero_le 64
  sev _ := sevOk_defaultSev
  out _ o := by
    change OutletOk ((vmap _ s.out).get o)
    rw [get_vmap]
    exact ⟨fun hen => Bool.noConfusion hen, fun _ => rfl⟩
  tag := h.tag
  panel _ := rfl
  sswen o hen := by
    change (Vector.get (vmap (fun x : Outlet => ({ lock := { locked := x.lock.locked } } : Outlet)) s.out) o).sw.sswen = true at hen
    rw [get_vmap] at hen
    exact Bool.noConfusion hen

theorem kept_resetTo (cause : Nat) (h : Kept s₀ s) : Kept s₀ (s.resetTo cause) := by
  grind [State.resetTo, kept_afterReset]

theorem kept_powerless (p : PowerState) (fell : Bool) (h : Kept s₀ s) : Kept s₀ (s.powerless p fell) := by
  grind [State.powerless, kept_update, kept_afterReset]

theorem outKept_execHrst (low : Bool) (h : Kept s₀ s) : OutKept s₀ (execHrst low s) := by
  grind [execHrst, kept_update, kept_resetTo, kept_lastGasp, outKept_next]

theorem outKept_execPowerFail (t : Nat) (h : Kept s₀ s) : OutKept s₀ (execPowerFail t s) := by
  grind [execPowerFail, kept_update, outKept_onlyIf, kept_lastGasp, kept_setDomains]

theorem outKept_execPowerfailRecovery (h : Kept s₀ s) : OutKept s₀ (execPowerfailRecovery s) := by
  grind [execPowerfailRecovery, outKept_onlyIf, kept_resetTo]

theorem outKept_execVsupMinFall (mv : Nat) (h : Kept s₀ s) : OutKept s₀ (execVsupMinFall mv s) := by
  grind [execVsupMinFall, kept_update, kept_powerless, outKept_next]

theorem kept_por (h : Kept s₀ s) : Kept s₀ s.por := by
  grind [State.por, kept_update]

theorem outKept_execVsupReturn (h : Kept s₀ s) : OutKept s₀ (execVsupReturn s) := by
  grind [execVsupReturn, kept_resetTo, kept_por, outKept_next]

theorem outKept_execDormantEntry (h : Kept s₀ s) : OutKept s₀ (execDormantEntry s) := by
  grind [execDormantEntry, outKept_onlyIf, kept_gasp3, kept_powerless, kept_gasp6]

theorem outKept_execWatchdogReset (h : Kept s₀ s) : OutKept s₀ (execWatchdogReset s) := by
  grind [execWatchdogReset, outKept_onlyIf, kept_resetTo, kept_lastGasp]

theorem outKept_execLpddrEccError (addr : Nat) (h : Kept s₀ s) : OutKept s₀ (execLpddrEccError addr s) := by
  grind [execLpddrEccError, outKept_onlyIf, kept_raise, kept_resetTo, kept_lastGasp]

theorem outKept_execSafeStateReset (h : Kept s₀ s) : OutKept s₀ (execSafeStateReset s) := by
  grind [execSafeStateReset, outKept_onlyIf, kept_resetTo, kept_lastGasp]

/-! ### The Base-Note Window -/

theorem kept_bnwLateUp (h : Kept s₀ s) : Kept s₀ s.bnwLateUp := by
  grind [State.bnwLateUp, kept_update]

theorem kept_driveHio (v : Nat) (h : Kept s₀ s) : Kept s₀ (s.driveHio v) := by
  grind [State.driveHio, kept_update]

theorem kept_bnwAnswer (off : Nat) (late : Bool) (nth : Nat) (h : Kept s₀ s) : Kept s₀ (s.bnwAnswer off late nth) := by
  grind [State.bnwAnswer, kept_update, kept_driveHio, kept_bnwLateUp]

theorem kept_setHostcap (o : ONum) (v : Nat) (h : Kept s₀ s) : Kept s₀ (s.setHostcap o v) := by
  grind [State.setHostcap, kept_update]

theorem kept_bnwPut (off v nth : Nat) (h : Kept s₀ s) : Kept s₀ (s.bnwPut off v nth) := by
  grind [State.bnwPut, kept_update, kept_bnwLateUp, kept_setHostcap]

theorem outKept_execBnwRead (off : Nat) (late : Bool) (nth : Nat) (h : Kept s₀ s) : OutKept s₀ (execBnwRead off late nth s) := by
  grind [execBnwRead, outKept_onlyIf, kept_bnwAnswer]

theorem outKept_execBnwEnergy0Read (late : Bool) (h : Kept s₀ s) : OutKept s₀ (execBnwEnergy0Read late s) := by
  grind [execBnwEnergy0Read, outKept_onlyIf, kept_bnwAnswer]

theorem outKept_execBnwWrite (off v nth : Nat) (h : Kept s₀ s) : OutKept s₀ (execBnwWrite off v nth s) := by
  grind [execBnwWrite, outKept_onlyIf, kept_bnwPut]

theorem outKept_execBnwSetpointWrite (v : Nat) (h : Kept s₀ s) : OutKept s₀ (execBnwSetpointWrite v s) := by
  grind [execBnwSetpointWrite, outKept_onlyIf, kept_bnwPut]

theorem outKept_execBnwEnergyRefresh (h : Kept s₀ s) : OutKept s₀ (execBnwEnergyRefresh s) := by
  grind [execBnwEnergyRefresh, kept_update, outKept_onlyIf]

theorem kept_bnwSelect (v : Nat) (h : Kept s₀ s) : Kept s₀ (s.bnwSelect v) := by
  grind [State.bnwSelect, kept_update, kept_raise]

/-! ### The fault collector -/

theorem kept_openOccs (src : Nat) (l : List Occ) (h : Kept s₀ s) : Kept s₀ (openOccs s src l) := by
  induction l generalizing s with
  | nil => exact h
  | cons a l ih =>
    rw [openOccs]
    exact ih (by grind [kept_outletFault])

theorem sevOk_set {l : List Nat} {src new : Nat} (h : SevOk l) (hnew : floorSource src = true → reservedSrc src = false → 2 ≤ new) :
    SevOk (l.set src new) := by
  intro i hi hfloor hres
  have hl := h i hi hfloor hres
  by_cases hsame : i = src
  · subst hsame
    grind
  · grind

/-- A severity written: what is written keeps the floor of its source (R611). -/
theorem kept_setSev (src new : Nat) (h : Kept s₀ s)
    (hnew : SevOk s₀.flt.sev → floorSource src = true → reservedSrc src = false → 2 ≤ new) : Kept s₀ (setSev s src new) := by
  have hset : Kept s₀ { s with flt := { s.flt with sev := s.flt.sev.set src new } } :=
    ⟨h.rings, h.flt, fun h₀ => sevOk_set (h.sev h₀) (hnew h₀), h.out, h.tag, h.panel, h.sswen⟩
  unfold setSev
  extract_lets old flt₁ s1 nmiOf flt₂ s2 s3 s4
  have h2 : Kept s₀ s2 := kept_update hset rfl rfl rfl rfl rfl rfl rfl
  have h3 : Kept s₀ s3 := kept_ite (fun _ => kept_openOccs _ _ h2) fun _ => h2
  have h4 : Kept s₀ s4 := kept_ite (fun _ => kept_openList _ _ h3) fun _ => h3
  exact kept_ite (fun _ => hset) fun _ => kept_ite (fun _ => kept_wake _ h4) fun _ => h4

theorem kept_sevWrite (m v k : Nat) (h : Kept s₀ s) : Kept s₀ (sevWrite s m v k) := by
  induction k with
  | zero => exact h
  | succ k ih =>
    rw [sevWrite]
    refine kept_ite (fun _ => ih) fun htaken => kept_setSev _ _ ih fun _ hfloor hres => ?_
    simp only [Bool.or_eq_true, Bool.and_eq_true, decide_eq_true_eq] at htaken
    grind

theorem kept_forceWrite (m v k : Nat) (h : Kept s₀ s) : Kept s₀ (forceWrite s m v k) := by
  induction k with
  | zero => exact h
  | succ k ih =>
    rw [forceWrite]
    exact kept_ite (fun _ => kept_raiseWith _ _ _ _ _ ih) fun _ => ih

theorem kept_unreadAck (m v : Nat) (h : Kept s₀ s) : Kept s₀ (unreadAck s m v) := by
  grind [unreadAck, kept_update]

theorem kept_fltWrite (off v : Nat) (h : Kept s₀ s) : Kept s₀ (fltWrite s off v) := by
  grind [fltWrite, kept_update, kept_unreadAck, kept_forceWrite, kept_tmrWrite, kept_sevWrite, kept_tmrWritten]

theorem kept_relocked (k : Nat) (h : Kept s₀ s) : Kept s₀ (s.relocked k) := by
  grind [State.relocked, kept_update]

theorem outKept_execFaultRetry (src qual data : Nat) (ok : Bool) (h : Kept s₀ s) :
    OutKept s₀ (execFaultRetry src qual data ok s) := by
  grind [execFaultRetry, kept_transient, kept_relocked, kept_raiseRetried, outKept_next]

theorem outKept_execFltSeveritySet (q : Req) (h : Kept s₀ s) : OutKept s₀ (execFltSeveritySet q s) := by
  grind [execFltSeveritySet, outKept_mail, kept_no, kept_ok, kept_tmrWrite, kept_setSev]

/-! ### Clearing faults -/

theorem outKept_execFaultOccurrence (src qual data : Nat) (h : Kept s₀ s) : OutKept s₀ (execFaultOccurrence src qual data s) := by
  grind [execFaultOccurrence, kept_raise, outKept_next]

theorem kept_afterClear (x : Occ) (h : Kept s₀ s) : Kept s₀ (s.afterClear x) := by
  grind [State.afterClear, kept_sfSettle, kept_faultedExit]

theorem kept_clearList (l : List Occ) (h : Kept s₀ s) : Kept s₀ (s.clearList l) := by
  induction l generalizing s with
  | nil => exact h
  | cons a l ih =>
    rw [State.clearList]
    exact ih (by grind [kept_clearOcc, kept_afterClear])

theorem outKept_execFltClear (q : Req) (h : Kept s₀ s) : OutKept s₀ (execFltClear q s) := by
  grind [execFltClear, outKept_mail, kept_no, kept_clearList, kept_ok]

/-! ### Clocks -/

theorem kept_markStep (step code : Nat) (h : Kept s₀ s) : Kept s₀ (s.markStep step code) := by
  grind [State.markStep, kept_update]

theorem kept_nonMaskable (h : Kept s₀ s) : Kept s₀ s.nonMaskable := by
  grind [State.nonMaskable, kept_update]

theorem kept_emergency (islands : Nat) (h : Kept s₀ s) : Kept s₀ (s.emergency islands) := by
  grind [State.emergency, kept_update]

theorem outKept_execClkmonWindow (clk count : Nat) (lockLow : Bool) (h : Kept s₀ s) :
    OutKept s₀ (execClkmonWindow clk count lockLow s) := by
  grind [execClkmonWindow, kept_update, outKept_onlyIf]

theorem kept_relockAll (was : Nat) (h : Kept s₀ s) : Kept s₀ (s.relockAll was) := by
  grind [State.relockAll, kept_update, kept_foldl, kept_evtDomain, kept_setDomains]

theorem outKept_execClockTrip (clk : Nat) (h : Kept s₀ s) : OutKept s₀ (execClockTrip clk s) := by
  grind [execClockTrip, kept_update, outKept_onlyIf, kept_emergency, kept_nonMaskable, kept_markStep, kept_raise, kept_relockAll]

theorem kept_toSpare (h : Kept s₀ s) : Kept s₀ s.toSpare := by
  grind [State.toSpare, kept_update, kept_markStep]

theorem kept_primaryStopped (h : Kept s₀ s) : Kept s₀ s.primaryStopped := by
  grind [State.primaryStopped, kept_raise, kept_toSpare]

theorem outKept_execRc48Stop (h : Kept s₀ s) : OutKept s₀ (execRc48Stop s) := by
  grind [execRc48Stop, outKept_onlyIf, kept_primaryStopped]

theorem outKept_execClockSelfcheck (prim spare : Int) (h : Kept s₀ s) : OutKept s₀ (execClockSelfcheck prim spare s) := by
  grind [execClockSelfcheck, kept_update, outKept_onlyIf, kept_primaryStopped]

theorem outKept_execRc48StartTimeout (spare : Bool) (h : Kept s₀ s) : OutKept s₀ (execRc48StartTimeout spare s) := by
  grind [execRc48StartTimeout, outKept_onlyIf, kept_nonMaskable, kept_toSpare, kept_resetTo, kept_gasp5, kept_gasp4, kept_gasp2,
    kept_gasp1]

theorem outKept_execLfxoLoss (h : Kept s₀ s) : OutKept s₀ (execLfxoLoss s) := by
  grind [execLfxoLoss, kept_update, outKept_onlyIf, kept_raise]

theorem outKept_execPilotPeriodTrim (h : Kept s₀ s) : OutKept s₀ (execPilotPeriodTrim s) := by
  grind [execPilotPeriodTrim, kept_update, outKept_onlyIf]

theorem kept_selWrite (v : Nat) (h : Kept s₀ s) : Kept s₀ (selWrite s v) := by
  grind [selWrite, kept_update]

theorem outKept_execClkSwitchDone (i : Nat) (h : Kept s₀ s) : OutKept s₀ (execClkSwitchDone i s) := by
  grind [execClkSwitchDone, kept_update, outKept_onlyIf]

theorem outKept_execClkSwhang (i : Nat) (h : Kept s₀ s) : OutKept s₀ (execClkSwhang i s) := by
  grind [execClkSwhang, outKept_onlyIf, kept_raise]

theorem kept_forceClkWrite (v : Nat) (h : Kept s₀ s) : Kept s₀ (forceClkWrite s v) := by
  grind [forceClkWrite, kept_update]

theorem kept_zeroAccess (addr : Nat) (h : Kept s₀ s) : Kept s₀ (s.zeroAccess addr) := by
  grind [State.zeroAccess, kept_update]

theorem kept_meterWrite (v : Nat) (h : Kept s₀ s) : Kept s₀ (meterWrite s v) := by
  grind [meterWrite, kept_update]

theorem outKept_execClkMeterDone (count : Nat) (stopped : Bool) (h : Kept s₀ s) :
    OutKept s₀ (execClkMeterDone count stopped s) := by
  grind [execClkMeterDone, kept_update, outKept_onlyIf]

theorem kept_gateWrite (v : Nat) (h : Kept s₀ s) : Kept s₀ (gateWrite s v) := by
  grind [gateWrite, kept_update, kept_foldl]

end Sys2Proof.Machine
end

section
/-! PROOFS. The bounds under credit, DLMS, maintenance and keys (12, 13, 19, 21). -/

namespace Sys2Proof.Machine

variable {s₀ s : State}

/-! ### Credit -/

theorem kept_modCr (f : Credit → Credit) (h : Kept s₀ s) : Kept s₀ (s.modCr f) := by
  grind [State.modCr, kept_update]

theorem kept_projected (h : Kept s₀ s) : Kept s₀ s.projected := by
  grind [State.projected, kept_foldl, kept_applyCredit]

theorem kept_queueCredit (op : CreditOp) (cmd : Option (Nat × Nat)) (h : Kept s₀ s) : Kept s₀ (s.queueCredit op cmd) := by
  grind [State.queueCredit, kept_trigger, kept_modCr]

theorem kept_evaluateAll (h : Kept s₀ s) : Kept s₀ s.evaluateAll := by
  grind [State.evaluateAll, kept_foldl, kept_followCredit]

theorem outKept_execCreditEvaluate (h : Kept s₀ s) : OutKept s₀ (execCreditEvaluate s) := by
  grind [execCreditEvaluate, outKept_onlyIf, kept_evaluateAll, kept_modCr]

theorem outKept_execGraceExpiry (a : Nat) (h : Kept s₀ s) : OutKept s₀ (execGraceExpiry a s) := by
  grind [execGraceExpiry, outKept_onlyIf, kept_modCr]

theorem outKept_execFriendlyWindowEnd (h : Kept s₀ s) : OutKept s₀ (execFriendlyWindowEnd s) := by
  grind [execFriendlyWindowEnd, outKept_onlyIf, kept_evaluateAll, kept_modCr]

theorem outKept_execCreditEpochCheck (h : Kept s₀ s) : OutKept s₀ (execCreditEpochCheck s) := by
  grind [execCreditEpochCheck, outKept_onlyIf, kept_emit, kept_modCr]

theorem kept_badEntry (h : Kept s₀ s) : Kept s₀ s.badEntry := by
  grind [State.badEntry, kept_update]

theorem kept_evtVoucher (result route : Nat) (v : Option Voucher) (h : Kept s₀ s) : Kept s₀ (s.evtVoucher result route v) := by
  unfold State.evtVoucher
  grind [kept_emit, kept_draw]

theorem kept_enterVoucher (digits : List Nat) (route : Nat) (cmd : Option (Nat × Nat)) (h : Kept s₀ s) :
    Kept s₀ (s.enterVoucher digits route cmd).2.2 := by
  grind [State.enterVoucher, kept_queueCredit, kept_evtVoucher, kept_badEntry]

theorem outKept_execKeypadScan (cols : Nat) (h : Kept s₀ s) : OutKept s₀ (execKeypadScan cols s) := by
  grind [execKeypadScan, outKept_onlyIf, kept_modCr]

theorem kept_dropEntry (h : Kept s₀ s) : Kept s₀ s.dropEntry := by
  grind [State.dropEntry, kept_modCr]

theorem kept_enterPin (ds : List Nat) (ec : Bool) (h : Kept s₀ s) : Kept s₀ (s.enterPin ds ec) := by
  grind [State.enterPin, kept_update, kept_modCr, kept_badEntry, kept_askEmergency, kept_identify]

theorem kept_keyEnter (h : Kept s₀ s) : Kept s₀ s.keyEnter := by
  grind [State.keyEnter, kept_dropEntry, kept_modCr, kept_enterVoucher, kept_enterPin]

theorem outKept_execKeyAccept (key : Nat) (h : Kept s₀ s) : OutKept s₀ (execKeyAccept key s) := by
  grind [execKeyAccept, outKept_onlyIf, kept_modCr, kept_confirmKey, kept_emit, kept_dropEntry, kept_keyEnter]

theorem outKept_execKeypadEntryTimeout (h : Kept s₀ s) : OutKept s₀ (execKeypadEntryTimeout s) := by
  grind [execKeypadEntryTimeout, outKept_onlyIf, kept_dropEntry]

theorem outKept_execOutletSelectExpiry (h : Kept s₀ s) : OutKept s₀ (execOutletSelectExpiry s) := by
  grind [execOutletSelectExpiry, outKept_onlyIf, kept_modCr]

theorem outKept_execKeypadLockoutEnd (h : Kept s₀ s) : OutKept s₀ (execKeypadLockoutEnd s) := by
  grind [execKeypadLockoutEnd, kept_update, outKept_onlyIf]

theorem outKept_execKeypadQuietWake (h : Kept s₀ s) : OutKept s₀ (execKeypadQuietWake s) := by
  grind [execKeypadQuietWake, outKept_onlyIf, kept_wake, kept_modCr]

theorem outKept_execCreditAccountSet (q : Req) (h : Kept s₀ s) : OutKept s₀ (execCreditAccountSet q s) := by
  grind [execCreditAccountSet, outKept_mail, kept_wait, kept_queueCredit]

theorem outKept_execCreditAdjust (q : Req) (h : Kept s₀ s) : OutKept s₀ (execCreditAdjust q s) := by
  grind [execCreditAdjust, outKept_mail, kept_projected, kept_wait, kept_queueCredit]

theorem outKept_execCreditBind (q : Req) (h : Kept s₀ s) : OutKept s₀ (execCreditBind q s) := by
  grind [execCreditBind, outKept_mail, kept_projected, kept_no, kept_wait, kept_queueCredit]

theorem outKept_execCreditConfigSet (q : Req) (h : Kept s₀ s) : OutKept s₀ (execCreditConfigSet q s) := by
  grind [execCreditConfigSet, kept_update, outKept_mail, kept_no, kept_ok, kept_effect]

theorem outKept_execVoucherEnter (q : Req) (h : Kept s₀ s) : OutKept s₀ (execVoucherEnter q s) := by
  grind [execVoucherEnter, outKept_mail, kept_enterVoucher, kept_wait, kept_no, kept_ok, kept_draw]

/-! ### Dlms -/

theorem kept_evtAssoc (ev client : Nat) (server transport channel : Nat) (h : Kept s₀ s) :
    Kept s₀ (s.evtAssoc ev client server transport channel) := by
  grind [State.evtAssoc, kept_emit]

theorem kept_evtSecurity (kind client : Nat) (h : Kept s₀ s) : Kept s₀ (s.evtSecurity kind client) := by
  grind [State.evtSecurity, kept_emit]

theorem kept_rejectAarq (client server : Nat) (transport channel result : Nat) (h : Kept s₀ s) :
    Kept s₀ (s.rejectAarq client server transport channel result) := by
  grind [State.rejectAarq, kept_carry, kept_modDl, kept_evtAssoc]

theorem kept_aarq (client server : Nat) (transport channel : Nat) (hls : Hls) (h : Kept s₀ s) :
    Kept s₀ (s.aarq client server transport channel hls) := by
  grind [State.aarq, kept_update, kept_tunnelEnd, kept_rejectAarq, kept_draw, kept_evtSecurity, kept_respond, kept_evtAssoc,
    kept_modDl]

theorem outKept_execDlmsAarq (client server : Nat) (transport channel : Nat) (h' : Hls) (h : Kept s₀ s) :
    OutKept s₀ (execDlmsAarq client server transport channel h' s) := by
  grind [execDlmsAarq, outKept_apdu, kept_aarq]

theorem kept_endAssoc (a ev : Nat) (h : Kept s₀ s) : Kept s₀ (s.endAssoc a ev) := by
  grind [State.endAssoc, kept_evtAssoc, kept_modDl]

theorem outKept_execDlmsRlrq (a : Nat) (h : Kept s₀ s) : OutKept s₀ (execDlmsRlrq a s) := by
  grind [execDlmsRlrq, outKept_apdu, kept_respond, kept_endAssoc]

theorem kept_dlRevoked (n : Nat) (h : Kept s₀ s) : Kept s₀ (s.dlRevoked n) := by
  grind [State.dlRevoked, kept_modDl]

theorem outKept_execDlmsIdleRelease (a : Nat) (h : Kept s₀ s) : OutKept s₀ (execDlmsIdleRelease a s) := by
  grind [execDlmsIdleRelease, outKept_onlyIf, kept_endAssoc]

theorem outKept_execDlmsLockoutEnd (client : Nat) (h : Kept s₀ s) : OutKept s₀ (execDlmsLockoutEnd client s) := by
  grind [execDlmsLockoutEnd, kept_update, outKept_next]

theorem kept_request (a prot ivc : Nat) {f : Nat → Assoc → State → State} (h : Kept s₀ s)
    (hf : ∀ r x s, Kept s₀ s → Kept s₀ (f r x s)) : Kept s₀ (s.request a prot ivc f) := by
  unfold State.request
  split
  · split
    · exact kept_tunnelEnd _ _ h
    · exact h
  · next x _ =>
    extract_lets r s1 old s2
    have h1 : Kept s₀ s1 := kept_modDl _ h
    have h2 : Kept s₀ s2 := kept_ite (fun _ => h1) fun _ => kept_modDl _ h1
    exact kept_ite (fun _ => kept_tunnelEnd _ _ h) fun _ =>
      kept_ite (fun _ => kept_tunnelEnd _ _ (kept_endAssoc _ _ h)) fun _ =>
      kept_ite (fun _ => kept_respond _ _ _ _ _ _ (kept_evtSecurity _ _ h)) fun _ =>
      kept_ite (fun _ => kept_respond _ _ _ _ _ _ (kept_evtSecurity _ _ h1)) fun _ => hf _ _ _ h2

theorem kept_answer (x : Assoc) (result : Nat) (vals : List Int) (h : Kept s₀ s) : Kept s₀ (s.answer x result vals) := by
  grind [State.answer, kept_respond]

theorem kept_commitIvc (x : Assoc) (h : Kept s₀ s) : Kept s₀ (s.commitIvc x) := by
  grind [State.commitIvc, kept_update]

theorem kept_setBlocks (a n : Nat) (l : List Bytes) (h : Kept s₀ s) : Kept s₀ (s.setBlocks a n l) := by
  grind [State.setBlocks, kept_modDl]

theorem kept_answerAll (a : Nat) (x : Assoc) (l : List (Nat × List Int)) (h : Kept s₀ s) : Kept s₀ (s.answerAll a x l) := by
  grind [State.answerAll, kept_respondAll, kept_setBlocks, kept_sendApdu, kept_modDl]

theorem kept_nextBlock (a : Nat) (x : Assoc) (n : Nat) (h : Kept s₀ s) : Kept s₀ (s.nextBlock a x n) := by
  grind [State.nextBlock, kept_answer, kept_sendApdu, kept_setBlocks]

theorem outKept_execDlmsGet (a : Nat) (g : DlGet) (prot ivc : Nat) (h : Kept s₀ s) : OutKept s₀ (execDlmsGet a g prot ivc s) := by
  grind [execDlmsGet, outKept_apdu, kept_request, kept_answer, kept_answerAll, kept_nextBlock]

theorem kept_dlSet (a : Nat) (x : Assoc) (ic ob attr : Nat) (val : Bytes) (h : Kept s₀ s) :
    Kept s₀ (s.dlSet a x ic ob attr val).2 := by
  unfold State.dlSet
  grind [kept_update, kept_setTime, kept_modDl, kept_armBoundary, kept_queueCredit]

theorem kept_dlSets (a r : Nat) (x : Assoc) (l : List DlWrite) (h : Kept s₀ s) : Kept s₀ (s.dlSets a r x l).2 := by
  refine kept_foldl_snd l h fun acc w hacc => ?_
  dsimp only
  split
  · exact hacc
  · split
    · exact hacc
    · exact kept_dlSet _ _ _ _ _ _ hacc

theorem outKept_execDlmsSet (a : Nat) (l : List DlWrite) (prot ivc : Nat) (h : Kept s₀ s) :
    OutKept s₀ (execDlmsSet a l prot ivc s) := by
  grind [execDlmsSet, outKept_apdu, kept_request, kept_answer, kept_dlSets, kept_replyAfter, kept_commitIvc]

theorem kept_dlAct (x : Assoc) (ic ob method : Nat) (val : Bytes) (h : Kept s₀ s) : Kept s₀ (s.dlAct x ic ob method val).2 := by
  unfold State.dlAct
  grind [kept_update, kept_setTime, kept_armClose, kept_tamperClear, kept_armBoundary, kept_sessTo, kept_setControl,
    kept_enterVoucher]

theorem outKept_execDlmsAction (a ic : Nat) (ob method : Nat) (val : Bytes) (prot ivc : Nat) (h : Kept s₀ s) :
    OutKept s₀ (execDlmsAction a ic ob method val prot ivc s) := by
  grind [execDlmsAction, outKept_apdu, kept_request, kept_answer, kept_dlAct, kept_replyAfter, kept_commitIvc]

theorem outKept_execDlmsTunnel (q : Req) (h : Kept s₀ s) : OutKept s₀ (execDlmsTunnel q s) := by
  grind [execDlmsTunnel, outKept_mail, kept_no, kept_wait, kept_modDl]

theorem outKept_execDlmsConfigSet (q : Req) (h : Kept s₀ s) : OutKept s₀ (execDlmsConfigSet q s) := by
  grind [execDlmsConfigSet, kept_update, outKept_mail, kept_no, kept_ok, kept_effect]

theorem outKept_execDlmsAssocAbort (q : Req) (h : Kept s₀ s) : OutKept s₀ (execDlmsAssocAbort q s) := by
  grind [execDlmsAssocAbort, outKept_mail, kept_modDl, kept_ok, kept_foldl, kept_evtAssoc]

/-! ### Maintenance -/

theorem kept_evtMaint (a : MaAct) (st : Nat) (h : Kept s₀ s) : Kept s₀ (s.evtMaint a st) := by
  grind [State.evtMaint, kept_emit]

theorem kept_maBegin (a : MaAct) (h : Kept s₀ s) : Kept s₀ (s.maBegin a) := by
  grind [State.maBegin, kept_update, kept_abandonVisit, kept_evtMaint]

theorem kept_maReply (a : MaAct) (status : Nat) (head data : Bytes) (h : Kept s₀ s) : Kept s₀ (s.maReply a status head data) := by
  grind [State.maReply, kept_finishWith, kept_bulkPut, kept_finish]

theorem kept_maFinish (a : MaAct) (result cause : Nat) (data : Bytes) (h : Kept s₀ s) :
    Kept s₀ (s.maFinish a result cause data) := by
  grind [State.maFinish, kept_update, kept_maReply, kept_evtMaint]

theorem kept_maReject (a : MaAct) (status : Nat) (h : Kept s₀ s) : Kept s₀ (s.maReject a status) := by
  grind [State.maReject, kept_update, kept_maReply]

theorem kept_maAbortAll (cause : Nat) (l : List MaAct) (h : Kept s₀ s) : Kept s₀ (s.maAbortAll cause l) := by
  induction l generalizing s with
  | nil => exact h
  | cons a l ih =>
    rw [State.maAbortAll]
    exact ih (by grind [kept_maFinish])

theorem kept_maTerms (l : List (Nat × Int × Int)) (h : Kept s₀ s) : Kept s₀ (s.maTerms l) := by
  induction l generalizing s with
  | nil => exact h
  | cons a l ih =>
    rw [State.maTerms]
    exact ih (by grind [kept_modCh])

theorem kept_maEffect (a : MaAct) (m : MaMeas) (h : Kept s₀ s) : Kept s₀ (s.maEffect a m) := by
  unfold State.maEffect
  grind [kept_update, kept_raise, kept_weld, kept_maTerms]

theorem outKept_execMaActivityEnd (tag : Nat) (m : MaMeas) (h : Kept s₀ s) : OutKept s₀ (execMaActivityEnd tag m s) := by
  grind [execMaActivityEnd, kept_maFinish, kept_maEffect, outKept_next]

theorem outKept_execMaActivityStart (h : Kept s₀ s) : OutKept s₀ (execMaActivityStart s) := by
  grind [execMaActivityStart, kept_maReject, kept_maBegin, outKept_next]

theorem outKept_execMaQueueTimeout (tag : Nat) (h : Kept s₀ s) : OutKept s₀ (execMaQueueTimeout tag s) := by
  refine outKept_next ?_
  split
  · exact h
  · exact kept_maReject _ _ h

theorem outKept_execMaStart (q : Req) (h : Kept s₀ s) : OutKept s₀ (execMaStart q s) := by
  unfold execMaStart
  extract_lets p a c fits refused
  clear_value refused
  split
  · exact outKept_mail h (kept_no _ h)
  · refine outKept_mailQ h fun hflown => kept_wait ?_
    have hqueued : Kept s₀ { flown c q s with maint := (flown c q s).maint ++ [a] } := kept_update hflown rfl rfl rfl rfl rfl rfl rfl
    exact kept_ite (fun _ => kept_maBegin _ hqueued) fun _ => hqueued

theorem outKept_execMaAbort (q : Req) (h : Kept s₀ s) : OutKept s₀ (execMaAbort q s) := by
  grind [execMaAbort, outKept_mail, kept_no, kept_ok, kept_maFinish]

theorem kept_maEntries (l : List MaAct) (h : Kept s₀ s) : Kept s₀ (s.maEntries l).2 := by
  induction l generalizing s with
  | nil => exact h
  | cons a l ih =>
    rw [State.maEntries]
    exact ih (by grind [kept_draw])

theorem outKept_execMaStatus (q : Req) (h : Kept s₀ s) : OutKept s₀ (execMaStatus q s) := by
  grind [execMaStatus, outKept_mail, kept_maEntries, kept_ok]

/-! ### Keys -/

theorem kept_modKey (f : Keys → Keys) (h : Kept s₀ s) : Kept s₀ (s.modKey f) := by
  grind [State.modKey, kept_update]

theorem kept_evtKey (n kind root : Nat) (h : Kept s₀ s) : Kept s₀ (s.evtKey n kind root) := by
  grind [State.evtKey, kept_emit]

theorem kept_keyRevoked (n : Nat) (h : Kept s₀ s) : Kept s₀ (s.keyRevoked n) := by
  grind [State.keyRevoked, kept_tagRevoked, kept_lineRevoked, kept_dlRevoked, kept_v2gRevoked]

theorem kept_revokeSlot (n : Nat) (h : Kept s₀ s) : Kept s₀ (s.revokeSlot n) := by
  grind [State.revokeSlot, kept_setSlot]

theorem kept_revokeTree (n kind : Nat) (h : Kept s₀ s) : Kept s₀ (s.revokeTree n kind) := by
  grind [State.revokeTree, kept_keyRevoked, kept_foldl, kept_setSlot, kept_revokeSlot, kept_evtKey]

theorem kept_keyCommit (h : Kept s₀ s) : Kept s₀ s.keyCommit := by
  grind [State.keyCommit, kept_update]

theorem kept_revokeQuiet (n : Nat) (l : List Nat) (h : Kept s₀ s) : Kept s₀ (s.revokeQuiet n l) := by
  grind [State.revokeQuiet, kept_keyRevoked, kept_foldl, kept_revokeSlot]

theorem kept_installKey (n kind : Nat) (x : Slot) (h : Kept s₀ s) : Kept s₀ (s.installKey n kind x) := by
  grind [State.installKey, kept_revokeQuiet, kept_setSlot, kept_foldl, kept_evtKey]

theorem kept_applyKeyMsg (m : KeyMsg) (mat : Bytes) (tag : Nat) (h : Kept s₀ s) : Kept s₀ (s.applyKeyMsg m mat tag) := by
  grind [State.applyKeyMsg, kept_update, kept_draw, kept_installKey, kept_revokeTree, kept_effect, kept_keyCommit]

theorem outKept_execKeyUpdate (q : Req) (h : Kept s₀ s) : OutKept s₀ (execKeyUpdate q s) := by
  grind [execKeyUpdate, outKept_mailQ, kept_openGates, kept_no, kept_raise, kept_applyKeyMsg, kept_ok]

theorem outKept_execKeyDerive (q : Req) (h : Kept s₀ s) : OutKept s₀ (execKeyDerive q s) := by
  grind [execKeyDerive, outKept_mail, kept_no, kept_openGates, kept_installKey, kept_ok, kept_effect, kept_keyCommit]

theorem outKept_execKeyRevoke (q : Req) (h : Kept s₀ s) : OutKept s₀ (execKeyRevoke q s) := by
  grind [execKeyRevoke, outKept_mail, kept_no, kept_ok, kept_effect, kept_keyCommit, kept_revokeTree]

theorem outKept_execTrngHealthFail (again : Bool) (test : Nat) (h : Kept s₀ s) :
    OutKept s₀ (execTrngHealthFail again test s) := by
  grind [execTrngHealthFail, outKept_onlyIf, kept_raiseRetried, kept_modKey, kept_transient]

theorem kept_remask (l : List Nat) (h : Kept s₀ s) : Kept s₀ (s.remask l) := by
  induction l generalizing s with
  | nil => exact h
  | cons a l ih =>
    rw [State.remask]
    exact ih (by grind [kept_draw, kept_modKey])

theorem outKept_execKeyRemask (h : Kept s₀ s) : OutKept s₀ (execKeyRemask s) := by
  grind [execKeyRemask, outKept_onlyIf, kept_remask]

end Sys2Proof.Machine
end

section
/-! PROOFS. The bounds under the replay of the ledger, the start sequence and firmware updates (11, 21, 23). -/

namespace Sys2Proof.Machine

variable {s₀ s : State}

/-! ### Replay of the ledger -/

theorem kept_gapRecs (m o : Option Bank) (h : Kept s₀ s) : Kept s₀ (s.gapRecs m o).1 := by
  unfold State.gapRecs
  extract_lets cut rec_
  split
  · exact h
  · split
    · exact h
    · extract_lets dt one
      refine kept_foldl_fst _ h fun acc k hacc => ?_
      have hdraw := kept_draw (kept_draw hacc)
      simp only [one]
      split
      · split
        · split
          · exact hacc
          · exact hacc
        · split
          · exact hacc
          · exact hdraw
      · split
        · exact hacc
        · exact hdraw

theorem kept_evtGap (recs : List LRec) (h : Kept s₀ s) : Kept s₀ (s.evtGap recs) := by
  unfold State.evtGap
  grind [kept_foldl, kept_draw, kept_emit]

theorem kept_chainBreak (brk : Nat) (h : Kept s₀ s) : Kept s₀ (s.chainBreak brk) := by
  grind [State.chainBreak, kept_update, kept_raise]

theorem kept_reread (gen : Nat) (h : Kept s₀ s) : Kept s₀ (s.reread gen) := by
  grind [State.reread, kept_transient]

theorem kept_loadLedger (l : List LRec) (h : Kept s₀ s) : Kept s₀ (s.loadLedger l) := by
  grind [State.loadLedger, kept_update]

theorem kept_closeOpen (fin : Nat) (h : Kept s₀ s) : Kept s₀ (s.closeOpen fin) := by
  grind [State.closeOpen, kept_update]

theorem kept_replayPlan (p : BPlan) (h : Kept s₀ s) : Kept s₀ (s.replayPlan p).1 := by
  grind [State.replayPlan, kept_update, kept_enforce]

theorem kept_planEvents (p : Option BPlan) (src gen : Nat) (h : Kept s₀ s) : Kept s₀ (s.planEvents p src gen) := by
  unfold State.planEvents
  grind [kept_periodDone, kept_evtBoundary]

theorem kept_loadAccumulators (lseq newest : Nat) (h : Kept s₀ s) : Kept s₀ (s.loadAccumulators lseq newest) := by
  grind [State.loadAccumulators, kept_update]

theorem kept_replayEnd (newest : Option LRec) (p1 : Option BPlan) (src1 : Nat) (recs : List LRec) (segs : List (List (List Nat) × Nat))
    (v : List (List Nat)) (lseq fin : Nat) (h : Kept s₀ s) : Kept s₀ (s.replayEnd newest p1 src1 recs segs v lseq fin) := by
  unfold State.replayEnd
  extract_lets x3 s1 ended recs3 from_ src2 p2 s2 recs4 bill s3 closing x s4 gen gens s5 s6 next s7
  have h1 : Kept s₀ s1 := kept_chargeAll _ (kept_closeOpen _ h)
  have h2 : Kept s₀ s2 := by
    simp only [s2]
    clear_value p2
    split
    · exact kept_enforce _ h1
    · exact h1
  have h3 : Kept s₀ s3 := kept_update h2 rfl rfl rfl rfl rfl rfl rfl
  have h5 : Kept s₀ s5 := kept_foldl _ (kept_appendCommit _ _ _ _ h3) fun _ _ hs => kept_sessEnd _ _ _ hs
  have h6 : Kept s₀ s6 := kept_planEvents _ _ _ (kept_planEvents _ _ _ h5)
  exact kept_followAll (kept_loadAccumulators _ _ h6)

theorem kept_replay (brk : Nat) (h : Kept s₀ s) : Kept s₀ (s.replay brk) := by
  unfold State.replay
  extract_lets s1 l lc banks m b s2 s3 regs0 gap s4 adj pending bill s5 src1 p1 x1 s6 pv v lseq tI tE recs2 segs bill' s7
  have h2 : Kept s₀ s2 := kept_loadLedger _ (kept_chainBreak _ h)
  have h3 : Kept s₀ s3 := kept_ite (fun _ => kept_raise _ _ _ h2) fun _ => h2
  have h4 : Kept s₀ s4 := kept_evtGap _ (kept_foldl _ (kept_gapRecs _ _ h3) fun _ _ hs => kept_raise _ _ _ hs)
  have h5 : Kept s₀ s5 := kept_update h4 rfl rfl rfl rfl rfl rfl rfl
  have h6 : Kept s₀ s6 := by
    simp only [s6, x1]
    clear_value p1
    split
    · exact kept_replayPlan _ h5
    · exact h5
  exact kept_replayEnd _ _ _ _ _ _ _ _ (kept_update h6 rfl rfl rfl rfl rfl rfl rfl)

theorem kept_firstLoad (h : Kept s₀ s) : Kept s₀ s.firstLoad := by
  grind [State.firstLoad, kept_loadLedger, kept_raise, kept_followAll, kept_loadAccumulators, kept_replayEnd]

theorem kept_replayAll (brk : Nat) (h : Kept s₀ s) : Kept s₀ (s.replayAll brk) := by
  grind [State.replayAll, kept_firstLoad, kept_replay]

theorem kept_outageRecord (h : Kept s₀ s) : Kept s₀ s.outageRecord := by
  grind [State.outageRecord, kept_pqStore]

/-! ### The start sequence -/

theorem kept_run (b : Boot) (k : Nat) {f : Boot → StepEnd} (h : Kept s₀ b.st) (hf : Kept s₀ (f b).st) : Kept s₀ (b.run k f).st := by
  unfold Boot.run
  split
  · exact h
  · exact kept_markStep _ _ hf

theorem kept_mandatoryEnd (h : Kept s₀ s) : Kept s₀ (mandatoryEnd s).st := by
  grind [mandatoryEnd, kept_update]

theorem kept_stepRails (b : Boot) (h : Kept s₀ b.st) : Kept s₀ (stepRails b).st := by
  grind [stepRails, kept_update]

theorem kept_stepRc (b : Boot) (h : Kept s₀ b.st) : Kept s₀ (stepRc b).st := by
  grind [stepRc, kept_update]

theorem kept_stepXtal (b : Boot) (h : Kept s₀ b.st) : Kept s₀ (stepXtal b).st := by
  grind [stepXtal, kept_update]

theorem kept_stepPlls (b : Boot) (h : Kept s₀ b.st) : Kept s₀ (stepPlls b).st := by
  grind [stepPlls, kept_update, kept_foldl, kept_raiseRetried]

theorem kept_stepLpddr (b : Boot) (h : Kept s₀ b.st) : Kept s₀ (stepLpddr b).st := by
  grind [stepLpddr]

theorem kept_stepMount (b : Boot) (h : Kept s₀ b.st) : Kept s₀ (stepMount b).st := by
  grind [stepMount, kept_update, kept_raise]

theorem kept_stepImage (b : Boot) (h : Kept s₀ b.st) : Kept s₀ (stepImage b).st := by
  grind [stepImage, kept_update, kept_mandatoryEnd, kept_raise]

theorem kept_stepKeys (b : Boot) (h : Kept s₀ b.st) : Kept s₀ (stepKeys b).st := by
  grind [stepKeys, kept_update, kept_mandatoryEnd, kept_raise, kept_draw, kept_setSlot]

theorem kept_stepSafe (b : Boot) (h : Kept s₀ b.st) : Kept s₀ (stepSafe b).st := by
  grind [stepSafe, kept_update, kept_mandatoryEnd, kept_reloadDacs]

theorem kept_takeCal (c : CalCopy) (h : Kept s₀ s) : Kept s₀ (s.takeCal c) := by
  grind [State.takeCal, kept_update]

theorem kept_stepCal (b : Boot) (h : Kept s₀ b.st) : Kept s₀ (stepCal b).st := by
  grind [stepCal, kept_update, kept_takeCal, kept_raise, kept_foldl, kept_measureOffset]

theorem kept_stepPilot (b : Boot) (h : Kept s₀ b.st) : Kept s₀ (stepPilot b).st := by
  grind [stepPilot, kept_update, kept_foldl, kept_raiseRetried, kept_raise]

theorem kept_stepLedger (b : Boot) (h : Kept s₀ b.st) : Kept s₀ (stepLedger b).st := by
  grind [stepLedger, kept_update, kept_mandatoryEnd, kept_takeCovers, kept_outageRecord, kept_replayAll, kept_reread]

theorem kept_stepPhy (b : Boot) (h : Kept s₀ b.st) : Kept s₀ (stepPhy b).st := by
  grind [stepPhy, kept_foldl, kept_raise]

theorem kept_stepModem (b : Boot) (h : Kept s₀ b.st) : Kept s₀ (stepModem b).st := by
  grind [stepModem, kept_update, kept_foldl, kept_raiseRetried]

theorem kept_stepField (b : Boot) (h : Kept s₀ b.st) : Kept s₀ (stepField b).st := by
  grind [stepField, kept_raiseRetried, kept_panelUp, kept_loadStress, kept_tagStart]

theorem kept_latchPowerFail (h : Kept s₀ s) : Kept s₀ s.latchPowerFail := by
  grind [State.latchPowerFail, kept_update, kept_raise, kept_foldl]

theorem kept_keepOut (l : List ONum) (h : Kept s₀ s) : Kept s₀ (s.keepOut l) := by
  induction l generalizing s with
  | nil => exact h
  | cons a l ih =>
    rw [State.keepOut]
    exact ih (by grind [kept_sessTo])

theorem kept_testAll (l : List (RcdMeas × RcdMeas)) (h : Kept s₀ s) : Kept s₀ (s.testAll l) := by
  grind [State.testAll, kept_foldl, kept_testAtStart]

theorem kept_started15 (gap boundary : Bool) (h : Kept s₀ s) : Kept s₀ (s.started15 gap boundary) := by
  unfold State.started15
  extract_lets on pwr bak host s1 s2 steps held s3 s4 s5 s6 isl s7 s8
  have h2 : Kept s₀ s2 := kept_markStep _ _ (kept_update h rfl rfl rfl rfl rfl rfl rfl)
  have h4 : Kept s₀ s4 := kept_flushDeferred (kept_emitNow _ _ _ _ h2)
  have h5 : Kept s₀ s5 := kept_foldl _ h4 fun _ _ hs => kept_raise _ _ _ hs
  have h7 : Kept s₀ s7 := kept_update (kept_latchPowerFail h5) rfl rfl rfl rfl rfl rfl rfl
  exact kept_lastState (kept_ite (fun _ => kept_confirmReq (kept_allOos _ _ h7)) fun _ => kept_autoClose (kept_keepOut _ h7))

theorem kept_enterRom (noSeal : Bool) (h : Kept s₀ s) : Kept s₀ (s.enterRom noSeal) :=
  kept_update (kept_vmap (f := fun x => { x with pilot := { x.pilot with mode := .dcNeg, duty := 0 } }) h (fun _ => id) fun _ => id)
    rfl rfl rfl rfl rfl rfl rfl

theorem kept_beginStart (cause : Nat) (svcboot : Bool) (h : Kept s₀ s) : Kept s₀ (s.beginStart cause svcboot) := by
  grind [State.beginStart, kept_update]

theorem kept_start (cause : Nat) (r : StartInput) (h : Kept s₀ s) : Kept s₀ (s.start cause r) := by
  unfold State.start
  extract_lets alts s1 b1 b2 b3 b4 b5 b6 pend b7 b8 s2 boundary
  have hbegin : Kept s₀ b1.st := kept_beginStart _ _ h
  have hrails := kept_run b1 0 hbegin (kept_stepRails _ hbegin)
  have h2 : Kept s₀ b2.st := kept_run _ 1 hrails (kept_stepRc _ hrails)
  have hxtal := kept_run b2 2 h2 (kept_stepXtal _ h2)
  have hplls := kept_run _ 3 hxtal (kept_stepPlls _ hxtal)
  have h3 : Kept s₀ b3.st := kept_run _ 4 hplls (kept_stepLpddr _ hplls)
  have h4 : Kept s₀ b4.st := kept_run _ 5 h3 (kept_stepMount _ h3)
  have himage := kept_run b4 6 h4 (kept_stepImage _ h4)
  have hkeys := kept_run _ 7 himage (kept_stepKeys _ himage)
  have h5 : Kept s₀ b5.st := kept_run _ 8 hkeys (kept_stepSafe _ hkeys)
  have hcal := kept_run b5 9 h5 (kept_stepCal _ h5)
  have h6 : Kept s₀ b6.st := kept_run _ 10 hcal (kept_stepPilot _ hcal)
  have h7 : Kept s₀ b7.st := kept_run _ 11 h6 (kept_stepLedger _ h6)
  have hphy := kept_run b7 12 h7 (kept_stepPhy _ h7)
  have hmodem := kept_run _ 13 hphy (kept_stepModem _ hphy)
  have h8 : Kept s₀ b8.st := kept_run _ 14 hmodem (kept_stepField _ hmodem)
  refine kept_ite (fun _ => kept_enterRom _ h4) fun _ => ?_
  split
  · exact kept_resetTo _ h8
  · exact kept_started15 _ _ (kept_testAll _ h8)

theorem outKept_execStartSequence (r : StartInput) (h : Kept s₀ s) : OutKept s₀ (execStartSequence r s) := by
  grind [execStartSequence, kept_start, outKept_next]

/-! ### Firmware images and handovers -/

theorem kept_evtStage (st vstep route : Nat) (h : Kept s₀ s) : Kept s₀ (s.evtStage st vstep route) := by
  grind [State.evtStage, kept_emit]

theorem kept_stageBegin (route total : Nat) (h : Kept s₀ s) : Kept s₀ (s.stageBegin route total).2 := by
  grind [State.stageBegin, kept_update, kept_evtStage]

theorem kept_stageData (route off : Nat) (d : Bytes) (h : Kept s₀ s) : Kept s₀ (s.stageData route off d).2 := by
  grind [State.stageData, kept_update]

theorem kept_stageVerify (route : Nat) (tag : Option Nat) (h : Kept s₀ s) : Kept s₀ (s.stageVerify route tag).2 := by
  grind [State.stageVerify, kept_update]

theorem kept_verified (x : FwRx) (h : Kept s₀ s) : Kept s₀ (s.verified x).2.2 := by
  grind [State.verified, kept_update, kept_evtStage, kept_raise]

theorem kept_stageAbort (route : Nat) (h : Kept s₀ s) : Kept s₀ (s.stageAbort route).2 := by
  grind [State.stageAbort, kept_update, kept_evtStage, kept_finish]

theorem kept_activate (route : Nat) (h : Kept s₀ s) : Kept s₀ (s.activate route) := by
  grind [State.activate, kept_update, kept_maAbortAll]

theorem outKept_execFwStageBegin (q : Req) (h : Kept s₀ s) : OutKept s₀ (execFwStageBegin q s) := by
  grind [execFwStageBegin, outKept_mail, kept_stageBegin]

theorem outKept_execFwStageData (q : Req) (h : Kept s₀ s) : OutKept s₀ (execFwStageData q s) := by
  grind [execFwStageData, outKept_mail, kept_stageData, kept_ok]

theorem outKept_execFwStageVerify (q : Req) (h : Kept s₀ s) : OutKept s₀ (execFwStageVerify q s) := by
  grind [execFwStageVerify, outKept_mail, kept_stageVerify, kept_queued]

theorem outKept_execFwVerifyDone (h : Kept s₀ s) : OutKept s₀ (execFwVerifyDone s) := by
  grind [execFwVerifyDone, outKept_onlyIf, kept_verified, kept_finish, outKept_next]

theorem outKept_execFwActivate (q : Req) (h : Kept s₀ s) : OutKept s₀ (execFwActivate q s) := by
  grind [execFwActivate, kept_activate, kept_complete, outKept_mail, kept_no, kept_ok, outKept_next]

theorem outKept_execFwStageAbort (q : Req) (h : Kept s₀ s) : OutKept s₀ (execFwStageAbort q s) := by
  grind [execFwStageAbort, outKept_mail, kept_stageAbort]

theorem outKept_execStagingTimeout (h : Kept s₀ s) : OutKept s₀ (execStagingTimeout s) := by
  grind [execStagingTimeout, kept_update, outKept_onlyIf, kept_evtStage, outKept_next]

theorem outKept_execHandoverRestart (h : Kept s₀ s) : OutKept s₀ (execHandoverRestart s) := by
  grind [execHandoverRestart, kept_update, outKept_onlyIf, kept_abandonVisit, kept_setAll, outKept_next]

theorem outKept_execImageCopyDone (copyok loadok : Bool) (h : Kept s₀ s) : OutKept s₀ (execImageCopyDone copyok loadok s) := by
  grind [execImageCopyDone, kept_update, outKept_onlyIf, outKept_next]

theorem outKept_execHandoverRollback (step : Nat) (h : Kept s₀ s) : OutKept s₀ (execHandoverRollback step s) := by
  grind [execHandoverRollback, kept_update, outKept_onlyIf, kept_setLimp, kept_raise, outKept_next]

theorem kept_takeSlot (h : Kept s₀ s) : Kept s₀ s.takeSlot := by
  grind [State.takeSlot, kept_update]

theorem kept_evtHandover (pause : Nat) (h : Kept s₀ s) : Kept s₀ (s.evtHandover pause) := by
  grind [State.evtHandover, kept_emit]

theorem kept_applyFwActs (l : List FwAct) (h : Kept s₀ s) : Kept s₀ (s.applyFwActs l) := by
  induction l generalizing s with
  | nil => exact h
  | cons a l ih =>
    rw [State.applyFwActs]
    exact ih (by grind [kept_sessTo])

theorem kept_catchPilots (l : List ONum) (h : Kept s₀ s) : Kept s₀ (s.catchPilots l) := by
  induction l generalizing s with
  | nil => exact h
  | cons a l ih =>
    rw [State.catchPilots]
    exact ih (by grind [kept_pilotSession])

theorem kept_endExport (h : Kept s₀ s) : Kept s₀ s.endExport := by
  grind [State.endExport, kept_update, kept_finish]

theorem kept_resume (ho : Handover) (dropped : List Nat) (h : Kept s₀ s) : Kept s₀ (s.resume ho dropped) := by
  unfold State.resume
  extract_lets fw s1 acts fw' rings s2 s3 s4 s5 s6
  have h1 : Kept s₀ s1 := by
    simp only [s1]
    split
    · exact kept_update h rfl rfl rfl rfl rfl rfl rfl
    · exact kept_takeSlot h
  have h2 : Kept s₀ s2 := kept_update h1 rfl rfl rfl rfl rfl rfl rfl
  have h3 : Kept s₀ s3 := by
    simp only [s3]
    split
    · exact kept_emitNow _ _ _ _ h2
    · exact h2
  have h4 : Kept s₀ s4 := kept_flushDeferred (kept_evtHandover _ h3)
  have h5 : Kept s₀ s5 := kept_endExport (kept_setLimp _ _ h4)
  have h6 : Kept s₀ s6 := kept_foldl _ (kept_catchPilots _ (kept_applyFwActs _ h5)) fun _ _ hs => kept_lockSession _ hs
  exact kept_foldl _ h6 fun _ _ hs => kept_setFallback _ _ hs

theorem kept_svcReply (seq status : Nat) (payload : Bytes) (h : Kept s₀ s) : Kept s₀ (s.svcReply seq status payload) := by
  grind [State.svcReply, kept_update]

theorem outKept_execSvcFrame (b : Bytes) (h : Kept s₀ s) : OutKept s₀ (execSvcFrame b s) := by
  grind [execSvcFrame, kept_update, outKept_onlyIf, kept_raise, kept_svcReply]

theorem kept_svcRun (cmd : Nat) (payload : Bytes) {f : State → Nat × Bytes × State} (h : Kept s₀ s) (hf : Kept s₀ (f s).2.2) :
    Kept s₀ (s.svcRun cmd payload f) := by
  unfold State.svcRun
  split
  · exact h
  · exact kept_ite (fun _ => kept_svcReply _ _ _ hf) fun _ => h

theorem outKept_execSvcInfo (h : Kept s₀ s) : OutKept s₀ (execSvcInfo s) := by
  grind [execSvcInfo, kept_svcRun, outKept_next]

theorem outKept_execSvcStageBegin (total : Nat) (h : Kept s₀ s) : OutKept s₀ (execSvcStageBegin total s) := by
  grind [execSvcStageBegin, kept_svcRun, kept_stageBegin, outKept_next]

theorem outKept_execSvcStageData (offset : Nat) (data : Bytes) (h : Kept s₀ s) : OutKept s₀ (execSvcStageData offset data s) := by
  grind [execSvcStageData, kept_svcRun, kept_stageData, outKept_next]

theorem outKept_execSvcVerify (h : Kept s₀ s) : OutKept s₀ (execSvcVerify s) := by
  grind [execSvcVerify, kept_svcRun, kept_verified, outKept_next]

theorem kept_install (slots : Nat) (h : Kept s₀ s) : Kept s₀ (s.install slots).2 := by
  grind [State.install, kept_update]

theorem outKept_execSvcActivate (slots : Nat) (h : Kept s₀ s) : OutKept s₀ (execSvcActivate slots s) := by
  grind [execSvcActivate, kept_svcRun, kept_install, kept_activate, outKept_next]

theorem outKept_execSvcAbort (h : Kept s₀ s) : OutKept s₀ (execSvcAbort s) := by
  grind [execSvcAbort, kept_svcRun, kept_stageAbort, outKept_next]

theorem outKept_execSvcExit (h : Kept s₀ s) : OutKept s₀ (execSvcExit s) := by
  grind [execSvcExit, kept_svcRun, kept_resetTo, outKept_next]

end Sys2Proof.Machine
end

section
/-! PROOFS. The bounds under the rings, the system commands, the host port and the handover (02, 03, 23). -/

namespace Sys2Proof.Machine

variable {s₀ s : State}

/-! ### Rings -/

theorem kept_ringCfgWrite (n : PNum) (v : Nat) (h : Kept s₀ s) : Kept s₀ (ringCfgWrite s n v) := by
  unfold ringCfgWrite
  extract_lets p en sq cq
  refine kept_ite (fun hon => ?_) fun hoff => ?_
  · have hdrain : Kept s₀ (s.setPr n { p with state := 2, held := [] }) :=
      kept_setPr h fun ⟨_, _, hbounds⟩ => ⟨Nat.le_refl 2, Nat.zero_le 32, fun _ => hbounds hon⟩
    exact kept_ite (fun _ => kept_setPr h id) fun _ => kept_ite (fun _ => kept_update hdrain rfl rfl rfl rfl rfl rfl rfl) fun _ => h
  · have hoff' : p.state = 0 := by simpa using hoff
    have hstays {p' : Pair} (hstate : p'.state = p.state) (hheld : p'.held = p.held) : Kept s₀ (s.setPr n p') :=
      kept_setPr h fun ⟨_, hlen, _⟩ => ⟨by omega, hheld ▸ hlen, fun hon => absurd (hstate.trans hoff') hon⟩
    refine kept_ite (fun _ => kept_ite (fun hlayout => ?_) fun _ => hstays rfl rfl) fun _ => hstays rfl rfl
    refine kept_update (kept_setPr h fun _ => ⟨Nat.le_succ 1, Nat.zero_le 32, fun _ => ?_⟩) rfl rfl rfl rfl rfl rfl rfl
    grind [layoutOk, cfgDepthOk, ringCount]

theorem kept_ringBaseWrite (n : PNum) (v : Nat) (h : Kept s₀ s) : Kept s₀ (ringBaseWrite s n v) :=
  kept_ite (fun _ => kept_setPr h id) fun _ => kept_setPr h id

theorem kept_doorbell (n : PNum) (v : Nat) (h : Kept s₀ s) : Kept s₀ (doorbell s n v) := by
  unfold doorbell
  extract_lets p t
  refine kept_ite (fun htaken => kept_setPr h fun ⟨hstate, hlen, hbounds⟩ => ⟨hstate, hlen, fun hon => ?_⟩) fun _ =>
    kept_raise _ _ _ (kept_setPr h id)
  obtain ⟨hsq, hcq, hsqn, hcqn⟩ := hbounds hon
  rw [Bool.and_eq_true, decide_eq_true_eq, decide_eq_true_eq] at htaken
  exact ⟨hsq, hcq, ringCount_tailMoved hsqn htaken.2, hcqn⟩

theorem kept_headWrite (n : PNum) (v : Nat) (h : Kept s₀ s) : Kept s₀ (headWrite s n v) := by
  unfold headWrite
  extract_lets p hd s1 moved
  refine kept_ite (fun htaken => ?_) fun _ => kept_raise _ _ _ (kept_setPr h id)
  rw [Bool.and_eq_true, decide_eq_true_eq, decide_eq_true_eq] at htaken
  have hmoved : Kept s₀ s1 := by
    refine kept_setPr h fun ⟨hstate, hlen, hbounds⟩ => ⟨hstate, hlen, fun hon => ?_⟩
    obtain ⟨hsq, hcq, hsqn, hcqn⟩ := hbounds hon
    refine ⟨hsq, hcq, hsqn, ?_⟩
    change ringCount hd p.cqTail ≤ p.cqDepth
    rw [ringCount_headMoved htaken.2]
    exact (Nat.sub_le _ _).trans hcqn
  exact kept_ite (fun _ => kept_update hmoved rfl rfl rfl rfl rfl rfl rfl) fun _ => hmoved

theorem kept_ringWrite (off v : Nat) (h : Kept s₀ s) : Kept s₀ (ringWrite s off v) := by
  unfold ringWrite
  split
  · extract_lets n
    split
    exacts [kept_ringCfgWrite n v h, kept_ringBaseWrite n v h, kept_doorbell n v h, kept_headWrite n v h, kept_modPr h id,
      kept_modPr h id, h]
  · exact h

/-- The indices of the submission ring. -/
def Pair.sq (p : Pair) : Nat × Nat := (p.sqHead, p.sqTail)

theorem sq_setPr (n m : PNum) {p : Pair} (hp : p.sq = (s.pr n).sq) : ((s.setPr n p).pr m).sq = (s.pr m).sq := by
  rw [pr_setPr]
  split
  · next hm => rw [hp, hm]
  · rfl

/-- Units written, held or lost leave every submission ring as it is. -/
theorem sq_deliver (n m : PNum) (d : Held) (seq : Nat) : ((s.deliver n d seq).pr m).sq = (s.pr m).sq := by
  obtain h | h | h | h := deliver_cases s n d seq
  · rw [h]
  · rw [h]
    by_cases hm : m = n
    · rw [hm, putUnit_pr_same]
      rfl
    · rw [putUnit_pr s n m d hm]
  · rw [h, State.pr, loseEvent_rings]
    exact sq_setPr n m rfl
  · rw [h]
    exact sq_setPr n m rfl

theorem sq_emit (n m : PNum) (op : Nat) (payload : Bytes) : ((s.emit n op payload).pr m).sq = (s.pr m).sq := by
  unfold State.emit
  split
  · unfold State.emitNow
    extract_lets p
    split
    · rfl
    · rw [sq_deliver]
      exact sq_setPr n m rfl
  · rfl

theorem sq_transient (src qual data : Nat) (m : PNum) : ((s.transient src qual data).pr m).sq = (s.pr m).sq := by
  have hlog (e : LogEntry) : (((s.countUp src).logPut e).pr m).sq = (s.pr m).sq := by
    rw [State.pr, logPut_rings]
    rfl
  unfold State.transient
  extract_lets s'
  split
  · rw [sq_emit]
    exact hlog _
  · exact hlog _

theorem sq_parityRetries (n m : PNum) (par l : List Nat) : ((parityRetries s n par l).pr m).sq = (s.pr m).sq := by
  induction l generalizing s with
  | nil => rfl
  | cons i l ih =>
    rw [parityRetries, ih]
    split
    · exact sq_transient _ _ _ _
    · rfl

theorem kept_parityRetries (n : PNum) (par l : List Nat) (h : Kept s₀ s) : Kept s₀ (parityRetries s n par l) := by
  induction l generalizing s with
  | nil => exact h
  | cons i l ih => exact ih (kept_ite (fun _ => kept_transient _ _ _ h) fun _ => h)

theorem length_chainFrom_le (n : PNum) (k i : Nat) : (chainFrom s n k i).1.length ≤ k := by
  induction k generalizing i with
  | zero => exact Nat.zero_le 0
  | succ k ih =>
    rw [chainFrom]
    split
    · exact Nat.succ_le_succ (ih (i + 1))
    · exact Nat.succ_le_succ (Nat.zero_le k)

/-- Entries consumed, of those that the submission ring holds. -/
theorem pairOk_consume {p : Pair} {k : Nat} (h : PairOk p) (hk : k ≤ ringCount p.sqHead p.sqTail) : PairOk (p.consume k) := by
  obtain ⟨hstate, hheld, hbounds⟩ := h
  refine ⟨hstate, hheld, fun hon => ?_⟩
  obtain ⟨hsq, hcq, hsqn, hcqn⟩ := hbounds hon
  refine ⟨hsq, hcq, ?_, hcqn⟩
  change ringCount ((p.sqHead + k) % 65536) p.sqTail ≤ p.sqDepth
  rw [ringCount_consume hk]
  omega

theorem pairOk_parityErr {p : Pair} (h : PairOk p) : PairOk { p with parityErr := true } := h

theorem kept_fetch (n : PNum) (par : List Nat) (h : Kept s₀ s) : Kept s₀ (fetch s n par) := by
  have hconsume {l : List Nat} {k : Nat} (hk : k ≤ ringCount (s.pr n).sqHead (s.pr n).sqTail) :
      PairOk ((parityRetries s n par l).pr n) → PairOk (((parityRetries s n par l).pr n).consume k) := fun hp => by
    obtain ⟨hhead, htail⟩ := Prod.mk.inj (sq_parityRetries (s := s) n n par l)
    exact pairOk_consume hp (by rwa [hhead, htail])
  have hchain := length_chainFrom_le (s := s) n (ringCount (s.pr n).sqHead (s.pr n).sqTail) (s.pr n).sqHead
  unfold fetch
  extract_lets p r es e op tag s1 s2
  refine kept_ite (fun _ => h) fun _ => ?_
  split
  · next i hbad =>
    have hi : i + 1 ≤ es.length := List.mem_range.mp (List.mem_of_find?_eq_some hbad)
    refine kept_complete _ _ _ _ _ _ (kept_raiseRetried _ _ _ (kept_setPr (kept_parityRetries _ _ _ h) fun hp => ?_))
    exact pairOk_parityErr (hconsume (hi.trans hchain) hp)
  · have h2 : Kept s₀ s2 := kept_setPr (kept_parityRetries _ _ _ h) (hconsume hchain)
    split
    · exact kept_complete _ _ _ _ _ _ h2
    · refine kept_ite (fun _ => kept_complete _ _ _ _ _ _ h2) fun _ => kept_ite (fun _ => kept_complete _ _ _ _ _ _ h2) fun _ => ?_
      exact kept_update h2 rfl rfl rfl rfl rfl rfl rfl

theorem kept_drainHeld (n : PNum) (k : Nat) (h : Kept s₀ s) : Kept s₀ (drainHeld s n k) := by
  induction k generalizing s with
  | zero => exact h
  | succ k ih =>
    rw [drainHeld]
    split
    · exact h
    · next d l hheld =>
      refine kept_ite (fun hroom => ih (kept_putUnit (kept_setPr h fun hp => ?_) ?_)) fun _ => h
      · obtain ⟨hstate, hlen, hbounds⟩ := hp
        exact ⟨hstate, (heldEntries_tail_le d l).trans (hheld ▸ hlen), hbounds⟩
      · have hfree : (s.setPr n { s.pr n with held := l }).cqFree n = s.cqFree n := by simp [State.cqFree, Pair.cqDepth]
        omega

theorem kept_drainEnd (n : PNum) (h : Kept s₀ s) : Kept s₀ (drainEnd s n) := by
  refine kept_ite (fun _ => kept_setPr h fun _ => ?_) fun _ => h
  exact ⟨Nat.zero_le 2, Nat.zero_le 32, fun hon => absurd rfl hon⟩

theorem outKept_execPairDrainEnd (n : PNum) (h : Kept s₀ s) : OutKept s₀ (execPairDrainEnd n s) := by
  grind [execPairDrainEnd, kept_drainEnd, outKept_next]

theorem outKept_execSubmissionFetch (n : PNum) (par : List Nat) (h : Kept s₀ s) : OutKept s₀ (execSubmissionFetch n par s) := by
  grind [execSubmissionFetch, kept_fetch, outKept_next]

theorem outKept_execEventQueueDrain (n : PNum) (h : Kept s₀ s) : OutKept s₀ (execEventQueueDrain n s) := by
  grind [execEventQueueDrain, kept_drainHeld, outKept_next]

/-! ### System commands and the scrub -/

theorem kept_remap (h : Kept s₀ s) : Kept s₀ s.remap := by
  grind [State.remap, kept_foldl, kept_lswApply, kept_lswFollow]

/-- The copies of severities that upsets have outvoted read as they stand: no floor is kept (R8). -/
theorem kept_sevPut (m v : Nat) (h : Kept s₀ s) (hno : ¬ SevOk s₀.flt.sev) : Kept s₀ (s.sevPut m v) :=
  kept_foldl _ h fun _ _ hs => kept_setSev _ _ hs fun h₀ => absurd h₀ hno

theorem kept_tmrPut (addr v : Nat) (h : Kept s₀ s) (hno : ¬ SevOk s₀.flt.sev) : Kept s₀ (s.tmrPut addr v) := by
  grind [State.tmrPut, kept_update, kept_remap, kept_sevPut]

theorem kept_tmrFollow (was : State) (addr : Nat) (h : Kept s₀ s) : Kept s₀ (s.tmrFollow was addr) := by
  grind [State.tmrFollow, kept_capPilot, kept_reloadDacs]

theorem kept_scrubFields (addr : Nat) (h : Kept s₀ s) : Kept s₀ (s.scrubFields addr) := by
  grind [State.scrubFields, kept_putCell, kept_foldl, kept_raise]

theorem kept_reloadImage (h : Kept s₀ s) : Kept s₀ s.reloadImage := by
  grind [State.reloadImage, kept_update, kept_enterSafe, kept_raise, kept_reloadDacs, kept_ceilingsFollow]

theorem kept_strike (addr : Nat) (x : List Nat) (h : Kept s₀ s) (hno : ¬ SevOk s₀.flt.sev) : Kept s₀ (s.strike addr x) := by
  unfold State.strike
  extract_lets l c
  exact kept_tmrFollow _ _ (kept_tmrPut _ _ (kept_ite (fun _ => h) fun _ => kept_putCell _ h) hno)

theorem outKept_execTmrScrub (addr : Nat) (x : List Nat) (h : Kept s₀ s) (hupset : SevOk s₀.flt.sev → ∀ m ∈ x, m = 0) :
    OutKept s₀ (execTmrScrub addr x s) := by
  refine outKept_onlyIf h fun _ => ?_
  extract_lets s1 s2
  have h2 : Kept s₀ s2 := kept_ite (fun _ => kept_reloadImage (kept_scrubFields _ h)) fun _ => kept_scrubFields _ h
  refine kept_ite (fun _ => h2) fun hstruck => kept_strike _ _ h2 fun h₀ => hstruck ?_
  simpa using hupset h₀

theorem kept_proto (cause addr : Nat) (h : Kept s₀ s) : Kept s₀ (s.proto cause addr) := by
  grind [State.proto, kept_update, kept_raise]

theorem kept_postStr (addr v : Nat) (h : Kept s₀ s) : Kept s₀ (s.postStr addr v) := by
  grind [State.postStr, kept_update, kept_proto]

theorem outKept_execStrPostComplete (h : Kept s₀ s) : OutKept s₀ (execStrPostComplete s) := by
  grind [execStrPostComplete, kept_update, outKept_next]

/-! ### The host port -/

theorem kept_hpcWrite (off v : Nat) (h : Kept s₀ s) : Kept s₀ (s.hpcWrite off v) := by
  unfold State.hpcWrite
  grind [kept_update, kept_bnwSelect]

theorem kept_clkWrite (off v : Nat) (h : Kept s₀ s) : Kept s₀ (s.clkWrite off v) := by
  unfold State.clkWrite
  grind [kept_update, kept_selWrite, kept_forceClkWrite, kept_tmrWritten, kept_meterWrite, kept_gateWrite]

theorem kept_lswWrite (off v : Nat) (h : Kept s₀ s) : Kept s₀ (s.lswWrite off v) := by
  unfold State.lswWrite
  grind [kept_update, kept_raise, kept_remap, kept_tmrWritten]

theorem kept_regWrite (addr v : Nat) (h : Kept s₀ s) : Kept s₀ (s.regWrite addr v) := by
  unfold State.regWrite
  extract_lets
  have hbulk : Kept s₀ { s with rings := { s.rings with bulk := Memory.writeN s.rings.bulk (addr - 0x40000) (toLE 4 v) } } :=
    kept_rings h fun ⟨⟨hmem, hbulk⟩, hpairs⟩ => ⟨⟨hmem, Memory.writeN_wf hbulk ..⟩, hpairs⟩
  have hmem : Kept s₀ { s with rings := { s.rings with mem := Memory.writeN s.rings.mem (addr - 0x10000) (toLE 4 v) } } :=
    kept_rings h fun ⟨⟨hmem, hbulk⟩, hpairs⟩ => ⟨⟨Memory.writeN_wf hmem .., hbulk⟩, hpairs⟩
  refine kept_ite (fun _ => hbulk) fun _ => kept_ite (fun _ => hmem) fun _ => ?_
  split
  exacts [kept_hpcWrite _ _ h, kept_ringWrite _ _ h, kept_fltWrite _ _ h, kept_clkWrite _ _ h,
    kept_ite (fun _ => kept_pfCfgWrite _ h) fun _ => h, kept_ite (fun _ => kept_postStr _ _ h) fun _ => h, kept_lswWrite _ _ h,
    kept_ite (fun _ => kept_snapshot h) fun _ => h, h]

theorem kept_readWord (addr : Nat) (h : Kept s₀ s) : Kept s₀ (s.readWord addr).2 := by
  grind [State.readWord, kept_zeroAccess]

theorem kept_writeWord (addr v : Nat) (h : Kept s₀ s) : Kept s₀ (s.writeWord addr v) := by
  grind [State.writeWord, kept_zeroAccess, kept_regWrite]

theorem kept_readWords (ahead : Option Nat) (k addr : Nat) (h : Kept s₀ s) : Kept s₀ (s.readWords ahead k addr) := by
  induction k generalizing s addr with
  | zero => exact kept_update h rfl rfl rfl rfl rfl rfl rfl
  | succ k ih =>
    rw [State.readWords]
    exact kept_ite (fun _ => kept_update h rfl rfl rfl rfl rfl rfl rfl) fun _ => ih _ (kept_driveHio _ (kept_readWord _ h))

theorem outKept_writeWords (l : List Nat) (addr : Nat) (h : Kept s₀ s) : OutKept s₀ (s.writeWords l addr) := by
  induction l generalizing s addr with
  | nil => exact outKept_next (kept_update h rfl rfl rfl rfl rfl rfl rfl)
  | cons v l ih =>
    rw [State.writeWords]
    exact outKept_ite (fun _ => outKept_next (kept_update h rfl rfl rfl rfl rfl rfl rfl)) fun _ =>
      outKept_ite (fun _ => outKept_fault _) fun _ => ih _ (kept_writeWord _ _ h)

theorem outKept_goOn (x : Xact) (answered : Bool) (h : Kept s₀ s) : OutKept s₀ (s.goOn x answered) := by
  grind [State.goOn, kept_readWords, outKept_writeWords, outKept_next]

theorem kept_closeWaiting (h : Kept s₀ s) : Kept s₀ s.closeWaiting := by
  grind [State.closeWaiting, kept_update]

theorem kept_windowReads (off i k : Nat) (h : Kept s₀ s) : Kept s₀ (s.windowReads off i k) := by
  induction k generalizing s i with
  | zero => exact h
  | succ k ih => exact ih _ (kept_bnwAnswer _ _ _ h)

theorem kept_windowWrites (off i : Nat) (l : List Nat) (h : Kept s₀ s) : Kept s₀ (s.windowWrites off i l) := by
  induction l generalizing s i with
  | nil => exact h
  | cons v l ih => exact ih _ (kept_bnwPut _ _ _ h)

theorem outKept_execHostTransaction (cmd : Nat) (addr : List Nat) (wr : List (List Nat)) (nrd : Nat) (h : Kept s₀ s) :
    OutKept s₀ (execHostTransaction cmd addr wr nrd s) := by
  grind [execHostTransaction, kept_update, kept_proto, kept_windowWrites, kept_windowReads, outKept_writeWords, kept_readWords,
    outKept_next]

theorem outKept_serveWord (x : Xact) (h : Kept s₀ s) : OutKept s₀ (s.serveWord x) := by
  grind [State.serveWord, kept_update, kept_readWord, outKept_goOn, kept_closeWaiting, kept_driveHio, kept_writeWord,
    outKept_fault]

theorem outKept_execIslandCrossingDone (h : Kept s₀ s) : OutKept s₀ (execIslandCrossingDone s) := by
  grind [execIslandCrossingDone, outKept_serveWord, outKept_next]

theorem outKept_serveHeld (h : Kept s₀ s) : OutKept s₀ s.serveHeld := by
  grind [State.serveHeld, outKept_serveWord, outKept_next]

theorem kept_dropWord (x : Xact) (h : Kept s₀ s) : Kept s₀ (s.dropWord x) := by
  grind [State.dropWord, kept_update, kept_driveHio]

theorem outKept_execStallLimit (h : Kept s₀ s) : OutKept s₀ (execStallLimit s) := by
  grind [execStallLimit, kept_update, kept_dropWord, outKept_goOn, kept_closeWaiting, kept_raise, outKept_next]

theorem outKept_execGateForceClose (g : Nat) (h : Kept s₀ s) : OutKept s₀ (execGateForceClose g s) := by
  unfold execGateForceClose
  refine outKept_ite (fun _ => outKept_next h) fun _ => ?_
  extract_lets clk s1
  have h1 : Kept s₀ s1 := kept_update h rfl rfl rfl rfl rfl rfl rfl
  split
  · exact outKept_next h1
  · exact outKept_goOn _ _ (kept_raise _ _ _ (kept_zeroAccess _ (kept_dropWord _ h1)))

theorem outKept_execHcsRise (cut : Bool) (h : Kept s₀ s) : OutKept s₀ (execHcsRise cut s) := by
  grind [execHcsRise, kept_update, outKept_onlyIf, kept_closeWaiting, kept_proto]

theorem outKept_hostWrite (addr v : Nat) (h : Kept s₀ s) : OutKept s₀ (s.hostWrite addr v) := by
  grind [State.hostWrite, kept_update, kept_writeWord, outKept_next, outKept_fault]

theorem outKept_execRegisterWrite (addr v : Nat) (h : Kept s₀ s) : OutKept s₀ (execRegisterWrite addr v s) := by
  grind [execRegisterWrite, outKept_hostWrite, kept_proto]

/-! ### The end of a handover -/

theorem outKept_afterPause (c : Bool) {f : State → State} (h : Kept s₀ s) (hf : Kept s₀ (f s)) : OutKept s₀ (s.afterPause c f) :=
  outKept_ite (fun _ => outKept_serveHeld hf) fun _ => outKept_next h

theorem outKept_execHandoverAccept (dropped : List Nat) (h : Kept s₀ s) : OutKept s₀ (execHandoverAccept dropped s) := by
  grind [execHandoverAccept, outKept_afterPause, kept_resume, outKept_next]

theorem outKept_execPauseLimit (h : Kept s₀ s) : OutKept s₀ (execPauseLimit s) := by
  grind [execPauseLimit, kept_update, outKept_afterPause]

end Sys2Proof.Machine
end

section
/-! PROOFS. The bounds under 1 ms of time. -/

namespace Sys2Proof.Machine

variable {s₀ s : State}

/-! ### Time -/

theorem kept_lostReact (l : List Nat) (h : Kept s₀ s) : Kept s₀ (s.lostReact l) := by
  induction l generalizing s with
  | nil => exact h
  | cons q l ih =>
    rw [State.lostReact]
    have hreact : Kept s₀ (s.react 24 q (s.sev 24)) := kept_react _ _ _ h
    exact ih (kept_ite (fun _ => kept_emit _ _ _ hreact) fun _ => hreact)

theorem kept_tick (h : Kept s₀ s) : Kept s₀ s.tick := by
  unfold State.tick
  extract_lets bak s1 host s2 s3 lost flt s4
  have h1 : Kept s₀ s1 := kept_update h rfl rfl rfl rfl rfl rfl rfl
  have h2 : Kept s₀ s2 := kept_update h1 rfl rfl rfl rfl rfl rfl rfl
  have h3 : Kept s₀ s3 := kept_update h2 rfl rfl rfl rfl rfl rfl rfl
  have h4 : Kept s₀ s4 := kept_domainsGood (kept_lostReact _ (kept_update h3 rfl rfl rfl rfl rfl rfl rfl))
  exact kept_ite (fun _ => h) fun _ => kept_ite (fun _ => h1) fun _ => kept_ite (fun _ => h2) fun _ =>
    kept_ite (fun _ => kept_weldTick _ h4) fun _ => h4

end Sys2Proof.Machine
end

section
/-! PROOFS. Every row keeps the bounds, and so does every step (R65, R69, R70, R83, R117, R121, R187, R611, R622). -/

namespace Sys2Proof.Machine

variable {s₀ s t : State}

/-! ### The rows within the relation -/

/-- The two rows that drive an SSWEN high (R117, R119). -/
def RaisesSswen (c : Instr) : Prop := ∃ o, c = .closingConfirmed o ∨ c = .sswEnableRetry o

/-- No copy of a TMR field is upset. -/
def NoUpset (c : Instr) : Prop := ∀ a x, c = .tmrScrub a x → ∀ m ∈ x, m = 0

/-- The queries and the writes of one register go by their frames; every other row has its lemma. A scrub with upsets keeps no severity
floors (R8). -/
theorem outKept_exec (c : Instr) (hs : Kept s₀ s) (hen : ¬ RaisesSswen c) (hupset : SevOk s₀.flt.sev → NoUpset c) :
    OutKept s₀ (exec c s) := by
  by_cases hquery : c.query = true
  · exact (exec_isQuery s hquery).outKept hs
  delta exec
  cases c with
  | closingConfirmed o => exact absurd ⟨o, .inl rfl⟩ hen
  | sswEnableRetry o => exact absurd ⟨o, .inr rfl⟩ hen
  | tmrScrub addr x => exact outKept_execTmrScrub addr x hs fun h₀ => hupset h₀ addr x rfl
  | sysVersion | sysIdentity | sysPowerGet | sysSeqQuery | sysLoopback | outletConfigGet | outletStatusGet | hlcConfigGet
  | hlcStatusGet | hlcStatsGet | protConfigGet | protStatusGet | safeStatusGet | safeConfigRead | safeLogRead | budConfigGet
  | budOutletGet | budStatusGet | latConfigGet | latStatusGet | metroConfigGet | metroScaleGet | metroCalRead | metroTableRead
  | metroLineGet | energyConfigGet | energyRead | energyInstant | pqLogRead | waveList | tamperStatus | billConfigGet
  | billCalendarRead | billTimeGet | billRegistersGet | billPeriodGet | ledgerRead | ledgerStatus | dlmsConfigGet
  | dlmsAssocList | creditAccountGet | creditConfigGet | voucherStatus | lineConfigGet | lineStatusGet | linePeers | lineMapGet
  | lineStatsGet | netConfigGet | netStatusGet | netToutGet | netStats | nfcConfigGet | nfcTagRead | nfcTagStatus | lswChanGet
  | lswStatusGet | lswBankGet | panelConfigGet | panelCurveGet | panelStatusGet | panelStressRead | keyInfo | keyPublicRead
  | keyStatus | fltLogRead | fwStatus =>
    exact absurd rfl hquery
  | bnwOutletWrite | doorbellWrite | cqHeadWrite | ringCfgWrite | clkSelWrite | clkForceWrite | clkMeterStart | clkGateWrite
  | pwrPfCfgWrite | strRecover | strRetryPrimary | timeSnapWrite =>
    exact outKept_hostWrite _ _ hs
  | fltUnreadAck | fltForce | fltSevWrite =>
    exact outKept_ite (fun _ => outKept_hostWrite _ _ hs) fun _ => outKept_next hs
  | sysPowerSet q => exact outKept_execSysPowerSet q hs
  | sysDomainSet q => exact outKept_execSysDomainSet q hs
  | sysTimeSnapshot q => exact outKept_execSysTimeSnapshot q hs
  | outletConfigSet q => exact outKept_execOutletConfigSet q hs
  | outletAuth q => exact outKept_execOutletAuth q hs
  | outletStop q => exact outKept_execOutletStop q hs
  | outletService q => exact outKept_execOutletService q hs
  | outletUnlock q => exact outKept_execOutletUnlock q hs
  | hlcConfigSet q => exact outKept_execHlcConfigSet q hs
  | hlcSlacSet q => exact outKept_execHlcSlacSet q hs
  | hlcExportSet q => exact outKept_execHlcExportSet q hs
  | hlcCertFetch q => exact outKept_execHlcCertFetch q hs
  | hlcCertReply q => exact outKept_execHlcCertReply q hs
  | protConfigSet q => exact outKept_execProtConfigSet q hs
  | protSelftest q => exact outKept_execProtSelftest q hs
  | safeConfigWrite q => exact outKept_execSafeConfigWrite q hs
  | safeConfirm q => exact outKept_execSafeConfirm q hs
  | safeModeSet q => exact outKept_execSafeModeSet q hs
  | safePasswordSet q => exact outKept_execSafePasswordSet q hs
  | safeWeldResolve q => exact outKept_execSafeWeldResolve q hs
  | safeSiteSet q => exact outKept_execSafeSiteSet q hs
  | budConfigSet q => exact outKept_execBudConfigSet q hs
  | budOutletSet q => exact outKept_execBudOutletSet q hs
  | budExtload q => exact outKept_execBudExtload q hs
  | budStepAt q => exact outKept_execBudStepAt q hs
  | latConfigSet q => exact outKept_execLatConfigSet q hs
  | metroConfigSet q => exact outKept_execMetroConfigSet q hs
  | metroScaleSet q => exact outKept_execMetroScaleSet q hs
  | metroCalWrite q => exact outKept_execMetroCalWrite q hs
  | metroTableWrite q => exact outKept_execMetroTableWrite q hs
  | metroCalDigest q => exact outKept_execMetroCalDigest q hs
  | metroCalCommit q => exact outKept_execMetroCalCommit q hs
  | metroCalRevert q => exact outKept_execMetroCalRevert q hs
  | metroChStatus q => exact outKept_execMetroChStatus q hs
  | metroRaw q => exact outKept_execMetroRaw q hs
  | energyConfigSet q => exact outKept_execEnergyConfigSet q hs
  | energyLatchNow q => exact outKept_execEnergyLatchNow q hs
  | waveExport q => exact outKept_execWaveExport q hs
  | waveTrigger q => exact outKept_execWaveTrigger q hs
  | tamperClear q => exact outKept_execTamperClear q hs
  | billConfigSet q => exact outKept_execBillConfigSet q hs
  | billCalendarWrite q => exact outKept_execBillCalendarWrite q hs
  | billCalendarActivate q => exact outKept_execBillCalendarActivate q hs
  | billTimeSet q => exact outKept_execBillTimeSet q hs
  | billPeriodClose q => exact outKept_execBillPeriodClose q hs
  | billCommitNow q => exact outKept_execBillCommitNow q hs
  | dlmsTunnel q => exact outKept_execDlmsTunnel q hs
  | dlmsConfigSet q => exact outKept_execDlmsConfigSet q hs
  | dlmsAssocAbort q => exact outKept_execDlmsAssocAbort q hs
  | creditAccountSet q => exact outKept_execCreditAccountSet q hs
  | creditAdjust q => exact outKept_execCreditAdjust q hs
  | creditBind q => exact outKept_execCreditBind q hs
  | creditConfigSet q => exact outKept_execCreditConfigSet q hs
  | voucherEnter q => exact outKept_execVoucherEnter q hs
  | lineConfigSet q => exact outKept_execLineConfigSet q hs
  | lineSend q => exact outKept_execLineSend q hs
  | lineMapRequest q => exact outKept_execLineMapRequest q hs
  | netConfigSet q => exact outKept_execNetConfigSet q hs
  | netToutSet q => exact outKept_execNetToutSet q hs
  | netTcapSet q => exact outKept_execNetTcapSet q hs
  | netTcapRead q => exact outKept_execNetTcapRead q hs
  | netTimeSet q => exact outKept_execNetTimeSet q hs
  | nfcConfigSet q => exact outKept_execNfcConfigSet q hs
  | nfcTagWrite q => exact outKept_execNfcTagWrite q hs
  | nfcTagKey q => exact outKept_execNfcTagKey q hs
  | lswChanSet q => exact outKept_execLswChanSet q hs
  | lswOut q => exact outKept_execLswOut q hs
  | lswClear q => exact outKept_execLswClear q hs
  | panelConfigSet q => exact outKept_execPanelConfigSet q hs
  | panelWrite q => exact outKept_execPanelWrite q hs
  | panelFlip q => exact outKept_execPanelFlip q hs
  | panelCurveSet q => exact outKept_execPanelCurveSet q hs
  | keyUpdate q => exact outKept_execKeyUpdate q hs
  | keyDerive q => exact outKept_execKeyDerive q hs
  | keyRevoke q => exact outKept_execKeyRevoke q hs
  | fltClear q => exact outKept_execFltClear q hs
  | fltSeveritySet q => exact outKept_execFltSeveritySet q hs
  | maStart q => exact outKept_execMaStart q hs
  | maAbort q => exact outKept_execMaAbort q hs
  | maStatus q => exact outKept_execMaStatus q hs
  | fwStageBegin q => exact outKept_execFwStageBegin q hs
  | fwStageData q => exact outKept_execFwStageData q hs
  | fwStageVerify q => exact outKept_execFwStageVerify q hs
  | fwActivate q => exact outKept_execFwActivate q hs
  | fwStageAbort q => exact outKept_execFwStageAbort q hs
  | dlmsAarq client server transport channel h => exact outKept_execDlmsAarq client server transport channel h hs
  | dlmsGet a g prot ivc => exact outKept_execDlmsGet a g prot ivc hs
  | dlmsSet a l prot ivc => exact outKept_execDlmsSet a l prot ivc hs
  | dlmsAction a ic obis method val prot ivc => exact outKept_execDlmsAction a ic obis method val prot ivc hs
  | dlmsRlrq a => exact outKept_execDlmsRlrq a hs
  | hostTransaction cmd addr wr nrd => exact outKept_execHostTransaction cmd addr wr nrd hs
  | hcsRise cut => exact outKept_execHcsRise cut hs
  | hrst low => exact outKept_execHrst low hs
  | registerWrite addr v => exact outKept_execRegisterWrite addr v hs
  | pairDrainEnd n => exact outKept_execPairDrainEnd n hs
  | submissionFetch n par => exact outKept_execSubmissionFetch n par hs
  | eventQueueDrain n => exact outKept_execEventQueueDrain n hs
  | domainSwitchTimeout d => exact outKept_execDomainSwitchTimeout d hs
  | pilotPeriod o pos neg => exact outKept_execPilotPeriod o pos neg hs
  | pilotStateAccept o => exact outKept_execPilotStateAccept o hs
  | pilotLevel o => exact outKept_execPilotLevel o hs
  | pilotDiode o => exact outKept_execPilotDiode o hs
  | ppSample o ohm => exact outKept_execPpSample o ohm hs
  | ppAccept o => exact outKept_execPpAccept o hs
  | mirrorContactChange p closed => exact outKept_execMirrorContactChange p closed hs
  | lockFeedbackChange o locked => exact outKept_execLockFeedbackChange o locked hs
  | closingStart o => exact outKept_execClosingStart o hs
  | closingTimeout o => exact outKept_execClosingTimeout o hs
  | sswReadyCheck o ready => exact outKept_execSswReadyCheck o ready hs
  | openingStart o cause => exact outKept_execOpeningStart o cause hs
  | contactorRelease o => exact outKept_execContactorRelease o hs
  | weldWindowEnd o => exact outKept_execWeldWindowEnd o hs
  | presenceDetect o phases => exact outKept_execPresenceDetect o phases hs
  | deferredOpening o => exact outKept_execDeferredOpening o hs
  | lockPulse o => exact outKept_execLockPulse o hs
  | lockPulseEnd o => exact outKept_execLockPulseEnd o hs
  | lockFeedbackCheck o => exact outKept_execLockFeedbackCheck o hs
  | lockRetry o => exact outKept_execLockRetry o hs
  | identification o src id => exact outKept_execIdentification o src id hs
  | heldIdentExpiry o => exact outKept_execHeldIdentExpiry o hs
  | authTimeout o => exact outKept_execAuthTimeout o hs
  | plcFrameRx l ended => exact outKept_execPlcFrameRx l ended hs
  | plcTxGrant ended clear => exact outKept_execPlcTxGrant ended clear hs
  | plcTxDiscard o => exact outKept_execPlcTxDiscard o hs
  | beaconTx o => exact outKept_execBeaconTx o hs
  | cmSlacParmReq o runid mac => exact outKept_execCmSlacParmReq o runid mac hs
  | cmMnbcSoundInd o runid l sounds => exact outKept_execCmMnbcSoundInd o runid l sounds hs
  | slacDecision o => exact outKept_execSlacDecision o hs
  | cmValidateReq o window n => exact outKept_execCmValidateReq o window n hs
  | cmSlacMatchReq o runid mac => exact outKept_execCmSlacMatchReq o runid mac hs
  | slacInitExpiry o => exact outKept_execSlacInitExpiry o hs
  | sessionSetupTimeout o => exact outKept_execSessionSetupTimeout o hs
  | v2gSessionLost o => exact outKept_execV2gSessionLost o hs
  | sdpRequest o tls => exact outKept_execSdpRequest o tls hs
  | supportedAppProtocol o hello offers20 offers2 => exact outKept_execSupportedAppProtocol o hello offers20 offers2 hs
  | v2gRequest o m => exact outKept_execV2gRequest o m hs
  | serviceSelectionReq o service dynamic => exact outKept_execServiceSelectionReq o service dynamic hs
  | v2gStopRequest o kind => exact outKept_execV2gStopRequest o kind hs
  | certReq o kind exi => exact outKept_execCertReq o kind exi hs
  | certReplyTimeout o => exact outKept_execCertReplyTimeout o hs
  | apexTrip o cur wide => exact outKept_execApexTrip o cur wide hs
  | apexLatchSeen o => exact outKept_execApexLatchSeen o hs
  | dcEstimate o est sat => exact outKept_execDcEstimate o est sat hs
  | rcFrontend o => exact outKept_execRcFrontend o hs
  | dcSlowUpdate o mean => exact outKept_execDcSlowUpdate o mean hs
  | dcFastUpdate o mean => exact outKept_execDcFastUpdate o mean hs
  | rcWarn o => exact outKept_execRcWarn o hs
  | acResidualUpdate o rms => exact outKept_execAcResidualUpdate o rms hs
  | sswDesat o => exact outKept_execSswDesat o hs
  | overload o cur => exact outKept_execOverload o cur hs
  | selftestStart o trigger => exact outKept_execSelftestStart o trigger hs
  | selftestDone o m => exact outKept_execSelftestDone o m hs
  | islandSafeState src => exact outKept_execIslandSafeState src hs
  | sinSample n a b => exact outKept_execSinSample n a b hs
  | sinAccept n chan closed => exact outKept_execSinAccept n chan closed hs
  | sinDisc n => exact outKept_execSinDisc n hs
  | siteRelease j => exact outKept_execSiteRelease j hs
  | siteFbCheck j => exact outKept_execSiteFbCheck j hs
  | weldWatchEnd o seen => exact outKept_execWeldWatchEnd o seen hs
  | pairTestStepEnd p stepb khs kls coil => exact outKept_execPairTestStepEnd p stepb khs kls coil hs
  | pullinEnd p => exact outKept_execPullinEnd p hs
  | siteCloseCheck j => exact outKept_execSiteCloseCheck j hs
  | coilCheck p coil => exact outKept_execCoilCheck p coil hs
  | coilUndercurrent p => exact outKept_execCoilUndercurrent p hs
  | passwordLockoutEnd role => exact outKept_execPasswordLockoutEnd role hs
  | budgetRound reclaim => exact outKept_execBudgetRound reclaim hs
  | pauseHoldEnd o => exact outKept_execPauseHoldEnd o hs
  | latFrameRx frame => exact outKept_execLatFrameRx frame hs
  | metroSample x lfxo => exact outKept_execMetroSample x lfxo hs
  | gainDecision ch => exact outKept_execGainDecision ch hs
  | gainSwitch ch => exact outKept_execGainSwitch ch hs
  | zeroCrossing ch rising period since => exact outKept_execZeroCrossing ch rising period since hs
  | tempUpdate ntc die => exact outKept_execTempUpdate ntc die hs
  | ntcRestore k => exact outKept_execNtcRestore k hs
  | offsetRemeasure o offs => exact outKept_execOffsetRemeasure o offs hs
  | selfcalVisitEnd resp delay => exact outKept_execSelfcalVisitEnd resp delay hs
  | calCommitDone ok => exact outKept_execCalCommitDone ok hs
  | directionChange o => exact outKept_execDirectionChange o hs
  | halfCyclePq bus => exact outKept_execHalfCyclePq bus hs
  | reverseCurrent o => exact outKept_execReverseCurrent o hs
  | bypassDetect o => exact outKept_execBypassDetect o hs
  | bypassEnd o => exact outKept_execBypassEnd o hs
  | neutralMissing bus => exact outKept_execNeutralMissing bus hs
  | neutralEnd bus => exact outKept_execNeutralEnd bus hs
  | tamperSample t0 t1 => exact outKept_execTamperSample t0 t1 hs
  | ledgerCommit ok retried => exact outKept_execLedgerCommit ok retried hs
  | billTimeCorrection delta source => exact outKept_execBillTimeCorrection delta source hs
  | dlmsIdleRelease a => exact outKept_execDlmsIdleRelease a hs
  | dlmsLockoutEnd client => exact outKept_execDlmsLockoutEnd client hs
  | graceExpiry acct => exact outKept_execGraceExpiry acct hs
  | keypadScan cols => exact outKept_execKeypadScan cols hs
  | keyAccept key => exact outKept_execKeyAccept key hs
  | lineFrameRx f => exact outKept_execLineFrameRx f hs
  | lineAckTx ang => exact outKept_execLineAckTx ang hs
  | lineContentionSlot pre level draw => exact outKept_execLineContentionSlot pre level draw hs
  | lineFrameTx ang => exact outKept_execLineFrameTx ang hs
  | mapRequestTimeout peer => exact outKept_execMapRequestTimeout peer hs
  | robustHoldEnd peer => exact outKept_execRobustHoldEnd peer hs
  | mapExpiry peer gone => exact outKept_execMapExpiry peer gone hs
  | ethFrameRx port f residence => exact outKept_execEthFrameRx port f residence hs
  | ptpMessage x => exact outKept_execPtpMessage x hs
  | txTimestamp port ident sec ns => exact outKept_execTxTimestamp port ident sec ns hs
  | launchTime port => exact outKept_execLaunchTime port hs
  | toutEdge k => exact outKept_execToutEdge k hs
  | tcapEdge k rising frac => exact outKept_execTcapEdge k rising frac hs
  | phyLinkChange port up fast => exact outKept_execPhyLinkChange port up fast hs
  | addressAgeing mac => exact outKept_execAddressAgeing mac hs
  | nfcPoll field typeA typeB => exact outKept_execNfcPoll field typeA typeB hs
  | tagFieldOn h => exact outKept_execTagFieldOn h hs
  | tagReqa wupa => exact outKept_execTagReqa wupa hs
  | tagAnticollision nvb bits => exact outKept_execTagAnticollision nvb bits hs
  | tagSelect uid => exact outKept_execTagSelect uid hs
  | pageRead page off le mac => exact outKept_execPageRead page off le mac hs
  | pageWrite page off data mac => exact outKept_execPageWrite page off data mac hs
  | tagHello rndr => exact outKept_execTagHello rndr hs
  | tagProve pr => exact outKept_execTagProve pr hs
  | tagPageCommit ok retried => exact outKept_execTagPageCommit ok retried hs
  | pwmPeriod v cur temp bcur btemp => exact outKept_execPwmPeriod v cur temp bcur btemp hs
  | lswCurrentLimit ch ma => exact outKept_execLswCurrentLimit ch ma hs
  | lswBlankEnd ch => exact outKept_execLswBlankEnd ch hs
  | lswOvercurrent ch => exact outKept_execLswOvercurrent ch hs
  | lswRetry ch => exact outKept_execLswRetry ch hs
  | lswRetryConfirm ch => exact outKept_execLswRetryConfirm ch hs
  | lswThermalTrip bank k t => exact outKept_execLswThermalTrip bank k t hs
  | lswThermalRelease bank k t => exact outKept_execLswThermalRelease bank k t hs
  | lswOpenLoad ch => exact outKept_execLswOpenLoad ch hs
  | bankUndervoltage k mv10 => exact outKept_execBankUndervoltage k mv10 hs
  | bankRecover k mv10 => exact outKept_execBankRecover k mv10 hs
  | lockBrakeEnd o => exact outKept_execLockBrakeEnd o hs
  | limpHomeInput low => exact outKept_execLimpHomeInput low hs
  | lhinChange n high => exact outKept_execLhinChange n high hs
  | vpanLow v => exact outKept_execVpanLow v hs
  | vpanRecover v => exact outKept_execVpanRecover v hs
  | trngHealthFail again test => exact outKept_execTrngHealthFail again test hs
  | faultOccurrence src qual data => exact outKept_execFaultOccurrence src qual data hs
  | faultRetry src qual data ok => exact outKept_execFaultRetry src qual data ok hs
  | maActivityEnd tag m => exact outKept_execMaActivityEnd tag m hs
  | maQueueTimeout tag => exact outKept_execMaQueueTimeout tag hs
  | clkmonWindow clk count lockLow => exact outKept_execClkmonWindow clk count lockLow hs
  | clockTrip clk => exact outKept_execClockTrip clk hs
  | clockSelfcheck prim spare => exact outKept_execClockSelfcheck prim spare hs
  | rc48StartTimeout spare => exact outKept_execRc48StartTimeout spare hs
  | clkSwitchDone isl => exact outKept_execClkSwitchDone isl hs
  | clkSwhang isl => exact outKept_execClkSwhang isl hs
  | clkMeterDone count stopped => exact outKept_execClkMeterDone count stopped hs
  | gateForceClose g => exact outKept_execGateForceClose g hs
  | startSequence r => exact outKept_execStartSequence r hs
  | powerFail t => exact outKept_execPowerFail t hs
  | vsupMinFall mv => exact outKept_execVsupMinFall mv hs
  | domainPgLoss d back => exact outKept_execDomainPgLoss d back hs
  | pilotRail vpn v => exact outKept_execPilotRail vpn v hs
  | bakSwitchover vbak => exact outKept_execBakSwitchover vbak hs
  | vbakLow mv => exact outKept_execVbakLow mv hs
  | imageCopyDone copyok loadok => exact outKept_execImageCopyDone copyok loadok hs
  | handoverAccept dropped => exact outKept_execHandoverAccept dropped hs
  | handoverRollback step => exact outKept_execHandoverRollback step hs
  | svcFrame b => exact outKept_execSvcFrame b hs
  | svcStageBegin total => exact outKept_execSvcStageBegin total hs
  | svcStageData offset data => exact outKept_execSvcStageData offset data hs
  | svcActivate slots => exact outKept_execSvcActivate slots hs
  | bnwRead off late nth => exact outKept_execBnwRead off late nth hs
  | bnwEnergy0Read late => exact outKept_execBnwEnergy0Read late hs
  | bnwWrite off v nth => exact outKept_execBnwWrite off v nth hs
  | bnwSetpointWrite v => exact outKept_execBnwSetpointWrite v hs
  | faultedPresenceClear o => exact outKept_execFaultedPresenceClear o hs
  | lpddrEccError addr => exact outKept_execLpddrEccError addr hs
  | islandCrossingDone => exact outKept_execIslandCrossingDone hs
  | stallLimit => exact outKept_execStallLimit hs
  | strPostComplete => exact outKept_execStrPostComplete hs
  | dormantEntry => exact outKept_execDormantEntry hs
  | thresholdReload => exact outKept_execThresholdReload hs
  | safeStatePairsOff => exact outKept_execSafeStatePairsOff hs
  | safeStateReset => exact outKept_execSafeStateReset hs
  | vkcUv => exact outKept_execVkcUv hs
  | confirmKeypadTimeout => exact outKept_execConfirmKeypadTimeout hs
  | confirmKeypadLockoutEnd => exact outKept_execConfirmKeypadLockoutEnd hs
  | stepInstant => exact outKept_execStepInstant hs
  | extloadLapse => exact outKept_execExtloadLapse hs
  | timebaseToLine => exact outKept_execTimebaseToLine hs
  | timebaseToPtp => exact outKept_execTimebaseToPtp hs
  | latReportTx => exact outKept_execLatReportTx hs
  | latRoundClose => exact outKept_execLatRoundClose hs
  | latShareTx => exact outKept_execLatShareTx hs
  | referenceLost => exact outKept_execReferenceLost hs
  | selfcalVisit => exact outKept_execSelfcalVisit hs
  | periodicLatch => exact outKept_execPeriodicLatch hs
  | boundaryLatch => exact outKept_execBoundaryLatch hs
  | boundaryArm => exact outKept_execBoundaryArm hs
  | captureCut => exact outKept_execCaptureCut hs
  | waveChunkSend => exact outKept_execWaveChunkSend hs
  | waveExportTimeout => exact outKept_execWaveExportTimeout hs
  | periodicCommitTimer => exact outKept_execPeriodicCommitTimer hs
  | boundarySequence => exact outKept_execBoundarySequence hs
  | slewEnd => exact outKept_execSlewEnd hs
  | creditEvaluate => exact outKept_execCreditEvaluate hs
  | friendlyWindowEnd => exact outKept_execFriendlyWindowEnd hs
  | creditEpochCheck => exact outKept_execCreditEpochCheck hs
  | keypadEntryTimeout => exact outKept_execKeypadEntryTimeout hs
  | outletSelectExpiry => exact outKept_execOutletSelectExpiry hs
  | keypadLockoutEnd => exact outKept_execKeypadLockoutEnd hs
  | lineAckWaitExpiry => exact outKept_execLineAckWaitExpiry hs
  | sectorTimingLost => exact outKept_execSectorTimingLost hs
  | ptpSyncTimeout => exact outKept_execPtpSyncTimeout hs
  | netHoldover => exact outKept_execNetHoldover hs
  | nfcPollResume => exact outKept_execNfcPollResume hs
  | tagGuardEnd => exact outKept_execTagGuardEnd hs
  | tagFieldOff => exact outKept_execTagFieldOff hs
  | tagRats => exact outKept_execTagRats hs
  | tagHalt => exact outKept_execTagHalt hs
  | tagAuthLockEnd => exact outKept_execTagAuthLockEnd hs
  | tagHostLockTimeout => exact outKept_execTagHostLockTimeout hs
  | ccWatchdogExpiry => exact outKept_execCcWatchdogExpiry hs
  | watchdogReset => exact outKept_execWatchdogReset hs
  | panelFrame => exact outKept_execPanelFrame hs
  | stressSave => exact outKept_execStressSave hs
  | keyRemask => exact outKept_execKeyRemask hs
  | maActivityStart => exact outKept_execMaActivityStart hs
  | rc48Stop => exact outKept_execRc48Stop hs
  | powerfailRecovery => exact outKept_execPowerfailRecovery hs
  | vsupReturn => exact outKept_execVsupReturn hs
  | fwVerifyDone => exact outKept_execFwVerifyDone hs
  | stagingTimeout => exact outKept_execStagingTimeout hs
  | handoverRestart => exact outKept_execHandoverRestart hs
  | pauseLimit => exact outKept_execPauseLimit hs
  | svcInfo => exact outKept_execSvcInfo hs
  | svcVerify => exact outKept_execSvcVerify hs
  | svcAbort => exact outKept_execSvcAbort hs
  | svcExit => exact outKept_execSvcExit hs
  | bnwEnergyRefresh => exact outKept_execBnwEnergyRefresh hs
  | keypadQuietWake => exact outKept_execKeypadQuietWake hs
  | lfxoLoss => exact outKept_execLfxoLoss hs
  | pilotPeriodTrim => exact outKept_execPilotPeriodTrim hs
  | lastStateUpdate => exact outKept_execLastStateUpdate hs

/-! ### The rows that drive an SSWEN high -/

/-- The two halves of the invariant, from one state to another. -/
def Bounds (s t : State) : Prop := (s.Inv → t.Inv) ∧ (SevOk s.flt.sev → SevOk t.flt.sev)

theorem Kept.bounds (h : Kept s t) : Bounds s t := ⟨h.inv, h.sev⟩

theorem Bounds.trans {s₁ s₂ s₃ : State} (h : Bounds s₁ s₂) (h' : Bounds s₂ s₃) : Bounds s₁ s₃ := ⟨h'.1 ∘ h.1, h'.2 ∘ h.2⟩

/-- SSWEN goes high in the phase that enables the switch, and not while the apex latch is set (R187). -/
theorem outletOk_sswUp (o : ONum) (h : OutOk s.out) : OutOk (s.sswUp o).out := by
  intro p
  change OutletOk ((s.setO o _).o p)
  rw [o_setO]
  split
  · exact ⟨fun _ => .inl rfl, fun hlatch => beq_eq_false_iff_ne.mpr hlatch⟩
  · exact h p

theorem bounds_sswUp (s : State) (o : ONum) : Bounds s (s.sswUp o) :=
  ⟨fun hs => ⟨hs.rings, hs.flt, outletOk_sswUp o hs.out, hs.tag, hs.panel⟩, id⟩

theorem bounds_of_raisesSswen {c : Instr} (hc : RaisesSswen c) (h : exec c s = .next t) : Bounds s t := by
  obtain ⟨o, rfl | rfl⟩ := hc
  · change execClosingConfirmed o s = _ at h
    cases h
    split
    · exact (kept_outSwitch o 1 (Kept.refl s)).bounds.trans (bounds_sswUp _ o)
    · exact (Kept.refl s).bounds
  · change execSswEnableRetry o s = _ at h
    cases h
    split
    · exact (bounds_sswUp s o).trans (kept_outSwitch o 7 (kept_modSw (Kept.refl _) (.inr ⟨rfl, .inl rfl⟩))).bounds
    · exact (Kept.refl s).bounds

/-! ### Every row, every step -/

theorem not_sevOk_nil : ¬ SevOk [] := fun h => absurd (h 42 (by decide) (by decide) (by decide)) (by decide)

/-- The state with no severity at all: of its two halves of the invariant, the floors say nothing. -/
def State.noSev (s : State) : State := { s with flt := { s.flt with sev := [] } }

theorem kept_noSev (s : State) : Kept s.noSev s := ⟨id, id, fun h => absurd h not_sevOk_nil, id, id, id, fun _ => id⟩

theorem exec_inv {c : Instr} (h : exec c s = .next t) (hs : s.Inv) : t.Inv := by
  by_cases hen : RaisesSswen c
  · exact (bounds_of_raisesSswen hen h).1 hs
  · exact (outKept_exec c (kept_noSev s) hen (fun hsev => absurd hsev not_sevOk_nil) t h).inv
      ⟨hs.rings, hs.flt, hs.out, hs.tag, hs.panel⟩

theorem exec_sevOk {c : Instr} (hupset : NoUpset c) (h : exec c s = .next t) (hs : SevOk s.flt.sev) : SevOk t.flt.sev := by
  by_cases hen : RaisesSswen c
  · exact (bounds_of_raisesSswen hen h).2 hs
  · exact (outKept_exec c (Kept.refl s) hen (fun _ => hupset) t h).sev hs

theorem tick_inv (hs : s.Inv) : s.tick.Inv := (kept_tick (Kept.refl s)).inv hs

theorem step_inv (h : step s = .next t) (hs : s.Inv) : t.Inv := by
  have htick (h : Host.Outcome.next s.tick = (.next t : Out)) : t.Inv := by
    cases h
    exact tick_inv hs
  unfold step at h
  split at h
  · exact exec_inv h ⟨hs.rings, hs.flt, hs.out, hs.tag, hs.panel⟩
  · split at h
    · split at h
      · exact exec_inv h ⟨hs.rings, hs.flt, hs.out, hs.tag, hs.panel⟩
      · exact htick h
    · split at h
      · split at h
        · exact exec_inv h ⟨hs.rings, hs.flt, hs.out, hs.tag, hs.panel⟩
        · exact htick h
      · exact htick h

end Sys2Proof.Machine

namespace Sys2Proof.Proofs

open Sys2Proof.Machine

/-- Settles O4: the bounds go through every operation of the model, from the record updates up to the rows and the tick. -/
theorem stepKeepsInv : Obligations.StepKeepsInv :=
  ⟨fun _ _ hs h => step_inv h hs, fun _ _ _ hupset hs h => exec_sevOk hupset h hs, fun s hs => (kept_tick (Kept.refl s)).sev hs⟩

end Sys2Proof.Proofs
end

section
/-! PROOFS. Protection: the apex latch of an outlet (R184 to R189), and the overcurrent threshold with its limit (R192, R193). -/

namespace Sys2Proof.Machine

/-! ### Apex latch -/

theorem setO_setO (s : State) (o : ONum) (x y : Outlet) : (s.setO o x).setO o y = s.setO o y := by
  simp only [State.setO, Vector.set_set]

/-- Until the island has seen a latch, its inputs are recorded and SSWEN is low; nothing but the switch and the protection of the
outlet moves, and the sequencer stays in its phase (R187, R189). -/
theorem setLatch_unseen {s : State} {o : ONum} (h : (s.o o).prot.latch = 0 ∨ (s.o o).prot.seen = false) (inputs : Nat)
    (vals : List Int) :
    ∃ (w : Switch) (p : Protect), s.setLatch o inputs vals = s.setO o { s.o o with sw := w, prot := p } ∧
      w.sswen = false ∧ w.phase = (s.o o).sw.phase ∧ p.latch = (s.o o).prot.latch ||| inputs := by
  have hunseen : ((s.o o).prot.latch == 0 || !(s.o o).prot.seen) = true := by simpa using h
  unfold State.setLatch
  simp only [hunseen, if_true, modSw_eq, modProt_eq, o_setO, setO_setO]
  refine ⟨_, _, rfl, ?_, ?_, rfl⟩
  · cases hen : (s.o o).sw.sswen
    · exact hen
    · rfl
  · cases (s.o o).sw.sswen <;> rfl

/-- Comparator inputs that rise reach the latch, once all that are active now are noted as such (R184 to R187). -/
theorem exec_apexTrip_rise {s : State} {o : ONum} {cur : List Int} {wide : Int} {p : Protect}
    (hp : p = { (s.o o).prot with wide := wide }) (hrise : clearBits (p.comparators cur) p.active ≠ 0) :
    exec (.apexTrip o cur wide) s =
      .next ((s.setO o { s.o o with prot := { p with active := p.comparators cur } }).setLatch o
        (clearBits (p.comparators cur) p.active) (cur.take 4 ++ [p.wide + p.est])) := by
  subst hp
  change execApexTrip o cur wide s = _
  simp only [execApexTrip, State.applyInputs, modProt_eq, o_setO, if_true, setO_setO]
  rw [if_neg hrise]

/-! ### Overcurrent threshold -/

theorem ocThrOf_zero (rated : Nat) : ocThrOf 0 rated = max 50 ((rated * 25 + 99) / 100) := rfl

theorem ocThrOf_of_ne_zero {stored : Nat} (h : stored ≠ 0) (rated : Nat) : ocThrOf stored rated = stored := if_neg h

theorem ocThrAllowed_eq_false {stored rated : Nat} (h : 10 * ocThrOf stored rated < 2 * rated) : ocThrAllowed stored rated = false :=
  decide_eq_false (Nat.not_le.mpr h)

theorem mem_outlets (o : ONum) : o ∈ outlets := List.mem_finRange o

theorem outletArg_eq {p : Bytes} {off : Nat} {o : ONum} (h : u8 p off = o.val) : outletArg p off = o := by
  have hlt : u8 p off < 24 := h ▸ o.isLt
  rw [outletArg, dif_pos hlt]
  exact Fin.ext h

/-- Byte 0 of PROT_CONFIG_SET names one outlet, or every outlet as 0xFF (R213). -/
theorem mem_protConfigOutlets {p : Bytes} {o : ONum} (h : u8 p 0 = 0xFF ∨ u8 p 0 = o.val) :
    o ∈ if u8 p 0 = 0xFF then outlets else [outletArg p 0] := by
  split
  · exact mem_outlets o
  · next hall => exact List.mem_singleton.mpr (outletArg_eq (h.resolve_left hall)).symm

/-- PROT_CONFIG_SET with a threshold that R193 forbids on an outlet it names stores nothing: a command that is served comes to the
refusal, which answers in the state as it stands, like a query. -/
theorem isQuery_protConfigSet_of_not_allowed {q : Req} {s : State} {o : ONum} (hnames : u8 q.payload 0 = 0xFF ∨ u8 q.payload 0 = o.val)
    (hno : ocThrAllowed (u16 q.payload 2) (s.rated o) = false) : IsQuery s (exec (.protConfigSet q) s) := by
  change IsQuery s (execProtConfigSet q s)
  unfold execProtConfigSet
  extract_lets p l
  have hbreach : (!(l.all fun o => ocThrAllowed (u16 p 2) (s.rated o))) = true := by
    rw [Bool.not_eq_true', List.all_eq_false]
    exact ⟨o, mem_protConfigOutlets hnames, ne_true_of_eq_false hno⟩
  refine isQuery_mail ?_
  rw [if_pos hbreach]
  exact asks_no s 0x05

end Sys2Proof.Machine

namespace Sys2Proof.Proofs

open Sys2Proof.Machine

/-- Settles O29: the inputs that rose reach a latch that the island has not seen, and the outlet is the only part written. -/
theorem apexTripOpensSwitch : Obligations.ApexTripOpensSwitch := by
  intro o cur wide s p rise hrise hunseen
  obtain ⟨w, r, hset, hlow, hphase, hlatch⟩ :=
    setLatch_unseen (s := s.setO o { s.o o with prot := { p with active := p.comparators cur } }) (o := o)
      (by simpa using hunseen) rise (cur.take 4 ++ [p.wide + p.est])
  simp only [o_setO, if_true, setO_setO] at hset hphase hlatch
  refine ⟨s.setO o { s.o o with sw := w, prot := r }, ?_, ?_⟩
  · rw [exec_apexTrip_rise rfl hrise, hset]
  · rw [o_setO, if_pos rfl]
    exact ⟨hlow, hlatch, hphase, rfl, fun p hp => by rw [o_setO, if_neg hp], rfl⟩

/-- Settles O30: the default is the ceiling that R192 names, and a threshold that R193 forbids is refused before it is stored. -/
theorem overcurrentThreshold : Obligations.OvercurrentThreshold := by
  refine ⟨fun rated => ?_, fun stored rated h => ocThrOf_of_ne_zero h rated, fun q s t o hexec hlow hnames => ?_⟩
  · rw [ocThrOf_zero]
    omega
  · exact (hexec ▸ isQuery_protConfigSet_of_not_allowed hnames (ocThrAllowed_eq_false hlow)).onlyRings

end Sys2Proof.Proofs
end

section
/-! PROOFS. The allocation of a round (R266, R267): it is built from no grants at all by single raises, each checked against the cap
and the limits before it stands. -/

namespace Sys2Proof.Machine

/-! ### Lists of grants -/

theorem mem_insertBy {α : Type} (le : α → α → Bool) (x y : α) (l : List α) : y ∈ insertBy le x l ↔ y = x ∨ y ∈ l := by
  induction l with
  | nil => simp [insertBy]
  | cons z t ih =>
    rw [insertBy]
    split
    · exact List.mem_cons
    · rw [List.mem_cons, ih, List.mem_cons, or_left_comm]

theorem mem_sortBy {α : Type} (le : α → α → Bool) (y : α) (l : List α) : y ∈ sortBy le l ↔ y ∈ l := by
  induction l with
  | nil => rfl
  | cons x t ih =>
    change y ∈ insertBy le x (sortBy le t) ↔ _
    rw [mem_insertBy, ih, List.mem_cons]

theorem mem_budOrder (s : State) (elig : List Nat) (k : Nat) : k ∈ s.budOrder elig ↔ k ∈ elig := mem_sortBy _ k elig

/-- What outlet `j` has after a grant to outlet `k`; an index past the end grants nothing. -/
theorem getD_set (g : List Nat) (k x j : Nat) :
    (g.set k x).getD j 0 = if k = j ∧ j < g.length then x else g.getD j 0 := by
  by_cases hk : k = j
  · subst hk
    by_cases hlt : k < g.length <;> simp [hlt]
  · simp [hk]

theorem pos_getD_set {g : List Nat} {k x j : Nat} (hx : 0 < x) (hj : 0 < g.getD j 0) : 0 < (g.set k x).getD j 0 := by
  rw [getD_set]
  split
  · exact hx
  · exact hj

/-! ### No grants break no limit -/

theorem busTotal_replicate_zero (s : State) (n b ph : Nat) : s.busTotal (List.replicate n 0) b ph = 0 := by
  refine List.foldlRecOn (motive := (· = 0)) _ _ rfl fun t ht x hx => ?_
  have hzero : x.1 = 0 := List.eq_of_mem_replicate (List.fst_mem_of_mem_zipIdx (List.mem_of_mem_filter hx))
  rw [ht, hzero]

theorem breach_replicate_zero (s : State) (l : Lims) (n : Nat) : s.breach l (List.replicate n 0) = 0 := by
  simp [State.breach, busTotal_replicate_zero, List.range_succ, maxOf]

/-! ### How an allocation comes about -/

/-- The lists of grants that the procedure of R267 can pass through: 6.0 A to an eligible outlet, or 0.1 A more to one that has a
grant, where the cap allows it and the limits of R266 hold. -/
inductive Granted (s : State) (l : Lims) (caps elig : List Nat) : List Nat → Prop
  | none : Granted s l caps elig (List.replicate 24 0)
  | start {g : List Nat} {k : Nat} : Granted s l caps elig g → k ∈ elig → 60 ≤ caps.getD k 0 → s.breach l (g.set k 60) = 0 →
      Granted s l caps elig (g.set k 60)
  | raise {g : List Nat} {k : Nat} : Granted s l caps elig g → k ∈ elig → 0 < g.getD k 0 → g.getD k 0 + 1 ≤ caps.getD k 0 →
      s.breach l (g.set k (g.getD k 0 + 1)) = 0 → Granted s l caps elig (g.set k (g.getD k 0 + 1))

section
variable {s : State} {l : Lims} {caps elig : List Nat}

theorem Granted.firstPass (start : Nat → Bool) {order g : List Nat} (horder : ∀ k ∈ order, k ∈ elig)
    (hg : Granted s l caps elig g) : Granted s l caps elig (s.firstPass l caps start order g) := by
  induction order generalizing g with
  | nil => exact hg
  | cons k t ih =>
    obtain ⟨hk, ht⟩ := List.forall_mem_cons.mp horder
    rw [State.firstPass]
    split
    · next hfits =>
      simp only [Bool.and_eq_true, decide_eq_true_eq] at hfits
      obtain ⟨⟨hcap, -⟩, hlim⟩ := hfits
      exact ih ht (hg.start hk hcap hlim)
    · exact ih ht hg

/-- A turn only raises grants, so every outlet of `A` still has one, and the outlets that stay active are among those before. -/
theorem Granted.turn {A active g : List Nat} (hA : ∀ k ∈ A, k ∈ elig) (hactive : active ⊆ A) (hg : Granted s l caps elig g)
    (hpos : ∀ k ∈ A, 0 < g.getD k 0) :
    Granted s l caps elig (s.turn l caps active g).1 ∧ (∀ k ∈ A, 0 < (s.turn l caps active g).1.getD k 0) ∧
      (s.turn l caps active g).2 ⊆ A := by
  induction active generalizing g with
  | nil => exact ⟨hg, hpos, hactive⟩
  | cons k t ih =>
    obtain ⟨hk, ht⟩ := List.cons_subset.mp hactive
    simp only [State.turn]
    split
    · next hfits =>
      simp only [Bool.and_eq_true, decide_eq_true_eq] at hfits
      obtain ⟨hcap, hlim⟩ := hfits
      obtain ⟨hgranted, hstill, hsub⟩ := ih ht (hg.raise (hA k hk) (hpos k hk) hcap hlim)
        fun j hj => pos_getD_set (Nat.succ_pos _) (hpos j hj)
      exact ⟨hgranted, hstill, List.cons_subset.mpr ⟨hk, hsub⟩⟩
    · exact ih ht hg hpos

theorem Granted.fill {A : List Nat} (hA : ∀ k ∈ A, k ∈ elig) (n : Nat) {active g : List Nat} (hactive : active ⊆ A)
    (hg : Granted s l caps elig g) (hpos : ∀ k ∈ A, 0 < g.getD k 0) : Granted s l caps elig (s.fill l caps n active g) := by
  induction n generalizing active g with
  | zero => exact hg
  | succ n ih =>
    rw [State.fill]
    split
    · exact hg
    · obtain ⟨hgranted, hstill, hsub⟩ := hg.turn hA hactive hpos
      exact ih hsub hgranted hstill

theorem Granted.classes {order : List Nat} (horder : ∀ k ∈ order, k ∈ elig) (c : Nat) {g : List Nat}
    (hg : Granted s l caps elig g) : Granted s l caps elig (s.classes l caps order c g) := by
  induction c generalizing g with
  | zero => exact hg
  | succ c ih =>
    refine ih (hg.fill (fun k hk => horder k (List.mem_of_mem_filter hk)) 400 (List.Subset.refl _) fun k hk => ?_)
    have hactive := List.of_mem_filter hk
    simp only [Bool.and_eq_true, decide_eq_true_eq] at hactive
    exact hactive.1.2

theorem granted_allocate (start : Nat → Bool) : Granted s l caps elig (s.allocate l caps elig start) :=
  have horder : ∀ k ∈ s.budOrder elig, k ∈ elig := fun k => (mem_budOrder s elig k).mp
  (Granted.none.firstPass start horder).classes horder 8

/-! ### What every list of grants on the way keeps -/

theorem Granted.breach_eq_zero {g : List Nat} (hg : Granted s l caps elig g) : s.breach l g = 0 := by
  cases hg with
  | none => exact breach_replicate_zero s l 24
  | start _ _ _ hlim => exact hlim
  | raise _ _ _ _ hlim => exact hlim

/-- The bounds of R267 on the grant `x` of outlet `k`. -/
def GrantOk (caps elig : List Nat) (k x : Nat) : Prop := x = 0 ∨ 60 ≤ x ∧ x ≤ caps.getD k 0 ∧ k ∈ elig

theorem grantOk_getD_set {g : List Nat} {k x : Nat} (hx : GrantOk caps elig k x) (hg : ∀ j, GrantOk caps elig j (g.getD j 0))
    (j : Nat) : GrantOk caps elig j ((g.set k x).getD j 0) := by
  rw [getD_set]
  split
  · next hkj => exact hkj.1 ▸ hx
  · exact hg j

theorem Granted.grantOk {g : List Nat} (hg : Granted s l caps elig g) (j : Nat) : GrantOk caps elig j (g.getD j 0) := by
  induction hg generalizing j with
  | none => exact .inl (List.getElem?_getD_replicate_default_eq 0 24 j)
  | start _ hk hcap _ ih => exact grantOk_getD_set (.inr ⟨le_rfl, hcap, hk⟩) ih j
  | @raise g k _ hk hpos hcap _ ih =>
    have hmin : 60 ≤ g.getD k 0 := ((ih k).resolve_left hpos.ne').1
    exact grantOk_getD_set (.inr ⟨Nat.le_succ_of_le hmin, hcap, hk⟩) ih j

end

end Sys2Proof.Machine

namespace Sys2Proof.Proofs

open Sys2Proof.Machine

/-- Settles O22: no grants at all break no limit, and every raise is checked against the limits before it stands. -/
theorem allocationWithinLimits : Obligations.AllocationWithinLimits :=
  fun _ _ _ _ start => (granted_allocate start).breach_eq_zero

/-- Settles O23: a grant begins at 6.0 A for an eligible outlet, and is raised by 0.1 A no further than the cap. -/
theorem grantsWithinCaps : Obligations.GrantsWithinCaps :=
  fun _ _ _ _ start k => (granted_allocate start).grantOk k

end Sys2Proof.Proofs
end

section
/-! PROOFS. What the operations that one sample composes leave of the energy block: those that make no latch leave all of it, and a
latch leaves the accumulators, which it copies (R348). -/

namespace Sys2Proof.Machine

variable (s : State)

/-! ### Branches and lists -/

@[simp] theorem ite_en (p : Prop) [Decidable p] (t : State) : (if p then s else t).en = if p then s.en else t.en :=
  apply_ite State.en p s t

@[simp] theorem ite_acc (p : Prop) [Decidable p] (e e' : Energy) : (if p then e else e').acc = if p then e.acc else e'.acc :=
  apply_ite Energy.acc p e e'

theorem foldl_acc {α : Type} {f : State → α → State} (hf : ∀ s a, (f s a).en.acc = s.en.acc) (l : List α) :
    (l.foldl f s).en.acc = s.en.acc := by
  induction l generalizing s with
  | nil => rfl
  | cons a l ih => exact (ih (f s a)).trans (hf s a)

/-! ### Rings and the fault collector -/

@[simp] theorem modPr_en (n : PNum) (f : Pair → Pair) : (s.modPr n f).en = s.en := rfl

@[simp] theorem putUnit_en (n : PNum) (d : Held) : (s.putUnit n d).en = s.en := by rw [putUnit_rings]

@[simp] theorem countUp_en (src : Nat) : (s.countUp src).en = s.en := rfl

@[simp] theorem tagHistory_en : s.tagHistory.en = s.en := by simp [State.tagHistory]

@[simp] theorem logPut_en (e : LogEntry) : (s.logPut e).en = s.en := by simp [State.logPut]

@[simp] theorem latchRec_en (src qual data : Nat) (forced retried : Bool) : (s.latchRec src qual data forced retried).en = s.en := by
  simp [State.latchRec]

@[simp] theorem loseEvent_en (n : PNum) (seq : Nat) : (s.loseEvent n seq).en = s.en := by simp [State.loseEvent]

@[simp] theorem deliver_en (n : PNum) (d : Held) (seq : Nat) : (s.deliver n d seq).en = s.en := by simp [State.deliver]

@[simp] theorem emitNow_en (n : PNum) (op : Nat) (p : Bytes) (b : Option (Nat × Nat)) : (s.emitNow n op p b).en = s.en := by
  simp [State.emitNow]

@[simp] theorem emit_en (n : PNum) (op : Nat) (p : Bytes) : (s.emit n op p).en = s.en := by simp [State.emit]

@[simp] theorem complete_en (n : PNum) (op tag st : Nat) (p : Bytes) (b : Option (Nat × Nat)) :
    (s.complete n op tag st p b).en = s.en := by rw [complete_rings]

@[simp] theorem release_en (n : PNum) (op tag st : Nat) (p : Bytes) (b : Option (Nat × Nat)) :
    (s.release n op tag st p b).en = s.en := by simp [State.release]

@[simp] theorem finishWith_en (n : PNum) (tag st : Nat) (p : Bytes) (b : Option (Nat × Nat)) :
    (s.finishWith n tag st p b).en = s.en := by
  unfold State.finishWith
  split
  · rfl
  · simp

@[simp] theorem finish_en (n : PNum) (tag st : Nat) (p : Bytes) : (s.finish n tag st p).en = s.en := finishWith_en ..

@[simp] theorem bulkPut_en (n : PNum) (r : Nat × Nat) (b : Bytes) : (s.bulkPut n r b).en = s.en := rfl

/-! ### Outlets -/

@[simp] theorem modPairOut_en (p : Nat) (f : OutPair → OutPair) : (s.modPairOut p f).en = s.en := rfl

@[simp] theorem trigger_en (cause : Nat) : (s.trigger cause).en = s.en := rfl

@[simp] theorem setPilot_en (o : ONum) : (s.setPilot o).en = s.en := by simp [State.setPilot, State.iolFrom]

@[simp] theorem outSwitch_en (o : ONum) (step : Nat) : (s.outSwitch o step).en = s.en := emit_en ..

@[simp] theorem lastState_en : s.lastState.en = s.en := by simp [State.lastState]

@[simp] theorem setSess_en (o : ONum) (st : SessState) (cause : Nat) : (s.setSess o st cause).en = s.en := by simp [State.setSess]

@[simp] theorem markEnd_en (o : ONum) (cause : Nat) : (s.markEnd o cause).en = s.en := by simp [State.markEnd]

@[simp] theorem dropSession_en (o : ONum) : (s.dropSession o).en = s.en := rfl

@[simp] theorem askLock_en (o : ONum) (locked : Bool) : (s.askLock o locked).en = s.en := by simp [State.askLock]

@[simp] theorem startOpening_en (o : ONum) (cause : Nat) : (s.startOpening o cause).en = s.en := by
  unfold State.startOpening
  dsimp only
  split <;> simp

theorem openList_en (cause : Nat) (l : List ONum) : (s.openList cause l).en = s.en := by
  induction l generalizing s with
  | nil => rfl
  | cons o l ih => simp [State.openList, ih]

/-! ### Latches, and the sessions whose end makes one -/

@[simp] theorem activateCal_en (c : CalSet) : (s.activateCal c).en = s.en := by simp [State.activateCal]

@[simp] theorem latchNow_acc (kind : Nat) (late : Bool) : (s.latchNow kind late).en.acc = s.en.acc := by
  unfold State.latchNow
  split
  · rfl
  · dsimp only
    split <;> simp

@[simp] theorem queueSess_acc (o : ONum) : (s.queueSess o).en.acc = s.en.acc := by
  unfold State.queueSess
  dsimp only
  split
  · simp
  · rfl

@[simp] theorem toEnding_acc (o : ONum) (cause : Nat) : (s.toEnding o cause).en.acc = s.en.acc := by simp [State.toEnding]

@[simp] theorem sessTo_acc (o : ONum) (goal : SessState) (cause : Nat) : (s.sessTo o goal cause).en.acc = s.en.acc := by
  unfold State.sessTo
  split <;> simp

@[simp] theorem fwTo_acc (o : ONum) (goal : SessState) (cause : Nat) : (s.fwTo o goal cause).en.acc = s.en.acc := by
  simp [State.fwTo]

/-! ### Reactions to faults -/

@[simp] theorem wake_en (cause : Nat) : (s.wake cause).en = s.en := by simp [State.wake, State.evtPower, State.evtDomain]

@[simp] theorem outletFault_acc (src qual : Nat) : (s.outletFault src qual).en.acc = s.en.acc := by
  unfold State.outletFault
  split <;> simp

@[simp] theorem maintFault_en (qual : Nat) : (s.maintFault qual).en = s.en := rfl

@[simp] theorem react_acc (src qual sev : Nat) : (s.react src qual sev).en.acc = s.en.acc := by simp [State.react, openList_en]

@[simp] theorem reactForced_en (sev : Nat) : (s.reactForced sev).en = s.en := by simp [State.reactForced, openList_en]

@[simp] theorem raiseWith_acc (src qual data : Nat) (forced retried : Bool) :
    (s.raiseWith src qual data forced retried).en.acc = s.en.acc := by simp [State.raiseWith]

@[simp] theorem raise_acc (src qual data : Nat) : (s.raise src qual data).en.acc = s.en.acc := raiseWith_acc ..

/-! ### Channels -/

@[simp] theorem modCh_en (c : Nat) (f : ChanRun → ChanRun) : (s.modCh c f).en = s.en := rfl

theorem clip_acc (c : Nat) : (s.clip c).en.acc = s.en.acc := by simp [State.clip]

@[simp] theorem visitRestart_en : s.visitRestart.en = s.en := by
  unfold State.visitRestart
  split <;> simp

theorem overload_acc (c : Nat) : (s.overload c).en.acc = s.en.acc := by simp [State.overload, State.switchGain]

/-! ### What follows the accumulation at a sample -/

@[simp] theorem neutralRuns_acc : s.neutralRuns.en.acc = s.en.acc := rfl

@[simp] theorem rawSample_en (y : List Int) : (s.rawSample y).en = s.en := by
  unfold State.rawSample
  split <;> simp

@[simp] theorem latchAt_acc (kind : Nat) : (s.latchAt kind).en.acc = s.en.acc := by simp [State.latchAt]

@[simp] theorem commandLatch_acc : s.commandLatch.en.acc = s.en.acc := by
  unfold State.commandLatch
  split
  · rfl
  · rw [foldl_acc _ fun s t => congrArg Energy.acc (finish_en s ..)]
    simp

@[simp] theorem endReverse_acc (l : List ONum) : (s.endReverse l).en.acc = s.en.acc := by
  induction l generalizing s with
  | nil => rfl
  | cons o l ih => simp [State.endReverse, ih, State.evtTamper]

/-- Of all that METRO_SAMPLE does, the accumulation alone writes the accumulators. -/
theorem sampled_acc (x : List Int) (lfxo : Nat) :
    ∃ (s' : State) (ns : Nat), s'.en.acc = s.en.acc ∧ (s.sampled x lfxo).en.acc = (s'.sampleEnergy ns).en.acc := by
  unfold State.sampled
  extract_lets ns tops cut s1 s2 y s3 s4 s5
  have h5 : s5.en.acc = s4.en.acc := (foldl_acc _ clip_acc cut).trans (foldl_acc _ overload_acc tops)
  exact ⟨s3, ns, rfl, by simp [h5, s4]⟩

end Sys2Proof.Machine
end

section
/-! PROOFS. Energy accumulation (R340): a sample adds to accumulators and takes nothing away. -/

namespace Sys2Proof.Machine

/-! ### Lists of accumulators -/

/-- The accumulators `b` are those of `a`, each as high or higher. -/
def AccLe (a b : List Nat) : Prop := List.Forall₂ (· ≤ ·) a b

theorem AccLe.refl (a : List Nat) : AccLe a a := List.forall₂_refl a

theorem AccLe.trans {a b c : List Nat} (hab : AccLe a b) (hbc : AccLe b c) : AccLe a c := by
  induction hab generalizing c with
  | nil => exact hbc
  | cons hxy _ ih =>
    obtain _ | ⟨hyz, hbc⟩ := hbc
    exact .cons (hxy.trans hyz) (ih hbc)

theorem AccLe.append {a a' b b' : List Nat} (h : AccLe a a') (h' : AccLe b b') : AccLe (a ++ b) (a' ++ b') := List.rel_append h h'

theorem AccLe.getD {a b : List Nat} (h : AccLe a b) (k : Nat) : a.getD k 0 ≤ b.getD k 0 := by
  induction h generalizing k with
  | nil => rfl
  | cons hab _ ih =>
    cases k with
    | zero => exact hab
    | succ k => exact ih k

theorem accLe_foldl {α : Type} {f : List Nat → α → List Nat} (hf : ∀ a x, AccLe a (f a x)) (l : List α) (a : List Nat) :
    AccLe a (l.foldl f a) := by
  induction l generalizing a with
  | nil => exact AccLe.refl a
  | cons x l ih => exact (hf a x).trans (ih (f a x))

theorem accLe_modAt_add (a : List Nat) (k v : Nat) : AccLe a (modAt a k fun x => x + v) := by
  unfold modAt
  split
  · next x hx =>
    obtain ⟨_, rfl⟩ := List.getElem?_eq_some_iff.mp hx
    refine List.forall₂_iff_get.mpr ⟨by simp, fun i _ _ => ?_⟩
    simp only [List.get_eq_getElem, List.getElem_set]
    split
    · next hki =>
      subst hki
      exact Nat.le_add_right ..
    · rfl
  · exact AccLe.refl a

/-- Seven accumulators from place `n` on put back, each as high or higher. -/
theorem accLe_take_append_drop {a b : List Nat} (n : Nat) (h : AccLe ((a.drop n).take 7) b) :
    AccLe a (a.take n ++ b ++ a.drop (n + 7)) := by
  have hparts : a.take n ++ (a.drop n).take 7 ++ a.drop (n + 7) = a := by
    rw [List.append_assoc, ← List.drop_drop, List.take_append_drop, List.take_append_drop]
  have hput : AccLe (a.take n ++ (a.drop n).take 7 ++ a.drop (n + 7)) (a.take n ++ b ++ a.drop (n + 7)) :=
    ((AccLe.refl _).append h).append (AccLe.refl _)
  rwa [hparts] at hput

/-! ### One sample -/

theorem accLe_accumulate (a : List Nat) (p q sa : Int) (th ns : Nat) (sOn : Bool) : AccLe a (accumulate a p q sa th ns sOn) := by
  unfold accumulate
  extract_lets quad put a1 a2
  have hput (l : List Nat) (k : Nat) (v : Int) : AccLe l (put l k v) := accLe_modAt_add l k _
  have h1 : AccLe a a1 := by
    unfold a1
    split
    · exact AccLe.refl a
    · exact hput ..
  have h2 : AccLe a1 a2 := by
    unfold a2
    split
    · exact AccLe.refl a1
    · exact hput ..
  refine (h1.trans h2).trans ?_
  split
  · exact hput ..
  · exact AccLe.refl a2

/-- Of 28 accumulators, the 21 of the phases and then the 7 of the outlet. -/
theorem State.accLe_sampleOutlet (s : State) (o : ONum) (m : List Int) (ns : Nat) (hlen : (s.en.acc.get o).length = 28) :
    AccLe (s.en.acc.get o) (s.sampleOutlet o m ns).1 := by
  unfold State.sampleOutlet
  extract_lets th fb val cur ks acc phase phased p q sa full
  have hphased : AccLe acc phased := accLe_foldl (fun a k => accLe_take_append_drop (7 * k) (accLe_accumulate ..)) ks acc
  have hend : phased.drop 28 = [] := List.drop_eq_nil_of_le (hphased.length_eq ▸ hlen.le)
  have houtlet := accLe_take_append_drop 21 (accLe_accumulate ((phased.drop 21).take 7) p q sa th ns true)
  rw [hend, List.append_nil] at houtlet
  exact hphased.trans houtlet

theorem sampleEnergy_acc_get (s : State) (ns : Nat) (o : ONum) :
    (s.sampleEnergy ns).en.acc.get o = (s.sampleOutlet o (s.outletMeas o) ns).1 := by
  simp [State.sampleEnergy, get_vmapi, outlets]

theorem accLe_sampled (s : State) (x : List Int) (lfxo : Nat) (o : ONum) (hlen : (s.en.acc.get o).length = 28) :
    AccLe (s.en.acc.get o) ((s.sampled x lfxo).en.acc.get o) := by
  obtain ⟨s', ns, hacc, hsampled⟩ := sampled_acc s x lfxo
  rw [hsampled, sampleEnergy_acc_get, ← hacc]
  exact s'.accLe_sampleOutlet o _ ns (hacc ▸ hlen)

end Sys2Proof.Machine

namespace Sys2Proof.Proofs

open Sys2Proof.Machine

/-- Settles O24: with META off nothing changes, and with META on each outlet's accumulators are added to. -/
theorem energyNeverDecreases : Obligations.EnergyNeverDecreases := by
  intro x lfxo s t hlen hexec o k
  obtain rfl : (if s.metaOn then s.sampled x lfxo else s) = t := Host.Outcome.next.inj hexec
  split
  · exact (accLe_sampled s x lfxo o (hlen o)).getD k
  · rfl

end Sys2Proof.Proofs
end

section
/-! PROOFS. 1 ms of the two clocks (R392, R509): each moves by 1 ms and by the part of its slew that this millisecond takes, and what
the clock takes is what the slew loses. -/

namespace Sys2Proof.Machine

/-! ### Billing time -/

/-- The correction that this millisecond takes (R392), in ms: 1 towards the end of the slew, at the end of each 1,000. -/
def Billing.slewStep (b : Billing) : Int := if b.slewAcc < 999 then 0 else b.slew.sign

namespace Billing

variable (b : Billing)

theorem tick_slew : b.tick.slew = b.slew - b.slewStep := by
  unfold tick slewStep
  split
  case isTrue hzero => simp [hzero]
  case isFalse hslew =>
    split
    · simp
    · split
      case isTrue hpos => simp [Int.sign_eq_one_of_pos hpos]
      case isFalse hpos =>
        have hneg : b.slew < 0 := by omega
        simp [Int.sign_eq_neg_one_of_neg hneg]

/-- Billing time takes what the slew loses. -/
theorem tick_time_add_slew : (b.tick.time : Int) + b.tick.slew = b.time + b.slew + 1 := by
  unfold tick
  split
  · dsimp only; omega
  · split
    · dsimp only; omega
    · split <;> dsimp only <;> omega

theorem tick_slewAcc_le (h : b.slewAcc ≤ 999) : b.tick.slewAcc ≤ 999 := by
  unfold tick
  split
  · exact h
  · split
    case isTrue hlt => exact hlt
    case isFalse => split <;> exact Nat.zero_le 999

/-- The step moves by at most 1 ms towards the end of the slew, and never past it. -/
theorem slewStep_bounds : -1 ≤ b.slewStep ∧ b.slewStep ≤ 1 ∧ (b.slew - b.slewStep).natAbs ≤ b.slew.natAbs := by
  unfold slewStep
  split
  · simp
  · obtain hneg | hzero | hpos := lt_trichotomy b.slew 0
    · rw [Int.sign_eq_neg_one_of_neg hneg]
      omega
    · simp [hzero]
    · rw [Int.sign_eq_one_of_pos hpos]
      omega

end Billing

/-! ### Network time -/

theorem wrapInc_of_lt {w n : Nat} (h : n + 1 < 2 ^ w) : wrapInc w n = n + 1 := Nat.mod_eq_of_lt h

theorem clampI_bounds {lo hi : Int} (h : lo ≤ hi) (i : Int) : lo ≤ clampI lo hi i ∧ clampI lo hi i ≤ hi := by
  unfold clampI
  split
  · omega
  · split <;> omega

namespace Net

variable {n : Net}

/-- One carry is enough: 1 ms and 100 ns of slew are less than a second. -/
theorem tick_ns_lt (hns : n.ns < 1000000000) : n.tick.ns < 1000000000 := by
  have hslew := clampI_bounds (lo := -100) (hi := 100) (by decide) n.slewNs
  simp only [tick]
  split <;> omega

/-- Network time takes 1 ms and what the slew loses, short of the wrap of the seconds. -/
theorem tick_total (hsec : n.sec + 1 < 2 ^ 48) :
    ((n.tick.sec * 1000000000 + n.tick.ns : Nat) : Int) + n.tick.slewNs = (n.sec * 1000000000 + n.ns : Nat) + 1000000 + n.slewNs := by
  have hslew := clampI_bounds (lo := -100) (hi := 100) (by decide) n.slewNs
  simp only [tick, wrapInc_of_lt hsec]
  split <;> omega

theorem tick_slewNs_of_zero (h : n.slewNs = 0) : n.tick.slewNs = 0 := by simp [tick, h, clampI]

end Net

end Sys2Proof.Machine

namespace Sys2Proof.Proofs

open Sys2Proof.Machine

/-- Settles O32: billing time moves by 1 ms and by a step of at most 1 ms of its slew, and network time carries at most once. -/
theorem clocksKeepTime : Obligations.ClocksKeepTime := by
  constructor
  · intro b hacc
    have htotal := b.tick_time_add_slew
    have hslew := b.tick_slew
    obtain ⟨hlo, hhi, hshrinks⟩ := b.slewStep_bounds
    exact ⟨htotal, by omega, by omega, b.tick_slewAcc_le hacc, hslew ▸ hshrinks⟩
  · intro n hns _
    refine ⟨Net.tick_ns_lt hns, fun hzero hsec => ?_⟩
    have htotal := Net.tick_total hsec
    rw [Net.tick_slewNs_of_zero hzero, hzero] at htotal
    omega

end Sys2Proof.Proofs
end

section

/-! # The scrambler of the mains modem (R471)

Scrambling works on the bits of a PSDU: `psduBits` and `packBits` are inverse to each other between `n` bytes and `8 * n` bits, and
on bits the additive sequence undoes itself. -/

namespace Sys2Proof.Machine

theorem b2n_lt_two (b : Bool) : b2n b < 2 := by cases b <;> decide

/-- Bit `i` of a mask is the flag at place `i`. -/
theorem testBit_maskOfBools (l : List Bool) (i : Nat) : (maskOfBools l).testBit i = l.getD i false := by
  induction l generalizing i with
  | nil => simp [maskOfBools]
  | cons b t ih =>
    cases i with
    | zero => cases b <;> simp [maskOfBools, b2n, Nat.testBit_zero]
    | succ i =>
      have hb := b2n_lt_two b
      have hhalf : (b2n b + 2 * maskOfBools t) / 2 = maskOfBools t := by omega
      simp [maskOfBools, Nat.testBit_succ, hhalf, ih]

theorem b2n_beq_one (b : Bool) : (b2n b == 1) = b := by cases b <;> rfl

theorem b2n_of_beq_one {n : Nat} (h : n < 2) : b2n (n == 1) = n := by
  obtain rfl | rfl : n = 0 ∨ n = 1 := by omega
  all_goals rfl

/-! ### One byte and its bits -/

@[simp] theorem lsbBits_length (b : Byte) : (lsbBits b).length = 8 := rfl

theorem lsbBits_getElem (b : Byte) {i : Nat} (h : i < (lsbBits b).length) : (lsbBits b)[i] = b2n (b.getLsbD i) := by
  simp [lsbBits, bit, BitVec.getLsbD]

theorem lsbBits_lt_two {b : Byte} {n : Nat} (h : n ∈ lsbBits b) : n < 2 := by
  obtain ⟨i, hi, rfl⟩ := List.mem_iff_getElem.1 h
  exact lsbBits_getElem b hi ▸ b2n_lt_two _

/-- The byte of eight bits, least significant first: the head of `packBits`. -/
def byteOfBits (l : List Nat) : Byte := BitVec.ofNat 8 (maskOfBools (l.map fun b => b == 1))

theorem byteOfBits_getLsbD (l : List Nat) {i : Nat} (hi : i < 8) : (byteOfBits l).getLsbD i = (l.getD i 0 == 1) := by
  rw [byteOfBits, BitVec.getLsbD_ofNat, testBit_maskOfBools, decide_eq_true hi, Bool.true_and]
  exact List.getD_map l 0 (n := i) fun b => b == 1

theorem byteOfBits_lsbBits (b : Byte) : byteOfBits (lsbBits b) = b := by
  refine BitVec.eq_of_getLsbD_eq fun i hi => ?_
  have hlen : i < (lsbBits b).length := by rwa [lsbBits_length]
  rw [byteOfBits_getLsbD _ hi, List.getD_eq_getElem _ _ hlen, lsbBits_getElem, b2n_beq_one]

theorem lsbBits_byteOfBits {l : List Nat} (hlen : l.length = 8) (hl : ∀ n ∈ l, n < 2) : lsbBits (byteOfBits l) = l := by
  refine List.ext_getElem hlen.symm fun i _ hi => ?_
  rw [lsbBits_getElem, byteOfBits_getLsbD _ (hlen ▸ hi), List.getD_eq_getElem _ _ hi, b2n_of_beq_one (hl _ (List.getElem_mem hi))]

/-! ### A PSDU and its bits -/

/-- The bits of a PSDU in the order in which they are scrambled. -/
def psduBits (p : Bytes) : List Nat := (p.map lsbBits).flatten

@[simp] theorem psduBits_nil : psduBits [] = [] := rfl

@[simp] theorem psduBits_cons (b : Byte) (p : Bytes) : psduBits (b :: p) = lsbBits b ++ psduBits p := rfl

@[simp] theorem psduBits_length (p : Bytes) : (psduBits p).length = 8 * p.length := by
  induction p with
  | nil => rfl
  | cons b p ih => simp [ih]; omega

theorem psduBits_lt_two (p : Bytes) : ∀ n ∈ psduBits p, n < 2 := by
  intro n h
  rw [psduBits, ← List.flatMap_def] at h
  obtain ⟨b, _, hn⟩ := List.mem_flatMap.1 h
  exact lsbBits_lt_two hn

theorem packBits_succ (k : Nat) {l : List Nat} (h : l ≠ []) :
    packBits (k + 1) l = byteOfBits (l.take 8) :: packBits k (l.drop 8) := by
  cases l with
  | nil => exact absurd rfl h
  | cons b t => rfl

theorem packBits_psduBits (p : Bytes) : packBits p.length (psduBits p) = p := by
  induction p with
  | nil => rfl
  | cons b p ih =>
    have hne : psduBits (b :: p) ≠ [] := List.ne_nil_of_length_pos (by simp)
    rw [List.length_cons, packBits_succ _ hne, psduBits_cons, List.take_left' (lsbBits_length b), List.drop_left' (lsbBits_length b),
      byteOfBits_lsbBits, ih]

theorem psduBits_packBits {k : Nat} {l : List Nat} (hlen : l.length = 8 * k) (hl : ∀ n ∈ l, n < 2) :
    psduBits (packBits k l) = l := by
  induction k generalizing l with
  | zero => exact (List.eq_nil_of_length_eq_zero hlen).symm
  | succ k ih =>
    have htake : (l.take 8).length = 8 := by rw [List.length_take]; omega
    have hdrop : (l.drop 8).length = 8 * k := by rw [List.length_drop]; omega
    rw [packBits_succ k (List.ne_nil_of_length_pos (by omega)), psduBits_cons,
      lsbBits_byteOfBits htake fun n h => hl n (List.mem_of_mem_take h), ih hdrop fun n h => hl n (List.mem_of_mem_drop h),
      List.take_append_drop]

theorem packBits_length {k : Nat} {l : List Nat} (hlen : l.length = 8 * k) (hl : ∀ n ∈ l, n < 2) : (packBits k l).length = k := by
  have h := psduBits_length (packBits k l)
  rw [psduBits_packBits hlen hl] at h
  omega

/-! ### The additive sequence -/

@[simp] theorem scrambleFrom_length (st : Nat) (l : List Nat) : (scrambleFrom st l).length = l.length := by
  induction l generalizing st with
  | nil => rfl
  | cons b t ih => simp [scrambleFrom, ih]

theorem scrambleFrom_lt_two (st : Nat) (l : List Nat) : ∀ n ∈ scrambleFrom st l, n < 2 := by
  induction l generalizing st with
  | nil => simp [scrambleFrom]
  | cons b t ih => exact List.forall_mem_cons.2 ⟨Nat.mod_lt _ (by decide), ih _⟩

/-- The state moves on without the data, so both runs add the same sequence, and a bit added twice modulo 2 is gone. -/
theorem scrambleFrom_scrambleFrom (st : Nat) {l : List Nat} (hl : ∀ n ∈ l, n < 2) : scrambleFrom st (scrambleFrom st l) = l := by
  induction l generalizing st with
  | nil => rfl
  | cons b t ih =>
    obtain ⟨hb, ht⟩ := List.forall_mem_cons.1 hl
    simp only [scrambleFrom, ih _ ht, List.cons.injEq, and_true]
    omega

theorem scramble_eq (p : Bytes) : scramble p = packBits p.length (scrambleFrom 127 (psduBits p)) := rfl

theorem scrambledBits_length (p : Bytes) : (scrambleFrom 127 (psduBits p)).length = 8 * p.length := by simp

theorem scramble_length (p : Bytes) : (scramble p).length = p.length :=
  packBits_length (scrambledBits_length p) (scrambleFrom_lt_two _ _)

theorem psduBits_scramble (p : Bytes) : psduBits (scramble p) = scrambleFrom 127 (psduBits p) :=
  psduBits_packBits (scrambledBits_length p) (scrambleFrom_lt_two _ _)

theorem scramble_scramble (p : Bytes) : scramble (scramble p) = p := by
  rw [scramble_eq (scramble p), scramble_length, psduBits_scramble, scrambleFrom_scrambleFrom _ (psduBits_lt_two p),
    packBits_psduBits]

end Sys2Proof.Machine

namespace Sys2Proof.Proofs

open Sys2Proof.Machine

/-- Settles O25: on the bits the sequence undoes itself, and no bit is lost between bytes and bits. -/
theorem scrambleTwice : Obligations.ScrambleTwice := fun p => ⟨scramble_scramble p, scramble_length p⟩

end Sys2Proof.Proofs
end

section
/-! PROOFS. Load switches (17): what a change of one channel leaves of the channels, and a channel that is no longer asked to be on
(R555, R563). -/

namespace Sys2Proof.Machine

variable {s : State} {c d : Nat}

/-! ### One channel changed -/

theorem lswCh_modLswCh_same (f : LswCh → LswCh) (hc : c < 80) : (s.modLswCh c f).lswCh c = f (s.lswCh c) := by
  simp [State.lswCh, State.modLswCh, vmapi, hc]

theorem lswCh_modLswCh_of_ne (f : LswCh → LswCh) (hd : d ≠ c) : (s.modLswCh c f).lswCh d = s.lswCh d := by
  simp only [State.lswCh, State.modLswCh, vmapi, List.getD_eq_getElem?_getD, Vector.toList_mk, List.getElem?_mapIdx, if_neg hd]
  cases s.lsw.chans.toList[d]? <;> rfl

theorem lswWant_of_not_limpRules (h : s.limpRules c = false) : s.lswWant c = (s.lswCh c).on := by simp [State.lswWant, h]

theorem lswCh_of_answered_ok (m : Cmd) (q : Req) : (answered m q s.ok).lswCh c = s.lswCh c := by
  rw [answered_rings]
  rfl

/-! ### A channel as it is asked to be -/

theorem lswCh_lswOn_of_ne (hd : d ≠ c) : (s.lswOn c).lswCh d = s.lswCh d :=
  (lswCh_modLswCh_of_ne _ hd).trans (lswCh_modLswCh_of_ne _ hd)

theorem lswCh_lswFollow_of_ne (hd : d ≠ c) : (s.lswFollow c).lswCh d = s.lswCh d := by
  unfold State.lswFollow
  extract_lets x
  split
  · split
    · rfl
    · exact lswCh_lswOn_of_ne hd
  · split
    · exact (lswCh_modLswCh_of_ne _ hd).trans (lswCh_modLswCh_of_ne _ hd)
    · rfl

/-- A channel that is not asked to be on is neither driven nor waits for a retry: one that was is switched off. -/
theorem lswFollow_stops (hc : c < 80) (hwant : s.lswWant c = false) :
    ((s.lswFollow c).lswCh c).driven = false ∧ ((s.lswFollow c).lswCh c).wait = false := by
  simp only [State.lswFollow, hwant, Bool.false_eq_true, if_false]
  split
  · simp [State.lswOff, lswCh_modLswCh_same, hc]
  case isFalse hidle => simpa using hidle

/-- What the switch-off leaves of the channel: its command, its retry count and its thermal latch. -/
theorem lswFollow_leaves (hc : c < 80) (hwant : s.lswWant c = false) :
    ((s.lswFollow c).lswCh c).on = (s.lswCh c).on ∧ ((s.lswFollow c).lswCh c).tries = (s.lswCh c).tries ∧
      ((s.lswFollow c).lswCh c).latch = (s.lswCh c).latch := by
  simp only [State.lswFollow, hwant, Bool.false_eq_true, if_false]
  split
  · simp [State.lswOff, lswCh_modLswCh_same, hc]
  · exact ⟨rfl, rfl, rfl⟩

/-! ### LSW_OUT with STATE 0 -/

/-- The channel's command withdrawn, its pending retry and its retry count with it (R555). -/
def State.lswCommandOff (s : State) (c : Nat) : State := s.modLswCh c fun x => { x with on := false, wait := false, tries := 0 }

theorem lswCh_lswCommandOff_same (hc : c < 80) :
    (s.lswCommandOff c).lswCh c = { s.lswCh c with on := false, wait := false, tries := 0 } := lswCh_modLswCh_same _ hc

theorem lswCh_lswCommandOff_of_ne (hd : d ≠ c) : (s.lswCommandOff c).lswCh d = s.lswCh d := lswCh_modLswCh_of_ne _ hd

theorem limpRules_lswCommandOff : (s.lswCommandOff c).limpRules d = s.limpRules d := rfl

theorem lswWant_lswCommandOff (hc : c < 80) (hlimp : s.limpRules c = false) : (s.lswCommandOff c).lswWant c = false := by
  rw [lswWant_of_not_limpRules (limpRules_lswCommandOff.trans hlimp), lswCh_lswCommandOff_same hc]

/-- An off command passes the tests of its chapter on any lamp or general channel: its duty is not looked at (R565). -/
theorem exec_lswOut_off {q : Req} (hq : Served { op := 0x0E03, pair := 10, lo := 4, hi := 4 } q s (plainCh (u8 q.payload 0)))
    (hoff : u8 q.payload 1 = 0) : exec (.lswOut q) s = .next (answered { op := 0x0E03, pair := 10, lo := 4, hi := 4 } q
      ((s.lswCommandOff (u8 q.payload 0)).lswFollow (u8 q.payload 0)).ok) := by
  change execLswOut q s = _
  simp only [execLswOut, hoff, Nat.zero_le, decide_true, Bool.and_true, beq_self_eq_true, Bool.true_or, if_true]
  exact mail_served hq

end Sys2Proof.Machine

namespace Sys2Proof.Proofs

open Sys2Proof.Machine

/-- Settles O35: with its command withdrawn and no limp-home nothing asks the channel to be on, so it is switched off; the answer
touches no channel. -/
theorem channelOffByCommand : Obligations.ChannelOffByCommand := by
  intro q s p c hq hc hoff hlimp
  have hwant := lswWant_lswCommandOff hc hlimp
  obtain ⟨hdriven, hwait⟩ := lswFollow_stops hc hwant
  obtain ⟨hon, htries, hlatch⟩ := lswFollow_leaves hc hwant
  rw [lswCh_lswCommandOff_same hc] at hon htries hlatch
  refine ⟨_, exec_lswOut_off hq hoff, ?_⟩
  simp only [lswCh_of_answered_ok]
  exact ⟨hon, hdriven, hwait, htries, hlatch, fun d hd => (lswCh_lswFollow_of_ne hd).trans (lswCh_lswCommandOff_of_ne hd)⟩

end Sys2Proof.Proofs
end

section
/-! PROOFS. Display (18): a panel write stays within the back buffer (R571, R580); a pending flip holds off writes and flips until the
next frame boundary, which swaps the buffers (R572). -/

namespace Sys2Proof.Machine

variable {s t : State} {q : Req}

/-! ### Completions and the panel -/

theorem finishWith_rings (s : State) (n : PNum) (tag st : Nat) (p : Bytes) (b : Option (Nat × Nat)) :
    s.finishWith n tag st p b = { s with rings := (s.finishWith n tag st p b).rings } := by
  unfold State.finishWith
  split
  · rfl
  · split
    · exact complete_rings ..
    · split <;> rfl

@[simp] theorem finish_panel (s : State) (n : PNum) (tag st : Nat) (p : Bytes) : (s.finish n tag st p).panel = s.panel := by
  rw [State.finish, finishWith_rings]

@[simp] theorem answered_panel (m : Cmd) (q : Req) (a : Ans) : (answered m q a).panel = a.st.panel := by rw [answered_rings]

theorem sized_of_le {r : Nat × Nat} {n : Nat} (a : Ans) (h : n ≤ r.2) : s.sized r n a = a := if_neg (Nat.not_lt.mpr h)

/-- A panel command that is refused before its own meaning leaves the panel as it is. -/
theorem panelMail_cases {m : Cmd} {fits : Bool} {body : State → Ans} (h : panelMail m q s fits body = .next t) :
    t.panel = s.panel ∨ (fits = true ∧ t.panel = (body s).st.panel) := by
  obtain hrings | ⟨hserved, rfl⟩ := mail_cases h
  · exact .inl (by rw [hrings])
  · rw [answered_panel]
    split
    · exact .inl rfl
    · exact .inr ⟨(served_fits hserved).2, rfl⟩

/-! ### PANEL_WRITE -/

/-- The panel with bytes laid into its back buffer from an offset on. -/
def Panel.writeBack (p : Panel) (offset : Nat) (d : Bytes) : Panel :=
  { p with mem := Memory.writeN p.mem (3840 * (1 - p.front) + offset) d }

/-- The front buffer and the back buffer do not overlap. -/
theorem Panel.read_writeBack_front {p : Panel} {offset a : Nat} {d : Bytes} (hmem : Memory.wf p.mem = true) (hfront : p.front ≤ 1)
    (hd : offset + d.length ≤ 3840) (hlo : 3840 * p.front ≤ a) (hhi : a < 3840 * p.front + 3840) :
    Memory.read (p.writeBack offset d).mem a = Memory.read p.mem a := by
  rw [Panel.writeBack, Memory.read_writeN hmem, if_neg (by omega)]

/-- What PANEL_WRITE can do to the panel: nothing, or bytes laid within the back buffer. -/
theorem panelWrite_panel (h : exec (.panelWrite q) s = .next t) :
    t.panel = s.panel ∨ ∃ offset d, offset + d.length ≤ 3840 ∧ t.panel = s.panel.writeBack offset d := by
  obtain hkept | ⟨hfits, hbody⟩ := panelMail_cases (show execPanelWrite q s = .next t from h)
  · exact .inl hkept
  simp only [Bool.and_eq_true, decide_eq_true_eq] at hfits
  rw [hbody, State.sized]
  split
  · exact .inl rfl
  split
  · exact .inl rfl
  · refine .inr ⟨u16 q.payload 0, s.bulkGet 10 ((q.bulk.getD (0, 0)).1, u16 q.payload 2), ?_, rfl⟩
    exact (Memory.readN_length ..).symm ▸ hfits.2

/-- The test of a region's length comes before the test for a pending flip, so the region is long enough here. -/
theorem exec_panelWrite_pending
    (hq : Served { op := 0x0F03, pair := 10, lo := 4, hi := 4, bulk := 1 } q s
      (decide (1 ≤ u16 q.payload 2) && decide (u16 q.payload 0 + u16 q.payload 2 ≤ 3840)))
    (hon : s.panelOn = true) (hlen : u16 q.payload 2 ≤ (q.bulk.getD (0, 0)).2) (hflip : s.panel.flip.isSome = true) :
    exec (.panelWrite q) s = .next (answered { op := 0x0F03, pair := 10, lo := 4, hi := 4, bulk := 1 } q (s.no 2)) := by
  change execPanelWrite q s = _
  rw [execPanelWrite, panelMail_served hq hon, sized_of_le _ hlen, if_pos hflip]

/-! ### PANEL_FLIP -/

theorem exec_panelFlip_idle (hq : Served { op := 0x0F04, pair := 10 } q s true) (hon : s.panelOn = true)
    (hflip : s.panel.flip = none) : exec (.panelFlip q) s = .next (answered { op := 0x0F04, pair := 10 } q
      (s.modPanel fun p => { p with flip := some q.tag }).queued) := by
  change execPanelFlip q s = _
  rw [execPanelFlip, panelMail_served hq hon, hflip]
  rfl

theorem exec_panelFlip_pending (hq : Served { op := 0x0F04, pair := 10 } q s true) (hon : s.panelOn = true)
    (hflip : s.panel.flip.isSome = true) :
    exec (.panelFlip q) s = .next (answered { op := 0x0F04, pair := 10 } q (s.no 2)) := by
  change execPanelFlip q s = _
  rw [execPanelFlip, panelMail_served hq hon, if_pos hflip]

/-! ### PANEL_FRAME -/

/-- The panel with front and back buffer swapped, the pending flip ended. -/
def Panel.swap (p : Panel) : Panel := { p with front := 1 - p.front, flip := none }

/-- What a frame boundary does after a swap: refresh resumes (R570), and the frame counts as stress while the firmware runs (R575). -/
def State.refresh (s : State) : State :=
  let s := if s.panel.resume then s.modPanel fun p => { p with blanked := false, resume := false } else s
  if s.fwRuns then s.integrate else s

theorem integrate_panel (s : State) : ∃ stress, s.integrate.panel = { s.panel with stress } := by
  unfold State.integrate
  split <;> exact ⟨_, rfl⟩

theorem refresh_panel (s : State) : ∃ blanked resume stress, s.refresh.panel = { s.panel with blanked, resume, stress } := by
  unfold State.refresh
  extract_lets s'
  have hresume : ∃ blanked resume, s'.panel = { s.panel with blanked, resume } := by
    unfold s'
    split <;> exact ⟨_, _, rfl⟩
  obtain ⟨blanked, resume, hs'⟩ := hresume
  obtain ⟨stress, hstress⟩ := integrate_panel s'
  refine ⟨blanked, resume, ?_⟩
  split
  · exact ⟨stress, by rw [hstress, hs']⟩
  · exact ⟨_, hs'⟩

theorem exec_panelFrame_pending {tag : Nat} (hon : s.panelOn = true) (hflip : s.panel.flip = some tag) :
    exec .panelFrame s = .next ((s.modPanel Panel.swap).finish 10 tag 0 []).refresh := by
  change execPanelFrame s = _
  rw [execPanelFrame, onlyIf, if_pos hon, hflip]
  rfl

end Sys2Proof.Machine

namespace Sys2Proof.Proofs

open Sys2Proof.Machine

/-- Settles O26: a write changes the panel in its back buffer alone, which ends where the front buffer begins or begins where it ends. -/
theorem frontBufferUntouched : Obligations.FrontBufferUntouched := by
  intro q s t hmem hfront h
  obtain hkept | ⟨offset, d, hd, hpanel⟩ := panelWrite_panel h
  · rw [hkept]
    exact ⟨fun _ _ _ => rfl, rfl, rfl⟩
  · rw [hpanel]
    exact ⟨fun _ hlo hhi => Panel.read_writeBack_front hmem hfront hd hlo hhi, rfl, rfl⟩

/-- Settles O27: flip and write look at the pending flip first; what the frame boundary does after the swap leaves the picture. -/
theorem flipAtFrameBoundary : Obligations.FlipAtFrameBoundary := by
  refine ⟨fun q s hq hon => ⟨exec_panelFlip_idle hq hon, fun hflip => ?_⟩, ?_, fun s tag hon hflip => ?_⟩
  · exact exec_panelFlip_pending hq hon (Option.isSome_iff_ne_none.mpr hflip)
  · intro q s r p hbulk hpos hfit hlen hq hon hflip
    have hfits : (decide (1 ≤ u16 p 2) && decide (u16 p 0 + u16 p 2 ≤ 3840)) = true := by simp [hpos, hfit]
    exact exec_panelWrite_pending (hfits.symm ▸ hq) hon (by simpa [hbulk] using hlen) (Option.isSome_iff_ne_none.mpr hflip)
  · obtain ⟨blanked, resume, stress, hpanel⟩ := refresh_panel ((s.modPanel Panel.swap).finish 10 tag 0 [])
    refine ⟨_, exec_panelFrame_pending hon hflip, ?_⟩
    rw [hpanel, finish_panel]
    exact ⟨rfl, rfl, rfl⟩

end Sys2Proof.Proofs
end

section
/-! PROOFS. The step and the tick (log entries 3, 4), and the state right after reset. -/

namespace Sys2Proof.Machine

/-! ### The queue and the tick -/

theorem step_cons (c : Instr) (t : List Instr) (s : State) :
    step { s with pending := c :: t } = exec c { s with pending := t } := rfl

theorem step_started {s : State} {x : Started} {t : List Started} (hp : s.pending = []) (hs : s.started = x :: t) (hrun : s.fwRuns = true) :
    step s = exec x.cmd { s with started := t } := by
  simp [step, hp, hs, hrun]

theorem step_wait {s : State} {c : Instr} {t : List Instr} (hp : s.pending = []) (hs : s.started = []) (hw : s.dl.wait = c :: t)
    (hrun : s.fwRuns = true) : step s = exec c { s with dl := { s.dl with wait := t } } := by
  simp [step, hp, hs, hw, hrun]

/-- With nothing that can run, 1 ms of time passes. -/
theorem step_idle {s : State} (hp : s.pending = []) (hidle : (s.started = [] ∧ s.dl.wait = []) ∨ s.fwRuns = false) :
    step s = .next s.tick := by
  obtain ⟨hs, hw⟩ | hrun := hidle
  · simp [step, hp, hs, hw]
  · simp only [step, hp, hrun]
    cases s.started with
    | cons => rfl
    | nil => cases s.dl.wait <;> rfl

theorem tick_off {s : State} (h : s.pwr.state = .off) : s.tick = s := by simp [State.tick, h]

/-- Without a domain switch that waits, the supplies have nothing to complete. -/
theorem domainsGood_of_no_wait {s : State} (h : s.pwr.wait = none) : s.domainsGood = s := by simp [State.domainsGood, h]

/-- No lost event waits for its reaction. -/
theorem with_lost_nil {s : State} (h : s.flt.lost = []) : { s with flt := { s.flt with lost := [] } } = s := by rw [← h]

/-- The counters and clocks that 1 ms moves on while the domains of state Normal are supplied. -/
def State.clocks (s : State) : State :=
  { s with
    bak := { s.bak with rtc := s.bak.rtc + 1 }, up := s.up + 1, host := { s.host with rdyHold := false }, bill := s.bill.tick
    net := if s.netOn then s.net.tick else s.net }

theorem tick_powered {s : State} (hpowered : s.powered = true) (hawaiting : s.pwr.awaiting = none) (hwait : s.pwr.wait = none)
    (hlost : s.flt.lost = []) : s.tick = if s.domOn 2 then s.clocks.weldTick outlets else s.clocks := by
  have hon : ¬(s.pwr.state == .off) = true := fun h => by simp [State.powered, eq_of_beq h] at hpowered
  have hsup : ¬(!s.powered) = true := by simp [hpowered]
  have hpg : ¬s.pwr.awaiting.isSome = true := by simp [hawaiting]
  have hkept : ({ s.clocks with flt := { s.clocks.flt with lost := [] } }.lostReact s.clocks.flt.lost).domainsGood = s.clocks := by
    rw [with_lost_nil (s := s.clocks) hlost, show s.clocks.flt.lost = [] from hlost]
    exact domainsGood_of_no_wait (s := s.clocks) hwait
  unfold State.tick
  rw [if_neg hon]
  extract_lets bak s1 host s2 s3 lost flt s4
  rw [if_neg (show ¬(!s1.powered) = true from hsup), if_neg (show ¬s2.pwr.awaiting.isSome = true from hpg),
    show s4 = s.clocks from hkept]
  rfl

/-! ### Right after reset -/

/-- An outlet after a reset has SSWEN low, and no apex latch. -/
theorem outletOk_default : OutletOk {} := by decide

theorem get_reset_out : ∀ o : ONum, State.reset.out.get o = {} := by decide

theorem reset_inv : State.reset.Inv where
  rings := ⟨⟨rfl, rfl⟩, fun n => (get_resetPairs n).symm ▸ pairOk_resetPair n⟩
  flt := Nat.zero_le _
  out o := (get_reset_out o).symm ▸ outletOk_default
  tag := rfl
  panel := rfl

theorem reset_sevOk : SevOk State.reset.flt.sev := by unfold SevOk; decide

end Sys2Proof.Machine

namespace Sys2Proof.Proofs

open Sys2Proof.Machine

/-- Settles O1: the front of the queue is the first thing that a step looks at. -/
theorem stepRunsFrontCommand : Obligations.StepRunsFrontCommand := step_cons

/-- Settles O2, by the branches of `step` and of the tick: no lost event means no reaction, and no domain switch under way nothing that
completes. -/
theorem stepOnEmptyQueue : Obligations.StepOnEmptyQueue := by
  refine ⟨fun x t s hp hs hrun => step_started hp hs hrun, fun c t s hp hs hw hrun => step_wait hp hs hw hrun,
    fun s hp hidle => step_idle hp hidle, fun s hoff => tick_off hoff, fun s hpowered hawaiting hwait hlost => ?_⟩
  exact tick_powered hpowered hawaiting hwait hlost

/-- Settles O3: the memories are empty, the pairs are those of `resetPair`, and no outlet has its switch driven. -/
theorem invAtReset : Obligations.InvAtReset := ⟨reset_inv, reset_sevOk⟩

end Sys2Proof.Proofs
end

section
/-! PROOFS. Reset requests while a reset is busy, forced safety sources, and the alternatives of a start. -/

namespace Sys2Proof.Machine

/-! ### Reset requests while the chip is busy with one (R736) -/

theorem execHrst_busy (low : Bool) {s : State} (h : s.resetBusy = true) :
    execHrst low s = .next { s with pwr := { s.pwr with hrstLow := low } } := by
  have hignored : (!low || ({ s with pwr := { s.pwr with hrstLow := low } } : State).resetBusy ||
      !({ s with pwr := { s.pwr with hrstLow := low } } : State).powered) = true := by
    rw [show ({ s with pwr := { s.pwr with hrstLow := low } } : State).resetBusy = true from h]
    simp
  exact congrArg Host.Outcome.next (if_pos hignored)

theorem execWatchdogReset_busy {s : State} (h : s.resetBusy = true) : execWatchdogReset s = .next s := by
  simp [execWatchdogReset, onlyIf, h]

/-! ### Forced sources (R618) -/

/-- A source of the safety island, from F112 on, is forced in TEST mode only. -/
theorem forceWrite_safety {s : State} {v : Nat} (hlow : ∀ k < 16, bit v k = false) (hmode : s.store.safeMode ≠ 2) (k : Nat) :
    forceWrite s 3 v k = s := by
  induction k with
  | zero => rfl
  | succ k ih =>
    have hrefused : (bit v k && !(decide (112 ≤ 32 * 3 + k) && s.store.safeMode != 2)) = false := by
      obtain hk | hk := Nat.lt_or_ge k 16
      · rw [hlow k hk, Bool.false_and]
      · have hsrc : 112 ≤ 32 * 3 + k := by omega
        simp [hsrc, hmode]
    unfold forceWrite
    simp only [ih, hrefused, Bool.false_eq_true, if_false]

theorem bit_low_of_mod {v n : Nat} (h : v % 2 ^ n = 0) : ∀ k < n, bit v k = false := by
  intro k hk
  rw [bit, ← Nat.zero_testBit k, ← h, Nat.testBit_mod_two_pow]
  simp [hk]

/-- FLT_FORCE3 stands in the fault block, whose words the port passes on at once. -/
theorem execFltForce_three {s : State} {v : Nat} (hserves : s.portServes = true) (hv : v < 2 ^ 32) :
    execFltForce 3 v s = .next (forceWrite s 3 v 32) := by
  have hword : v % 4294967296 = v := Nat.mod_eq_of_lt hv
  simp [execFltForce, State.hostWrite, State.writeWord, State.regWrite, fltWrite, hserves, heldBack_eq_false, outside_eq_false,
    zeroed_eq_false, hword]

/-! ### Alternatives of a start (R650) -/

theorem testBit_maskFold (l : List Nat) (m k : Nat) :
    (l.foldl (fun m i => m ||| 2 ^ i) m).testBit k = (m.testBit k || decide (k ∈ l)) := by
  induction l generalizing m with
  | nil => simp
  | cons i l ih =>
    rw [List.foldl_cons, ih, Nat.testBit_or, Nat.testBit_two_pow]
    simp [Bool.or_assoc, eq_comm, Bool.decide_or]

/-- Bit `k` of a mask is set exactly when the list names `k`. -/
theorem bit_maskOf (l : List Nat) (k : Nat) : bit (maskOf l) k = decide (k ∈ l) := by
  rw [bit, maskOf, testBit_maskFold, Nat.zero_testBit, Bool.false_or]

theorem bit_altMask (s : State) (k : Nat) : bit s.altMask k = true ↔
    s.bak.retry = false ∧ k ∈ stepsWithAlt ∧ ∃ r ∈ s.bak.recs, stepCode r k = 3 := by
  rw [State.altMask]
  split
  case isTrue h => simp [bit, h]
  case isFalse h => simp [bit_maskOf, h]

end Sys2Proof.Machine

namespace Sys2Proof.Proofs

open Sys2Proof.Machine

/-- Settles O31: both requests look at the busy flags before anything else. -/
theorem resetWhileBusy : Obligations.ResetWhileBusy :=
  fun low _ h => ⟨execHrst_busy low h, execWatchdogReset_busy h⟩

/-- Settles O36: the word's low half is clear, and what its high half names needs TEST mode. -/
theorem safetyForceOnlyInTest : Obligations.SafetyForceOnlyInTest := by
  intro v s hserves hv hlow hmode
  exact (execFltForce_three hserves hv).trans (congrArg _ (forceWrite_safety (bit_low_of_mod hlow) hmode 32))

/-- Settles O37: bit by bit, the mask is its list of steps. -/
theorem alternativeSteps : Obligations.AlternativeSteps := bit_altMask

end Sys2Proof.Proofs
end

section
/-! PROOFS. The Base-Note Window: its transactions, its setpoint (R702) and its energy bytes (R701). -/

namespace Sys2Proof.Machine

/-! ### Transactions in the window (R697) -/

section Window

variable {cmd : Nat} {addr : List Nat} {s : State}

theorem exec_hostTransaction_windowRead (wr : List (List Nat)) (nrd : Nat) (hserves : s.portServes = true)
    (hidle : s.host.hcsLow = false) (hcmd : cmd ∈ readCmds) (ha : ofUnits (lanesOf cmd) addr < 2 ^ 32)
    (hin : inWindow (ofUnits (lanesOf cmd) addr) = true) :
    let a := ofUnits (lanesOf cmd) addr
    exec (.hostTransaction cmd addr wr nrd) s = .next ((s.begun false cmd a).windowReads (a % 256) 0 nrd) := by
  have hdir := not_mem_writeCmds_of_mem_readCmds cmd hcmd
  change execHostTransaction cmd addr wr nrd s = _
  simp only [execHostTransaction, Nat.mod_eq_of_lt ha]
  simp [State.begun, hserves, hidle, hcmd, hdir, hin]

theorem exec_hostTransaction_windowWrite (wr : List (List Nat)) (nrd : Nat) (hserves : s.portServes = true)
    (hidle : s.host.hcsLow = false) (hcmd : cmd ∈ writeCmds) (ha : ofUnits (lanesOf cmd) addr < 2 ^ 32)
    (hin : inWindow (ofUnits (lanesOf cmd) addr) = true) :
    let a := ofUnits (lanesOf cmd) addr
    exec (.hostTransaction cmd addr wr nrd) s =
      .next ((s.begun true cmd a).windowWrites (a % 256) 0 (wr.map (ofUnits (lanesOf cmd)))) := by
  change execHostTransaction cmd addr wr nrd s = _
  simp only [execHostTransaction, Nat.mod_eq_of_lt ha]
  simp [State.begun, hserves, hidle, hcmd, hin]

end Window

theorem windowReads_one (s : State) (off i : Nat) : s.windowReads off i 1 = s.bnwAnswer off false i := rfl

theorem windowWrites_one (s : State) (off i v : Nat) : s.windowWrites off i [v] = s.bnwPut off (v % 256) i := rfl

/-! ### Bytes of the window -/

/-- A register answers the byte that no fixed code stands in for (R698). -/
theorem bnwAnswer_register {s : State} {off nth : Nat} {late : Bool} (hcode : s.bnwCode late nth = none) (hoff : off ≠ 0x10) :
    s.bnwAnswer off late nth = s.driveHio (s.bnwReg off) := by
  simp only [State.bnwAnswer, hcode, if_neg hoff]

/-- The first energy byte latches the other three (R701). -/
theorem bnwAnswer_energy {s : State} {nth : Nat} {late : Bool} (hcode : s.bnwCode late nth = none) :
    s.bnwAnswer 0x10 late nth =
      { s with bnw := { s.bnw with snap := s.bnw.copy / 256 } }.driveHio (s.bnw.copy % 256) := by
  simp only [State.bnwAnswer, hcode, if_pos]
  rfl

/-- A fixed code stands in for the register (R698). -/
theorem bnwAnswer_code {s : State} {off nth : Nat} {late : Bool} {c : Nat × Bool} (hcode : s.bnwCode late nth = some c) :
    s.bnwAnswer off late nth = (if c.2 then s.bnwLateUp else s).driveHio c.1 := by
  simp only [State.bnwAnswer, hcode]

/-- A setpoint within its bounds reaches the budget configuration (R702). -/
theorem bnwPut_setpoint {s : State} {v : Nat} (hon : s.bnwOff = false) (hpause : s.rings.pause = false) (hrun : s.fwRuns = true)
    (hlo : 12 ≤ v) (hhi : v ≤ 64) : s.bnwPut 0x20 v 0 = { s with bnw := { s.bnw with setp := v } }.setHostcap s.bnwO (5 * v) := by
  have hmin : ¬v < 12 := by omega
  have hmax : ¬64 < v := by omega
  simp [State.bnwPut, hon, hpause, hrun, hmin, hmax]

theorem bnwPut_ignored {s : State} {v : Nat} (hpause : s.rings.pause = false) (hv : v < 12 ∨ 64 < v) : s.bnwPut 0x20 v 0 = s := by
  obtain hlo | hhi := hv
  · simp [State.bnwPut, hpause, hlo]
  · simp [State.bnwPut, hpause, hhi]

/-- Neither a start nor a firmware handover lets the rings pause while firmware runs. -/
theorem pause_of_fwRuns {s : State} (h : s.fwRuns = true) : s.rings.pause = false := by
  simp_all [State.fwRuns]

theorem bnwOff_of_lt {s : State} (h : s.host.bnwOutlet < 24) : s.bnwOff = false := by
  simpa [State.bnwOff] using h

/-- The energy registers after the first are the bytes of the snapshot (R701). -/
theorem bnwReg_snapshot (s : State) {k : Nat} (hk : k < 3) : s.bnwReg (0x11 + k) = s.bnw.snap / 256 ^ k % 256 := by
  match k, hk with
  | 0, _ => simp [State.bnwReg]
  | 1, _ => simp [State.bnwReg]
  | 2, _ => simp [State.bnwReg]

/-! ### HOSTCAP in the budget configuration of an outlet (R286) -/

/-- Bytes 2 and 3 of a budget configuration replaced. -/
theorem getElem?_hostcap (x : Bytes) (v : Nat) (hlen : 4 ≤ x.length) {k : Nat} (h2 : k ≠ 2) (h3 : k ≠ 3) :
    (x.take 2 ++ toLE 2 v ++ x.drop 4)[k]? = x[k]? := by
  have htake : (x.take 2 ++ toLE 2 v).length = 4 := by simp; omega
  obtain hk | hk := Nat.lt_or_ge k 2
  · rw [List.append_assoc, List.getElem?_append_left (by simp; omega), List.getElem?_take_of_lt hk]
  · rw [List.getElem?_append_right (by omega), htake, List.getElem?_drop]
    congr 1
    omega

theorem u16_hostcap (x : Bytes) (v : Nat) (hlen : 4 ≤ x.length) (hv : v < 65536) :
    u16 (x.take 2 ++ toLE 2 v ++ x.drop 4) 2 = v := by
  have htake : (x.take 2).length = 2 := by simp; omega
  rw [u16, List.append_assoc]
  exact (congrArg (fun n => fld _ n 2) htake.symm).trans ((fld_append_toLE (x.take 2) (x.drop 4) 2 v).trans (Nat.mod_eq_of_lt hv))

theorem get_setHostcap (s : State) (o : ONum) (v : Nat) (p : ONum) : (s.setHostcap o v).cfg.budOut.get p =
    if p = o then (s.cfg.budOut.get o).take 2 ++ toLE 2 v ++ (s.cfg.budOut.get o).drop 4 else s.cfg.budOut.get p := by
  by_cases h : p = o
  · subst h; simp [State.setHostcap, Vector.get_eq_getElem]
  · rw [if_neg h]
    simp only [State.setHostcap, Vector.get_eq_getElem]
    exact Vector.getElem_set_ne _ _ (fun e => h (Fin.ext e.symm))

end Sys2Proof.Machine

namespace Sys2Proof.Proofs

open Sys2Proof.Machine

/-- Settles O33: the byte that the transaction carries goes through `bnwPut`. -/
theorem windowSetpoint : Obligations.WindowSetpoint := by
  intro cmd addr w s hcmd hserves hidle ha hout hrun hlen v hv z
  have hexec : exec (.hostTransaction cmd addr [w] 0) s = .next (z.bnwPut 0x20 v 0) := by
    refine (exec_hostTransaction_windowWrite [w] 0 hserves hidle hcmd (by omega) (by rw [ha]; rfl)).trans ?_
    rw [ha, List.map_singleton, windowWrites_one, Nat.mod_eq_of_lt hv]
  have hpause : z.rings.pause = false := pause_of_fwRuns hrun
  refine ⟨fun hlo hhi => ?_, fun hbad => by rw [hexec, bnwPut_ignored hpause hbad]⟩
  have hput := bnwPut_setpoint (s := z) (bnwOff_of_lt hout) hpause hrun hlo hhi
  refine ⟨_, hexec.trans (congrArg _ hput), ?_, fun k h2 h3 => ?_, fun o ho => ?_, rfl⟩
  · rw [show s.bnwO = z.bnwO from rfl, get_setHostcap, if_pos rfl]
    exact u16_hostcap _ _ hlen (by omega)
  · rw [show s.bnwO = z.bnwO from rfl, get_setHostcap, if_pos rfl, List.getD_eq_getElem?_getD, List.getD_eq_getElem?_getD]
    exact congrArg (·.getD 0) (getElem?_hostcap _ _ hlen h2 h3)
  · rw [get_setHostcap]
    exact if_neg ho

/-- Settles O34: no fixed code stands in for the register, so the byte is the register's. -/
theorem windowEnergy : Obligations.WindowEnergy := by
  refine ⟨fun cmd addr s hcmd hserves hidle ha hcode => ?_, fun cmd k addr s hcmd hserves hidle ha hcode hk => ?_⟩
  · refine (exec_hostTransaction_windowRead [] 1 hserves hidle hcmd (by omega) (by rw [ha]; rfl)).trans ?_
    rw [ha, windowReads_one]
    exact congrArg _ (bnwAnswer_energy (s := s.begun false cmd 0x80010) hcode)
  · have hin : inWindow (0x80011 + k) = true := by simp [inWindow]; omega
    have hoff : (0x80011 + k) % 256 = 0x11 + k := by omega
    refine (exec_hostTransaction_windowRead [] 1 hserves hidle hcmd (by omega) (by rw [ha]; exact hin)).trans ?_
    rw [ha, windowReads_one, hoff]
    rw [bnwAnswer_register (s := s.begun false cmd (0x80011 + k)) hcode (by omega), bnwReg_snapshot _ hk]
    rfl

end Sys2Proof.Proofs
end

section
/-! PROOFS. Mailbox commands before firmware takes them up (log entry 1). -/

namespace Sys2Proof.Machine

section Waits

variable {c : Cmd} {s : State} {fits : Bool} {body : State → Ans} (q : Req)

theorem mail_waits (h : s.fwRuns = false) : mail c q s fits body = .next s := by simp [mail, h]

theorem mailQ_waits (h : s.fwRuns = false) : mailQ c q s fits body = .next s := by simp [mailQ, h]

theorem netMail_waits (h : s.fwRuns = false) : netMail c q s fits body = .next s := mail_waits q h

theorem lineMail_waits (h : s.fwRuns = false) : lineMail c q s fits body = .next s := mail_waits q h

theorem nfcMail_waits (h : s.fwRuns = false) : nfcMail c q s fits body = .next s := mail_waits q h

theorem panelMail_waits (h : s.fwRuns = false) : panelMail c q s fits body = .next s := mail_waits q h

/-- The move to Dormant, which SYS_POWER_SET answers before it starts, waits too. -/
theorem execSysPowerSet_waits (h : s.fwRuns = false) : execSysPowerSet q s = .next s := by
  simp [execSysPowerSet, mail_waits q h, h]

theorem opcodes01_wait (h : s.fwRuns = false) : ∀ e ∈ opcodes01, exec (e.2 q) s = .next s := by
  simp only [opcodes01, List.forall_mem_cons, List.not_mem_nil, false_imp_iff]
  delta exec
  simp only [execSysVersion, execSysIdentity, execSysPowerGet, execSysDomainSet, execSysTimeSnapshot, execSysSeqQuery, execSysLoopback,
    execSysPowerSet_waits q h, mail_waits q h, implies_true, and_self]

theorem opcodes02_wait (h : s.fwRuns = false) : ∀ e ∈ opcodes02, exec (e.2 q) s = .next s := by
  simp only [opcodes02, List.forall_mem_cons, List.not_mem_nil, false_imp_iff]
  delta exec
  simp only [execOutletConfigSet, execOutletConfigGet, execOutletStatusGet, execOutletAuth, execOutletStop, execOutletService,
    execOutletUnlock, mail_waits q h, implies_true, and_self]

theorem opcodes03_wait (h : s.fwRuns = false) : ∀ e ∈ opcodes03, exec (e.2 q) s = .next s := by
  simp only [opcodes03, List.forall_mem_cons, List.not_mem_nil, false_imp_iff]
  delta exec
  simp only [execHlcConfigSet, execHlcConfigGet, execHlcSlacSet, execHlcStatusGet, execHlcExportSet, execHlcCertFetch, execHlcCertReply,
    execHlcStatsGet, mail_waits q h, implies_true, and_self]

theorem opcodes04_wait (h : s.fwRuns = false) : ∀ e ∈ opcodes04, exec (e.2 q) s = .next s := by
  simp only [opcodes04, List.forall_mem_cons, List.not_mem_nil, false_imp_iff]
  delta exec
  simp only [execProtConfigSet, execProtConfigGet, execProtStatusGet, execProtSelftest, mail_waits q h, implies_true, and_self]

theorem opcodes05_wait (h : s.fwRuns = false) : ∀ e ∈ opcodes05, exec (e.2 q) s = .next s := by
  simp only [opcodes05, List.forall_mem_cons, List.not_mem_nil, false_imp_iff]
  delta exec
  simp only [execSafeStatusGet, execSafeConfigRead, execSafeConfigWrite, execSafeConfirm, execSafeModeSet, execSafePasswordSet,
    execSafeLogRead, execSafeWeldResolve, execSafeSiteSet, mail_waits q h, implies_true, and_self]

theorem opcodes06_wait (h : s.fwRuns = false) : ∀ e ∈ opcodes06, exec (e.2 q) s = .next s := by
  simp only [opcodes06, List.forall_mem_cons, List.not_mem_nil, false_imp_iff]
  delta exec
  simp only [execBudConfigSet, execBudConfigGet, execBudOutletSet, execBudOutletGet, execBudStatusGet, execBudExtload, execBudStepAt,
    execLatConfigSet, execLatConfigGet, execLatStatusGet, mail_waits q h, implies_true, and_self]

theorem opcodes07_wait (h : s.fwRuns = false) : ∀ e ∈ opcodes07, exec (e.2 q) s = .next s := by
  simp only [opcodes07, List.forall_mem_cons, List.not_mem_nil, false_imp_iff]
  delta exec
  simp only [execMetroConfigSet, execMetroConfigGet, execMetroScaleSet, execMetroScaleGet, execMetroCalWrite, execMetroCalRead,
    execMetroTableWrite, execMetroTableRead, execMetroCalDigest, execMetroCalCommit, execMetroCalRevert, execMetroChStatus,
    execMetroLineGet, execMetroRaw, execEnergyConfigSet, execEnergyConfigGet, execEnergyRead, execEnergyInstant, execEnergyLatchNow,
    execPqLogRead, execWaveList, execWaveExport, execWaveTrigger, execTamperStatus, execTamperClear, mail_waits q h, implies_true,
    and_self]

theorem opcodes08_wait (h : s.fwRuns = false) : ∀ e ∈ opcodes08, exec (e.2 q) s = .next s := by
  simp only [opcodes08, List.forall_mem_cons, List.not_mem_nil, false_imp_iff]
  delta exec
  simp only [execBillConfigSet, execBillConfigGet, execBillCalendarWrite, execBillCalendarRead, execBillCalendarActivate, execBillTimeGet,
    execBillTimeSet, execBillRegistersGet, execBillPeriodGet, execBillPeriodClose, execLedgerRead, execLedgerStatus, execBillCommitNow,
    mail_waits q h, mailQ_waits q h, implies_true, and_self]

theorem opcodes09_wait (h : s.fwRuns = false) : ∀ e ∈ opcodes09, exec (e.2 q) s = .next s := by
  simp only [opcodes09, List.forall_mem_cons, List.not_mem_nil, false_imp_iff]
  delta exec
  simp only [execDlmsTunnel, execDlmsConfigSet, execDlmsConfigGet, execDlmsAssocList, execDlmsAssocAbort, mail_waits q h, implies_true,
    and_self]

theorem opcodes0A_wait (h : s.fwRuns = false) : ∀ e ∈ opcodes0A, exec (e.2 q) s = .next s := by
  simp only [opcodes0A, List.forall_mem_cons, List.not_mem_nil, false_imp_iff]
  delta exec
  simp only [execCreditAccountSet, execCreditAccountGet, execCreditAdjust, execCreditBind, execCreditConfigSet, execCreditConfigGet,
    execVoucherEnter, execVoucherStatus, mail_waits q h, implies_true, and_self]

theorem opcodes0B_wait (h : s.fwRuns = false) : ∀ e ∈ opcodes0B, exec (e.2 q) s = .next s := by
  simp only [opcodes0B, List.forall_mem_cons, List.not_mem_nil, false_imp_iff]
  delta exec
  simp only [execLineConfigSet, execLineConfigGet, execLineStatusGet, execLinePeers, execLineSend, execLineMapGet, execLineMapRequest,
    execLineStatsGet, mail_waits q h, lineMail_waits q h, implies_true, and_self]

theorem opcodes0C_wait (h : s.fwRuns = false) : ∀ e ∈ opcodes0C, exec (e.2 q) s = .next s := by
  simp only [opcodes0C, List.forall_mem_cons, List.not_mem_nil, false_imp_iff]
  delta exec
  simp only [execNetConfigSet, execNetConfigGet, execNetStatusGet, execNetToutSet, execNetToutGet, execNetTcapSet, execNetTcapRead,
    execNetTimeSet, execNetStats, mail_waits q h, netMail_waits q h, implies_true, and_self]

theorem opcodes0D_wait (h : s.fwRuns = false) : ∀ e ∈ opcodes0D, exec (e.2 q) s = .next s := by
  simp only [opcodes0D, List.forall_mem_cons, List.not_mem_nil, false_imp_iff]
  delta exec
  simp only [execNfcConfigSet, execNfcConfigGet, execNfcTagRead, execNfcTagWrite, execNfcTagKey, execNfcTagStatus, mail_waits q h,
    nfcMail_waits q h, implies_true, and_self]

theorem opcodes0E_wait (h : s.fwRuns = false) : ∀ e ∈ opcodes0E, exec (e.2 q) s = .next s := by
  simp only [opcodes0E, List.forall_mem_cons, List.not_mem_nil, false_imp_iff]
  delta exec
  simp only [execLswChanSet, execLswChanGet, execLswOut, execLswStatusGet, execLswBankGet, execLswClear, mail_waits q h, implies_true,
    and_self]

theorem opcodes0F_wait (h : s.fwRuns = false) : ∀ e ∈ opcodes0F, exec (e.2 q) s = .next s := by
  simp only [opcodes0F, List.forall_mem_cons, List.not_mem_nil, false_imp_iff]
  delta exec
  simp only [execPanelConfigSet, execPanelConfigGet, execPanelWrite, execPanelFlip, execPanelCurveSet, execPanelCurveGet,
    execPanelStatusGet, execPanelStressRead, mail_waits q h, panelMail_waits q h, implies_true, and_self]

theorem opcodes10_wait (h : s.fwRuns = false) : ∀ e ∈ opcodes10, exec (e.2 q) s = .next s := by
  simp only [opcodes10, List.forall_mem_cons, List.not_mem_nil, false_imp_iff]
  delta exec
  simp only [execKeyInfo, execKeyUpdate, execKeyDerive, execKeyRevoke, execKeyPublicRead, execKeyStatus, mail_waits q h, mailQ_waits q h,
    implies_true, and_self]

/-- MA_START is queued or refused, and waits either way. -/
theorem execMaStart_waits (h : s.fwRuns = false) : execMaStart q s = .next s := by
  rw [execMaStart]
  split
  · exact mail_waits q h
  · exact mailQ_waits q h

theorem opcodes11_wait (h : s.fwRuns = false) : ∀ e ∈ opcodes11, exec (e.2 q) s = .next s := by
  simp only [opcodes11, List.forall_mem_cons, List.not_mem_nil, false_imp_iff]
  delta exec
  simp only [execFltClear, execFltSeveritySet, execFltLogRead, execMaAbort, execMaStatus, execMaStart_waits q h, mail_waits q h,
    implies_true, and_self]

/-- The handover, which FW_ACTIVATE answers before it starts, waits too. -/
theorem execFwActivate_waits (h : s.fwRuns = false) : execFwActivate q s = .next s := by
  simp [execFwActivate, mail_waits q h, h]

theorem opcodes12_wait (h : s.fwRuns = false) : ∀ e ∈ opcodes12, exec (e.2 q) s = .next s := by
  simp only [opcodes12, List.forall_mem_cons, List.not_mem_nil, false_imp_iff]
  delta exec
  simp only [execFwStatus, execFwStageBegin, execFwStageData, execFwStageVerify, execFwStageAbort, execFwActivate_waits q h,
    mail_waits q h, implies_true, and_self]

end Waits

theorem opcodes_wait {s : State} (q : Req) (h : s.fwRuns = false) : ∀ e ∈ opcodes, exec (e.2 q) s = .next s := by
  simp only [opcodes, List.forall_mem_append]
  exact ⟨⟨⟨⟨⟨⟨⟨⟨⟨⟨⟨⟨⟨⟨⟨⟨⟨opcodes01_wait q h, opcodes02_wait q h⟩, opcodes03_wait q h⟩, opcodes04_wait q h⟩, opcodes05_wait q h⟩,
    opcodes06_wait q h⟩, opcodes07_wait q h⟩, opcodes08_wait q h⟩, opcodes09_wait q h⟩, opcodes0A_wait q h⟩, opcodes0B_wait q h⟩,
    opcodes0C_wait q h⟩, opcodes0D_wait q h⟩, opcodes0E_wait q h⟩, opcodes0F_wait q h⟩, opcodes10_wait q h⟩, opcodes11_wait q h⟩,
    opcodes12_wait q h⟩

end Sys2Proof.Machine

namespace Sys2Proof.Proofs

open Sys2Proof.Machine

/-- Settles O6: each command that an opcode names is served through `mail` or `mailQ`, which ask first whether firmware runs. -/
theorem mailboxWaitsForFirmware : Obligations.MailboxWaitsForFirmware := by
  intro op q c s hc h
  obtain ⟨f, hmem, rfl⟩ := mem_opcodes_of_commandOf hc
  exact opcodes_wait q h _ hmem

end Sys2Proof.Proofs
end

section
/-! PROOFS. The tree of a revocation (R602): what KEY_REVOKE writes into the key store, and what it leaves. -/

namespace Sys2Proof.Machine

/-! ### What keeps the key store -/

section Keys

variable {s : State}

theorem keys_ite {p : Prop} [Decidable p] {x y : State} (hx : x.store.keys = s.store.keys) (hy : y.store.keys = s.store.keys) :
    (if p then x else y).store.keys = s.store.keys := by
  split
  · exact hx
  · exact hy

@[simp] theorem putUnit_keys (n : PNum) (d : Held) : (s.putUnit n d).store.keys = s.store.keys := by rw [putUnit_rings]

@[simp] theorem tagHistory_keys : s.tagHistory.store.keys = s.store.keys :=
  keys_ite rfl rfl

@[simp] theorem logPut_keys (e : LogEntry) : (s.logPut e).store.keys = s.store.keys :=
  keys_ite tagHistory_keys rfl

@[simp] theorem countUp_store (src : Nat) : (s.countUp src).store = s.store := rfl

@[simp] theorem latchRec_keys (src qual data : Nat) (forced retried : Bool) :
    (s.latchRec src qual data forced retried).store.keys = s.store.keys := by
  unfold State.latchRec
  refine keys_ite rfl (keys_ite rfl ?_)
  exact (logPut_keys _).trans (keys_ite rfl rfl)

@[simp] theorem loseEvent_keys (n : PNum) (seq : Nat) : (s.loseEvent n seq).store.keys = s.store.keys := by
  unfold State.loseEvent
  exact keys_ite (latchRec_keys ..) (latchRec_keys ..)

@[simp] theorem deliver_keys (n : PNum) (d : Held) (seq : Nat) : (s.deliver n d seq).store.keys = s.store.keys := by
  unfold State.deliver
  exact keys_ite rfl (keys_ite (putUnit_keys ..) (keys_ite (loseEvent_keys ..) rfl))

@[simp] theorem emit_keys (n : PNum) (op : Nat) (p : Bytes) : (s.emit n op p).store.keys = s.store.keys := by
  unfold State.emit State.emitNow
  exact keys_ite (keys_ite rfl (deliver_keys ..)) rfl

@[simp] theorem complete_keys (n : PNum) (op tag st : Nat) (p : Bytes) (b : Option (Nat × Nat)) :
    (s.complete n op tag st p b).store.keys = s.store.keys := by rw [complete_rings]

@[simp] theorem finish_keys (n : PNum) (tag st : Nat) (p : Bytes) : (s.finish n tag st p).store.keys = s.store.keys := by
  unfold State.finish State.finishWith
  split
  · rfl
  · exact keys_ite (complete_keys ..) (keys_ite rfl rfl)

@[simp] theorem setFallback_keys (o : ONum) (reason : Nat) : (s.setFallback o reason).store.keys = s.store.keys := by
  unfold State.setFallback
  exact keys_ite rfl (emit_keys ..)

@[simp] theorem endTx_keys (i st : Nat) : (s.endTx i st).store.keys = s.store.keys := by
  unfold State.endTx
  split
  · rfl
  · extract_lets s₁
    split
    · exact finish_keys ..
    · rfl

@[simp] theorem dropProtected_keys (l : List LineTx) : (s.dropProtected l).store.keys = s.store.keys := by
  induction l generalizing s with
  | nil => rfl
  | cons f t ih =>
    refine ih.trans (keys_ite ?_ rfl)
    split
    · exact endTx_keys ..
    · rfl

theorem foldl_keys {α : Type} {f : State → α → State} (hf : ∀ s a, (f s a).store.keys = s.store.keys) (l : List α) :
    (l.foldl f s).store.keys = s.store.keys := by
  induction l generalizing s with
  | nil => rfl
  | cons a l ih => exact ih.trans (hf s a)

@[simp] theorem lineRevoked_keys (n : Nat) : (s.lineRevoked n).store.keys = s.store.keys := by
  unfold State.lineRevoked
  exact keys_ite ((dropProtected_keys _).trans (emit_keys ..)) rfl

@[simp] theorem tagRevoked_keys (n : Nat) : (s.tagRevoked n).store.keys = s.store.keys := by
  unfold State.tagRevoked
  split
  · exact keys_ite rfl rfl
  · rfl

/-- What a revocation makes of the users of a key leaves the key store (R603 to R605). -/
@[simp] theorem keyRevoked_keys (n : Nat) : (s.keyRevoked n).store.keys = s.store.keys := by
  rw [State.keyRevoked, tagRevoked_keys, lineRevoked_keys]
  exact foldl_keys (fun s o => setFallback_keys o 3) _

@[simp] theorem evtKey_keys (n kind root : Nat) : (s.evtKey n kind root).store.keys = s.store.keys := emit_keys ..

@[simp] theorem answered_keys (c : Cmd) (q : Req) (a : Ans) : (answered c q a).store.keys = a.st.store.keys := by rw [answered_rings]

end Keys

/-! ### Slots -/

theorem lookupD_assocPut {β : Type} (l : List (Nat × β)) (k m : Nat) (v d : β) :
    lookupD (assocPut l k v) m d = if m = k then v else lookupD l m d := by
  by_cases h : m = k
  · subst h
    simp [lookupD, assocPut]
  · have hkm : (k == m) = false := beq_eq_false_iff_ne.mpr (Ne.symm h)
    have hskip : (fun e : Nat × β => decide ((e.1 != k) = true ∧ (e.1 == m) = true)) = fun e => e.1 == m := funext fun e => by
      by_cases he : e.1 = m <;> simp [he, h]
    simp only [lookupD, assocPut, List.find?_cons, hkm, h, if_false, List.find?_filter, hskip]

theorem slot_congr {s t : State} (h : t.store.keys = s.store.keys) (m : Nat) : t.slot m = s.slot m := by
  rw [State.slot, h, State.slot]

/-- A slot once it is revoked: it holds no key (R602). -/
def Slot.revoked (x : Slot) : Slot := { x with state := 2, mat := [] }

theorem slot_revokeSlot (s : State) (n m : Nat) : (s.revokeSlot n).slot m = if m = n then (s.slot n).revoked else s.slot m :=
  lookupD_assocPut ..

theorem slot_revokeSlots (l : List Nat) (s : State) (m : Nat) :
    (l.foldl State.revokeSlot s).slot m = if m ∈ l then (s.slot m).revoked else s.slot m := by
  induction l generalizing s with
  | nil => simp
  | cons n l ih =>
    rw [List.foldl_cons, ih, slot_revokeSlot]
    by_cases hn : m = n
    · subst hn
      simp [Slot.revoked]
    · simp [hn]

/-- The tree of a valid slot: the slot and its descendants, and no other. -/
theorem slot_revokeTree {s : State} {n : Nat} (hvalid : (s.slot n).state = 1) (m : Nat) :
    (s.revokeTree n 2).slot m = if m = n ∨ m ∈ s.descendants n then (s.slot m).revoked else s.slot m := by
  unfold State.revokeTree
  extract_lets l was s₁ s₂ s₃ s₄ s₅
  have hs₂ : s₂.store.keys = s.store.keys := by
    simp only [s₂, s₁, if_pos (show was.state = 1 from hvalid)]
    exact (foldl_keys (fun s a => keyRevoked_keys a) l).trans (keyRevoked_keys n)
  have hs₃ : s₃ = s₂.revokeSlot n := if_pos (show was.state = 1 from hvalid)
  have hs₅ : s₅.store.keys = s₄.store.keys := keys_ite (evtKey_keys ..) rfl
  rw [slot_congr ((foldl_keys (fun s a => evtKey_keys ..) l).trans hs₅), slot_revokeSlots, hs₃, slot_revokeSlot]
  by_cases hm : m = n
  · subst hm
    simp [slot_congr hs₂, Slot.revoked]
  · simp [hm, slot_congr hs₂, l]

/-- KEY_REVOKE of a valid slot below 16. -/
theorem exec_keyRevoke_valid {q : Req} {s : State}
    (hq : Served { op := 0x1004, pair := 11, lo := 1, hi := 1 } q s (decide (16 ≤ u8 q.payload 0)))
    (hvalid : (s.slot (u8 q.payload 0)).state = 1) :
    exec (.keyRevoke q) s = .next (answered { op := 0x1004, pair := 11, lo := 1, hi := 1 } q
      ((((s.revokeTree (u8 q.payload 0) 2).keyCommit).effect 11 q.tag 0x1004).ok
        (toLE 1 ((s.descendants (u8 q.payload 0)).length + 1)))) := by
  have hslot : ¬(!s.slotValid (u8 q.payload 0)) = true := by simp [State.slotValid, hvalid]
  change execKeyRevoke q s = _
  rw [execKeyRevoke, mail_served hq, if_neg hslot]

end Sys2Proof.Machine

namespace Sys2Proof.Proofs

open Sys2Proof.Machine

/-- Settles O28: the commit, the effect and the completion leave the slots that `revokeTree` wrote. -/
theorem revocationTakesDescendants : Obligations.RevocationTakesDescendants := by
  intro q s n hq hvalid
  refine ⟨_, exec_keyRevoke_valid hq hvalid, ?_⟩
  refine ⟨fun m hm => ?_, fun m hn hm => ?_⟩
  · rw [slot_congr (s := s.revokeTree n 2) (answered_keys ..), slot_revokeTree hvalid, if_pos hm]
    exact ⟨rfl, rfl⟩
  · rw [slot_congr (s := s.revokeTree n 2) (answered_keys ..), slot_revokeTree hvalid, if_neg (not_or.mpr ⟨hn, hm⟩)]

end Sys2Proof.Proofs
end

section
/-! PROOFS. How a row answers: what `onlyIf` and the mailbox frame leave once their conditions hold. -/

namespace Sys2Proof.Machine

section Answers

variable {c : Cmd} {q : Req} {s : State} {fits : Bool} {body : State → Ans} {a : Ans}

theorem onlyIf_holds {b : Bool} {f : State → State} (h : b = true) : onlyIf b s f = .next (f s) := by rw [onlyIf, if_pos h]

theorem onlyIf_answers {b : Bool} {f : State → State} {t : State} (h : b = true) (ht : f s = t) : onlyIf b s f = .next t := by
  rw [onlyIf_holds h, ht]

theorem mail_answers (h : Served c q s fits) (ha : body s = a) : mail c q s fits body = .next (answered c q a) := by
  rw [mail_served h, ha]

theorem mailQ_answers (h : Served c q s fits) (ha : body (flown c q s) = a) : mailQ c q s fits body = .next (ended c q a) := by
  rw [mailQ_served h, ha]

theorem netMail_answers (h : Served c q s fits) (hon : s.netOn = true) (ha : body s = a) :
    netMail c q s fits body = .next (answered c q a) := by rw [netMail_served h hon, ha]

theorem lineMail_answers (h : Served c q s fits) (hon : s.lineOn = true) (ha : body s = a) :
    lineMail c q s fits body = .next (answered c q a) := by rw [lineMail_served h hon, ha]

theorem nfcMail_answers (h : Served c q s fits) (hon : s.fieldOn = true) (ha : body s = a) :
    nfcMail c q s fits body = .next (answered c q a) := by rw [nfcMail_served h hon, ha]

theorem panelMail_answers (h : Served c q s fits) (hon : s.panelOn = true) (ha : body s = a) :
    panelMail c q s fits body = .next (answered c q a) := by rw [panelMail_served h hon, ha]

end Answers

end Sys2Proof.Machine
end

section
/-! PROOFS. The rows of the system, the fault collector and maintenance. -/

namespace Sys2Proof.Proofs

open Sys2Proof.Machine

/-- Settles O40: row by row, the conditions of the clause decide every branch of the row. FLT_CLEAR turns on the list that may be
cleared, MA_START on the three tests before it is queued. -/
theorem systemAndFaultRowsComplete : Obligations.SystemAndFaultRowsComplete := by
  delta Obligations.SystemAndFaultRowsComplete exec
  dsimp only [execSysVersion, execSysIdentity, execSysSeqQuery, execSysLoopback, execTmrScrub, execStrPostComplete, execFltSeveritySet,
    execFltLogRead, execFaultRetry, execFltClear, execFaultOccurrence, execMaStart, execMaAbort, execMaStatus, execMaActivityEnd,
    execMaQueueTimeout, execMaActivityStart]
  refine ⟨?sysVersion, ?sysIdentity, ?sysSeqQuery, ?sysLoopback, ?tmrScrub, ?strPostComplete, ?fltSeveritySet, ?fltLogRead,
    ?faultRetryPassed, ?faultRetryFailed, ?fltClear, ?faultOccurrence, ?maStart, ?maAbort, ?maStatus, ?maActivityEnd, ?maActivityEndLost,
    ?maQueueTimeout, ?maActivityStart⟩
  case sysVersion => exact fun _ _ hq => mail_served hq
  case sysIdentity => exact fun _ _ hq => mail_served hq
  case sysSeqQuery => exact fun _ _ hq => mail_served hq
  case sysLoopback => exact fun _ _ hq => mail_served hq
  case tmrScrub => exact fun _ _ _ h => onlyIf_holds h
  case strPostComplete =>
    intro _ _ h
    simp only [h, if_true]
  case fltSeveritySet => exact fun _ _ hq h => mail_answers hq (if_neg h)
  case fltLogRead => exact fun _ _ hq h1 h2 => mail_answers hq ((if_neg h1).trans (if_neg h2))
  case faultRetryPassed =>
    intro _ _ _ _ h1 h2
    simp only [h1, h2, if_true, if_false, Bool.false_eq_true, Bool.not_true]
  case faultRetryFailed =>
    intro _ _ _ _ h
    simp only [h, if_false, Bool.false_eq_true, Bool.not_true]
  case fltClear =>
    intro q s hq hmay
    have hsome : ¬(s.flt.occ.filter fun x => x.src == u8 q.payload 0 && (u16 q.payload 2 == 0xFFFF ||
        x.qual == u16 q.payload 2)).isEmpty = true := fun h => hmay (by rw [List.isEmpty_iff.mp h]; rfl)
    have hclears := mt List.isEmpty_iff.mp hmay
    exact mail_answers hq ((if_neg hsome).trans (if_neg hclears))
  case faultOccurrence =>
    intro _ _ _ _ h
    simp only [h, if_false, Bool.false_eq_true]
  case maStart =>
    intro q s hq hregion hallowed hroom
    have hfree : ¬8 ≤ (s.maint.filter fun b => !b.running).length := Nat.not_le_of_lt hroom
    simp only [hregion, hallowed, hfree, Bool.false_eq_true, if_false]
    exact (mailQ_served hq).trans rfl
  case maAbort =>
    intro _ _ hq _ h
    rw [mail_served hq]
    simp only [h]
  case maStatus => exact fun _ _ hq => mail_served hq
  case maActivityEnd =>
    intro _ _ _ _ h1 h2 h3
    simp only [h1, h2, h3, if_true]
  case maActivityEndLost =>
    intro _ _ _ _ _ h1 h2
    simp only [h1, h2]
  case maQueueTimeout =>
    intro _ _ _ h
    simp only [h]
  case maActivityStart =>
    intro _ _ h1 h2
    simp only [h1, h2]

end Sys2Proof.Proofs
end

section
/-! PROOFS. The rows of power, resets, start and clocks. -/

namespace Sys2Proof.Machine

theorem with_hrstLow_same {s : State} {low : Bool} (h : s.pwr.hrstLow = low) : { s with pwr := { s.pwr with hrstLow := low } } = s := by
  rw [← h]

end Sys2Proof.Machine

namespace Sys2Proof.Proofs

open Sys2Proof.Machine

/-- Settles O41: row by row, the conditions of the clause decide every branch of the row. SYS_POWER_SET to Dormant answers before it
starts, so its clause looks at the screening itself. -/
theorem powerAndStartRowsComplete : Obligations.PowerAndStartRowsComplete := by
  delta Obligations.PowerAndStartRowsComplete exec
  dsimp only [execSysPowerGet, execSysPowerSet, execSysDomainSet, execDomainSwitchTimeout, execDomainPgLoss, execPilotRail,
    execBakSwitchover, execVbakLow, execHrst, execPowerFail, execVsupMinFall, execLpddrEccError, execDormantEntry, execSafeStateReset,
    execWatchdogReset, execPowerfailRecovery, execVsupReturn, execStartSequence, execClkmonWindow, execClockTrip, execClockSelfcheck,
    execRc48StartTimeout, execClkSwitchDone, execClkSwhang, execClkMeterDone, execRc48Stop, execLfxoLoss, execPilotPeriodTrim]
  refine ⟨?sysPowerGet, ?sysPowerSetNormal, ?sysPowerSetQuiet, ?sysPowerSetDormant, ?sysDomainSet, ?domainSwitchTimeout, ?domainPgLoss,
    ?pilotRail, ?bakSwitchover, ?vbakLow, ?vbakRecovered, ?hrstRise, ?hrstFall, ?powerFail, ?vsupMinFall, ?lpddrEccError, ?dormantEntry,
    ?safeStateReset, ?watchdogReset, ?powerfailRecovery, ?vsupReturnDormant, ?vsupReturnOff, ?startSequence, ?clkmonWindow, ?clockTrip,
    ?clockSelfcheck, ?rc48StartTimeout, ?clkSwitchDone, ?clkSwhang, ?clkMeterDone, ?rc48Stop, ?lfxoLoss, ?pilotPeriodTrim⟩
  case sysPowerGet => exact fun _ _ hq => mail_served hq
  case sysPowerSetNormal =>
    intro q s hq htarget hidle
    refine (if_neg (by simp [htarget])).trans (mail_answers hq ?_)
    simp only [htarget, hidle]
    rfl
  case sysPowerSetQuiet =>
    intro q s hq htarget hopen hidle
    refine (if_neg (by simp [htarget])).trans (mail_answers hq ?_)
    simp only [htarget, hopen, hidle, Bool.and_false]
    rfl
  case sysPowerSetDormant =>
    intro q s hq htarget hopen hvbak hidle
    obtain ⟨hrun, hscreen⟩ := hq
    have hfits : (decide (u8 q.payload 0 ≤ 2) && (u8 q.payload 0 != 1 || decide (u8 q.payload 1 ≤ 1))) = true := by simp [htarget]
    have hcharged : ¬s.pwr.vbak < 2000 := Nat.not_lt_of_le hvbak
    rw [hfits] at hscreen
    exact if_pos (by simp [htarget, hrun, hscreen, hopen, hcharged, hidle])
  case sysDomainSet =>
    intro _ _ hq h
    rw [mail_served hq]
    simp only [h]
  case domainSwitchTimeout =>
    intro d s hwait hswitch
    obtain ⟨w, hw⟩ := Option.isSome_iff_exists.mp hwait
    simp only [hw, Option.getD_some] at hswitch ⊢
    exact onlyIf_holds hswitch
  case domainPgLoss => exact fun _ _ _ h => onlyIf_holds h
  case pilotRail => exact fun _ _ _ => rfl
  case bakSwitchover => exact fun _ _ => rfl
  case vbakLow => exact fun _ _ h => congrArg _ (if_pos h)
  case vbakRecovered =>
    exact fun _ _ hmv => congrArg _ (if_neg (Nat.not_lt_of_le hmv))
  case hrstRise =>
    intro s hhigh
    exact congrArg _ (with_hrstLow_same hhigh)
  case hrstFall =>
    intro s hpowered hbusy
    have hreset : (!true || s.resetBusy || !s.powered) = false := by simp [hbusy, hpowered]
    exact congrArg _ (if_neg (Bool.eq_false_iff.mp hreset))
  case powerFail => exact fun _ _ h => onlyIf_holds h
  case vsupMinFall =>
    intro mv s hpowered hhold
    exact congrArg _ (if_pos (by simp [hpowered, hhold]))
  case lpddrEccError => exact fun _ _ h => onlyIf_holds h
  case dormantEntry => exact fun _ h => onlyIf_holds h
  case safeStateReset => exact fun _ h => onlyIf_holds h
  case watchdogReset => exact fun _ h => onlyIf_holds h
  case powerfailRecovery => exact fun _ h => onlyIf_holds h
  case vsupReturnDormant =>
    intro s hst hfell
    exact congrArg _ (if_pos (by simp [hst, hfell]))
  case vsupReturnOff =>
    intro s hst
    exact congrArg _ ((if_neg (by simp [hst])).trans (if_pos (by simp [hst])))
  case startSequence =>
    intro c r s hawaiting hhigh hpowered
    simp only [hawaiting, hhigh, hpowered, Bool.not_true, Bool.or_self, Bool.false_eq_true, if_false]
  case clkmonWindow => exact fun _ _ _ _ h => onlyIf_holds h
  case clockTrip => exact fun _ _ h => onlyIf_holds h
  case clockSelfcheck => exact fun _ _ _ h => onlyIf_holds h
  case rc48StartTimeout => exact fun _ _ h => onlyIf_holds h
  case clkSwitchDone => exact fun _ _ h => onlyIf_holds h
  case clkSwhang => exact fun _ _ h => onlyIf_holds h
  case clkMeterDone => exact fun _ _ _ h => onlyIf_holds h
  case rc48Stop => exact fun _ h => onlyIf_holds h
  case lfxoLoss => exact fun _ h => onlyIf_holds h
  case pilotPeriodTrim => exact fun _ h => onlyIf_holds h

end Sys2Proof.Proofs
end

section
/-! PROOFS. The rows of the host port and of its register writes. -/

namespace Sys2Proof.Machine

/-! ### Words that reach a register -/

section Register

variable {s : State} {a : Nat} (v : Nat) (hserves : s.portServes = true) (hlow : a < 0x10000) (hring : a / 4096 ≠ 1)

include hserves hlow hring

/-- A register outside the RING block takes its word at once, unless its block reads zero (R48, R53). -/
theorem hostWrite_register (hzero : s.zeroed a = false) : s.hostWrite a v = .next (s.regWrite a (v % 2 ^ 32)) := by
  simp [State.hostWrite, State.writeWord, hserves, heldBack_eq_false hlow hring, outside_eq_false hlow, hzero]

theorem hostWrite_plain (hclk : a / 4096 ≠ 3) (htime : a / 4096 ≠ 7) : s.hostWrite a v = .next (s.regWrite a (v % 2 ^ 32)) :=
  hostWrite_register v hserves hlow hring (zeroed_eq_false hclk htime)

end Register

/-- Behind gate bit 5 stand the meter registers alone. -/
theorem zeroed_clk_eq_false {s : State} {a : Nat} (hclk : a / 4096 = 3) (hmeter : a < 0x3018 ∨ 0x3024 ≤ a ∨ bit s.clk.gate 5 = true) :
    s.zeroed a = false := by
  have htime : (a / 4096 == 7) = false := by simp [hclk]
  obtain hbelow | habove | hopen := hmeter
  · have hlo : ¬0x3018 ≤ a := by omega
    simp only [State.zeroed, htime, hlo, decide_false, Bool.false_and, Bool.or_self]
  · have hhi : ¬a < 0x3024 := by omega
    simp only [State.zeroed, htime, hhi, decide_false, Bool.and_false, Bool.false_and, Bool.or_self]
  · simp only [State.zeroed, htime, hopen, Bool.not_true, Bool.and_false, Bool.false_and, Bool.or_self]

/-- A register of the CLK block. -/
theorem hostWrite_clk {s : State} {off : Nat} (v : Nat) (hserves : s.portServes = true) (hoff : off < 4096)
    (hmeter : off < 0x18 ∨ 0x24 ≤ off ∨ bit s.clk.gate 5 = true) :
    s.hostWrite (0x3000 + off) v = .next (s.clkWrite off (v % 2 ^ 32)) := by
  have hblock : (0x3000 + off) / 4096 = 3 := by omega
  have hword : (0x3000 + off) % 4096 = off := by omega
  have hbulk : ¬0x40000 ≤ 0x3000 + off := by omega
  have hmem : ¬0x10000 ≤ 0x3000 + off := by omega
  have hzero : s.zeroed (0x3000 + off) = false := 
    zeroed_clk_eq_false hblock (hmeter.imp (fun h => by omega) fun h => h.imp_left fun h => by omega)
  rw [hostWrite_register v hserves (by omega) (by omega) hzero]
  simp only [State.regWrite, hblock, hword, hbulk, hmem, decide_false, Bool.false_and, Bool.false_eq_true, if_false]

/-- A register of the FLT block. -/
theorem hostWrite_flt {s : State} {off : Nat} (v : Nat) (hserves : s.portServes = true) (hoff : off < 4096) :
    s.hostWrite (0x2000 + off) v = .next (fltWrite s off (v % 2 ^ 32)) := by
  have hblock : (0x2000 + off) / 4096 = 2 := by omega
  have hword : (0x2000 + off) % 4096 = off := by omega
  have hbulk : ¬0x40000 ≤ 0x2000 + off := by omega
  have hmem : ¬0x10000 ≤ 0x2000 + off := by omega
  rw [hostWrite_plain v hserves (by omega) (by omega) (by omega) (by omega)]
  simp only [State.regWrite, hblock, hword, hbulk, hmem, decide_false, Bool.false_and, Bool.false_eq_true, if_false]

theorem fltWrite_unread (s : State) {m : Nat} (v : Nat) (hm : m < 4) : fltWrite s (0x20 + 4 * m) v = unreadAck s m v := by
  have hword : (0x20 + 4 * m - 0x20) / 4 = m := by omega
  have hrow : (decide (0x20 ≤ 0x20 + 4 * m) && decide (0x20 + 4 * m < 0x30)) = true := by simp; omega
  rw [fltWrite, if_neg (by omega), if_neg (by omega), if_pos hrow, hword]

theorem fltWrite_force (s : State) {m : Nat} (v : Nat) (hm : m < 4) : fltWrite s (0x30 + 4 * m) v = forceWrite s m v 32 := by
  have hword : (0x30 + 4 * m - 0x30) / 4 = m := by omega
  have hbefore : ¬(decide (0x20 ≤ 0x30 + 4 * m) && decide (0x30 + 4 * m < 0x30)) = true := by simp
  have hrow : (decide (0x30 ≤ 0x30 + 4 * m) && decide (0x30 + 4 * m < 0x40)) = true := by simp; omega
  rw [fltWrite, if_neg (by omega), if_neg (by omega), if_neg hbefore, if_pos hrow, hword]

theorem fltWrite_sev (s : State) {m : Nat} (v : Nat) (hm : m < 8) :
    fltWrite s (0x40 + 4 * m) v = (sevWrite s m v 16).tmrWrite (0x2040 + 4 * m) (sevAccepted m v) v := by
  have hword : (0x40 + 4 * m - 0x40) / 4 = m := by omega
  have haddr : 0x2000 + (0x40 + 4 * m) / 4 * 4 = 0x2040 + 4 * m := by omega
  have hunread : ¬(decide (0x20 ≤ 0x40 + 4 * m) && decide (0x40 + 4 * m < 0x30)) = true := by simp; omega
  have hforce : ¬(decide (0x30 ≤ 0x40 + 4 * m) && decide (0x40 + 4 * m < 0x40)) = true := by simp
  have hrow : (decide (0x40 ≤ 0x40 + 4 * m) && decide (0x40 + 4 * m < 0x60)) = true := by simp; omega
  rw [fltWrite, if_neg (by omega), if_neg (by omega), if_neg hunread, if_neg hforce, if_pos hrow, hword, haddr]

/-- A single word that neither waits nor meets R34 (R39, R40). -/
theorem writeWords_one {s : State} {a v : Nat} (hheld : s.heldBack a = false) (hcross : s.crosses a = false) (hout : s.outside a = false) :
    s.writeWords [v] a = .next { s.writeWord a v with host := { (s.writeWord a v).host with nextAddr := nextWord a } } := by
  simp only [State.writeWords, hheld, hcross, hout, Bool.or_self, Bool.false_eq_true, if_false]

/-! ### Ring pointers -/

/-- While no capture is sent there is nothing to note. -/
theorem with_exporting_none {s : State} {f : Export → Export} (h : s.en.exporting = none) :
    { s with en := { s.en with exporting := s.en.exporting.map f } } = s := by
  have hsame : s.en.exporting.map f = s.en.exporting := by rw [h]; rfl
  rw [hsame]

section Pointers

variable {s : State} {n : PNum} {v : Nat} (hon : (s.pr n).state = 1)

include hon

theorem doorbell_taken (hroom : ringCount (s.pr n).sqTail (v % 65536) ≤ (s.pr n).sqDepth - ringCount (s.pr n).sqHead (s.pr n).sqTail) :
    doorbell s n v = s.setPr n { s.pr n with
      sqTail := v % 65536, bells := if v % 65536 = (s.pr n).sqTail then (s.pr n).bells else (s.pr n).bells ++ [v % 65536] } := by
  simp only [doorbell, hon, hroom, decide_true, Bool.and_self, if_true]

variable (hin : ringCount (s.pr n).cqHead (v % 65536) ≤ ringCount (s.pr n).cqHead (s.pr n).cqTail)

include hin

theorem headWrite_plain (hexport : n = 14 → s.en.exporting = none) : headWrite s n v = s.setPr n { s.pr n with cqHead := v % 65536 } := by
  have htest : (decide ((s.pr n).state = 1) &&
      decide (ringCount (s.pr n).cqHead (v % 65536) ≤ ringCount (s.pr n).cqHead (s.pr n).cqTail)) = true := by simp [hon, hin]
  refine (if_pos htest).trans ?_
  split
  case isTrue h => exact with_exporting_none (hexport h.1)
  case isFalse => rfl

/-- While a capture is sent, the row notes when the head of pair 14 last moved (R359). -/
theorem headWrite_export {x : Export} (hpair : n = 14) (hmoved : v % 65536 ≠ (s.pr n).cqHead) (hexport : s.en.exporting = some x) :
    headWrite s n v = { s.setPr n { s.pr n with cqHead := v % 65536 } with
      en := { s.en with exporting := some { x with headAt := s.up } } } := by
  have htest : (decide ((s.pr n).state = 1) &&
      decide (ringCount (s.pr n).cqHead (v % 65536) ≤ ringCount (s.pr n).cqHead (s.pr n).cqTail)) = true := by simp [hon, hin]
  refine (if_pos htest).trans ((if_pos ⟨hpair, hmoved⟩).trans ?_)
  simp only [setPr_en, hexport, Option.map_some]
  rfl

end Pointers

end Sys2Proof.Machine

namespace Sys2Proof.Proofs

open Sys2Proof.Machine

/-- Settles O42: a register write reaches its block by `hostWrite_register`, `hostWrite_clk`, `hostWrite_flt` or `hostWrite_ring`, and
the block takes the word. -/
theorem hostPortRowsComplete : Obligations.HostPortRowsComplete := by
  delta Obligations.HostPortRowsComplete exec
  dsimp only [execHostTransaction, execHcsRise, execRegisterWrite, execBnwOutletWrite, execDoorbellWrite, execCqHeadWrite,
    execRingCfgWrite, execTimeSnapWrite, execFltUnreadAck, execFltForce, execFltSevWrite, execClkSelWrite, execClkForceWrite,
    execClkMeterStart, execClkGateWrite, execGateForceClose, execPwrPfCfgWrite, execIslandCrossingDone, execStallLimit, execStrRecover,
    execStrRetryPrimary]
  refine ⟨?readWords, ?writeWord, ?windowReads, ?windowWrites, ?hcsRise, ?registerWrite, ?bnwOutletWrite, ?doorbellWrite, ?cqHeadWrite,
    ?cqHeadWriteExport, ?ringCfgWrite, ?ringBaseWrite, ?timeSnapWrite, ?fltUnreadAck, ?fltForce, ?fltSevWrite, ?clkSelWrite,
    ?clkForceWrite, ?clkMeterStart, ?clkGateWrite, ?gateForceClose, ?gateForceCloseRead, ?pwrPfCfgWrite, ?islandCrossingRead,
    ?islandCrossingWrite, ?stallLimit, ?strRecover, ?strRetryPrimary⟩
  case readWords =>
    intro cmd nrd addr s hserves hidle hcmd hlow halign hout
    refine (exec_hostTransaction_read [] nrd hserves hidle hcmd hlow hout).trans ?_
    simp only [addressed_aligned s false cmd halign, halign, Nat.sub_zero]
  case writeWord =>
    intro cmd addr v s hserves hidle hcmd hlow halign hwin hheld hcross hout
    refine (exec_hostTransaction_write [v] 0 hserves hidle hcmd hlow hwin).trans ?_
    rw [addressed_aligned s true cmd halign, halign, Nat.sub_zero]
    exact writeWords_one hheld hcross hout
  case windowReads =>
    exact fun _ _ _ _ hserves hidle hcmd hlow hin => exec_hostTransaction_windowRead [] _ hserves hidle hcmd hlow hin
  case windowWrites =>
    exact fun _ _ wr _ hserves hidle hcmd hlow hin => exec_hostTransaction_windowWrite wr 0 hserves hidle hcmd hlow hin
  case hcsRise => exact fun _ _ h => onlyIf_holds h
  case registerWrite =>
    exact fun _ v _ hserves hlow halign hheld hout hzero => exec_registerWrite_eq_regWrite v hserves hlow halign hheld hout hzero
  case bnwOutletWrite =>
    intro v s hserves hfree
    refine (hostWrite_plain v hserves (by decide) (by decide) (by decide) (by decide)).trans ?_
    rw [regWrite_bnwOutlet, bnwSelect_unlocked _ hfree, Nat.mod_mod_of_dvd v (by decide)]
  case doorbellWrite =>
    intro n t s hserves hpause hon hroom
    have hword : t % 2 ^ 32 % 65536 = t % 65536 := Nat.mod_mod_of_dvd t (by decide)
    rw [show 0x100C + 64 * n.val = 0x1000 + (64 * n.val + 0x0C) by omega, hostWrite_ring hserves hpause (by omega), ringWrite_db,
      doorbell_taken hon (by rw [hword]; exact hroom), hword]
  case cqHeadWrite =>
    intro n h s hserves hpause hon hin hexport
    have hword : h % 2 ^ 32 % 65536 = h % 65536 := Nat.mod_mod_of_dvd h (by decide)
    rw [show 0x1014 + 64 * n.val = 0x1000 + (64 * n.val + 0x14) by omega, hostWrite_ring hserves hpause (by omega), ringWrite_cqHead,
      headWrite_plain hon (by rw [hword]; exact hin) hexport, hword]
  case cqHeadWriteExport =>
    intro h x s hserves hpause hon hin hmoved hexport
    have hword : h % 2 ^ 32 % 65536 = h % 65536 := Nat.mod_mod_of_dvd h (by decide)
    rw [show 0x1014 + 64 * (14 : PNum).val = 0x1000 + (64 * (14 : PNum).val + 0x14) by decide, hostWrite_ring hserves hpause (by decide),
      ringWrite_cqHead, headWrite_export hon (by rw [hword]; exact hin) rfl (by rw [hword]; exact hmoved) hexport, hword]
  case ringCfgWrite =>
    intro n v s hserves hpause hoff hv hen hlayout
    refine (exec_ringCfgWrite n hserves hpause hv).trans ?_
    simp only [ringCfgWrite, hoff, hen, hlayout, ne_eq, not_true_eq_false, if_true, if_false]
  case ringBaseWrite =>
    intro n v s hserves hpause hoff hv
    refine (exec_ringBaseWrite n hserves hpause hv).trans ?_
    simp only [ringBaseWrite, hoff, ne_eq, not_true_eq_false, decide_false, Bool.false_and, Bool.false_eq_true, if_false]
  case timeSnapWrite =>
    intro v s hserves hon hgate hodd
    have hbit : bit (v % 2 ^ 32) 0 = true := by
      rw [bit, Nat.testBit_zero, decide_eq_true_eq]
      omega
    have hopen : s.zeroed 0x7000 = false := by simp [State.zeroed, hon, hgate]
    refine (hostWrite_register v hserves (by decide) (by decide) hopen).trans (congrArg _ ?_)
    exact if_pos hbit
  case fltUnreadAck =>
    intro m v s hserves hm
    rw [if_pos hm, show 0x2020 + 4 * m = 0x2000 + (0x20 + 4 * m) by omega, hostWrite_flt v hserves (by omega), fltWrite_unread s _ hm,
      unreadAck, Nat.mod_mod]
  case fltForce =>
    intro m v s hserves hm
    rw [if_pos hm, show 0x2030 + 4 * m = 0x2000 + (0x30 + 4 * m) by omega, hostWrite_flt v hserves (by omega), fltWrite_force s _ hm]
  case fltSevWrite =>
    intro m v s hserves hm
    have haddr : 0x2040 + 4 * m = 0x2000 + (0x40 + 4 * m) := by omega
    rw [if_pos hm, congrArg (s.hostWrite · v) haddr, hostWrite_flt v hserves (by omega), fltWrite_sev s _ hm]
  case clkSelWrite =>
    intro v s hserves
    refine (hostWrite_clk (off := 0x04) v hserves (by decide) (.inl (by decide))).trans (congrArg _ ?_)
    rw [State.clkWrite, selWrite, Nat.mod_mod_of_dvd v (by decide)]
  case clkForceWrite =>
    intro v s hserves hv
    refine (hostWrite_clk (off := 0x08) v hserves (by decide) (.inl (by decide))).trans (congrArg _ ?_)
    rw [State.clkWrite, forceClkWrite, Nat.mod_mod_of_dvd v (by decide), Nat.mod_eq_of_lt hv]
  case clkMeterStart =>
    intro tgt ref s hserves hgate hidle htgt href
    have hword : (2 ^ 31 + 256 * tgt + ref) % 2 ^ 32 = 2 ^ 31 + 256 * tgt + ref := Nat.mod_eq_of_lt (by omega)
    have htarget : (2 ^ 31 + 256 * tgt + ref) / 256 % 16 = tgt := by omega
    have hreference : (2 ^ 31 + 256 * tgt + ref) % 16 = ref := by omega
    have hstart : bit (2 ^ 31 + 256 * tgt + ref) 31 = true := by
      rw [bit, Nat.testBit_eq_decide_div_mod_eq, decide_eq_true_eq]
      omega
    refine (hostWrite_clk (off := 0x18) _ hserves (by decide) (.inr (.inr hgate))).trans (congrArg _ ?_)
    rw [hword, State.clkWrite, meterWrite, htarget, hreference]
    refine if_pos ?_
    rw [hstart, hidle, decide_eq_true htgt, decide_eq_true href]
    rfl
  case clkGateWrite =>
    intro v s hserves hv
    refine (hostWrite_clk (off := 0x28) v hserves (by decide) (.inr (.inl (by decide)))).trans (congrArg _ ?_)
    rw [Nat.mod_eq_of_lt hv]
    rfl
  case gateForceClose =>
    intro _ _ h1 h2
    simp only [h1, h2, if_false, Bool.false_eq_true, Bool.not_true]
  case gateForceCloseRead =>
    intro g x s hwaits hxact hread
    simp only [hwaits, hxact, Bool.not_true, Bool.false_eq_true, if_false, State.goOn, hread, if_true]
  case pwrPfCfgWrite =>
    intro t s hserves hlo hhi hvsup
    have hword : t % 2 ^ 32 = t := Nat.mod_eq_of_lt (by omega)
    have hthresh : t % 512 = t := Nat.mod_eq_of_lt (by omega)
    have hset : ¬t = 0 := by omega
    have hkept : (t != 0 && (decide (t < 48) || decide (300 < t) || decide (s.pwr.vsup ≤ 10 * t + 50))) = false := by simp; omega
    have hclear : bit t 9 = false := Nat.testBit_lt_two_pow (by omega)
    refine (hostWrite_plain t hserves (by decide) (by decide) (by decide) (by decide)).trans (congrArg _ ?_)
    rw [hword]
    change pfCfgWrite s t = _
    simp only [pfCfgWrite, hthresh, hset, hkept, hclear, decide_false, Bool.or_self, Bool.false_eq_true, if_false, Bool.not_false,
      Bool.and_true, Bool.or_false]
  case islandCrossingRead =>
    intro x s hxact hheld hruns hread
    simp only [hxact, hheld, hruns, hread, Bool.not_true, Bool.or_self, Bool.false_eq_true, if_false, State.serveWord, State.goOn, if_true]
  case islandCrossingWrite =>
    intro x v s hxact hheld hruns hread hwr hout
    simp only [hxact, hheld, hruns, hread, hwr, Bool.not_true, Bool.or_self, Bool.false_eq_true, if_false, State.serveWord, State.goOn]
    simp only [hout, Bool.false_eq_true, if_false, List.drop_one, List.tail_cons, List.headD_cons]
    rfl
  case stallLimit =>
    intro x s hxact hheld hcross hread
    simp only [hxact, hheld, hcross, Bool.not_true, Bool.or_self, Bool.false_eq_true, if_false, State.goOn, hread, if_true]
  case strRecover =>
    intro s hserves hidle
    refine (hostWrite_plain 2 hserves (by decide) (by decide) (by decide) (by decide)).trans (congrArg _ ?_)
    exact if_neg (by simp [hidle])
  case strRetryPrimary =>
    intro s hserves hidle
    refine (hostWrite_plain 1 hserves (by decide) (by decide) (by decide) (by decide)).trans (congrArg _ ?_)
    exact if_neg (by simp [hidle])

end Sys2Proof.Proofs
end

section
/-! PROOFS. The rows of the rings and of the Base-Note Window. -/

namespace Sys2Proof.Machine

/-- An entry that does not chain ends its submission (R78). -/
theorem chainFrom_single {s : State} {n : PNum} {k i : Nat} (hsome : k ≠ 0) (hlast : bit (u8 (sqEntry s n i) 4) 2 = false) :
    chainFrom s n k i = ([sqEntry s n i], true) := by
  match k, hsome with
  | k + 1, _ => simp only [chainFrom, hlast, Bool.false_eq_true, if_false]

/-- What lets a pair take the next submission up: firmware serves it, it is on, holds nothing back, and its completion ring has
room (R74). -/
def State.fetches (s : State) (n : PNum) : Bool :=
  !(!s.fwRuns || s.fw.ho.isSome || (s.pr n).state ≠ 1 || ringCount (s.pr n).sqHead (s.pr n).sqTail = 0 || !(s.pr n).held.isEmpty ||
    s.startedOn n ≠ 0 || s.cqFree n ≤ s.reserved n)

/-- A submission of one entry with no parity error and a command of its pair, in order, is started (R74, R76, R78). -/
theorem fetch_single {s : State} {n : PNum} {par : List Nat} {c : Instr} (hready : s.fetches n = true)
    (hsome : ringCount (s.pr n).sqHead (s.pr n).sqTail ≠ 0) (hparity : par.getD 0 0 = 0)
    (hlast : bit (u8 (sqEntry s n (s.pr n).sqHead) 4) 2 = false) (hflags : bit (u8 (sqEntry s n (s.pr n).sqHead) 4) 0 = false)
    (hchain : chainOk [sqEntry s n (s.pr n).sqHead] true
      (ringCount (s.pr n).sqHead ((s.pr n).bells.headD (s.pr n).sqTail)) = true)
    (hpair : pairOfOpcode (u16 (sqEntry s n (s.pr n).sqHead) 0) = n) (hnfc : u16 (sqEntry s n (s.pr n).sqHead) 0 / 256 ≠ 13)
    (hcmd : commandOf (u16 (sqEntry s n (s.pr n).sqHead) 0) (reqOf [sqEntry s n (s.pr n).sqHead]) = some c) :
    fetch s n par = { s.setPr n ((s.pr n).consume 1) with started := s.started ++ [{
      pair := n, cmd := c, tag := u16 (sqEntry s n (s.pr n).sqHead) 2, bulk := (reqOf [sqEntry s n (s.pr n).sqHead]).bulk }] } := by
  have hparityOk : ((List.range 1).find? fun i => decide (2 ≤ par.getD i 0)) = none := by
    rw [List.find?_eq_none]
    intro i hi
    obtain rfl : i = 0 := by simpa using hi
    simp only [hparity]
    decide
  have hretry : parityRetries s n par (List.range 1) = s := by
    change (if par.getD 0 0 = 1 then _ else s) = s
    rw [hparity]
    rfl
  unfold fetch
  refine (if_neg (by rw [State.fetches, Bool.not_eq_true'] at hready; rw [hready]; decide)).trans ?_
  simp only [chainFrom_single hsome hlast, List.length_singleton, hparityOk, hretry, List.headD_cons, hcmd, hpair, hflags, hnfc, hchain,
    ne_eq, not_true_eq_false, decide_false, Bool.false_and, Bool.or_self, Bool.not_true, Bool.false_eq_true, if_false]
  rfl

end Sys2Proof.Machine

namespace Sys2Proof.Proofs

open Sys2Proof.Machine

/-- Settles O43: a submission of one entry is fetched by `fetch_single`; the bytes of the window are those of `bnwAnswer` and `bnwPut`.
-/
theorem ringAndWindowRowsComplete : Obligations.RingAndWindowRowsComplete := by
  delta Obligations.RingAndWindowRowsComplete exec
  dsimp only [execPairDrainEnd, execSubmissionFetch, execEventQueueDrain, execBnwRead, execBnwEnergy0Read, execBnwWrite,
    execBnwSetpointWrite, execBnwEnergyRefresh]
  refine ⟨?pairDrainEnd, ?submissionFetch, ?eventQueueDrain, ?bnwRead, ?bnwReadCode, ?bnwEnergy0Read, ?bnwWrite, ?bnwSetpointWrite,
    ?bnwEnergyRefresh⟩
  case pairDrainEnd =>
    intro n s hdraining hnone hidle
    exact congrArg _ (if_pos (by simp [hdraining, hnone, hidle]))
  case submissionFetch =>
    intro n c par s hrun hho hon hheld hidle hroom hsome hparity hlast hflags hchain hpair hnfc hcmd
    have hready : s.fetches n = true := by simp [State.fetches, hrun, hho, hon, hheld, hidle, hsome, hroom]
    exact congrArg _ (fetch_single hready hsome hparity hlast hflags hchain hpair hnfc hcmd)
  case eventQueueDrain =>
    intro n h s hheld hroom
    rw [hheld]
    refine congrArg _ ?_
    simp only [List.length_singleton, drainHeld, hheld, hroom, if_true]
  case bnwRead =>
    intro off s hserves hoff hcode hreg
    exact onlyIf_answers (by simp [hserves, hoff]) (bnwAnswer_register hcode hreg)
  case bnwReadCode =>
    intro off nth v late count s hserves hoff hcode
    exact onlyIf_answers (by simp [hserves, hoff]) (bnwAnswer_code hcode)
  case bnwEnergy0Read =>
    intro s hserves hcode
    exact onlyIf_answers hserves (bnwAnswer_energy hcode)
  case bnwWrite =>
    intro v s hserves hon hpause hrun hlo hhi
    have hbyte : v < 256 := by omega
    exact onlyIf_answers (by simp [hserves, hbyte]) (bnwPut_setpoint hon hpause hrun hlo hhi)
  case bnwSetpointWrite =>
    intro v s hserves hon hpause hrun hlo hhi
    have hbyte : v < 256 := by omega
    exact onlyIf_answers (by simp [hserves, hbyte]) (bnwPut_setpoint hon hpause hrun hlo hhi)
  case bnwEnergyRefresh => exact fun _ h => onlyIf_holds h

end Sys2Proof.Proofs
end

section
/-! PROOFS. The rows of the network and of network time. -/

namespace Sys2Proof.Proofs

open Sys2Proof.Machine

/-- Settles O44: row by row, the conditions of the clause decide every branch of the row. A frame for the port itself is delivered and
neither forwarded nor answered. -/
theorem networkRowsComplete : Obligations.NetworkRowsComplete := by
  delta Obligations.NetworkRowsComplete exec
  dsimp only [execSysTimeSnapshot, execNetConfigSet, execNetConfigGet, execNetStatusGet, execNetToutSet, execNetToutGet, execNetTcapSet,
    execNetTcapRead, execNetTimeSet, execNetStats, execEthFrameRx, execPtpMessage, execTxTimestamp, execLaunchTime, execToutEdge,
    execTcapEdge, execPhyLinkChange, execAddressAgeing, execPtpSyncTimeout, execNetHoldover]
  refine ⟨?sysTimeSnapshot, ?netConfigSet, ?netConfigGet, ?netStatusGet, ?netToutSet, ?netToutGet, ?netTcapSet, ?netTcapRead, ?netTimeSet,
    ?netStats, ?ethFrameRxDamaged, ?ethFrameRx, ?ptpMessageFast, ?ptpMessageSlow, ?txTimestampLost, ?txTimestamp, ?launchTime, ?toutEdge,
    ?tcapEdgeLost, ?tcapEdge, ?phyLinkChange, ?addressAgeing, ?ptpSyncTimeout, ?netHoldover⟩
  case sysTimeSnapshot => exact fun _ _ hq => mail_served hq
  case netConfigSet => exact fun _ _ hq => mail_served hq
  case netConfigGet => exact fun _ _ hq => mail_served hq
  case netStatusGet => exact fun _ _ hq h => netMail_served hq h
  case netToutSet => exact fun _ _ hq h => netMail_served hq h
  case netToutGet => exact fun _ _ hq h => netMail_served hq h
  case netTcapSet => exact fun _ _ hq h => netMail_served hq h
  case netTcapRead => exact fun _ _ hq h => netMail_served hq h
  case netTimeSet => exact fun _ _ hq h1 h2 => netMail_answers hq h1 (if_neg h2)
  case netStats => exact fun _ _ hq h => netMail_served hq h
  case ethFrameRxDamaged => exact fun _ _ _ _ h1 h2 => congrArg _ ((if_pos h1).trans (if_pos h2))
  case ethFrameRx =>
    intro port residence f s hon hfcs hmine hgroup htag harp
    have hdst : (f.dst == ownMac) = true := beq_iff_eq.mpr hmine
    have hanswer (g h : Net → Net) : ((s.modNet g).modNet h).arpAnswer f = none := harp
    refine onlyIf_answers hon ?_
    simp only [hfcs, ne_eq, not_true_eq_false, if_false, hgroup, Bool.false_eq_true, htag, hdst, Option.getD_none, Bool.true_or,
      Bool.not_true, Bool.false_and, BEq.rfl, Bool.and_self, if_true]
    simp only [hanswer, ite_self, Option.isSome_none, Bool.false_eq_true, if_false]
    rfl
  case ptpMessageFast =>
    intro _ _ h1 h2
    simp only [onlyIf, h1, h2, if_true]
  case ptpMessageSlow =>
    intro _ _ h1 h2
    simp only [onlyIf, h1, h2, if_true, if_false, Bool.false_eq_true]
  case txTimestampLost => exact fun _ _ _ _ _ h1 h2 => congrArg _ ((if_pos h1).trans (if_pos h2))
  case txTimestamp =>
    intro port ident sec ns s hon hroom hfast
    have hspace : ¬16 ≤ (s.net.txq.getD port []).length := Nat.not_le_of_lt hroom
    refine onlyIf_answers hon ?_
    simp only [hspace, hfast, if_true, if_false]
  case launchTime =>
    intro port x t s hon hqueue hdue
    have hnow : ¬(decide (s.net.sec < x.sec) || decide (s.net.sec = x.sec) && decide (s.net.ns < x.ns)) = true := by simpa using hdue
    refine onlyIf_answers hon ?_
    simp only [hqueue]
    exact if_neg hnow
  case toutEdge => exact fun _ _ h => onlyIf_holds h
  case tcapEdgeLost => exact fun _ _ _ _ h1 h2 => congrArg _ ((if_pos h1).trans (if_pos h2))
  case tcapEdge =>
    intro k rising frac s hon hroom hevt
    have hspace : ¬8 ≤ (s.net.tcaps.getD k {}).queue.length := Nat.not_le_of_lt hroom
    refine onlyIf_answers hon ?_
    simp only [hspace, hevt, Bool.false_eq_true, if_false]
  case phyLinkChange => exact fun _ _ _ _ h => onlyIf_holds h
  case addressAgeing => exact fun _ _ h => onlyIf_holds h
  case ptpSyncTimeout => exact fun _ h => onlyIf_holds h
  case netHoldover => exact fun _ h => onlyIf_holds h

end Sys2Proof.Proofs
end

section
/-! PROOFS. The rows of the outlet sessions, locks and authorisation. -/

namespace Sys2Proof.Proofs

open Sys2Proof.Machine

/-- Settles O45: row by row, the conditions of the clause decide every branch of the row; those of the commands turn on the state of the
session. -/
theorem sessionRowsComplete : Obligations.SessionRowsComplete := by
  delta Obligations.SessionRowsComplete exec
  dsimp only [execOutletConfigSet, execOutletConfigGet, execOutletStatusGet, execOutletAuth, execOutletStop, execOutletService,
    execOutletUnlock, execPilotStateAccept, execPpAccept, execLockFeedbackChange, execWeldWindowEnd, execLockPulse, execLockPulseEnd,
    execLockFeedbackCheck, execLockRetry, execIdentification, execHeldIdentExpiry, execAuthTimeout, execLockBrakeEnd,
    execFaultedPresenceClear]
  refine ⟨?outletConfigSet, ?outletConfigGet, ?outletStatusGet, ?outletAuthPlugged, ?outletAuth, ?outletStop, ?outletStopAuthorising,
    ?outletService, ?outletUnlock, ?pilotStateAccept, ?ppAccept, ?lockFeedbackChange, ?weldWindowEnd, ?lockPulse, ?lockPulseEnd,
    ?lockFeedbackCheck, ?lockRetry, ?identification, ?heldIdentExpiry, ?authTimeout, ?lockBrakeEnd, ?faultedPresenceClear⟩
  case outletConfigSet => exact fun _ _ hq h => mail_answers hq (if_neg h)
  case outletConfigGet => exact fun _ _ hq => mail_served hq
  case outletStatusGet => exact fun _ _ hq => mail_served hq
  case outletAuthPlugged =>
    intro q s hq hseq hst
    have hplugged : ¬((s.o (outletArg q.payload 0)).ses.st != .plugged) = true := by simp [hst]
    refine mail_answers hq ?_
    rw [if_neg (not_not_intro hseq), if_neg hplugged]
    simp only [beq_iff_eq]
  case outletAuth =>
    intro q s hq hseq hst hpend hasked
    refine mail_answers hq ?_
    simp only [hseq, hst, hpend, hasked, ne_eq, not_false_eq_true, if_true, BEq.rfl, Bool.and_self, beq_iff_eq]
  case outletStop =>
    intro q s hq hst
    refine mail_answers hq ?_
    obtain hst | hst | hst := hst <;> simp only [hst]
  case outletStopAuthorising =>
    intro _ _ hq h
    rw [mail_served hq]
    simp only [h]
  case outletService => exact fun _ _ hq h1 h2 => mail_answers hq ((if_neg h1).trans (if_neg h2))
  case outletUnlock => exact fun _ _ hq h1 h2 => mail_answers hq ((if_neg h1).trans (if_neg h2))
  case pilotStateAccept => exact fun _ _ h => onlyIf_holds h
  case ppAccept => exact fun _ _ h => onlyIf_holds h
  case lockFeedbackChange => exact fun _ _ _ h => onlyIf_holds h
  case weldWindowEnd =>
    exact fun _ _ h => onlyIf_holds h
  case lockPulse => exact fun _ _ h => onlyIf_holds h
  case lockPulseEnd => exact fun _ _ h => onlyIf_holds h
  case lockFeedbackCheck => exact fun _ _ h => onlyIf_holds h
  case lockRetry => exact fun _ _ h => onlyIf_holds h
  case identification => exact fun _ _ _ _ h => onlyIf_holds h
  case heldIdentExpiry => exact fun _ _ => rfl
  case authTimeout => exact fun _ _ h => onlyIf_holds h
  case lockBrakeEnd => exact fun _ _ h => onlyIf_holds h
  case faultedPresenceClear => exact fun _ _ h => onlyIf_holds h

end Sys2Proof.Proofs
end

section
/-! PROOFS. The rows of the pilot and of the switching sequencer. -/

namespace Sys2Proof.Proofs

open Sys2Proof.Machine

/-- Settles O46: row by row, the conditions of the clause decide every branch of the row. A mirror contact is that of an outlet below
24, and else of a site contactor. -/
theorem sequencerRowsComplete : Obligations.SequencerRowsComplete := by
  delta Obligations.SequencerRowsComplete exec
  dsimp only [execPilotPeriod, execPilotLevel, execPilotDiode, execPpSample, execMirrorContactChange, execClosingStart,
    execClosingConfirmed, execClosingTimeout, execSswReadyCheck, execSswEnableRetry, execOpeningStart, execContactorRelease,
    execPresenceDetect, execDeferredOpening]
  refine ⟨?pilotPeriod, ?pilotLevel, ?pilotDiode, ?ppSample, ?mirrorContactChange, ?mirrorContactShut, ?siteContactChange, ?closingStart,
    ?closingConfirmed, ?closingTimeout, ?sswReadyCheck, ?sswEnableRetry, ?openingStart, ?contactorRelease, ?presenceDetect,
    ?deferredOpening⟩
  case pilotPeriod => exact fun _ _ _ _ h => onlyIf_holds h
  case pilotLevel => exact fun _ _ h => onlyIf_holds h
  case pilotDiode => exact fun _ _ h => onlyIf_holds h
  case ppSample => exact fun _ _ _ h => onlyIf_holds h
  case mirrorContactChange =>
    intro o closed s hshut
    simp only [o.isLt, dif_pos, hshut, Bool.false_eq_true, if_false]
  case mirrorContactShut =>
    intro o s hopen hclosing
    simp only [o.isLt, dif_pos, hopen, hclosing, BEq.rfl, Bool.and_self, if_true]
    rfl
  case siteContactChange =>
    intro j closed s
    have hsite : ¬24 + j < 24 := by omega
    simp only [hsite, dif_neg, Nat.add_sub_cancel_left, not_false_eq_true]
  case closingStart => exact fun _ _ h => onlyIf_holds h
  case closingConfirmed => exact fun _ _ h => onlyIf_holds h
  case closingTimeout => exact fun _ _ h => onlyIf_holds h
  case sswReadyCheck => exact fun _ _ _ h => onlyIf_holds h
  case sswEnableRetry => exact fun _ _ h => onlyIf_holds h
  case openingStart => exact fun _ _ _ h => onlyIf_holds h
  case contactorRelease => exact fun _ _ h => onlyIf_holds h
  case presenceDetect => exact fun _ _ _ => rfl
  case deferredOpening => exact fun _ _ h => onlyIf_holds h

end Sys2Proof.Proofs
end

section
/-! PROOFS. The rows of SLAC, the power-line frames and ISO 15118. -/

namespace Sys2Proof.Proofs

open Sys2Proof.Machine

/-- Settles O47: row by row, the conditions of the clause decide every branch of the row; those of SLAC turn on the matching run that is
open. -/
theorem communicationRowsComplete : Obligations.CommunicationRowsComplete := by
  delta Obligations.CommunicationRowsComplete exec
  dsimp only [execHlcConfigSet, execHlcConfigGet, execHlcSlacSet, execHlcStatusGet, execHlcExportSet, execHlcCertFetch, execHlcCertReply,
    execHlcStatsGet, execPlcFrameRx, execPlcTxGrant, execPlcTxDiscard, execBeaconTx, execCmSlacParmReq, execCmMnbcSoundInd,
    execSlacDecision, execCmValidateReq, execCmSlacMatchReq, execSlacInitExpiry, execSessionSetupTimeout, execV2gSessionLost,
    execSdpRequest, execSupportedAppProtocol, execV2gRequest, execServiceSelectionReq, execV2gStopRequest, execCertReq,
    execCertReplyTimeout]
  refine ⟨?hlcConfigSet, ?hlcConfigGet, ?hlcSlacSet, ?hlcStatusGet, ?hlcExportSet, ?hlcCertFetch, ?hlcCertReply, ?hlcStatsGet,
    ?plcFrameRx, ?plcTxGrant, ?plcTxGrantBusy, ?plcTxDiscard, ?beaconTx, ?cmSlacParmReq, ?cmSlacParmReqAgain, ?cmMnbcSoundInd,
    ?slacDecision, ?cmValidateReq, ?cmSlacMatchReq, ?slacInitExpiry, ?sessionSetupTimeout, ?v2gSessionLost, ?sdpRequest,
    ?supportedAppProtocol, ?v2gRequest, ?v2gRequestFailed, ?serviceSelectionReq, ?v2gStopRequest, ?certReq, ?certReplyTimeout⟩
  case hlcConfigSet => exact fun _ _ hq h => mail_answers hq (if_neg h)
  case hlcConfigGet => exact fun _ _ hq => mail_served hq
  case hlcSlacSet => exact fun _ _ hq => mail_served hq
  case hlcStatusGet => exact fun _ _ hq => mail_served hq
  case hlcExportSet =>
    intro q s hq hst
    refine mail_answers hq ?_
    obtain hst | hst | hst := hst <;> exact if_pos (by rw [hst]; decide)
  case hlcCertFetch =>
    intro _ _ hq h1 _ h2
    rw [mail_served hq]
    simp only [h1, h2, if_false, Bool.false_eq_true]
  case hlcCertReply => exact fun _ _ hq h1 h2 => mail_answers hq ((if_neg h1).trans (if_neg h2))
  case hlcStatsGet => exact fun _ _ hq => mail_served hq
  case plcFrameRx => exact fun _ _ _ h => onlyIf_holds h
  case plcTxGrant =>
    intro o f s hon hwait houtlet hfree hlanes
    have hroom : ¬s.plc.txLanes ≤ 0 := by omega
    refine onlyIf_answers hon ?_
    simp [hwait, houtlet, hfree, hroom]
  case plcTxGrantBusy => exact fun _ _ _ h1 h2 => congrArg _ ((if_pos h1).trans (if_pos h2))
  case plcTxDiscard =>
    intro _ _ _ h
    simp only [h]
  case beaconTx => exact fun _ _ h => onlyIf_holds h
  case cmSlacParmReq =>
    intro o runid mac s hon hrun
    refine onlyIf_answers hon ?_
    simp only [hrun, Option.filter_none]
  case cmSlacParmReqAgain =>
    intro o runid mac r s hon hrun hopen
    refine onlyIf_answers hon ?_
    simp only [hrun, hopen, Option.filter_some, Option.isNone_none, if_true]
  case cmMnbcSoundInd =>
    intro o l sounds r s hon hrun hopen
    refine onlyIf_answers hon ?_
    simp only [hrun, hopen, ne_eq, not_true_eq_false, decide_false, Option.isSome_none, Bool.or_self, Bool.false_eq_true, if_false]
  case slacDecision =>
    intro o r s hon hrun hopen
    refine onlyIf_answers hon ?_
    simp only [hrun, hopen, Option.isSome_none, Bool.false_eq_true, if_false]
  case cmValidateReq => exact fun _ _ _ _ h => onlyIf_holds h
  case cmSlacMatchReq =>
    intro o r s hon hrun hmatched
    refine onlyIf_answers hon ?_
    simp only [hrun, hmatched, ne_eq, not_true_eq_false, decide_false, Bool.or_self, Bool.false_eq_true, if_false]
  case slacInitExpiry => exact fun _ _ h => onlyIf_holds h
  case sessionSetupTimeout => exact fun _ _ h => onlyIf_holds h
  case v2gSessionLost => exact fun _ _ h => onlyIf_holds h
  case sdpRequest => exact fun _ _ _ h => onlyIf_holds h
  case supportedAppProtocol => exact fun _ _ _ _ _ h => onlyIf_holds h
  case v2gRequest => exact fun _ _ _ h1 h2 => congrArg _ ((if_pos h1).trans (if_pos h2))
  case v2gRequestFailed =>
    intro _ _ _ h1 h2
    simp only [onlyIf, h1, h2, if_true, if_false, Bool.false_eq_true]
  case serviceSelectionReq => exact fun _ _ _ _ h => onlyIf_holds h
  case v2gStopRequest => exact fun _ _ _ h => onlyIf_holds h
  case certReq => exact fun _ _ _ _ h => onlyIf_holds h
  case certReplyTimeout => exact fun _ _ h => onlyIf_holds h

end Sys2Proof.Proofs
end

section
/-! PROOFS. The rows of the protection of the outlets. -/

namespace Sys2Proof.Proofs

open Sys2Proof.Machine

/-- Settles O48: row by row, the conditions of the clause decide every branch of the row; the residual currents turn on their threshold
and whether the comparison is armed. -/
theorem protectionRowsComplete : Obligations.ProtectionRowsComplete := by
  delta Obligations.ProtectionRowsComplete exec
  dsimp only [execProtConfigSet, execProtConfigGet, execProtStatusGet, execProtSelftest, execApexTrip, execApexLatchSeen, execDcEstimate,
    execRcFrontend, execDcSlowUpdate, execDcFastUpdate, execRcWarn, execAcResidualUpdate, execSswDesat, execOverload, execSelftestStart,
    execSelftestDone, execThresholdReload]
  refine ⟨?protConfigSet, ?protConfigGet, ?protStatusGet, ?protSelftest, ?apexQuiet, ?apexRise, ?apexLatchSeen, ?dcEstimate, ?rcFrontend,
    ?dcSlowUpdate, ?dcFastUpdate, ?dcFastTrip, ?rcWarn, ?acResidualUpdate, ?acResidualTrip, ?sswDesat, ?overload, ?selftestStart,
    ?selftestRepeats, ?selftestPasses, ?thresholdReload⟩
  case protConfigSet =>
    intro q s hq hallowed hmode hcoil
    exact mail_answers hq ((if_neg hallowed).trans ((if_neg hmode).trans (if_neg hcoil)))
  case protConfigGet => exact fun _ _ hq => mail_served hq
  case protStatusGet => exact fun _ _ hq => mail_served hq
  case protSelftest => exact fun _ _ hq h1 h2 => mail_answers hq ((if_neg h1).trans (if_neg h2))
  case apexQuiet => exact fun _ _ _ _ h => congrArg _ (if_pos h)
  case apexRise => exact fun _ _ _ _ h => congrArg _ (if_neg h)
  case apexLatchSeen => exact fun _ _ h => onlyIf_holds h
  case dcEstimate => exact fun _ _ _ _ => rfl
  case rcFrontend => exact fun _ _ h => onlyIf_holds h
  case dcSlowUpdate => exact fun _ _ _ => rfl
  case dcFastUpdate =>
    intro o mean s hlow
    have hhigh : ¬450 ≤ mean.natAbs := Nat.not_le_of_lt hlow
    simp only [hlow, hhigh, decide_true, decide_false, Bool.true_or, Bool.false_and, Bool.false_eq_true, if_false]
  case dcFastTrip =>
    intro o mean s hhigh harmed htest
    have hlow : ¬mean.natAbs < 450 := Nat.not_lt_of_le hhigh
    have hkept : (s.modProt o fun p => { p with dcFast := mean, fastArmed := false || s.rcdTest o }).rcdTest o = false := htest
    simp only [hlow, hhigh, harmed, hkept, decide_true, decide_false, Bool.not_false, Bool.and_self, if_true]
    rw [htest]
    rfl
  case rcWarn => exact fun _ _ h => onlyIf_holds h
  case acResidualUpdate =>
    intro o rms s hlow hinj
    have hhit : ¬8 * s.rcAc o ≤ rms := Nat.not_le_of_lt hlow
    simp only [hhit, hinj, decide_false, Bool.not_false, Bool.false_and, Bool.false_eq_true, if_false]
  case acResidualTrip =>
    intro o rms s hhit harmed hinj
    simp only [hhit, hinj, harmed, decide_true, Bool.not_true, Bool.and_self, Bool.false_eq_true, if_false, if_true]
  case sswDesat => exact fun _ _ h => onlyIf_holds h
  case overload => exact fun _ _ _ h => onlyIf_holds h
  case selftestStart => exact fun _ _ _ h => onlyIf_holds h
  case selftestRepeats =>
    intro o m s hrun hfails hfirst
    refine onlyIf_answers hrun ?_
    exact if_pos (by simp [hfails, hfirst])
  case selftestPasses =>
    intro o m s hrun hpasses hfirst htag
    refine onlyIf_answers hrun ?_
    simp only [State.testEnds, hpasses, hfirst, htag, ne_eq, not_true_eq_false, decide_false, Bool.false_and, Bool.false_eq_true, BEq.rfl,
      if_true, if_false]
    rfl
  case thresholdReload => exact fun _ => rfl

end Sys2Proof.Proofs
end

section
/-! PROOFS. The rows of the safety island and of the safety configuration. -/

namespace Sys2Proof.Proofs

open Sys2Proof.Machine

/-- Settles O49: row by row, the conditions of the clause decide every branch of the row; a step of the pair test turns on its verdict
and on the pair. -/
theorem safetyIslandRowsComplete : Obligations.SafetyIslandRowsComplete := by
  delta Obligations.SafetyIslandRowsComplete exec
  dsimp only [execSafeStatusGet, execSafeConfigRead, execSafeConfigWrite, execSafeConfirm, execSafeModeSet, execSafePasswordSet,
    execSafeLogRead, execSafeWeldResolve, execSafeSiteSet, execIslandSafeState, execSinSample, execSinAccept, execSinDisc,
    execSiteRelease, execSiteFbCheck, execWeldWatchEnd, execPairTestStepEnd, execPullinEnd, execSiteCloseCheck, execCoilCheck,
    execCoilUndercurrent, execPasswordLockoutEnd, execSafeStatePairsOff, execVkcUv, execConfirmKeypadTimeout, execConfirmKeypadLockoutEnd]
  refine ⟨?safeStatusGet, ?safeConfigRead, ?safeConfigWrite, ?safeConfirm, ?safeModeSet, ?safePasswordSet, ?safeLogRead, ?safeWeldResolve,
    ?safeSiteSetClose, ?safeSiteSetClosed, ?safeSiteSetOpen, ?islandSafeState, ?sinSample, ?sinAccept, ?sinDisc, ?siteRelease,
    ?siteFbCheck, ?weldWatchWelded, ?weldWatchResolved, ?pairTestStepA, ?pairTestStepB, ?siteTestStepB, ?pullinEnd, ?siteCloseCheck,
    ?coilCheck, ?coilUndercurrent, ?passwordLockoutEnd, ?safeStatePairsOff, ?vkcUv, ?confirmKeypadTimeout, ?confirmKeypadLockoutEnd⟩
  case safeStatusGet => exact fun _ _ hq => mail_served hq
  case safeConfigRead => exact fun _ _ hq => mail_served hq
  case safeConfigWrite =>
    intro q z hq himage hcreds hconflict
    exact mail_answers hq ((if_neg himage).trans ((if_neg hcreds).trans (if_neg hconflict)))
  case safeConfirm => exact fun _ _ hq h1 h2 h3 => mail_answers hq ((if_neg h1).trans ((if_neg h2).trans (if_neg h3)))
  case safeModeSet =>
    intro q z hq hcreds hopen
    exact mail_answers hq ((if_neg hcreds).trans (if_neg hopen))
  case safePasswordSet => exact fun _ _ hq h => mail_answers hq (if_neg h)
  case safeLogRead => exact fun _ _ hq h1 h2 => mail_answers hq ((if_neg h1).trans (if_neg h2))
  case safeWeldResolve =>
    exact fun _ _ hq h1 h2 h3 h4 => mail_answers hq ((if_neg h1).trans ((if_neg h2).trans ((if_neg h3).trans (if_neg h4))))
  case safeSiteSetClose =>
    intro q s hq hused hclose hblocked hoff hready
    refine mail_answers hq ?_
    simp only [hused, hclose, hblocked, hoff, hready, BEq.rfl, Bool.not_true, Bool.false_and, Bool.false_eq_true, if_false, if_true]
  case safeSiteSetClosed =>
    intro q s hq hused hclose hblocked hon
    refine mail_answers hq ?_
    simp only [hused, hclose, hblocked, hon, BEq.rfl, Bool.not_true, Bool.false_eq_true, if_false, if_true]
  case safeSiteSetOpen =>
    intro q s hq hused hopen
    have hdir : (0 == 1) = false := rfl
    refine mail_answers hq ?_
    simp only [hused, hopen, hdir, Bool.not_true, Bool.false_eq_true, if_false]
  case islandSafeState => exact fun _ _ h => onlyIf_holds h
  case sinSample => exact fun _ _ _ _ => rfl
  case sinAccept => exact fun _ _ _ _ h => onlyIf_holds h
  case sinDisc => exact fun _ _ h => onlyIf_holds h
  case siteRelease => exact fun _ _ h => onlyIf_holds h
  case siteFbCheck => exact fun _ _ h => onlyIf_holds h
  case weldWatchWelded =>
    intro _ _ _ _ h1 h2
    simp only [onlyIf, h1, h2, if_true]
  case weldWatchResolved =>
    intro _ _ _ _ h1 h2
    simp only [onlyIf, h1, h2, if_true, if_false, Bool.false_eq_true]
  case pairTestStepA =>
    intro p khs kls coil s hp htestable hverdict
    have hon : (decide (p < 26) && s.pairTestable p && (!false || (s.pair p).testA) &&
        (decide (p < 24) || !false || s.pullinRoom)) = true := by
      simp [hp, htestable]
    refine onlyIf_answers hon ?_
    simp only [hverdict, Bool.not_false, if_true]
  case pairTestStepB =>
    intro p khs kls coil s hp htestable hstep hverdict
    have hon : (decide (p < 26) && s.pairTestable p && (!true || (s.pair p).testA) &&
        (decide (p < 24) || !true || s.pullinRoom)) = true := by
      simp [hp, htestable, hstep]
      omega
    refine onlyIf_answers hon ?_
    simp only [hverdict, hp, Bool.not_true, Bool.false_eq_true, if_true, if_false]
  case siteTestStepB =>
    intro p khs kls coil s hsite hp htestable hstep hroom hverdict
    have hon : (decide (p < 26) && s.pairTestable p && (!true || (s.pair p).testA) &&
        (decide (p < 24) || !true || s.pullinRoom)) = true := by
      simp [hp, htestable, hstep, hroom]
    have hbus : ¬p < 24 := Nat.not_lt_of_le hsite
    refine onlyIf_answers hon ?_
    simp only [hverdict, hbus, Bool.not_true, Bool.false_eq_true, if_false]
  case pullinEnd => exact fun _ _ h => onlyIf_holds h
  case siteCloseCheck => exact fun _ _ h => onlyIf_holds h
  case coilCheck => exact fun _ _ _ h => onlyIf_holds h
  case coilUndercurrent => exact fun _ _ h => onlyIf_holds h
  case passwordLockoutEnd => exact fun _ _ => rfl
  case safeStatePairsOff =>
    exact fun _ h => onlyIf_holds h
  case vkcUv => exact fun _ => rfl
  case confirmKeypadTimeout => exact fun _ => rfl
  case confirmKeypadLockoutEnd => exact fun _ => rfl

end Sys2Proof.Proofs
end

section
/-! PROOFS. The rows of the site budget and of the lattice. -/

namespace Sys2Proof.Proofs

open Sys2Proof.Machine

/-- Settles O50: row by row, the conditions of the clause decide every branch of the row; a lattice frame turns on its kind and on the
round last heard. -/
theorem budgetRowsComplete : Obligations.BudgetRowsComplete := by
  delta Obligations.BudgetRowsComplete exec
  dsimp only [execBudConfigSet, execBudConfigGet, execBudOutletSet, execBudOutletGet, execBudStatusGet, execBudExtload, execBudStepAt,
    execBudgetRound, execPauseHoldEnd, execExtloadLapse, execTimebaseToLine, execTimebaseToPtp, execLatConfigSet, execLatConfigGet,
    execLatStatusGet, execLatFrameRx, execStepInstant, execLatReportTx, execLatRoundClose, execLatShareTx]
  refine ⟨?budConfigSet, ?budConfigGet, ?budOutletSet, ?budOutletGet, ?budStatusGet, ?budExtload, ?budStepAt, ?budgetRound, ?pauseHoldEnd,
    ?extloadLapse, ?timebaseToLine, ?timebaseToPtp, ?latConfigSet, ?latConfigGet, ?latStatusGet, ?latFrameRxShare, ?latFrameRxReport,
    ?latFrameRxBad, ?stepInstant, ?latReportTx, ?latRoundClose, ?latShareTx⟩
  case budConfigSet => exact fun _ _ hq => mail_served hq
  case budConfigGet => exact fun _ _ hq => mail_served hq
  case budOutletSet => exact fun _ _ hq => mail_served hq
  case budOutletGet => exact fun _ _ hq => mail_served hq
  case budStatusGet => exact fun _ _ hq => mail_served hq
  case budExtload => exact fun _ _ hq => mail_served hq
  case budStepAt => exact fun _ _ hq h1 h2 h3 => mail_answers hq ((if_neg h1).trans ((if_neg h2).trans (if_neg h3)))
  case budgetRound => exact fun _ _ h => onlyIf_holds h
  case pauseHoldEnd => exact fun _ _ => rfl
  case extloadLapse => exact fun _ => rfl
  case timebaseToLine => exact fun _ h => onlyIf_holds h
  case timebaseToPtp => exact fun _ h => onlyIf_holds h
  case latConfigSet => exact fun _ _ hq h => mail_answers hq (if_neg h)
  case latConfigGet => exact fun _ _ hq => mail_served hq
  case latStatusGet => exact fun _ _ hq => mail_served hq
  case latFrameRxShare =>
    intro frame f s hon hparse hcheck hshare hlast
    refine onlyIf_answers hon ?_
    simp only [hparse, hcheck, hshare, hlast, ne_eq, not_true_eq_false, if_true, if_false]
  case latFrameRxReport =>
    intro frame f s hon hparse hcheck hshare hlast
    refine onlyIf_answers hon ?_
    simp only [hparse, hcheck, hshare, hlast, ne_eq, not_true_eq_false, Bool.false_eq_true, if_true, if_false]
  case latFrameRxBad =>
    intro _ _ h1 h2
    simp only [onlyIf, h1, h2, if_true]
  case stepInstant => exact fun _ h => onlyIf_holds h
  case latReportTx => exact fun _ h => onlyIf_holds h
  case latRoundClose => exact fun _ h => onlyIf_holds h
  case latShareTx =>
    intro _ _ _ h1 h2
    simp only [onlyIf, h1, h2, if_true]

end Sys2Proof.Proofs
end

section
/-! PROOFS. The rows of the metrology front end. -/

namespace Sys2Proof.Proofs

open Sys2Proof.Machine

/-- Settles O51: row by row, the conditions of the clause decide every branch of the row; a gain decision turns on the peak against the
two limits. -/
theorem metrologyRowsComplete : Obligations.MetrologyRowsComplete := by
  delta Obligations.MetrologyRowsComplete exec
  dsimp only [execMetroConfigSet, execMetroConfigGet, execMetroScaleSet, execMetroScaleGet, execMetroCalWrite, execMetroCalRead,
    execMetroTableWrite, execMetroTableRead, execMetroCalDigest, execMetroCalCommit, execMetroCalRevert, execMetroChStatus,
    execMetroLineGet, execMetroRaw, execGainDecision, execGainSwitch, execTempUpdate, execNtcRestore, execOffsetRemeasure,
    execSelfcalVisitEnd, execCalCommitDone, execReferenceLost, execSelfcalVisit]
  refine ⟨?metroConfigSet, ?metroConfigGet, ?metroScaleSet, ?metroScaleGet, ?metroCalWrite, ?metroCalRead, ?metroTableWrite,
    ?metroTableRead, ?metroCalDigest, ?metroCalCommit, ?metroCalRevert, ?metroChStatus, ?metroLineGet, ?metroRaw, ?gainDecisionDown,
    ?gainDecisionUp, ?gainSwitch, ?tempUpdate, ?ntcRestore, ?offsetRemeasure, ?selfcalVisitEnd, ?calCommitDone, ?calCommitFailed,
    ?referenceLost, ?selfcalVisit⟩
  case metroConfigSet => exact fun _ _ hq => mail_served hq
  case metroConfigGet => exact fun _ _ hq => mail_served hq
  case metroScaleSet => exact fun _ _ hq => mail_served hq
  case metroScaleGet => exact fun _ _ hq => mail_served hq
  case metroCalWrite => exact fun _ _ hq => mail_served hq
  case metroCalRead => exact fun _ _ hq => mail_served hq
  case metroTableWrite => exact fun _ _ hq => mail_served hq
  case metroTableRead => exact fun _ _ hq => mail_served hq
  case metroCalDigest => exact fun _ _ hq => mail_served hq
  case metroCalCommit =>
    intro _ _ hq h1 h2 h3 h4 h5
    rw [mail_served hq]
    simp only [h1, h2, h3, h4, h5, if_false, Bool.false_eq_true]
  case metroCalRevert => exact fun _ _ hq => mail_served hq
  case metroChStatus => exact fun _ _ hq => mail_served hq
  case metroLineGet => exact fun _ _ hq => mail_served hq
  case metroRaw => exact fun _ _ hq => mail_served hq
  case gainDecisionDown =>
    intro c s hon hc hgain hpeak
    have hmeas : (s.metaOn && decide (c < 104)) = true := by simp [hon]; omega
    have haux : ¬96 ≤ c := Nat.not_le_of_lt hc
    refine onlyIf_answers hmeas ?_
    simp only [haux, hgain, hpeak, if_true, if_false]
  case gainDecisionUp =>
    intro c s hon hc hgain hpeak
    have hmeas : (s.metaOn && decide (c < 104)) = true := by simp [hon]; omega
    have haux : ¬96 ≤ c := Nat.not_le_of_lt hc
    refine onlyIf_answers hmeas ?_
    simp only [haux, hgain, hpeak, Bool.false_eq_true, if_true, if_false]
  case gainSwitch =>
    intro c hi s hon hc hpend
    refine onlyIf_answers (by simp [hon, hc]) ?_
    simp only [hpend]
  case tempUpdate => exact fun _ _ _ h => onlyIf_holds h
  case ntcRestore => exact fun _ _ h => onlyIf_holds h
  case offsetRemeasure => exact fun _ _ _ h => onlyIf_holds h
  case selfcalVisitEnd => exact fun _ _ _ h => onlyIf_holds h
  case calCommitDone =>
    intro tag s hcommit
    simp only [hcommit, if_true]
    rfl
  case calCommitFailed =>
    intro _ _ h
    simp only [h, if_false, Bool.false_eq_true]
  case referenceLost => exact fun _ h => onlyIf_holds h
  case selfcalVisit => exact fun _ h => onlyIf_holds h

end Sys2Proof.Proofs
end

section
/-! PROOFS. The rows of energy, power quality, captures and tampering. -/

namespace Sys2Proof.Proofs

open Sys2Proof.Machine

/-- Settles O52: row by row, the conditions of the clause decide every branch of the row; a capture is cut only while the samples are
still held. -/
theorem energyRowsComplete : Obligations.EnergyRowsComplete := by
  delta Obligations.EnergyRowsComplete exec
  dsimp only [execEnergyConfigSet, execEnergyConfigGet, execEnergyRead, execEnergyInstant, execEnergyLatchNow, execPqLogRead,
    execWaveList, execWaveExport, execWaveTrigger, execTamperStatus, execTamperClear, execMetroSample, execDirectionChange,
    execHalfCyclePq, execReverseCurrent, execBypassDetect, execBypassEnd, execNeutralMissing, execNeutralEnd, execTamperSample,
    execPeriodicLatch, execBoundaryLatch, execCaptureCut, execWaveChunkSend, execWaveExportTimeout]
  refine ⟨?energyConfigSet, ?energyConfigGet, ?energyRead, ?energyInstant, ?energyLatchNow, ?pqLogRead, ?waveList, ?waveExport,
    ?waveTrigger, ?tamperStatus, ?tamperClear, ?metroSample, ?directionChange, ?halfCyclePq, ?reverseCurrent, ?bypassDetect, ?bypassEnd,
    ?neutralMissing, ?neutralEnd, ?tamperSample, ?periodicLatch, ?boundaryLatch, ?captureCutLost, ?captureCut, ?waveChunkSend,
    ?waveExportTimeout⟩
  case energyConfigSet => exact fun _ _ hq => mail_served hq
  case energyConfigGet => exact fun _ _ hq => mail_served hq
  case energyRead => exact fun _ _ hq => mail_served hq
  case energyInstant => exact fun _ _ hq => mail_served hq
  case energyLatchNow => exact fun _ _ hq => mail_served hq
  case pqLogRead => exact fun _ _ hq h1 h2 => mail_answers hq ((if_neg h1).trans (if_neg h2))
  case waveList => exact fun _ _ hq => mail_served hq
  case waveExport => exact fun _ _ hq h1 h2 h3 => mail_answers hq ((if_neg h1).trans ((if_neg h2).trans (if_neg h3)))
  case waveTrigger => exact fun _ _ hq h => mail_answers hq (if_neg h)
  case tamperStatus => exact fun _ _ hq => mail_served hq
  case tamperClear => exact fun _ _ hq h => mail_answers hq (if_neg h)
  case metroSample =>
    exact fun _ _ _ hon => onlyIf_holds hon
  case directionChange => exact fun _ _ h => onlyIf_holds h
  case halfCyclePq => exact fun _ _ h => onlyIf_holds h
  case reverseCurrent => exact fun _ _ h => onlyIf_holds h
  case bypassDetect => exact fun _ _ h => onlyIf_holds h
  case bypassEnd => exact fun _ _ h => onlyIf_holds h
  case neutralMissing => exact fun _ _ h => onlyIf_holds h
  case neutralEnd => exact fun _ _ h => onlyIf_holds h
  case tamperSample => exact fun _ _ _ h => onlyIf_holds h
  case periodicLatch => exact fun _ h => onlyIf_holds h
  case boundaryLatch => exact fun _ h => onlyIf_holds h
  case captureCutLost =>
    intro c s hrun hdue hold
    simp only [hdue]
    exact onlyIf_answers hrun (if_pos hold)
  case captureCut =>
    intro c s hrun hdue hheld
    simp only [hdue]
    exact onlyIf_answers hrun (if_neg (Nat.not_le_of_lt hheld))
  case waveChunkSend =>
    intro x c s hexport hfound hrun hpair hchunk hnext
    simp only [hexport, hfound]
    have hsends : (s.fwRuns && (s.pr 14).state == 1 && s.chunkFree) = true := by simp [hrun, hpair, hchunk]
    exact onlyIf_answers hsends (if_neg (Nat.not_le_of_lt hnext))
  case waveExportTimeout =>
    intro x s hexport hlate
    simp only [hexport]
    exact onlyIf_holds (decide_eq_true hlate)

end Sys2Proof.Proofs
end

section
/-! PROOFS. The rows of billing time, the tariff calendar and the ledger. -/

namespace Sys2Proof.Proofs

open Sys2Proof.Machine

/-- Settles O53: row by row, the conditions of the clause decide every branch of the row; a ledger commit ends there when no correction
waits. -/
theorem billingRowsComplete : Obligations.BillingRowsComplete := by
  delta Obligations.BillingRowsComplete exec
  dsimp only [execBillConfigSet, execBillConfigGet, execBillCalendarWrite, execBillCalendarRead, execBillCalendarActivate,
    execBillTimeGet, execBillTimeSet, execBillRegistersGet, execBillPeriodGet, execBillPeriodClose, execLedgerRead, execLedgerStatus,
    execBillCommitNow, execLedgerCommit, execBillTimeCorrection, execBoundaryArm, execPeriodicCommitTimer, execBoundarySequence,
    execSlewEnd]
  refine ⟨?billConfigSet, ?billConfigGet, ?billCalendarWrite, ?billCalendarRead, ?billCalendarActivateNone, ?billCalendarActivate,
    ?billTimeGet, ?billTimeSet, ?billRegistersGet, ?billPeriodGet, ?billPeriodClose, ?ledgerRead, ?ledgerStatus, ?billCommitNow,
    ?ledgerCommit, ?billTimeCorrection, ?boundaryArm, ?periodicCommitTimer, ?boundarySequence, ?slewEnd⟩
  case billConfigSet => exact fun _ _ hq => mail_served hq
  case billConfigGet => exact fun _ _ hq => mail_served hq
  case billCalendarWrite => exact fun _ _ hq h1 h2 => mail_answers hq ((if_neg h1).trans (if_neg h2))
  case billCalendarRead => exact fun _ _ hq => mail_served hq
  case billCalendarActivateNone => exact fun _ _ hq h => mail_answers hq (if_pos h)
  case billCalendarActivate =>
    intro q s hq hlater hset hidle hcalendar
    have hpast : ¬fld q.payload 0 8 ≤ s.bill.time := Nat.not_le_of_lt hlater
    have hloaded : s.cfg.calPassive.isEmpty = false := by simpa using hcalendar
    refine mail_answers hq ?_
    simp only [hset, hpast, hloaded, hidle, Option.isSome_none, Bool.false_eq_true, if_false]
  case billTimeGet => exact fun _ _ hq => mail_served hq
  case billTimeSet => exact fun _ _ hq h1 h2 => mail_answers hq ((if_neg h1).trans (if_neg h2))
  case billRegistersGet => exact fun _ _ hq => mail_served hq
  case billPeriodGet => exact fun _ _ hq => mail_served hq
  case billPeriodClose => exact fun _ _ hq h => mail_answers hq (if_neg h)
  case ledgerRead =>
    intro q s hq hkept hroom
    refine mail_answers hq ?_
    exact (if_neg hkept).trans (if_neg hroom)
  case ledgerStatus => exact fun _ _ hq => mail_served hq
  case billCommitNow => exact fun _ _ hq => mailQ_served hq
  case ledgerCommit =>
    intro s hdue hcorr
    refine onlyIf_answers hdue ?_
    simp only [if_true, Bool.false_eq_true, if_false, hcorr]
  case billTimeCorrection => exact fun _ _ _ h => onlyIf_holds h
  case boundaryArm => exact fun _ h => onlyIf_holds h
  case periodicCommitTimer => exact fun _ h => onlyIf_holds h
  case boundarySequence => exact fun _ h => onlyIf_holds h
  case slewEnd => exact fun _ => rfl

end Sys2Proof.Proofs
end

section
/-! PROOFS. The rows of the DLMS server. -/

namespace Sys2Proof.Machine

theorem apdu_served {s : State} {i : Instr} {f : State → State} (h : s.fwRuns = true) : s.apdu i f = .next (f s) := by
  rw [State.apdu, if_pos h]

/-- A request that `dlGranted` admits passes every test of R419 to R422. -/
theorem request_granted {s : State} {a prot ivc : Nat} {x : Assoc} (f : Nat → Assoc → State → State) (hx : s.dl.assocs[a]? = some x)
    (h : s.dlGranted x prot ivc = true) :
    s.request a prot ivc f = f ((clientIdx x.client).getD 0) { x with last := s.up } (s.dlTaken a x ivc) := by
  obtain ⟨hopen, hkeys⟩ := Bool.and_eq_true_iff.mp h
  unfold State.request State.dlTaken
  simp only [hx, hopen, Bool.not_true, Bool.false_eq_true, if_false]
  by_cases hr : (clientIdx x.client).getD 0 = 0
  · simp only [hr, ne_eq, not_true_eq_false, decide_false, Bool.false_and, Bool.false_eq_true, if_true, if_false]
    rfl
  · simp only [beq_eq_false_iff_ne.mpr hr, Bool.false_or, Bool.and_eq_true, Bool.not_eq_true', beq_iff_eq] at hkeys
    obtain ⟨⟨⟨⟨hlive, hek⟩, hak⟩, rfl⟩, hfresh⟩ := hkeys
    have hold : ¬(match s.dl.ivc.find? fun e => e.1 == x.ek with
        | some e => decide (ivc ≤ e.2)
        | none => false) = true := by
      cases hfind : s.dl.ivc.find? fun e => e.1 == x.ek with
      | none => simp
      | some e => simpa [hfind] using hfresh
    simp only [hlive, hek, hak, Bool.not_true, Bool.or_self, Bool.and_false, ne_eq, not_true_eq_false, decide_false, Bool.false_eq_true, hr,
      not_false_eq_true, decide_true, Bool.true_and, if_false]
    exact if_neg hold

/-- A request that names one to ten items is served. -/
theorem items_served {α : Type} {l : List α} (hsome : l ≠ []) (hten : l.length ≤ 10) :
    ¬(l.isEmpty || decide (10 < l.length)) = true := by
  simp [hsome]
  omega

end Sys2Proof.Machine

namespace Sys2Proof.Proofs

open Sys2Proof.Machine

/-- Settles O54: a request that is granted is served in the state that `request_granted` names; an AARQ passes every test that its
clause lists. -/
theorem dlmsRowsComplete : Obligations.DlmsRowsComplete := by
  delta Obligations.DlmsRowsComplete exec
  dsimp only [execDlmsTunnel, execDlmsConfigSet, execDlmsConfigGet, execDlmsAssocList, execDlmsAssocAbort, execDlmsAarq, execDlmsGet,
    execDlmsSet, execDlmsAction, execDlmsRlrq, execDlmsIdleRelease, execDlmsLockoutEnd]
  refine ⟨?dlmsTunnel, ?dlmsConfigSet, ?dlmsConfigGet, ?dlmsAssocList, ?dlmsAssocAbort, ?dlmsAarqUnknownClient, ?dlmsAarqPublic,
    ?dlmsAarq, ?dlmsGet, ?dlmsGetNext, ?dlmsSet, ?dlmsAction, ?dlmsRlrq, ?dlmsRlrqPaused, ?dlmsIdleRelease, ?dlmsLockoutEnd⟩
  case dlmsTunnel => exact fun _ _ hq h1 h2 => mail_answers hq ((if_neg h1).trans (if_neg h2))
  case dlmsConfigSet => exact fun _ _ hq h => mail_answers hq (if_neg h)
  case dlmsConfigGet => exact fun _ _ hq => mail_served hq
  case dlmsAssocList => exact fun _ _ hq => mail_served hq
  case dlmsAssocAbort => exact fun _ _ hq => mail_served hq
  case dlmsAarqUnknownClient =>
    intro client server transport channel h s hrun hopen hclient
    refine (apdu_served hrun).trans (congrArg _ ?_)
    simp only [State.aarq, hopen, hclient, Bool.not_true, Bool.false_eq_true, if_false]
  case dlmsAarqPublic =>
    intro server transport channel h s hrun hopen hpublic hserver hmech hnone hlock
    refine (apdu_served hrun).trans (congrArg _ ?_)
    have hroom : ¬8 ≤ ([] : List Assoc).length := by decide
    simp only [State.aarq, State.modDl, clientIdx, hopen, hpublic, hserver, hmech, hnone, hlock, hroom, List.any_nil, List.nil_append,
      bne_self_eq_false, BEq.rfl, Bool.not_true, Bool.and_false, Bool.false_and, Bool.true_or, Bool.or_self, Bool.false_eq_true, if_true,
      if_false]
  case dlmsAarq =>
    intro client server transport channel r h s hrun hopen hclient hr hserver hmech hnone hek hak hlock hhls
    refine (apdu_served hrun).trans (congrArg _ ?_)
    have hroom : ¬8 ≤ ([] : List Assoc).length := by decide
    have hdraw : s.draw.2.dl.assocs = [] := hnone
    simp only [State.aarq, State.modDl, hclient, hopen, hr, hserver, hmech, hnone, hdraw, hlock, hek, hak, hhls, hroom, List.any_nil,
      List.nil_append, Option.isSome_none, Bool.not_true, Bool.and_false, Bool.false_and, Bool.or_true, Bool.or_self, decide_false,
      Bool.false_eq_true, if_false]
  case dlmsGet =>
    intro a prot ivc l x s hrun hx hgranted hsome hten
    refine (apdu_served hrun).trans (congrArg _ ((request_granted _ hx hgranted).trans ?_))
    exact if_neg (items_served hsome hten)
  case dlmsGetNext =>
    intro a prot ivc n x s hrun hx hgranted
    exact (apdu_served hrun).trans (congrArg _ (request_granted _ hx hgranted))
  case dlmsSet =>
    intro a prot ivc l x s hrun hx hgranted hsome hten
    refine (apdu_served hrun).trans (congrArg _ ((request_granted _ hx hgranted).trans ?_))
    exact if_neg (items_served hsome hten)
  case dlmsAction =>
    intro a ic ob method val prot ivc x g s hrun hx hgranted hgroup hright
    refine (apdu_served hrun).trans (congrArg _ ((request_granted _ hx hgranted).trans ?_))
    simp only [hgroup, hright, Bool.not_true, Bool.false_and, Bool.false_eq_true, if_false]
  case dlmsRlrq =>
    intro a x s hrun hx
    refine (apdu_served hrun).trans (congrArg _ ?_)
    simp only [hx]
  case dlmsRlrqPaused =>
    intro a s hrun hpause
    simp only [State.apdu, hrun, hpause, Bool.false_eq_true, if_true, if_false]
  case dlmsIdleRelease => exact fun _ _ h => onlyIf_holds h
  case dlmsLockoutEnd =>
    intro _ _ _ h
    simp only [h]

end Sys2Proof.Proofs
end

section
/-! PROOFS. The rows of the accounts, the vouchers and the keypad. -/

namespace Sys2Proof.Proofs

open Sys2Proof.Machine

/-- Settles O55: row by row, the conditions of the clause decide every branch of the row; the keypad turns on the row scanned and on the
entry mode. -/
theorem creditRowsComplete : Obligations.CreditRowsComplete := by
  delta Obligations.CreditRowsComplete exec
  dsimp only [execCreditAccountSet, execCreditAccountGet, execCreditAdjust, execCreditBind, execCreditConfigSet, execCreditConfigGet,
    execVoucherEnter, execVoucherStatus, execGraceExpiry, execKeypadScan, execKeyAccept, execCreditEvaluate, execFriendlyWindowEnd,
    execCreditEpochCheck, execKeypadEntryTimeout, execOutletSelectExpiry, execKeypadLockoutEnd, execKeypadQuietWake]
  refine ⟨?creditAccountSet, ?creditAccountGet, ?creditAdjust, ?creditBindRemove, ?creditBind, ?creditConfigSet, ?creditConfigGet,
    ?voucherEnter, ?voucherStatus, ?graceExpiry, ?keypadScanRow, ?keypadScan, ?keyAcceptDigit, ?keyAcceptForwarded, ?creditEvaluate,
    ?friendlyWindowEnd, ?creditEpochCheck, ?keypadEntryTimeout, ?outletSelectExpiry, ?keypadLockoutEnd, ?keypadQuietWake⟩
  case creditAccountSet => exact fun _ _ hq => mail_served hq
  case creditAccountGet => exact fun _ _ hq => mail_served hq
  case creditAdjust => exact fun _ _ hq => mail_served hq
  case creditBindRemove =>
    intro q s hq hop hbound
    have hhas : ¬(s.projected.bindingOf (u8 q.payload 1) ((q.payload.drop 8).take (u8 q.payload 2))).isNone = true := by
      rw [Option.isNone_iff_eq_none]
      exact Option.isSome_iff_ne_none.mp hbound
    exact mail_answers hq ((if_pos hop).trans (if_neg hhas))
  case creditBind =>
    intro q s hq hop hnew hroom
    have hspace : ¬4096 ≤ s.projected.store.binds.length := Nat.not_le_of_lt hroom
    refine mail_answers hq ?_
    simp only [hop, hnew, hspace, Option.isSome_none, Option.isNone_none, decide_false, Bool.false_and, Bool.and_false, Bool.false_eq_true,
      if_false]
  case creditConfigSet => exact fun _ _ hq h => mail_answers hq (if_neg h)
  case creditConfigGet => exact fun _ _ hq => mail_served hq
  case voucherEnter => exact fun _ _ hq h => mail_answers hq (if_pos h)
  case voucherStatus => exact fun _ _ hq => mail_served hq
  case graceExpiry => exact fun _ _ h => onlyIf_holds h
  case keypadScanRow => exact fun _ _ h1 h2 => congrArg _ ((if_pos h1).trans (if_pos h2))
  case keypadScan =>
    intro cols s hon hrow hnone
    refine onlyIf_answers hon ?_
    simp only [hrow, ne_eq, not_true_eq_false, if_false, hnone]
    rfl
  case keyAcceptDigit =>
    intro key s hon hconfirm hmode hdigit
    have hkeep : (s.modCr fun c => { c with taken := true, keyAt := s.up }).confirmPending = false := hconfirm
    have hcfg : ¬u8 (s.modCr fun c => { c with taken := true, keyAt := s.up }).cfg.credit 68 = 1 := hmode
    refine onlyIf_answers hon ?_
    simp only [hkeep, hcfg, hdigit, Bool.false_eq_true, if_true, if_false]
    rfl
  case keyAcceptForwarded =>
    intro key s hon hconfirm hmode
    have hkeep : (s.modCr fun c => { c with taken := true, keyAt := s.up }).confirmPending = false := hconfirm
    have hcfg : u8 (s.modCr fun c => { c with taken := true, keyAt := s.up }).cfg.credit 68 = 1 := hmode
    refine onlyIf_answers hon ?_
    simp only [hkeep, hcfg, Bool.false_eq_true, if_true, if_false]
    rfl
  case creditEvaluate => exact fun _ h => onlyIf_holds h
  case friendlyWindowEnd => exact fun _ h => onlyIf_holds h
  case creditEpochCheck => exact fun _ h => onlyIf_holds h
  case keypadEntryTimeout => exact fun _ h => onlyIf_holds h
  case outletSelectExpiry => exact fun _ h => onlyIf_holds h
  case keypadLockoutEnd => exact fun _ h => onlyIf_holds h
  case keypadQuietWake => exact fun _ h => onlyIf_holds h

end Sys2Proof.Proofs
end

section
/-! PROOFS. The rows of the mains modem. -/

namespace Sys2Proof.Proofs

open Sys2Proof.Machine

/-- Settles O56: row by row, the conditions of the clause decide every branch of the row; a frame that is sent turns on its protection.
-/
theorem mainsModemRowsComplete : Obligations.MainsModemRowsComplete := by
  delta Obligations.MainsModemRowsComplete exec
  dsimp only [execLineConfigSet, execLineConfigGet, execLineStatusGet, execLinePeers, execLineSend, execLineMapGet, execLineMapRequest,
    execLineStatsGet, execZeroCrossing, execLineFrameRx, execLineAckTx, execLineContentionSlot, execLineFrameTx, execMapRequestTimeout,
    execRobustHoldEnd, execMapExpiry, execLineAckWaitExpiry, execSectorTimingLost]
  refine ⟨?lineConfigSet, ?lineConfigGet, ?lineStatusGet, ?linePeers, ?lineSend, ?lineMapGet, ?lineMapRequest, ?lineStatsGet,
    ?zeroCrossing, ?lineFrameRx, ?lineAckTx, ?contentionDraw, ?contentionBusy, ?contentionFree, ?lineFrameTx, ?mapRequestTimeout,
    ?robustHoldEnd, ?mapExpiry, ?lineAckWaitExpiry, ?sectorTimingLost⟩
  case lineConfigSet => exact fun _ _ hq h => mail_answers hq (if_neg h)
  case lineConfigGet => exact fun _ _ hq => mail_served hq
  case lineStatusGet => exact fun _ _ hq h => lineMail_served hq h
  case linePeers => exact fun _ _ hq h => lineMail_served hq h
  case lineSend => exact fun _ _ hq h1 h2 => lineMail_answers hq h1 (if_neg h2)
  case lineMapGet => exact fun _ _ hq h => lineMail_served hq h
  case lineMapRequest => exact fun _ _ hq h1 h2 => lineMail_answers hq h1 (if_neg h2)
  case lineStatsGet => exact fun _ _ hq h => lineMail_served hq h
  case zeroCrossing =>
    intro c period since s hon hquiet
    refine onlyIf_answers (by rw [hon]; rfl) ?_
    exact if_pos (by rw [hquiet]; rfl)
  case lineFrameRx => exact fun _ _ h => onlyIf_holds h
  case lineAckTx =>
    intro _ _ _ _ h1 h2
    simp only [onlyIf, h1, h2, if_true]
  case contentionDraw =>
    intro _ _ _ _ _ h1 h2 h3 h4
    simp only [onlyIf, h1, h2, h3, h4, if_true, if_false, Bool.false_eq_true]
  case contentionBusy =>
    intro _ _ _ _ _ _ h1 h2 h3 h4
    simp only [onlyIf, h1, h2, h3, h4, if_true]
  case contentionFree =>
    intro _ _ _ _ _ _ h1 h2 h3 h4
    simp only [onlyIf, h1, h2, h3, h4, if_true, if_false, Bool.false_eq_true]
  case lineFrameTx =>
    intro ang i s hon hready hplain htype
    refine onlyIf_answers hon ?_
    simp only [hready, hplain, htype, decide_false, Bool.false_and, Bool.false_eq_true, if_false]
  case mapRequestTimeout => exact fun _ _ h => onlyIf_holds h
  case robustHoldEnd => exact fun _ _ h => onlyIf_holds h
  case mapExpiry =>
    intro _ _ _ h1 h2
    simp only [onlyIf, h1, h2, if_true]
  case lineAckWaitExpiry =>
    intro _ _ h1 h2
    simp only [onlyIf, h1, h2, if_true]
  case sectorTimingLost => exact fun _ h => onlyIf_holds h

end Sys2Proof.Proofs
end

section
/-! PROOFS. The rows of the NFC reader and of the NFC tag. -/

namespace Sys2Proof.Machine

/-- The state in which a page command is served: a HELLO that waits for its PROVE is over. -/
def State.noHello (s : State) : State := s.modTag fun t => { t with hello := none }

theorem tagGate_plain {s : State} {apdu mac : Bytes} (f : State → State) (h : s.nfc.tag.st ≠ 5) :
    s.tagGate apdu mac f = f s.noHello := by
  have hopen : decide (s.noHello.nfc.tag.st = 5) = false := decide_eq_false h
  refine if_neg ?_
  rw [show s.modTag (fun t => { t with hello := none }) = s.noHello from rfl, hopen]
  simp

theorem tagGate_secured {s : State} {apdu mac : Bytes} (f : State → State) (hkey : s.store.tagKey.isSome = true)
    (hmac : mac = s.noHello.tagMac apdu) : s.tagGate apdu mac f = f s.noHello := by
  have hkeyed : s.noHello.store.tagKey.isNone = false := Option.isNone_eq_false_iff.mpr hkey
  refine if_neg ?_
  rw [show s.modTag (fun t => { t with hello := none }) = s.noHello from rfl, hkeyed, ← hmac]
  simp

end Sys2Proof.Machine

namespace Sys2Proof.Proofs

open Sys2Proof.Machine

/-- Settles O57: a page command passes `tagGate` plain or secured, and its tests are those that the clause lists; the other rows follow
their branches. -/
theorem nfcRowsComplete : Obligations.NfcRowsComplete := by
  delta Obligations.NfcRowsComplete exec
  dsimp only [execNfcConfigSet, execNfcConfigGet, execNfcTagRead, execNfcTagWrite, execNfcTagKey, execNfcTagStatus, execNfcPoll,
    execTagFieldOn, execTagReqa, execTagAnticollision, execTagSelect, execPageRead, execPageWrite, execTagHello, execTagProve,
    execTagPageCommit, execNfcPollResume, execTagGuardEnd, execTagFieldOff, execTagRats, execTagHalt, execTagAuthLockEnd,
    execTagHostLockTimeout, execLastStateUpdate]
  refine ⟨?nfcConfigSet, ?nfcConfigGet, ?nfcTagRead, ?nfcTagWrite, ?nfcTagKey, ?nfcTagStatus, ?nfcPollCard, ?nfcPollNone, ?tagFieldOn,
    ?tagReqa, ?tagAnticollision, ?tagSelect, ?pageRead, ?pageWrite, ?tagHello, ?tagProve, ?tagPageCommit, ?nfcPollResume, ?tagGuardEnd,
    ?tagFieldOff, ?tagRats, ?tagHalt, ?tagAuthLockEnd, ?tagHostLockTimeout, ?lastStateUpdate⟩
  case nfcConfigSet => exact fun _ _ hq => mail_served hq
  case nfcConfigGet => exact fun _ _ hq => mail_served hq
  case nfcTagRead => exact fun _ _ hq h => nfcMail_served hq h
  case nfcTagWrite => exact fun _ _ hq h => nfcMail_served hq h
  case nfcTagKey => exact fun _ _ hq h1 h2 h3 => nfcMail_answers hq h1 ((if_neg h2).trans (if_neg h3))
  case nfcTagStatus => exact fun _ _ hq => mail_served hq
  case nfcPollCard =>
    intro field typeA typeB t id s hon hfield hpart hone
    refine onlyIf_answers (by simp [hon, hfield]) ?_
    simp only [hpart, List.getLast?_nil, hone]
  case nfcPollNone =>
    intro field typeA typeB s hon hfield hA hB
    refine onlyIf_answers (by simp [hon, hfield]) ?_
    simp only [hA, hB, List.filter_nil, List.getLast?_nil, List.map_nil, List.append_nil]
  case tagFieldOn => exact fun _ _ h => onlyIf_holds h
  case tagReqa => exact fun _ _ h => onlyIf_holds h
  case tagAnticollision => exact fun _ _ _ h => onlyIf_holds h
  case tagSelect => exact fun _ _ h => onlyIf_holds h
  case pageRead =>
    intro page off le mac s hst hpage hlo hhi hend
    refine onlyIf_answers (by rw [hst]; rfl) ?_
    refine (tagGate_plain _ (by rw [hst]; decide)).trans ?_
    have hin : ¬64 ≤ page := by omega
    have hplain : ¬8 ≤ page := by omega
    have hreads : ¬(!tagReads s.noHello.nfc.tag.st page) = true := by simp [tagReads, hpage]
    have hlen : ¬(decide (le = 0) || decide (240 < le) || decide (256 < off + le)) = true := by simp; omega
    rw [if_neg hin, if_neg hreads, if_neg hlen, if_neg hplain]
    rfl
  case pageWrite =>
    intro page off data mac s hst hkey hmac hlo hhi hsome hlen hend
    refine onlyIf_answers (by rw [hst]; rfl) ?_
    refine (tagGate_secured _ hkey (by rw [hst]; exact hmac)).trans ?_
    have hsecure : ¬s.noHello.nfc.tag.st ≠ 5 := not_not_intro hst
    have hin : ¬64 ≤ page := by omega
    have hfree : ¬page < 32 := by omega
    have hfits : ¬(data.isEmpty || decide (240 < data.length) || decide (256 < off + data.length)) = true := by simp [hsome]; omega
    rw [if_neg hsecure, if_neg hin, if_neg hfree, if_neg hfits]
    rfl
  case tagHello =>
    intro rndr k n s hst hlen hkey hlocked
    have hopen : ¬(s.noHello.nfc.tag.locked || decide (s.noHello.nfc.tag.st = 5)) = true := by
      rw [show s.noHello.nfc.tag.locked = s.nfc.tag.locked from rfl, show s.noHello.nfc.tag.st = s.nfc.tag.st from rfl, hlocked, hst]
      decide
    refine onlyIf_answers (by rw [hst]; rfl) ((if_neg (not_not_intro hlen)).trans ?_)
    simp only [show (s.modTag fun t => { t with hello := none }).store.tagKey = some (n, k) from hkey]
    exact if_neg hopen
  case tagProve =>
    intro pr rndr rndt k n s hst hlen hkey hhello hproof
    refine onlyIf_answers (decide_eq_true hst) ?_
    simp only [hhello, hkey]
    exact (if_neg (not_not_intro hlen)).trans (if_pos hproof)
  case tagPageCommit =>
    intro _ _ _ _ h1 h2
    simp only [h1, h2, if_true, if_false, Bool.false_eq_true]
  case nfcPollResume => exact fun _ h => onlyIf_holds h
  case tagGuardEnd => exact fun _ h => onlyIf_holds h
  case tagFieldOff => exact fun _ h => onlyIf_holds h
  case tagRats => exact fun _ h => onlyIf_holds h
  case tagHalt =>
    exact fun _ hst => onlyIf_holds (decide_eq_true (hst.mpr rfl))
  case tagAuthLockEnd => exact fun _ h => onlyIf_holds h
  case tagHostLockTimeout =>
    intro _ _ _ _ h1 h2
    simp only [h1, h2]
  case lastStateUpdate => exact fun _ h => onlyIf_holds h

end Sys2Proof.Proofs
end

section
/-! PROOFS. The rows of the load switches and of limp-home. -/

namespace Sys2Proof.Proofs

open Sys2Proof.Machine

/-- Settles O58: row by row, the conditions of the clause decide every branch of the row; the thermal rows turn on channel or bank. -/
theorem loadSwitchRowsComplete : Obligations.LoadSwitchRowsComplete := by
  delta Obligations.LoadSwitchRowsComplete exec
  dsimp only [execLswChanSet, execLswChanGet, execLswOut, execLswStatusGet, execLswBankGet, execLswClear, execPwmPeriod,
    execLswCurrentLimit, execLswBlankEnd, execLswOvercurrent, execLswRetry, execLswRetryConfirm, execLswThermalTrip,
    execLswThermalRelease, execLswOpenLoad, execBankUndervoltage, execBankRecover, execLimpHomeInput, execLhinChange,
    execCcWatchdogExpiry]
  refine ⟨?lswChanSet, ?lswChanGet, ?lswOutOff, ?lswOutOn, ?lswStatusGet, ?lswBankGet, ?lswClearLatch, ?lswClearStop, ?pwmPeriod,
    ?lswCurrentLimit, ?lswBlankEnd, ?lswOvercurrent, ?lswRetry, ?lswRetryConfirm, ?channelTrip, ?bankTrip, ?channelRelease, ?bankRelease,
    ?lswOpenLoad, ?bankUndervoltage, ?bankRecover, ?limpHomeInput, ?lhinChange, ?ccWatchdogExpiry⟩
  case lswChanSet => exact fun _ _ hq => mail_served hq
  case lswChanGet => exact fun _ _ hq => mail_served hq
  case lswOutOff => exact fun _ _ hq h => mail_answers hq (if_pos h)
  case lswOutOn =>
    intro q s hq hon hrules hlatch hstop
    have hoff : ¬u8 q.payload 1 = 0 := by omega
    refine mail_answers hq ?_
    simp only [hoff, hrules, hlatch, hstop, Bool.or_self, Bool.false_eq_true, if_false]
  case lswStatusGet => exact fun _ _ hq => mail_served hq
  case lswBankGet => exact fun _ _ hq => mail_served hq
  case lswClearLatch =>
    intro q s hq hlatch htrip hbank
    refine mail_answers hq ?_
    simp only [hlatch, htrip, hbank, Bool.or_self, Bool.false_eq_true, if_true, if_false]
  case lswClearStop =>
    intro _ _ hq h1 h2
    rw [mail_served hq]
    simp only [h1, h2, if_true, if_false, Bool.false_eq_true, Bool.not_true]
  case pwmPeriod => exact fun _ _ _ _ _ _ => rfl
  case lswCurrentLimit => exact fun _ _ _ h => onlyIf_holds h
  case lswBlankEnd => exact fun _ _ h => onlyIf_holds h
  case lswOvercurrent => exact fun _ _ h => onlyIf_holds h
  case lswRetry => exact fun _ _ h => onlyIf_holds h
  case lswRetryConfirm => exact fun _ _ h => onlyIf_holds h
  case channelTrip =>
    exact fun _ _ _ hk ht => (if_neg (by decide)).trans (onlyIf_holds (by simp [hk, ht]))
  case bankTrip =>
    exact fun _ _ _ hk ht => (if_pos rfl).trans (onlyIf_holds (by simp [hk, ht]))
  case channelRelease =>
    exact fun _ _ _ ht => onlyIf_holds (decide_eq_true ht)
  case bankRelease =>
    exact fun _ _ _ ht => onlyIf_holds (decide_eq_true ht)
  case lswOpenLoad => exact fun _ _ h => onlyIf_holds h
  case bankUndervoltage => exact fun _ _ _ h => onlyIf_holds h
  case bankRecover => exact fun _ _ _ h => onlyIf_holds h
  case limpHomeInput => exact fun _ _ => rfl
  case lhinChange => exact fun _ _ _ h => onlyIf_holds h
  case ccWatchdogExpiry => exact fun _ h => onlyIf_holds h

end Sys2Proof.Proofs
end

section
/-! PROOFS. The rows of the display panel and of the key store. -/

namespace Sys2Proof.Proofs

open Sys2Proof.Machine

/-- Settles O59: row by row, the conditions of the clause decide every branch of the row. KEY_UPDATE with another operation than a new
key passes the six tests of its message. -/
theorem panelAndKeyRowsComplete : Obligations.PanelAndKeyRowsComplete := by
  delta Obligations.PanelAndKeyRowsComplete exec
  dsimp only [execPanelConfigSet, execPanelConfigGet, execPanelWrite, execPanelFlip, execPanelCurveSet, execPanelCurveGet,
    execPanelStatusGet, execPanelStressRead, execVpanLow, execVpanRecover, execPanelFrame, execStressSave, execKeyInfo, execKeyUpdate,
    execKeyDerive, execKeyRevoke, execKeyPublicRead, execKeyStatus, execTrngHealthFail, execKeyRemask]
  refine ⟨?panelConfigSet, ?panelConfigGet, ?panelWrite, ?panelFlip, ?panelCurveSet, ?panelCurveGet, ?panelStatusGet, ?panelStressRead,
    ?vpanLow, ?vpanRecover, ?panelFrame, ?stressSave, ?keyInfo, ?keyUpdate, ?keyDerive, ?keyRevoke, ?keyPublicRead, ?keyStatus,
    ?trngHealthFail, ?keyRemask⟩
  case panelConfigSet => exact fun _ _ hq => mail_served hq
  case panelConfigGet => exact fun _ _ hq => mail_served hq
  case panelWrite => exact fun _ _ hq h => panelMail_served hq h
  case panelFlip => exact fun _ _ hq h1 h2 => panelMail_answers hq h1 (if_neg h2)
  case panelCurveSet => exact fun _ _ hq h => panelMail_served hq h
  case panelCurveGet => exact fun _ _ hq h => panelMail_served hq h
  case panelStatusGet => exact fun _ _ hq h => panelMail_served hq h
  case panelStressRead => exact fun _ _ hq h => panelMail_served hq h
  case vpanLow => exact fun _ _ h => onlyIf_holds h
  case vpanRecover => exact fun _ _ h => onlyIf_holds h
  case panelFrame => exact fun _ h => onlyIf_holds h
  case stressSave => exact fun _ h => onlyIf_holds h
  case keyInfo => exact fun _ _ hq => mail_served hq
  case keyUpdate =>
    intro q z hq hok hdevice hauth hcounter hop hcls
    have hfresh := Nat.not_le_of_lt hcounter
    refine mailQ_answers hq ?_
    simp only [hok, hdevice, hauth, hfresh, hop, ne_eq, not_true_eq_false, not_false_eq_true, decide_false, Bool.not_true, Bool.false_and,
      Bool.false_eq_true, if_true, if_false]
    refine if_neg ?_
    obtain hempty | hsame := hcls
    · simp [hempty]
    · simp [hsame]
  case keyDerive =>
    intro _ _ hq h1 h2
    rw [mail_served hq]
    simp only [h1, h2, if_false, Bool.false_eq_true]
  case keyRevoke => exact fun _ _ hq h => mail_answers hq (if_neg h)
  case keyPublicRead => exact fun _ _ hq h => mail_answers hq (if_neg h)
  case keyStatus => exact fun _ _ hq => mail_served hq
  case trngHealthFail => exact fun _ _ _ h => onlyIf_holds h
  case keyRemask => exact fun _ h => onlyIf_holds h

end Sys2Proof.Proofs
end

section
/-! PROOFS. The rows of firmware staging, activation, handover and ROM service. -/

namespace Sys2Proof.Machine

/-- The service frame that waits is executed, and its sequence number answered (R686). -/
theorem svcRun_served {s : State} {cmd seq : Nat} {payload : Bytes} (f : State → Nat × Bytes × State)
    (hpend : s.svc.pend = some (cmd, seq, payload)) (hserves : s.svcServes = true) :
    s.svcRun cmd payload f = (f s).2.2.svcReply seq (f s).1 (f s).2.1 := by
  simp only [State.svcRun, hpend, hserves, BEq.rfl, decide_true, Bool.and_self, if_true]

/-- Once a pause is over and the host port holds no word, nothing more happens. -/
theorem afterPause_answers {s : State} {c : Bool} {f : State → State} (hc : c = true) (hidle : (f s).host.xact = none) :
    s.afterPause c f = .next (f s) := by
  simp only [State.afterPause, hc, if_true, State.serveHeld, hidle]

end Sys2Proof.Machine

namespace Sys2Proof.Proofs

open Sys2Proof.Machine

/-- Settles O60: a service frame is executed by `svcRun_served`, a pause ends by `afterPause_answers`; the other rows follow their
branches. -/
theorem firmwareRowsComplete : Obligations.FirmwareRowsComplete := by
  delta Obligations.FirmwareRowsComplete exec
  dsimp only [execFwStatus, execFwStageBegin, execFwStageData, execFwStageVerify, execFwActivate, execFwStageAbort, execImageCopyDone,
    execHandoverRollback, execSvcFrame, execSvcStageBegin, execSvcStageData, execSvcActivate, execFwVerifyDone, execStagingTimeout,
    execHandoverRestart, execSvcInfo, execSvcVerify, execSvcAbort, execSvcExit, execHandoverAccept, execPauseLimit]
  refine ⟨?fwStatus, ?fwStageBegin, ?fwStageData, ?fwStageVerify, ?fwActivate, ?fwStageAbort, ?imageCopyDone, ?handoverRollback,
    ?handoverRollbackFailed, ?svcFrameBad, ?svcFrame, ?svcStageBegin, ?svcStageData, ?svcActivate, ?svcActivateInstall, ?fwVerifyDone,
    ?stagingTimeout, ?handoverRestart, ?svcInfo, ?svcVerify, ?svcAbort, ?svcExit, ?handoverAccept, ?pauseLimit⟩
  case fwStatus => exact fun _ _ hq => mail_served hq
  case fwStageBegin => exact fun _ _ hq => mail_served hq
  case fwStageData => exact fun _ _ hq => mail_served hq
  case fwStageVerify => exact fun _ _ hq => mail_served hq
  case fwActivate =>
    intro q s hq hready
    obtain ⟨hrun, hscreen⟩ := hq
    simp only [hrun, hscreen, hready, Option.isNone_none, Bool.and_self, if_true]
  case fwStageAbort => exact fun _ _ hq => mail_served hq
  case imageCopyDone =>
    intro copyok loadok h s hho hstep hroll hpause
    simp only [hho]
    exact onlyIf_holds (by simp [hstep, hroll, hpause])
  case handoverRollback =>
    intro step h s hho hpause hlive hfirst
    simp only [hho]
    exact onlyIf_answers (by simp [hpause, hlive]) (if_neg (by simp [hfirst]))
  case handoverRollbackFailed =>
    intro step h s hho hpause hlive hagain
    simp only [hho]
    exact onlyIf_answers (by simp [hpause, hlive]) (if_pos hagain)
  case svcFrameBad =>
    intro _ _ h1 h2
    simp only [onlyIf, h1, h2, if_true, Bool.not_false]
  case svcFrame =>
    intro b s hon hframe hnew hlo hhi hlen
    have hcmd : ¬(decide (u8 b 0 = 0) || decide (7 < u8 b 0)) = true := by simp; omega
    refine onlyIf_answers hon ?_
    simp only [hframe, hnew, hcmd, hlen, Bool.not_true, Bool.false_eq_true, if_false]
  case svcStageBegin =>
    exact fun _ _ _ hpend hserves => congrArg _ (svcRun_served _ hpend hserves)
  case svcStageData =>
    intro seq offset data s hpend hserves hdone
    refine congrArg _ ((svcRun_served _ hpend hserves).trans ?_)
    simp only [hdone, if_true]
  case svcActivate =>
    intro seq s hpend hserves hrom hready
    simp only [hpend, Option.map_some, Option.getD_some, List.isEmpty_nil, ne_eq, not_true_eq_false, decide_false, Bool.and_false,
      Bool.false_eq_true, if_true, if_false]
    refine congrArg _ ((svcRun_served _ hpend hserves).trans ?_)
    simp only [hrom, hready, Bool.not_true, Bool.false_eq_true, if_false]
  case svcActivateInstall =>
    intro seq slots s hpend hserves hrom
    have hsome : (toLE 1 slots).isEmpty = false := rfl
    simp only [hpend, Option.map_some, Option.getD_some, hsome, Bool.false_and, Bool.false_eq_true, if_false]
    refine congrArg _ ((svcRun_served _ hpend hserves).trans ?_)
    simp only [hrom, if_true]
  case fwVerifyDone =>
    intro tag x s hrx hverify hroute hrun htag
    simp only [hrx, htag]
    exact onlyIf_holds (by simp [hverify, hroute, hrun])
  case stagingTimeout =>
    intro x s hrx hverify hlate
    simp only [hrx]
    exact onlyIf_holds (by simp [hverify, hlate])
  case handoverRestart =>
    intro h s hho hstep hrun
    simp only [hho]
    exact onlyIf_holds (by simp [hstep, hrun])
  case svcInfo =>
    exact fun _ _ hpend hserves => congrArg _ (svcRun_served _ hpend hserves)
  case svcVerify =>
    intro seq x s hpend hserves hrx hroute
    refine congrArg _ ((svcRun_served _ hpend hserves).trans ?_)
    simp only [hrx, hroute, ne_eq, not_true_eq_false, if_false]
  case svcAbort =>
    exact fun _ _ hpend hserves => congrArg _ (svcRun_served _ hpend hserves)
  case svcExit =>
    intro seq s hpend hserves hrom
    rw [svcRun_served _ hpend hserves]
    simp only [hrom, hpend, State.svcReply, Option.isSome_some, Option.isNone_none, Bool.and_self, if_true]
  case handoverAccept =>
    intro dropped h s hho hpause hlive hpowered hhold hready hidle
    simp only [hho]
    exact afterPause_answers (by simp [hpause, hlive, hpowered, hhold, hready]) hidle
  case pauseLimit =>
    intro h s hho hlate hpause hidle
    exact afterPause_answers (by simp [hho, hlate, hpause]) hidle

end Sys2Proof.Proofs
end

section
/-! PROOFS. No operation of the model touches the queue of waiting commands (log entry 3): an equation `(… s …).pending = s.pending` for
every operation on the state, from the record updates up, and `KeepsQueue` for every row. -/

namespace Sys2Proof.Machine

/-! ### The rules -/

/-- The next state that a row answers, if it answers one, has the queue of `s`. -/
def KeepsQueue (s : State) (x : Out) : Prop := ∀ t, x = .next t → t.pending = s.pending

@[simp] theorem keepsQueue_next {s t : State} : KeepsQueue s (.next t) ↔ t.pending = s.pending :=
  ⟨fun h => h t rfl, by rintro h _ ⟨⟩; exact h⟩

@[simp] theorem keepsQueue_fault (s : State) (f : Fault) : KeepsQueue s (.fault f) := by
  rintro _ ⟨⟩

@[simp] theorem keepsQueue_ite {s : State} {p : Prop} [Decidable p] {x y : Out} :
    KeepsQueue s (if p then x else y) ↔ (p → KeepsQueue s x) ∧ (¬p → KeepsQueue s y) := by
  split <;> simp [*]

@[simp] theorem pending_ite {p : Prop} [Decidable p] (x y : State) :
    (if p then x else y).pending = if p then x.pending else y.pending := apply_ite State.pending p x y

@[simp] theorem pending_dite {p : Prop} [Decidable p] (x : p → State) (y : ¬p → State) :
    (if h : p then x h else y h).pending = if h : p then (x h).pending else (y h).pending := apply_dite State.pending p x y

@[simp] theorem ans_st_ite {p : Prop} [Decidable p] (x y : Ans) : (if p then x else y).st = if p then x.st else y.st :=
  apply_ite Ans.st p x y

@[simp] theorem stepEnd_st_ite {p : Prop} [Decidable p] (x y : StepEnd) : (if p then x else y).st = if p then x.st else y.st :=
  apply_ite StepEnd.st p x y

@[simp] theorem fst_ite {α β : Type} {p : Prop} [Decidable p] (x y : α × β) : (if p then x else y).1 = if p then x.1 else y.1 :=
  apply_ite Prod.fst p x y

@[simp] theorem snd_ite {α β : Type} {p : Prop} [Decidable p] (x y : α × β) : (if p then x else y).2 = if p then x.2 else y.2 :=
  apply_ite Prod.snd p x y

/-- An operation that keeps the queue, taken over a list. -/
@[simp] theorem foldl_pending {α : Type} {f : State → α → State} (hf : ∀ s a, (f s a).pending = s.pending) (l : List α) (s : State) :
    (l.foldl f s).pending = s.pending := by
  induction l generalizing s with
  | nil => rfl
  | cons a l ih => exact (ih _).trans (hf s a)

@[simp] theorem foldl_fst_pending {α β : Type} {f : State × β → α → State × β} (hf : ∀ x a, (f x a).1.pending = x.1.pending) (l : List α)
    (x : State × β) : (l.foldl f x).1.pending = x.1.pending := by
  induction l generalizing x with
  | nil => rfl
  | cons a l ih => exact (ih _).trans (hf x a)

@[simp] theorem foldl_snd_pending {α β : Type} {f : β × State → α → β × State} (hf : ∀ x a, (f x a).2.pending = x.2.pending) (l : List α)
    (x : β × State) : (l.foldl f x).2.pending = x.2.pending := by
  induction l generalizing x with
  | nil => rfl
  | cons a l ih => exact (ih _).trans (hf x a)

/-! ### Triple-redundant cells -/

@[simp] theorem putCell_pending (s : State) (c : TmrCell) : (s.putCell c).pending = s.pending := by
  simp [State.putCell]

@[simp] theorem tmrWritten_pending (s : State) (addr : Nat) : (s.tmrWritten addr).pending = s.pending := by
  simp [State.tmrWritten]

@[simp] theorem tmrWrite_pending (s : State) (addr mask v : Nat) : (s.tmrWrite addr mask v).pending = s.pending := by
  unfold State.tmrWrite
  split <;> simp

/-! ### Shared operations -/

@[simp] theorem modPilot_pending (s : State) (o : ONum) (f : Pilot → Pilot) : (s.modPilot o f).pending = s.pending := by
  simp [State.modPilot]

@[simp] theorem modPp_pending (s : State) (o : ONum) (f : Prox → Prox) : (s.modPp o f).pending = s.pending := by
  simp [State.modPp]

@[simp] theorem modSw_pending (s : State) (o : ONum) (f : Switch → Switch) : (s.modSw o f).pending = s.pending := by
  simp [State.modSw]

@[simp] theorem modLock_pending (s : State) (o : ONum) (f : Lock → Lock) : (s.modLock o f).pending = s.pending := by
  simp [State.modLock]

@[simp] theorem modSes_pending (s : State) (o : ONum) (f : Session → Session) : (s.modSes o f).pending = s.pending := by
  simp [State.modSes]

@[simp] theorem modProt_pending (s : State) (o : ONum) (f : Protect → Protect) : (s.modProt o f).pending = s.pending := by
  simp [State.modProt]

@[simp] theorem modHlc_pending (s : State) (o : ONum) (f : Hlc → Hlc) : (s.modHlc o f).pending = s.pending := by
  simp [State.modHlc]

@[simp] theorem modPairOut_pending (s : State) (p : Nat) (f : OutPair → OutPair) : (s.modPairOut p f).pending = s.pending := by
  simp [State.modPairOut]

@[simp] theorem draw_pending (s : State) : s.draw.2.pending = s.pending := by
  simp [State.draw]

@[simp] theorem effect_pending (s : State) (n : PNum) (tag op : Nat) : (s.effect n tag op).pending = s.pending := by
  simp [State.effect]

@[simp] theorem modPr_pending (s : State) (n : PNum) (f : Pair → Pair) : (s.modPr n f).pending = s.pending := by
  simp [State.modPr]

@[simp] theorem putEntries_pending (s : State) (n : PNum) (l : List Bytes) : (s.putEntries n l).pending = s.pending := by
  induction l generalizing s n with
  | nil => rfl
  | cons a l ih => simp [State.putEntries, ih]

@[simp] theorem tagHistory_pending (s : State) : s.tagHistory.pending = s.pending := by
  simp [State.tagHistory]

@[simp] theorem logPut_pending (s : State) (e : LogEntry) : (s.logPut e).pending = s.pending := by
  simp [State.logPut]

@[simp] theorem countUp_pending (s : State) (src : Nat) : (s.countUp src).pending = s.pending := by
  simp [State.countUp]

@[simp] theorem latchRec_pending (s : State) (src qual data : Nat) (forced retried : Bool) :
    (s.latchRec src qual data forced retried).pending = s.pending := by
  simp [State.latchRec]

@[simp] theorem putUnit_pending (s : State) (n : PNum) (h : Held) : (s.putUnit n h).pending = s.pending := by
  simp [State.putUnit]

@[simp] theorem loseEvent_pending (s : State) (n : PNum) (seq : Nat) : (s.loseEvent n seq).pending = s.pending := by
  simp [State.loseEvent]

@[simp] theorem deliver_pending (s : State) (n : PNum) (h : Held) (seq : Nat) : (s.deliver n h seq).pending = s.pending := by
  simp [State.deliver]

@[simp] theorem emitNow_pending (s : State) (n : PNum) (op : Nat) (payload : Bytes) (bulk : Option (Nat × Nat)) :
    (s.emitNow n op payload bulk).pending = s.pending := by
  simp [State.emitNow]

@[simp] theorem emit_pending (s : State) (n : PNum) (op : Nat) (payload : Bytes) : (s.emit n op payload).pending = s.pending := by
  simp [State.emit]

@[simp] theorem complete_pending (s : State) (n : PNum) (op tag status : Nat) (payload : Bytes) (bulk : Option (Nat × Nat)) :
    (s.complete n op tag status payload bulk).pending = s.pending := by
  simp [State.complete]

@[simp] theorem release_pending (s : State) (n : PNum) (op tag status : Nat) (payload : Bytes) (bulk : Option (Nat × Nat)) :
    (s.release n op tag status payload bulk).pending = s.pending := by
  simp [State.release]

@[simp] theorem emitAll_pending (s : State) (l : List Deferred) : (s.emitAll l).pending = s.pending := by
  induction l generalizing s with
  | nil => rfl
  | cons a l ih =>
    rw [State.emitAll]
    split <;> simp [ih]

@[simp] theorem flushDeferred_pending (s : State) : s.flushDeferred.pending = s.pending := by
  simp [State.flushDeferred]

@[simp] theorem finishWith_pending (s : State) (n : PNum) (tag status : Nat) (payload : Bytes) (bulk : Option (Nat × Nat)) :
    (s.finishWith n tag status payload bulk).pending = s.pending := by
  unfold State.finishWith
  split <;> simp

@[simp] theorem finish_pending (s : State) (n : PNum) (tag status : Nat) (payload : Bytes) :
    (s.finish n tag status payload).pending = s.pending := by
  simp [State.finish]

@[simp] theorem bulkPut_pending (s : State) (n : PNum) (r : Nat × Nat) (b : Bytes) : (s.bulkPut n r b).pending = s.pending := by
  simp [State.bulkPut]

@[simp] theorem activateCal_pending (s : State) (c : CalSet) : (s.activateCal c).pending = s.pending := by
  simp [State.activateCal]

@[simp] theorem latchNow_pending (s : State) (kind : Nat) (late : Bool) : (s.latchNow kind late).pending = s.pending := by
  simp [State.latchNow]
  split <;> simp

@[simp] theorem trigger_pending (s : State) (cause : Nat) : (s.trigger cause).pending = s.pending := by
  simp [State.trigger]

@[simp] theorem iolFrom_pending (s : State) (o : ONum) (was : Nat) : (s.iolFrom o was).pending = s.pending := by
  simp [State.iolFrom]

@[simp] theorem setPilot_pending (s : State) (o : ONum) : (s.setPilot o).pending = s.pending := by
  simp [State.setPilot]

@[simp] theorem capPilot_pending (s : State) (o : ONum) (was : Nat) : (s.capPilot o was).pending = s.pending := by
  simp [State.capPilot]

@[simp] theorem ceilingsFollow_pending (s was : State) (l : List ONum) : (s.ceilingsFollow was l).pending = s.pending := by
  induction l generalizing s was with
  | nil => rfl
  | cons a l ih => simp [State.ceilingsFollow, ih]

@[simp] theorem outSwitch_pending (s : State) (o : ONum) (step : Nat) : (s.outSwitch o step).pending = s.pending := by
  simp [State.outSwitch]

@[simp] theorem lastState_pending (s : State) : s.lastState.pending = s.pending := by
  simp [State.lastState]

@[simp] theorem setSess_pending (s : State) (o : ONum) (st : SessState) (cause : Nat) :
    (s.setSess o st cause).pending = s.pending := by
  simp [State.setSess]

@[simp] theorem markEnd_pending (s : State) (o : ONum) (cause : Nat) : (s.markEnd o cause).pending = s.pending := by
  simp [State.markEnd]

@[simp] theorem queueSess_pending (s : State) (o : ONum) : (s.queueSess o).pending = s.pending := by
  unfold State.queueSess
  dsimp only
  split <;> simp

@[simp] theorem dropSession_pending (s : State) (o : ONum) : (s.dropSession o).pending = s.pending := by
  simp [State.dropSession]

@[simp] theorem askLock_pending (s : State) (o : ONum) (locked : Bool) : (s.askLock o locked).pending = s.pending := by
  simp [State.askLock]

@[simp] theorem startOpening_pending (s : State) (o : ONum) (cause : Nat) : (s.startOpening o cause).pending = s.pending := by
  unfold State.startOpening
  dsimp only
  split <;> simp

@[simp] theorem toEnding_pending (s : State) (o : ONum) (cause : Nat) : (s.toEnding o cause).pending = s.pending := by
  simp [State.toEnding]

@[simp] theorem sessTo_pending (s : State) (o : ONum) (goal : SessState) (cause : Nat) :
    (s.sessTo o goal cause).pending = s.pending := by
  unfold State.sessTo
  split <;> simp

@[simp] theorem fwTo_pending (s : State) (o : ONum) (goal : SessState) (cause : Nat) : (s.fwTo o goal cause).pending = s.pending := by
  simp [State.fwTo]

@[simp] theorem evtPower_pending (s : State) (new cause : Nat) : (s.evtPower new cause).pending = s.pending := by
  simp [State.evtPower]

@[simp] theorem evtDomain_pending (s : State) (old cause : Nat) : (s.evtDomain old cause).pending = s.pending := by
  simp [State.evtDomain]

@[simp] theorem wake_pending (s : State) (cause : Nat) : (s.wake cause).pending = s.pending := by
  simp [State.wake]

@[simp] theorem openList_pending (s : State) (cause : Nat) (l : List ONum) : (s.openList cause l).pending = s.pending := by
  induction l generalizing s cause with
  | nil => rfl
  | cons a l ih => simp [State.openList, ih]

@[simp] theorem outletFault_pending (s : State) (src qual : Nat) : (s.outletFault src qual).pending = s.pending := by
  simp [State.outletFault]

@[simp] theorem openGates_pending (s : State) (l : List Nat) : (s.openGates l).pending = s.pending := by
  simp [State.openGates]

@[simp] theorem maintEnd_pending (s : State) (cause : Nat) (p : MaAct → Bool) : (s.maintEnd cause p).pending = s.pending := by
  simp [State.maintEnd]

@[simp] theorem maintFault_pending (s : State) (qual : Nat) : (s.maintFault qual).pending = s.pending := by
  simp [State.maintFault]

@[simp] theorem react_pending (s : State) (src qual sev : Nat) : (s.react src qual sev).pending = s.pending := by
  simp [State.react]

@[simp] theorem reactForced_pending (s : State) (sev : Nat) : (s.reactForced sev).pending = s.pending := by
  simp [State.reactForced]

@[simp] theorem raiseWith_pending (s : State) (src qual data : Nat) (forced retried : Bool) :
    (s.raiseWith src qual data forced retried).pending = s.pending := by
  simp [State.raiseWith]

@[simp] theorem raise_pending (s : State) (src qual data : Nat) : (s.raise src qual data).pending = s.pending := by
  simp [State.raise]

@[simp] theorem raiseRetried_pending (s : State) (src qual data : Nat) : (s.raiseRetried src qual data).pending = s.pending := by
  simp [State.raiseRetried]

@[simp] theorem rowOf_pending (s : State) (src : Nat) (o : ONum) : (s.rowOf src o).pending = s.pending := by
  simp [State.rowOf]

@[simp] theorem raiseFor_pending (s : State) (src : Nat) (o : ONum) (data : Nat) : (s.raiseFor src o data).pending = s.pending := by
  simp [State.raiseFor]

@[simp] theorem transient_pending (s : State) (src qual data : Nat) : (s.transient src qual data).pending = s.pending := by
  simp [State.transient]

@[simp] theorem clearOcc_pending (s : State) (src qual : Nat) : (s.clearOcc src qual).pending = s.pending := by
  simp [State.clearOcc]

@[simp] theorem answered_pending (c : Cmd) (q : Req) (a : Ans) : (answered c q a).pending = a.st.pending := by
  simp [answered]

/-- A command that is screened out completes; one that is served completes after its meaning. -/
@[simp] theorem keepsQueue_mail {c : Cmd} {q : Req} {s : State} {fits : Bool} {body : State → Ans}
    (h : (body s).st.pending = s.pending) : KeepsQueue s (mail c q s fits body) := by
  unfold mail
  split
  · simp
  · split <;> simp [h]

@[simp] theorem no_pending (s : State) (status : Nat) : (s.no status).st.pending = s.pending := by
  simp [State.no]

@[simp] theorem ok_pending (s : State) (payload : Bytes) : (s.ok payload).st.pending = s.pending := by
  simp [State.ok]

@[simp] theorem sized_pending {s : State} {r : Nat × Nat} {n : Nat} {a : Ans} (h : a.st.pending = s.pending) :
    (s.sized r n a).st.pending = s.pending := by
  simp [State.sized, h]

@[simp] theorem wait_pending (s : State) : s.wait.st.pending = s.pending := by
  simp [State.wait]

@[simp] theorem queued_pending (s : State) : s.queued.st.pending = s.pending := by
  simp [State.queued]

/-! ### Accounts -/

@[simp] theorem setAcct_pending (s : State) (a : Nat) (x : Account) : (s.setAcct a x).pending = s.pending := by
  simp [State.setAcct]

@[simp] theorem askEmergency_pending (s : State) (a : Nat) : (s.askEmergency a).pending = s.pending := by
  simp [State.askEmergency]

/-! ### Captures -/

@[simp] theorem modEn_pending (s : State) (f : Energy → Energy) : (s.modEn f).pending = s.pending := by
  simp [State.modEn]

@[simp] theorem waveTrigger_pending (s : State) (trig outlet : Nat) : (s.waveTrigger trig outlet).pending = s.pending := by
  simp [State.waveTrigger]

@[simp] theorem waveIf_pending (s : State) (trig outlet : Nat) : (s.waveIf trig outlet).pending = s.pending := by
  simp [State.waveIf]

@[simp] theorem tamperRec_pending (s : State) (kind st idx src : Nat) : (s.tamperRec kind st idx src).pending = s.pending := by
  simp [State.tamperRec]

@[simp] theorem evtTamper_pending (s : State) (kind st idx src : Nat) (value : Int) :
    (s.evtTamper kind st idx src value).pending = s.pending := by
  simp [State.evtTamper]

@[simp] theorem tamperFound_pending (s : State) (kind idx : Nat) (value : Int) :
    (s.tamperFound kind idx value).pending = s.pending := by
  simp [State.tamperFound]

@[simp] theorem tamperClear_pending (s : State) (src : Nat) (k : Nat × Nat) : (s.tamperClear src k).pending = s.pending := by
  simp [State.tamperClear]

@[simp] theorem takeCovers_pending (s : State) : s.takeCovers.pending = s.pending := by
  simp [State.takeCovers]

/-! ### Operations on credit -/

@[simp] theorem credit_pending (s : State) (a : Nat) (amount : Int) : (s.credit a amount).pending = s.pending := by
  simp [State.credit]

@[simp] theorem applyCredit_pending (s : State) (op : CreditOp) : (s.applyCredit op).1.pending = s.pending := by
  unfold State.applyCredit
  split <;> simp

@[simp] theorem evtCredit_pending (s : State) (a old new : Nat) (balance : Int) :
    (s.evtCredit a old new balance).pending = s.pending := by
  simp [State.evtCredit]

@[simp] theorem followCredit_pending (s : State) (a : Nat) (balance : Int) : (s.followCredit a balance).pending = s.pending := by
  simp [State.followCredit]

@[simp] theorem followAll_pending (s : State) : s.followAll.pending = s.pending := by
  simp [State.followAll]

/-! ### Operations on the line -/

@[simp] theorem modLine_pending (s : State) (f : Line → Line) : (s.modLine f).pending = s.pending := by
  simp [State.modLine]

@[simp] theorem lineEnq_pending (s : State) (f : LineTx) : (s.lineEnq f).pending = s.pending := by
  simp [State.lineEnq]

@[simp] theorem lineDlms_pending (s : State) (peer : Nat) (apdu : Bytes) : (s.lineDlms peer apdu).pending = s.pending := by
  simp [State.lineDlms]

/-! ### Operations of the DLMS server -/

@[simp] theorem modDl_pending (s : State) (f : Dlms → Dlms) : (s.modDl f).pending = s.pending := by
  simp [State.modDl]

@[simp] theorem tunnelEnd_pending (s : State) (channel : Nat) (b : Bytes) : (s.tunnelEnd channel b).pending = s.pending := by
  unfold State.tunnelEnd
  split <;> simp

@[simp] theorem carry_pending (s : State) (client server transport channel : Nat) (apdu : Bytes) :
    (s.carry client server transport channel apdu).pending = s.pending := by
  simp [State.carry]

@[simp] theorem sendApdu_pending (s : State) (client server transport channel : Nat) (apdu : Bytes) :
    (s.sendApdu client server transport channel apdu).pending = s.pending := by
  grind [State.sendApdu, modDl_pending, carry_pending]

@[simp] theorem respondAll_pending (s : State) (client server transport channel : Nat) (l : List (Nat × List Int)) :
    (s.respondAll client server transport channel l).pending = s.pending := by
  simp [State.respondAll]

@[simp] theorem respond_pending (s : State) (client server transport channel result : Nat) (vals : List Int) :
    (s.respond client server transport channel result vals).pending = s.pending := by
  simp [State.respond]

@[simp] theorem sendReply_pending (s : State) (r : DlReply) : (s.sendReply r).pending = s.pending := by
  simp [State.sendReply]

@[simp] theorem replyAfter_pending (s : State) (n : Nat) (r : DlReply) : (s.replyAfter n r).pending = s.pending := by
  simp [State.replyAfter]

/-! ### Operations on keys -/

@[simp] theorem setSlot_pending (s : State) (n : Nat) (x : Slot) : (s.setSlot n x).pending = s.pending := by
  simp [State.setSlot]

@[simp] theorem flown_pending (c : Cmd) (q : Req) (s : State) : (flown c q s).pending = s.pending := by
  simp [flown]

@[simp] theorem ended_pending (c : Cmd) (q : Req) (a : Ans) : (ended c q a).pending = a.st.pending := by
  simp [ended]

/-- As `keepsQueue_mail`, for a command that answers later. -/
@[simp] theorem keepsQueue_mailQ {c : Cmd} {q : Req} {s : State} {fits : Bool} {body : State → Ans}
    (h : (body (flown c q s)).st.pending = s.pending) : KeepsQueue s (mailQ c q s fits body) := by
  unfold mailQ
  split
  · simp
  · split <;> simp [h]

/-! ### The switching sequencer -/

@[simp] theorem keepsQueue_onlyIf {c : Bool} {s : State} {f : State → State} :
    KeepsQueue s (onlyIf c s f) ↔ (c = true → (f s).pending = s.pending) := by
  unfold onlyIf
  split <;> simp [*]

@[simp] theorem modSin_pending (s : State) (n : Nat) (f : Sin → Sin) : (s.modSin n f).pending = s.pending := by
  simp [State.modSin]

@[simp] theorem modSite_pending (s : State) (j : Nat) (f : Site → Site) : (s.modSite j f).pending = s.pending := by
  simp [State.modSite]

@[simp] theorem evtSafe_pending (s : State) (fn src st outs : Nat) : (s.evtSafe fn src st outs).pending = s.pending := by
  simp [State.evtSafe]

@[simp] theorem sfDemand_pending (s : State) (fn src outs : Nat) : (s.sfDemand fn src outs).pending = s.pending := by
  simp [State.sfDemand]

@[simp] theorem sfEnd_pending (s : State) (fn src : Nat) : (s.sfEnd fn src).pending = s.pending := by
  simp [State.sfEnd]

@[simp] theorem endSessions_pending (s : State) (cause : Nat) (l : List ONum) : (s.endSessions cause l).pending = s.pending := by
  induction l generalizing s cause with
  | nil => rfl
  | cons a l ih => simp [State.endSessions, ih]

@[simp] theorem openBus_pending (s : State) (j : Nat) (ends : Bool) : (s.openBus j ends).pending = s.pending := by
  simp [State.openBus]

@[simp] theorem finishTags_pending (s : State) (status : Nat) (l : List Nat) : (s.finishTags status l).pending = s.pending := by
  induction l generalizing s status with
  | nil => rfl
  | cons a l ih => simp [State.finishTags, ih]

@[simp] theorem cutOff_pending (s : State) (j : Nat) : (s.cutOff j).pending = s.pending := by
  simp [State.cutOff]

@[simp] theorem weld_pending (s : State) (o : ONum) (phases : Nat) : (s.weld o phases).pending = s.pending := by
  simp [State.weld]

@[simp] theorem actOn115_pending (s : State) (o : ONum) : (s.actOn115 o).pending = s.pending := by
  unfold State.actOn115
  split <;> simp

@[simp] theorem close_pending (s : State) (o : ONum) : (s.close o).pending = s.pending := by
  simp [State.close]

@[simp] theorem pairOff_pending (s : State) (p : Nat) : (s.pairOff p).pending = s.pending := by
  simp [State.pairOff]

@[simp] theorem sswUp_pending (s : State) (o : ONum) : (s.sswUp o).pending = s.pending := by
  simp [State.sswUp]

@[simp] theorem tripAdd_pending (s : State) (o : ONum) (code : Nat) (value : Int) : (s.tripAdd o code value).pending = s.pending := by
  simp [State.tripAdd]

@[simp] theorem tripReport_pending (s : State) (o : ONum) : (s.tripReport o).pending = s.pending := by
  unfold State.tripReport
  dsimp only
  split <;> simp

@[simp] theorem trip_pending (s : State) (o : ONum) (src code : Nat) (value : Int) :
    (s.trip o src code value).pending = s.pending := by
  simp [State.trip]

@[simp] theorem keepsQueue_execPilotPeriod (o : ONum) (pos neg : List Int) (s : State) :
    KeepsQueue s (execPilotPeriod o pos neg s) := by
  simp [execPilotPeriod]

@[simp] theorem keepsQueue_execPilotLevel (o : ONum) (s : State) : KeepsQueue s (execPilotLevel o s) := by
  simp [execPilotLevel]

@[simp] theorem keepsQueue_execPilotDiode (o : ONum) (s : State) : KeepsQueue s (execPilotDiode o s) := by
  simp [execPilotDiode]

@[simp] theorem keepsQueue_execPpSample (o : ONum) (ohm : Nat) (s : State) : KeepsQueue s (execPpSample o ohm s) := by
  simp [execPpSample]

@[simp] theorem keepsQueue_execMirrorContactChange (p : Nat) (closed : Bool) (s : State) :
    KeepsQueue s (execMirrorContactChange p closed s) := by
  simp [execMirrorContactChange]

@[simp] theorem keepsQueue_execClosingStart (o : ONum) (s : State) : KeepsQueue s (execClosingStart o s) := by
  simp [execClosingStart]

@[simp] theorem keepsQueue_execClosingConfirmed (o : ONum) (s : State) : KeepsQueue s (execClosingConfirmed o s) := by
  simp [execClosingConfirmed]

@[simp] theorem keepsQueue_execClosingTimeout (o : ONum) (s : State) : KeepsQueue s (execClosingTimeout o s) := by
  simp [execClosingTimeout]

@[simp] theorem keepsQueue_execSswReadyCheck (o : ONum) (ready : Bool) (s : State) : KeepsQueue s (execSswReadyCheck o ready s) := by
  simp [execSswReadyCheck]

@[simp] theorem keepsQueue_execSswEnableRetry (o : ONum) (s : State) : KeepsQueue s (execSswEnableRetry o s) := by
  simp [execSswEnableRetry]

@[simp] theorem keepsQueue_execOpeningStart (o : ONum) (cause : Nat) (s : State) : KeepsQueue s (execOpeningStart o cause s) := by
  simp [execOpeningStart]

@[simp] theorem releaseContactor_pending (s : State) (o : ONum) : (s.releaseContactor o).pending = s.pending := by
  simp [State.releaseContactor]

@[simp] theorem keepsQueue_execContactorRelease (o : ONum) (s : State) : KeepsQueue s (execContactorRelease o s) := by
  simp [execContactorRelease]

@[simp] theorem judgeWeld_pending (s : State) (o : ONum) : (s.judgeWeld o).pending = s.pending := by
  simp [State.judgeWeld]

@[simp] theorem presenceSeen_pending (s : State) (o : ONum) (phases : Nat) : (s.presenceSeen o phases).pending = s.pending := by
  simp [State.presenceSeen]

@[simp] theorem keepsQueue_execPresenceDetect (o : ONum) (phases : Nat) (s : State) :
    KeepsQueue s (execPresenceDetect o phases s) := by
  simp [execPresenceDetect]

@[simp] theorem keepsQueue_execDeferredOpening (o : ONum) (s : State) : KeepsQueue s (execDeferredOpening o s) := by
  simp [execDeferredOpening]

/-! ### Metrology -/

@[simp] theorem modCh_pending (s : State) (c : Nat) (f : ChanRun → ChanRun) : (s.modCh c f).pending = s.pending := by
  simp [State.modCh]

@[simp] theorem modMet_pending (s : State) (f : Metro → Metro) : (s.modMet f).pending = s.pending := by
  simp [State.modMet]

@[simp] theorem clip_pending (s : State) (c : Nat) : (s.clip c).pending = s.pending := by
  simp [State.clip]

@[simp] theorem visitRestart_pending (s : State) : s.visitRestart.pending = s.pending := by
  unfold State.visitRestart
  split <;> simp

@[simp] theorem switchGain_pending (s : State) (c : Nat) (hi : Bool) : (s.switchGain c hi).pending = s.pending := by
  simp [State.switchGain]

@[simp] theorem overload_pending (s : State) (c : Nat) : (s.overload c).pending = s.pending := by
  simp [State.overload]

@[simp] theorem keepsQueue_execGainDecision (c : Nat) (s : State) : KeepsQueue s (execGainDecision c s) := by
  simp [execGainDecision]

@[simp] theorem keepsQueue_execGainSwitch (c : Nat) (s : State) : KeepsQueue s (execGainSwitch c s) := by
  refine keepsQueue_onlyIf.mpr fun _ => ?_
  split <;> simp

@[simp] theorem evtLine_pending (s : State) (ev : Nat) : (s.evtLine ev).pending = s.pending := by
  simp [State.evtLine]

@[simp] theorem refCrossing_pending (s : State) : s.refCrossing.pending = s.pending := by
  simp [State.refCrossing]

@[simp] theorem refValid_pending (s : State) (period : Nat) : (s.refValid period).pending = s.pending := by
  simp [State.refValid]

@[simp] theorem synthCross_pending (s : State) : s.synthCross.pending = s.pending := by
  simp [State.synthCross]
  split <;> simp

@[simp] theorem zeroCross_pending (s : State) (c period : Nat) : (s.zeroCross c period).pending = s.pending := by
  unfold State.zeroCross
  dsimp only
  split <;> simp

@[simp] theorem keepsQueue_execReferenceLost (s : State) : KeepsQueue s (execReferenceLost s) := by
  simp [execReferenceLost]

@[simp] theorem evtTemp_pending (s : State) (k st : Nat) : (s.evtTemp k st).pending = s.pending := by
  simp [State.evtTemp]

@[simp] theorem setTemps_pending (s : State) (gs : List Nat) (t : Int) : (s.setTemps gs t).pending = s.pending := by
  simp [State.setTemps]

@[simp] theorem setNtc_pending (s : State) (k : Nat) (x : Ntc) : (s.setNtc k x).pending = s.pending := by
  simp [State.setNtc]

@[simp] theorem readNtc_pending (s : State) (k r : Nat) (die : Int) : (s.readNtc k r die).pending = s.pending := by
  unfold State.readNtc
  split <;> simp

@[simp] theorem keepsQueue_execTempUpdate (ntc : List Nat) (die10 : Int) (s : State) : KeepsQueue s (execTempUpdate ntc die10 s) := by
  simp [execTempUpdate]

@[simp] theorem keepsQueue_execNtcRestore (k : Nat) (s : State) : KeepsQueue s (execNtcRestore k s) := by
  simp [execNtcRestore]

@[simp] theorem measureOffset_pending (s : State) (c g : Nat) (first second : Int) :
    (s.measureOffset c g first second).pending = s.pending := by
  simp [State.measureOffset]

@[simp] theorem keepsQueue_execOffsetRemeasure (o : ONum) (offs : List Int) (s : State) :
    KeepsQueue s (execOffsetRemeasure o offs s) := by
  simp [execOffsetRemeasure]

@[simp] theorem keepsQueue_execSelfcalVisit (s : State) : KeepsQueue s (execSelfcalVisit s) := by
  simp [execSelfcalVisit]

@[simp] theorem visitChan_pending (s : State) (c : Nat) (resp delay : Int) : (s.visitChan c resp delay).pending = s.pending := by
  unfold State.visitChan
  split <;> simp

@[simp] theorem evtSelfcal_pending (s : State) (g result c : Nat) : (s.evtSelfcal g result c).pending = s.pending := by
  simp [State.evtSelfcal]

@[simp] theorem visitEnded_pending (s : State) (resp delay : List Int) : (s.visitEnded resp delay).pending = s.pending := by
  unfold State.visitEnded
  split
  · rfl
  · dsimp only
    split
    · simp
    · split <;> simp

@[simp] theorem keepsQueue_execSelfcalVisitEnd (resp delay : List Int) (s : State) :
    KeepsQueue s (execSelfcalVisitEnd resp delay s) := by
  simp [execSelfcalVisitEnd]

@[simp] theorem abandonVisit_pending (s : State) : s.abandonVisit.pending = s.pending := by
  unfold State.abandonVisit
  split <;> simp

@[simp] theorem keepsQueue_execCalCommitDone (ok : Bool) (s : State) : KeepsQueue s (execCalCommitDone ok s) := by
  unfold execCalCommitDone
  split <;> simp

@[simp] theorem writeCal_pending (s : State) (f : CalSet → CalSet) : (s.writeCal f).st.pending = s.pending := by
  simp [State.writeCal]

@[simp] theorem keepsQueue_execMetroConfigSet (q : Req) (s : State) : KeepsQueue s (execMetroConfigSet q s) := by
  simp [execMetroConfigSet]

@[simp] theorem keepsQueue_execMetroConfigGet (q : Req) (s : State) : KeepsQueue s (execMetroConfigGet q s) := by
  simp [execMetroConfigGet]

@[simp] theorem keepsQueue_execMetroScaleSet (q : Req) (s : State) : KeepsQueue s (execMetroScaleSet q s) := by
  simp [execMetroScaleSet]

@[simp] theorem keepsQueue_execMetroScaleGet (q : Req) (s : State) : KeepsQueue s (execMetroScaleGet q s) := by
  simp [execMetroScaleGet]

@[simp] theorem keepsQueue_execMetroCalWrite (q : Req) (s : State) : KeepsQueue s (execMetroCalWrite q s) := by
  simp [execMetroCalWrite]

@[simp] theorem keepsQueue_execMetroCalRead (q : Req) (s : State) : KeepsQueue s (execMetroCalRead q s) := by
  simp [execMetroCalRead]

@[simp] theorem keepsQueue_execMetroTableWrite (q : Req) (s : State) : KeepsQueue s (execMetroTableWrite q s) := by
  simp [execMetroTableWrite]

@[simp] theorem keepsQueue_execMetroTableRead (q : Req) (s : State) : KeepsQueue s (execMetroTableRead q s) := by
  simp [execMetroTableRead]

@[simp] theorem keepsQueue_execMetroCalDigest (q : Req) (s : State) : KeepsQueue s (execMetroCalDigest q s) := by
  simp [execMetroCalDigest]

@[simp] theorem keepsQueue_execMetroCalCommit (q : Req) (s : State) : KeepsQueue s (execMetroCalCommit q s) := by
  grind [execMetroCalCommit, keepsQueue_mail, no_pending, queued_pending, modMet_pending]

@[simp] theorem keepsQueue_execMetroCalRevert (q : Req) (s : State) : KeepsQueue s (execMetroCalRevert q s) := by
  simp [execMetroCalRevert]

@[simp] theorem keepsQueue_execMetroChStatus (q : Req) (s : State) : KeepsQueue s (execMetroChStatus q s) := by
  simp [execMetroChStatus]

@[simp] theorem keepsQueue_execMetroLineGet (q : Req) (s : State) : KeepsQueue s (execMetroLineGet q s) := by
  simp [execMetroLineGet]

@[simp] theorem keepsQueue_execMetroRaw (q : Req) (s : State) : KeepsQueue s (execMetroRaw q s) := by
  simp [execMetroRaw]

/-! ### Energy -/

@[simp] theorem endReverse_pending (s : State) (l : List ONum) : (s.endReverse l).pending = s.pending := by
  induction l generalizing s with
  | nil => rfl
  | cons a l ih => simp [State.endReverse, ih]

@[simp] theorem rawSample_pending (s : State) (y : List Int) : (s.rawSample y).pending = s.pending := by
  unfold State.rawSample
  split <;> simp

@[simp] theorem latchAt_pending (s : State) (kind : Nat) : (s.latchAt kind).pending = s.pending := by
  simp [State.latchAt]

@[simp] theorem neutralRuns_pending (s : State) : s.neutralRuns.pending = s.pending := by
  simp [State.neutralRuns]

@[simp] theorem commandLatch_pending (s : State) : s.commandLatch.pending = s.pending := by
  unfold State.commandLatch
  split <;> simp

@[simp] theorem sampleEnergy_pending (s : State) (ns : Nat) : (s.sampleEnergy ns).pending = s.pending := by
  simp [State.sampleEnergy]

@[simp] theorem sampled_pending (s : State) (x : List Int) (lfxo : Nat) : (s.sampled x lfxo).pending = s.pending := by
  simp [State.sampled]

@[simp] theorem keepsQueue_execMetroSample (x : List Int) (lfxo : Nat) (s : State) : KeepsQueue s (execMetroSample x lfxo s) := by
  simp [execMetroSample]

@[simp] theorem keepsQueue_execDirectionChange (o : ONum) (s : State) : KeepsQueue s (execDirectionChange o s) := by
  simp [execDirectionChange]

@[simp] theorem keepsQueue_execPeriodicLatch (s : State) : KeepsQueue s (execPeriodicLatch s) := by
  simp [execPeriodicLatch]

@[simp] theorem keepsQueue_execBoundaryLatch (s : State) : KeepsQueue s (execBoundaryLatch s) := by
  simp [execBoundaryLatch]

@[simp] theorem evtPq_pending (s : State) (st : Nat) (r : PqRec) : (s.evtPq st r).pending = s.pending := by
  simp [State.evtPq]

@[simp] theorem pqStore_pending (s : State) (r : PqRec) : (s.pqStore r).pending = s.pending := by
  simp [State.pqStore]

@[simp] theorem pqHalf_pending (s : State) (bus : Nat) (rms : List Nat) (low : Bool) :
    (s.pqHalf bus rms low).pending = s.pending := by
  unfold State.pqHalf
  dsimp only
  split <;> simp

@[simp] theorem keepsQueue_execHalfCyclePq (bus : Nat) (s : State) : KeepsQueue s (execHalfCyclePq bus s) := by
  simp [execHalfCyclePq]

@[simp] theorem keepsQueue_execCaptureCut (s : State) : KeepsQueue s (execCaptureCut s) := by
  unfold execCaptureCut
  split <;> simp

@[simp] theorem keepsQueue_execWaveChunkSend (s : State) : KeepsQueue s (execWaveChunkSend s) := by
  unfold execWaveChunkSend
  split
  · simp
  · split <;> simp

@[simp] theorem keepsQueue_execWaveExportTimeout (s : State) : KeepsQueue s (execWaveExportTimeout s) := by
  unfold execWaveExportTimeout
  split <;> simp

@[simp] theorem keepsQueue_execReverseCurrent (o : ONum) (s : State) : KeepsQueue s (execReverseCurrent o s) := by
  simp [execReverseCurrent]

@[simp] theorem keepsQueue_execBypassDetect (o : ONum) (s : State) : KeepsQueue s (execBypassDetect o s) := by
  simp [execBypassDetect]

@[simp] theorem keepsQueue_execBypassEnd (o : ONum) (s : State) : KeepsQueue s (execBypassEnd o s) := by
  simp [execBypassEnd]

@[simp] theorem keepsQueue_execNeutralMissing (bus : Nat) (s : State) : KeepsQueue s (execNeutralMissing bus s) := by
  simp [execNeutralMissing]

@[simp] theorem keepsQueue_execNeutralEnd (bus : Nat) (s : State) : KeepsQueue s (execNeutralEnd bus s) := by
  simp [execNeutralEnd]

@[simp] theorem sampleCover_pending (s : State) (n : Nat) (opened : Bool) : (s.sampleCover n opened).pending = s.pending := by
  simp [State.sampleCover]

@[simp] theorem keepsQueue_execTamperSample (t0 t1 : Bool) (s : State) : KeepsQueue s (execTamperSample t0 t1 s) := by
  simp [execTamperSample]

@[simp] theorem keepsQueue_execEnergyConfigSet (q : Req) (s : State) : KeepsQueue s (execEnergyConfigSet q s) := by
  simp [execEnergyConfigSet]

@[simp] theorem keepsQueue_execEnergyConfigGet (q : Req) (s : State) : KeepsQueue s (execEnergyConfigGet q s) := by
  simp [execEnergyConfigGet]

@[simp] theorem keepsQueue_execEnergyRead (q : Req) (s : State) : KeepsQueue s (execEnergyRead q s) := by
  simp [execEnergyRead]

@[simp] theorem keepsQueue_execEnergyInstant (q : Req) (s : State) : KeepsQueue s (execEnergyInstant q s) := by
  simp [execEnergyInstant]

@[simp] theorem keepsQueue_execEnergyLatchNow (q : Req) (s : State) : KeepsQueue s (execEnergyLatchNow q s) := by
  simp [execEnergyLatchNow]

@[simp] theorem keepsQueue_execPqLogRead (q : Req) (s : State) : KeepsQueue s (execPqLogRead q s) := by
  simp [execPqLogRead]

@[simp] theorem keepsQueue_execWaveList (q : Req) (s : State) : KeepsQueue s (execWaveList q s) := by
  simp [execWaveList]

@[simp] theorem keepsQueue_execWaveExport (q : Req) (s : State) : KeepsQueue s (execWaveExport q s) := by
  simp [execWaveExport]

@[simp] theorem keepsQueue_execWaveTrigger (q : Req) (s : State) : KeepsQueue s (execWaveTrigger q s) := by
  simp [execWaveTrigger]

@[simp] theorem keepsQueue_execTamperStatus (q : Req) (s : State) : KeepsQueue s (execTamperStatus q s) := by
  simp [execTamperStatus]

@[simp] theorem keepsQueue_execTamperClear (q : Req) (s : State) : KeepsQueue s (execTamperClear q s) := by
  simp [execTamperClear]

/-! ### Sessions -/

@[simp] theorem evtHlc_pending (s : State) (o : ONum) (ev reason : Nat) : (s.evtHlc o ev reason).pending = s.pending := by
  simp [State.evtHlc]

@[simp] theorem evtSlac_pending (s : State) (o : ONum) (r : SlacRun) (result dom atten other sounds : Nat) :
    (s.evtSlac o r result dom atten other sounds).pending = s.pending := by
  simp [State.evtSlac]

@[simp] theorem setFallback_pending (s : State) (o : ONum) (reason : Nat) : (s.setFallback o reason).pending = s.pending := by
  simp [State.setFallback]

@[simp] theorem hlcUnplug_pending (s : State) (o : ONum) : (s.hlcUnplug o).pending = s.pending := by
  unfold State.hlcUnplug
  dsimp only
  split <;> simp

@[simp] theorem authorise_pending (s : State) (o : ONum) (cause : Nat) : (s.authorise o cause).pending = s.pending := by
  simp [State.authorise]

@[simp] theorem refuseAuth_pending (s : State) (o : ONum) (cause : Nat) : (s.refuseAuth o cause).pending = s.pending := by
  simp [State.refuseAuth]

@[simp] theorem acceptAuth_pending (s : State) (o : ONum) (account cause : Nat) :
    (s.acceptAuth o account cause).pending = s.pending := by
  simp [State.acceptAuth]

@[simp] theorem forgetSess_pending (s : State) (num : Nat) : (s.forgetSess num).pending = s.pending := by
  simp [State.forgetSess]

@[simp] theorem markBidir_pending (s : State) (o : ONum) : (s.markBidir o).pending = s.pending := by
  simp [State.markBidir]

@[simp] theorem abandon_pending (s : State) (o : ONum) : (s.abandon o).pending = s.pending := by
  simp [State.abandon]

@[simp] theorem evtIdent_pending (s : State) (o : ONum) (source seq : Nat) (id : Bytes) :
    (s.evtIdent o source seq id).pending = s.pending := by
  simp [State.evtIdent]

@[simp] theorem decideAuth_pending (s : State) (o : ONum) (i : Ident) : (s.decideAuth o i).pending = s.pending := by
  simp [State.decideAuth]
  split <;> simp

@[simp] theorem endStep_pending (s : State) (o : ONum) : (s.endStep o).pending = s.pending := by
  simp [State.endStep]
  split <;> simp

@[simp] theorem setControl_pending (s : State) (o : ONum) (c : Nat) : (s.setControl o c).pending = s.pending := by
  simp [State.setControl]

@[simp] theorem plug_pending (s : State) (o : ONum) (cause : Nat) : (s.plug o cause).pending = s.pending := by
  unfold State.plug
  dsimp only
  split <;> simp

@[simp] theorem goHome_pending (s : State) (o : ONum) (st : SessState) (cause : Nat) : (s.goHome o st cause).pending = s.pending := by
  simp [State.goHome]

@[simp] theorem faultedExit_pending (s : State) (o : ONum) (onlyA : Bool) (cause : Nat) :
    (s.faultedExit o onlyA cause).pending = s.pending := by
  simp [State.faultedExit]

@[simp] theorem oosExit_pending (s : State) (o : ONum) (cause : Nat) : (s.oosExit o cause).pending = s.pending := by
  simp [State.oosExit]

@[simp] theorem identify_pending (s : State) (o : ONum) (i : Ident) : (s.identify o i).pending = s.pending := by
  simp [State.identify]
  split <;> simp

@[simp] theorem pilotSession_pending (s : State) (o : ONum) (cause : Nat) : (s.pilotSession o cause).pending = s.pending := by
  unfold State.pilotSession
  split <;> simp

@[simp] theorem finishUnlocks_pending (s : State) (status : Nat) (l : List Nat) : (s.finishUnlocks status l).pending = s.pending := by
  induction l generalizing s status with
  | nil => rfl
  | cons a l ih => simp [State.finishUnlocks, ih]

@[simp] theorem lockSession_pending (s : State) (o : ONum) : (s.lockSession o).pending = s.pending := by
  simp [State.lockSession]

@[simp] theorem lockDone_pending (s : State) (o : ONum) : (s.lockDone o).pending = s.pending := by
  grind [State.lockDone, modLock_pending, finishUnlocks_pending, askLock_pending, lockSession_pending]

@[simp] theorem acceptPilot_pending (s : State) (o : ONum) : (s.acceptPilot o).pending = s.pending := by
  simp [State.acceptPilot]

@[simp] theorem keepsQueue_execPilotStateAccept (o : ONum) (s : State) : KeepsQueue s (execPilotStateAccept o s) := by
  simp [execPilotStateAccept]

@[simp] theorem ceilingTo_pending {s : State} {o : ONum} {f : State → State} (hf : ∀ s, (f s).pending = s.pending) :
    (s.ceilingTo o f).pending = s.pending := by
  simp [State.ceilingTo, hf]

@[simp] theorem keepsQueue_execPpAccept (o : ONum) (s : State) : KeepsQueue s (execPpAccept o s) := by
  grind [execPpAccept, keepsQueue_onlyIf, ceilingTo_pending, modPp_pending, actOn115_pending, raise_pending, fwTo_pending,
    pilotSession_pending]

@[simp] theorem keepsQueue_execLockFeedbackChange (o : ONum) (locked : Bool) (s : State) :
    KeepsQueue s (execLockFeedbackChange o locked s) := by
  simp [execLockFeedbackChange]

@[simp] theorem weldEnded_pending (s : State) (o : ONum) : (s.weldEnded o).pending = s.pending := by
  simp [State.weldEnded]

@[simp] theorem keepsQueue_execWeldWindowEnd (o : ONum) (s : State) : KeepsQueue s (execWeldWindowEnd o s) := by
  simp [execWeldWindowEnd]

@[simp] theorem keepsQueue_execFaultedPresenceClear (o : ONum) (s : State) : KeepsQueue s (execFaultedPresenceClear o s) := by
  simp [execFaultedPresenceClear]

@[simp] theorem keepsQueue_execLockPulse (o : ONum) (s : State) : KeepsQueue s (execLockPulse o s) := by
  simp [execLockPulse]

@[simp] theorem keepsQueue_execLockPulseEnd (o : ONum) (s : State) : KeepsQueue s (execLockPulseEnd o s) := by
  simp [execLockPulseEnd]

@[simp] theorem keepsQueue_execLockBrakeEnd (o : ONum) (s : State) : KeepsQueue s (execLockBrakeEnd o s) := by
  simp [execLockBrakeEnd]

@[simp] theorem lockFailed_pending (s : State) (o : ONum) : (s.lockFailed o).pending = s.pending := by
  unfold State.lockFailed
  dsimp only
  split <;> simp

@[simp] theorem keepsQueue_execLockFeedbackCheck (o : ONum) (s : State) : KeepsQueue s (execLockFeedbackCheck o s) := by
  simp [execLockFeedbackCheck]

@[simp] theorem keepsQueue_execLockRetry (o : ONum) (s : State) : KeepsQueue s (execLockRetry o s) := by
  simp [execLockRetry]

@[simp] theorem present_pending (s : State) (o : ONum) (src : Nat) (id : Bytes) : (s.present o src id).pending = s.pending := by
  simp [State.present]
  split <;> simp

@[simp] theorem keepsQueue_execIdentification (o : ONum) (src : Nat) (id : Bytes) (s : State) :
    KeepsQueue s (execIdentification o src id s) := by
  simp [execIdentification]

@[simp] theorem keepsQueue_execHeldIdentExpiry (o : ONum) (s : State) : KeepsQueue s (execHeldIdentExpiry o s) := by
  simp [execHeldIdentExpiry]

@[simp] theorem keepsQueue_execAuthTimeout (o : ONum) (s : State) : KeepsQueue s (execAuthTimeout o s) := by
  simp [execAuthTimeout]

@[simp] theorem keepsQueue_execOutletConfigSet (q : Req) (s : State) : KeepsQueue s (execOutletConfigSet q s) := by
  simp [execOutletConfigSet]

@[simp] theorem keepsQueue_execOutletConfigGet (q : Req) (s : State) : KeepsQueue s (execOutletConfigGet q s) := by
  simp [execOutletConfigGet]

@[simp] theorem keepsQueue_execOutletStatusGet (q : Req) (s : State) : KeepsQueue s (execOutletStatusGet q s) := by
  simp [execOutletStatusGet]

@[simp] theorem keepsQueue_execOutletAuth (q : Req) (s : State) : KeepsQueue s (execOutletAuth q s) := by
  simp [execOutletAuth]

@[simp] theorem keepsQueue_execOutletStop (q : Req) (s : State) : KeepsQueue s (execOutletStop q s) := by
  grind [execOutletStop, keepsQueue_mail, ok_pending, toEnding_pending, modSes_pending, setSess_pending, abandon_pending, no_pending]

@[simp] theorem clearAll_pending (s : State) (o : ONum) (l : List Nat) : (s.clearAll o l).pending = s.pending := by
  induction l generalizing s o with
  | nil => rfl
  | cons a l ih => simp [State.clearAll, ih]

@[simp] theorem clearOutlet_pending (s : State) (o : ONum) : (s.clearOutlet o).pending = s.pending := by
  simp [State.clearOutlet]

@[simp] theorem service_pending (s : State) (action : Nat) (o : ONum) : (s.service action o).pending = s.pending := by
  simp [State.service]

@[simp] theorem serviceAll_pending (s : State) (action : Nat) (l : List ONum) : (s.serviceAll action l).pending = s.pending := by
  induction l generalizing s action with
  | nil => rfl
  | cons a l ih => simp [State.serviceAll, ih]

@[simp] theorem keepsQueue_execOutletService (q : Req) (s : State) : KeepsQueue s (execOutletService q s) := by
  simp [execOutletService]

@[simp] theorem keepsQueue_execOutletUnlock (q : Req) (s : State) : KeepsQueue s (execOutletUnlock q s) := by
  simp [execOutletUnlock]

/-! ### The ledger -/

@[simp] theorem charge_pending (s : State) (m : Meter) : (s.charge m).1.pending = s.pending := by
  simp [State.charge]

@[simp] theorem keepCharge_pending (s : State) (o : ONum) (m : Meter) : (s.keepCharge o m).pending = s.pending := by
  simp [State.keepCharge]

@[simp] theorem chargeAll_pending (s : State) (segs : List (List (List Nat) × Nat)) : (s.chargeAll segs).1.pending = s.pending := by
  simp [State.chargeAll]

@[simp] theorem sessEnd_pending (s : State) (r : SessRec) (v : List (List Nat)) (gen : Nat) :
    (s.sessEnd r v gen).pending = s.pending := by
  simp [State.sessEnd]

@[simp] theorem appendCommit_pending (s : State) (recs : List LRec) (closing : Bool) (lseq : Nat) (a : CommitArgs) :
    (s.appendCommit recs closing lseq a).1.pending = s.pending := by
  simp [State.appendCommit]

@[simp] theorem evtBoundary_pending (s : State) (p : BPlan) (src flags gen : Nat) :
    (s.evtBoundary p src flags gen).pending = s.pending := by
  simp [State.evtBoundary]

@[simp] theorem periodDone_pending (s : State) (p : BPlan) (gen : Nat) : (s.periodDone p gen).pending = s.pending := by
  grind [State.periodDone, emit_pending, finish_pending, effect_pending]

@[simp] theorem enforce_pending (s : State) (p : BPlan) : (s.enforce p).pending = s.pending := by
  unfold State.enforce
  dsimp only
  split <;> simp

@[simp] theorem monitor_pending (s : State) (was : Nat) : (s.monitor was).pending = s.pending := by
  simp [State.monitor]

@[simp] theorem keepRun_pending (s : State) (v : List (List Nat)) : (s.keepRun v).pending = s.pending := by
  simp [State.keepRun]

@[simp] theorem commitAll_pending (s : State) (cause flags : Nat) : (s.commitAll cause flags).pending = s.pending := by
  cases h : s.bill.plan
  all_goals
    simp only [State.commitAll, h, followAll_pending]
    rw [foldl_pending]
    · simp
    · intro s e
      cases e.1.reply <;> cases e.1.cmd <;> simp

@[simp] theorem keepsQueue_execBoundarySequence (s : State) : KeepsQueue s (execBoundarySequence s) := by
  simp [execBoundarySequence]

@[simp] theorem evtTime_pending (s : State) (kind source old new : Nat) : (s.evtTime kind source old new).pending = s.pending := by
  simp [State.evtTime]

@[simp] theorem timeRec_pending (s : State) (kind source old new : Nat) : (s.timeRec kind source old new).pending = s.pending := by
  simp [State.timeRec]

@[simp] theorem correctTime_pending (s : State) (d : Int) (source : Nat) : (s.correctTime d source).pending = s.pending := by
  simp [State.correctTime]

@[simp] theorem offerCorrection_pending (s : State) (d : Int) (source : Nat) : (s.offerCorrection d source).pending = s.pending := by
  simp [State.offerCorrection]

@[simp] theorem keepsQueue_execBillTimeCorrection (delta : Int) (source : Nat) (s : State) :
    KeepsQueue s (execBillTimeCorrection delta source s) := by
  simp [execBillTimeCorrection]

@[simp] theorem keepsQueue_execSlewEnd (s : State) : KeepsQueue s (execSlewEnd s) := by
  simp [execSlewEnd]

@[simp] theorem armBoundary_pending (s : State) : s.armBoundary.pending = s.pending := by
  simp [State.armBoundary]

@[simp] theorem keepsQueue_execBoundaryArm (s : State) : KeepsQueue s (execBoundaryArm s) := by
  simp [execBoundaryArm]

@[simp] theorem keepsQueue_execPeriodicCommitTimer (s : State) : KeepsQueue s (execPeriodicCommitTimer s) := by
  simp [execPeriodicCommitTimer]

@[simp] theorem keepsQueue_execLedgerCommit (ok retried : Bool) (s : State) : KeepsQueue s (execLedgerCommit ok retried s) := by
  refine keepsQueue_onlyIf.mpr fun _ => ?_
  dsimp only
  split
  · split <;> simp
  · simp

/-! ### Billing -/

@[simp] theorem keepsQueue_execBillConfigSet (q : Req) (s : State) : KeepsQueue s (execBillConfigSet q s) := by
  simp [execBillConfigSet]

@[simp] theorem keepsQueue_execBillConfigGet (q : Req) (s : State) : KeepsQueue s (execBillConfigGet q s) := by
  simp [execBillConfigGet]

@[simp] theorem keepsQueue_execBillCalendarWrite (q : Req) (s : State) : KeepsQueue s (execBillCalendarWrite q s) := by
  simp [execBillCalendarWrite]

@[simp] theorem keepsQueue_execBillCalendarRead (q : Req) (s : State) : KeepsQueue s (execBillCalendarRead q s) := by
  simp [execBillCalendarRead]

@[simp] theorem keepsQueue_execBillCalendarActivate (q : Req) (s : State) : KeepsQueue s (execBillCalendarActivate q s) := by
  simp [execBillCalendarActivate]

@[simp] theorem keepsQueue_execBillTimeGet (q : Req) (s : State) : KeepsQueue s (execBillTimeGet q s) := by
  simp [execBillTimeGet]

@[simp] theorem setTime_pending (s : State) (t source : Nat) : (s.setTime t source).pending = s.pending := by
  simp [State.setTime]

@[simp] theorem keepsQueue_execBillTimeSet (q : Req) (s : State) : KeepsQueue s (execBillTimeSet q s) := by
  simp [execBillTimeSet]

@[simp] theorem keepsQueue_execBillRegistersGet (q : Req) (s : State) : KeepsQueue s (execBillRegistersGet q s) := by
  simp [execBillRegistersGet]

@[simp] theorem keepsQueue_execBillPeriodGet (q : Req) (s : State) : KeepsQueue s (execBillPeriodGet q s) := by
  grind [execBillPeriodGet, keepsQueue_mail, sized_pending, no_pending, bulkPut_pending]

@[simp] theorem armClose_pending (s : State) (cause : Nat) (tag : Option Nat) : (s.armClose cause tag).pending = s.pending := by
  simp [State.armClose]

@[simp] theorem keepsQueue_execBillPeriodClose (q : Req) (s : State) : KeepsQueue s (execBillPeriodClose q s) := by
  simp [execBillPeriodClose]

@[simp] theorem keepsQueue_execLedgerRead (q : Req) (s : State) : KeepsQueue s (execLedgerRead q s) := by
  simp [execLedgerRead]

@[simp] theorem keepsQueue_execLedgerStatus (q : Req) (s : State) : KeepsQueue s (execLedgerStatus q s) := by
  simp [execLedgerStatus]

@[simp] theorem keepsQueue_execBillCommitNow (q : Req) (s : State) : KeepsQueue s (execBillCommitNow q s) := by
  simp [execBillCommitNow]

/-! ### The safety island -/

@[simp] theorem changeLog_pending (s : State) (kind role old new : Nat) : (s.changeLog kind role old new).pending = s.pending := by
  simp [State.changeLog]

@[simp] theorem confirmReq_pending (s : State) : s.confirmReq.pending = s.pending := by
  simp [State.confirmReq]

@[simp] theorem reloadDacs_pending (s : State) : s.reloadDacs.pending = s.pending := by
  simp [State.reloadDacs]

@[simp] theorem setConfirmed_pending (s : State) : s.setConfirmed.pending = s.pending := by
  simp [State.setConfirmed]

@[simp] theorem allOos_pending (s : State) (cause : Nat) (l : List ONum) : (s.allOos cause l).pending = s.pending := by
  induction l generalizing s cause with
  | nil => rfl
  | cons a l ih => simp [State.allOos, ih]

@[simp] theorem enterSafe_pending (s : State) : s.enterSafe.pending = s.pending := by
  simp [State.enterSafe]

@[simp] theorem freshInputs_pending (s : State) (old : Bytes) : (s.freshInputs old).pending = s.pending := by
  simp [State.freshInputs]

@[simp] theorem putImage_pending (s : State) (img : Bytes) (role : Nat) : (s.putImage img role).pending = s.pending := by
  simp [State.putImage]

@[simp] theorem autoClose_pending (s : State) : s.autoClose.pending = s.pending := by
  simp [State.autoClose]

@[simp] theorem allReturn_pending (s : State) (cause : Nat) (l : List ONum) : (s.allReturn cause l).pending = s.pending := by
  induction l generalizing s cause with
  | nil => rfl
  | cons a l ih => simp [State.allReturn, ih]

@[simp] theorem confirm_pending (s : State) (role : Nat) : (s.confirm role).pending = s.pending := by
  simp [State.confirm]

@[simp] theorem tryPassword_pending (s : State) (role : Nat) (pw : Bytes) : (s.tryPassword role pw).2.pending = s.pending := by
  simp [State.tryPassword]

@[simp] theorem tryCreds_pending (s : State) (p : Bytes) (off : Nat) : (s.tryCreds p off).2.pending = s.pending := by
  simp [State.tryCreds]

@[simp] theorem openSites_pending (s : State) (mask : Nat) : (s.openSites mask).pending = s.pending := by
  simp [State.openSites]

@[simp] theorem sfStart_pending (s : State) (n : Nat) : (s.sfStart n).pending = s.pending := by
  simp [State.sfStart]

@[simp] theorem sfSettle_pending (s : State) (n : Nat) : (s.sfSettle n).pending = s.pending := by
  simp [State.sfSettle]

@[simp] theorem sinTake_pending (s : State) (n : Nat) (chan closed : Bool) : (s.sinTake n chan closed).pending = s.pending := by
  simp [State.sinTake]

@[simp] theorem releaseAll_pending (s : State) (l : List ONum) : (s.releaseAll l).pending = s.pending := by
  induction l generalizing s with
  | nil => rfl
  | cons a l ih => simp [State.releaseAll, ih]

@[simp] theorem closeFails_pending (s : State) (j status : Nat) : (s.closeFails j status).pending = s.pending := by
  simp [State.closeFails]

@[simp] theorem closeDone_pending (s : State) (j : Nat) : (s.closeDone j).pending = s.pending := by
  simp [State.closeDone]

@[simp] theorem openDone_pending (s : State) (j : Nat) (bad : Bool) : (s.openDone j bad).pending = s.pending := by
  simp [State.openDone]

@[simp] theorem keepsQueue_execIslandSafeState (src : Nat) (s : State) : KeepsQueue s (execIslandSafeState src s) := by
  simp [execIslandSafeState]

@[simp] theorem dropPairs_pending (s : State) : s.dropPairs.pending = s.pending := by
  simp [State.dropPairs]

@[simp] theorem keepsQueue_execSafeStatePairsOff (s : State) : KeepsQueue s (execSafeStatePairsOff s) := by
  simp [execSafeStatePairsOff]

@[simp] theorem keepsQueue_execSinSample (n : Nat) (a b : Bool) (s : State) : KeepsQueue s (execSinSample n a b s) := by
  simp [execSinSample]

@[simp] theorem keepsQueue_execSinAccept (n : Nat) (chan closed : Bool) (s : State) :
    KeepsQueue s (execSinAccept n chan closed s) := by
  simp [execSinAccept]

@[simp] theorem keepsQueue_execSinDisc (n : Nat) (s : State) : KeepsQueue s (execSinDisc n s) := by
  simp [execSinDisc]

@[simp] theorem keepsQueue_execSiteRelease (j : Nat) (s : State) : KeepsQueue s (execSiteRelease j s) := by
  simp [execSiteRelease]

@[simp] theorem keepsQueue_execSiteFbCheck (j : Nat) (s : State) : KeepsQueue s (execSiteFbCheck j s) := by
  simp [execSiteFbCheck]

@[simp] theorem resolveEnds_pending (s : State) (j : Nat) (r : Resolve) (status : Nat) :
    (s.resolveEnds j r status).pending = s.pending := by
  simp [State.resolveEnds]

@[simp] theorem keepsQueue_execWeldWatchEnd (o : ONum) (seen : Bool) (s : State) : KeepsQueue s (execWeldWatchEnd o seen s) := by
  unfold execWeldWatchEnd
  dsimp only
  split <;> simp

@[simp] theorem keepsQueue_execPairTestStepEnd (p : Nat) (stepb : Bool) (khs kls coil : Nat) (s : State) :
    KeepsQueue s (execPairTestStepEnd p stepb khs kls coil s) := by
  refine keepsQueue_onlyIf.mpr fun _ => ?_
  split <;> simp

@[simp] theorem keepsQueue_execPullinEnd (p : Nat) (s : State) : KeepsQueue s (execPullinEnd p s) := by
  simp [execPullinEnd]

@[simp] theorem keepsQueue_execSiteCloseCheck (j : Nat) (s : State) : KeepsQueue s (execSiteCloseCheck j s) := by
  simp [execSiteCloseCheck]

@[simp] theorem keepsQueue_execCoilCheck (p coil : Nat) (s : State) : KeepsQueue s (execCoilCheck p coil s) := by
  simp [execCoilCheck]

@[simp] theorem keepsQueue_execCoilUndercurrent (p : Nat) (s : State) : KeepsQueue s (execCoilUndercurrent p s) := by
  simp [execCoilUndercurrent]

@[simp] theorem keepsQueue_execVkcUv (s : State) : KeepsQueue s (execVkcUv s) := by
  simp [execVkcUv]

@[simp] theorem keepsQueue_execPasswordLockoutEnd (role : Nat) (s : State) : KeepsQueue s (execPasswordLockoutEnd role s) := by
  simp [execPasswordLockoutEnd]

@[simp] theorem confirmKey_pending (s : State) (d : Nat) : (s.confirmKey d).pending = s.pending := by
  simp [State.confirmKey]

@[simp] theorem keepsQueue_execConfirmKeypadTimeout (s : State) : KeepsQueue s (execConfirmKeypadTimeout s) := by
  simp [execConfirmKeypadTimeout]

@[simp] theorem keepsQueue_execConfirmKeypadLockoutEnd (s : State) : KeepsQueue s (execConfirmKeypadLockoutEnd s) := by
  simp [execConfirmKeypadLockoutEnd]

@[simp] theorem keepsQueue_execSafeStatusGet (q : Req) (s : State) : KeepsQueue s (execSafeStatusGet q s) := by
  simp [execSafeStatusGet]

@[simp] theorem keepsQueue_execSafeConfigRead (q : Req) (s : State) : KeepsQueue s (execSafeConfigRead q s) := by
  simp [execSafeConfigRead]

@[simp] theorem keepsQueue_execSafeConfigWrite (q : Req) (s : State) : KeepsQueue s (execSafeConfigWrite q s) := by
  simp [execSafeConfigWrite]

@[simp] theorem keepsQueue_execSafeConfirm (q : Req) (s : State) : KeepsQueue s (execSafeConfirm q s) := by
  simp [execSafeConfirm]

@[simp] theorem keepsQueue_execSafeModeSet (q : Req) (s : State) : KeepsQueue s (execSafeModeSet q s) := by
  simp [execSafeModeSet]

@[simp] theorem keepsQueue_execSafePasswordSet (q : Req) (s : State) : KeepsQueue s (execSafePasswordSet q s) := by
  simp [execSafePasswordSet]

@[simp] theorem keepsQueue_execSafeLogRead (q : Req) (s : State) : KeepsQueue s (execSafeLogRead q s) := by
  simp [execSafeLogRead]

@[simp] theorem keepsQueue_execSafeWeldResolve (q : Req) (s : State) : KeepsQueue s (execSafeWeldResolve q s) := by
  simp [execSafeWeldResolve]

@[simp] theorem keepsQueue_execSafeSiteSet (q : Req) (s : State) : KeepsQueue s (execSafeSiteSet q s) := by
  simp [execSafeSiteSet]

/-! ### Protection -/

@[simp] theorem apexTrips_pending (s : State) (o : ONum) (vals : List Int) (l : List Nat) :
    (s.apexTrips o vals l).pending = s.pending := by
  induction l generalizing s o vals with
  | nil => rfl
  | cons a l ih => simp [State.apexTrips, ih]

@[simp] theorem setLatch_pending (s : State) (o : ONum) (inputs : Nat) (vals : List Int) :
    (s.setLatch o inputs vals).pending = s.pending := by
  simp [State.setLatch]

@[simp] theorem applyInputs_pending (s : State) (o : ONum) (inputs : Nat) (vals : List Int) :
    (s.applyInputs o inputs vals).pending = s.pending := by
  simp [State.applyInputs]

@[simp] theorem keepsQueue_execApexTrip (o : ONum) (cur : List Int) (wide : Int) (s : State) :
    KeepsQueue s (execApexTrip o cur wide s) := by
  simp [execApexTrip]

@[simp] theorem keepsQueue_execApexLatchSeen (o : ONum) (s : State) : KeepsQueue s (execApexLatchSeen o s) := by
  simp [execApexLatchSeen]

@[simp] theorem keepsQueue_execThresholdReload (s : State) : KeepsQueue s (execThresholdReload s) := by
  simp [execThresholdReload]

@[simp] theorem keepsQueue_execDcEstimate (o : ONum) (est : Int) (sat : Bool) (s : State) :
    KeepsQueue s (execDcEstimate o est sat s) := by
  simp [execDcEstimate]

@[simp] theorem keepsQueue_execRcFrontend (o : ONum) (s : State) : KeepsQueue s (execRcFrontend o s) := by
  simp [execRcFrontend]

@[simp] theorem keepsQueue_execDcSlowUpdate (o : ONum) (mean : Int) (s : State) : KeepsQueue s (execDcSlowUpdate o mean s) := by
  simp [execDcSlowUpdate]

@[simp] theorem keepsQueue_execDcFastUpdate (o : ONum) (mean : Int) (s : State) : KeepsQueue s (execDcFastUpdate o mean s) := by
  simp [execDcFastUpdate]

@[simp] theorem keepsQueue_execRcWarn (o : ONum) (s : State) : KeepsQueue s (execRcWarn o s) := by
  simp [execRcWarn]

@[simp] theorem keepsQueue_execAcResidualUpdate (o : ONum) (rms : Nat) (s : State) : KeepsQueue s (execAcResidualUpdate o rms s) := by
  simp [execAcResidualUpdate]

@[simp] theorem keepsQueue_execSswDesat (o : ONum) (s : State) : KeepsQueue s (execSswDesat o s) := by
  simp [execSswDesat]

@[simp] theorem keepsQueue_execOverload (o : ONum) (cur : Nat) (s : State) : KeepsQueue s (execOverload o cur s) := by
  simp [execOverload]

@[simp] theorem startTest_pending (s : State) (o : ONum) (trigger : Nat) : (s.startTest o trigger).pending = s.pending := by
  simp [State.startTest]

@[simp] theorem keepsQueue_execSelftestStart (o : ONum) (trigger : Nat) (s : State) :
    KeepsQueue s (execSelftestStart o trigger s) := by
  simp [execSelftestStart]

@[simp] theorem testEnds_pending (s : State) (o : ONum) (m : RcdMeas) : (s.testEnds o m).pending = s.pending := by
  simp [State.testEnds]
  split <;> simp

@[simp] theorem keepsQueue_execSelftestDone (o : ONum) (m : RcdMeas) (s : State) : KeepsQueue s (execSelftestDone o m s) := by
  simp [execSelftestDone]

@[simp] theorem testAtStart_pending (s : State) (o : ONum) (m : RcdMeas × RcdMeas) : (s.testAtStart o m).pending = s.pending := by
  simp [State.testAtStart]

@[simp] theorem keepsQueue_execProtConfigSet (q : Req) (s : State) : KeepsQueue s (execProtConfigSet q s) := by
  simp [execProtConfigSet]

@[simp] theorem keepsQueue_execProtConfigGet (q : Req) (s : State) : KeepsQueue s (execProtConfigGet q s) := by
  simp [execProtConfigGet]

@[simp] theorem keepsQueue_execProtStatusGet (q : Req) (s : State) : KeepsQueue s (execProtStatusGet q s) := by
  simp [execProtStatusGet]

@[simp] theorem keepsQueue_execProtSelftest (q : Req) (s : State) : KeepsQueue s (execProtSelftest q s) := by
  simp [execProtSelftest]

/-! ### The site budget -/

@[simp] theorem round_pending (s : State) (cur : List Nat) : (s.round cur).pending = s.pending := by
  simp [State.round]

@[simp] theorem setSetpoint_pending (s : State) (o : ONum) (v : Int) : (s.setSetpoint o v).pending = s.pending := by
  simp [State.setSetpoint]

@[simp] theorem setAll_pending (s : State) (g : List Int) (l : List ONum) : (s.setAll g l).pending = s.pending := by
  induction l generalizing s g with
  | nil => rfl
  | cons a l ih => simp [State.setAll, ih]

@[simp] theorem endExhausted_pending (s : State) (l : List ONum) : (s.endExhausted l).pending = s.pending := by
  induction l generalizing s with
  | nil => rfl
  | cons a l ih => simp [State.endExhausted, ih]

@[simp] theorem loadStep_pending (s : State) : s.loadStep.pending = s.pending := by
  unfold State.loadStep
  split <;> simp

@[simp] theorem applyStep_pending (s : State) : s.applyStep.pending = s.pending := by
  simp [State.applyStep]

@[simp] theorem keepsQueue_execBudgetRound (reclaim : List Nat) (s : State) : KeepsQueue s (execBudgetRound reclaim s) := by
  simp [execBudgetRound]

@[simp] theorem keepsQueue_execPauseHoldEnd (o : ONum) (s : State) : KeepsQueue s (execPauseHoldEnd o s) := by
  simp [execPauseHoldEnd]

@[simp] theorem keepsQueue_execExtloadLapse (s : State) : KeepsQueue s (execExtloadLapse s) := by
  simp [execExtloadLapse]

@[simp] theorem evtTimebase_pending (s : State) (src dst : Nat) : (s.evtTimebase src dst).pending = s.pending := by
  simp [State.evtTimebase]

@[simp] theorem rebase_pending (s : State) : s.rebase.pending = s.pending := by
  simp [State.rebase]

@[simp] theorem sourceTo_pending (s : State) (line : Bool) : (s.sourceTo line).pending = s.pending := by
  simp [State.sourceTo]

@[simp] theorem keepsQueue_execTimebaseToLine (s : State) : KeepsQueue s (execTimebaseToLine s) := by
  simp [execTimebaseToLine]

@[simp] theorem keepsQueue_execTimebaseToPtp (s : State) : KeepsQueue s (execTimebaseToPtp s) := by
  simp [execTimebaseToPtp]

@[simp] theorem keepsQueue_execBudConfigSet (q : Req) (s : State) : KeepsQueue s (execBudConfigSet q s) := by
  simp [execBudConfigSet]

@[simp] theorem keepsQueue_execBudConfigGet (q : Req) (s : State) : KeepsQueue s (execBudConfigGet q s) := by
  simp [execBudConfigGet]

@[simp] theorem keepsQueue_execBudOutletSet (q : Req) (s : State) : KeepsQueue s (execBudOutletSet q s) := by
  simp [execBudOutletSet]

@[simp] theorem keepsQueue_execBudOutletGet (q : Req) (s : State) : KeepsQueue s (execBudOutletGet q s) := by
  simp [execBudOutletGet]

@[simp] theorem keepsQueue_execBudStatusGet (q : Req) (s : State) : KeepsQueue s (execBudStatusGet q s) := by
  simp [execBudStatusGet]

@[simp] theorem keepsQueue_execBudExtload (q : Req) (s : State) : KeepsQueue s (execBudExtload q s) := by
  simp [execBudExtload]

@[simp] theorem keepsQueue_execBudStepAt (q : Req) (s : State) : KeepsQueue s (execBudStepAt q s) := by
  simp [execBudStepAt]

/-! ### High-level communication -/

@[simp] theorem plcSend_pending (s : State) (o : ONum) (prio : Nat) (body : PlcBody) :
    (s.plcSend o prio body).pending = s.pending := by
  simp [State.plcSend]

@[simp] theorem plcAnswer_pending (s : State) (o : ONum) (body : PlcBody) : (s.plcAnswer o body).pending = s.pending := by
  simp [State.plcAnswer]

@[simp] theorem groupRx_pending (s : State) (l : List Preamble) : (s.groupRx l).pending = s.pending := by
  unfold State.groupRx
  split <;> simp

@[simp] theorem keepsQueue_execPlcFrameRx (l : List Preamble) (ended : List Nat) (s : State) :
    KeepsQueue s (execPlcFrameRx l ended s) := by
  simp [execPlcFrameRx]

@[simp] theorem keepsQueue_execPlcTxGrant (ended clear : List Nat) (s : State) : KeepsQueue s (execPlcTxGrant ended clear s) := by
  simp [execPlcTxGrant]
  split <;> simp

@[simp] theorem keepsQueue_execPlcTxDiscard (o : ONum) (s : State) : KeepsQueue s (execPlcTxDiscard o s) := by
  unfold execPlcTxDiscard
  split <;> simp

@[simp] theorem keepsQueue_execBeaconTx (o : ONum) (s : State) : KeepsQueue s (execBeaconTx o s) := by
  simp [execBeaconTx]

@[simp] theorem keepsQueue_execCmSlacParmReq (o : ONum) (runid mac : Nat) (s : State) :
    KeepsQueue s (execCmSlacParmReq o runid mac s) := by
  refine keepsQueue_onlyIf.mpr fun _ => ?_
  dsimp only
  split <;> simp

@[simp] theorem keepsQueue_execCmMnbcSoundInd (o : ONum) (runid : Nat) (l : List Sound) (sounds : Nat) (s : State) :
    KeepsQueue s (execCmMnbcSoundInd o runid l sounds s) := by
  refine keepsQueue_onlyIf.mpr fun _ => ?_
  split <;> simp

@[simp] theorem keepsQueue_execSlacDecision (o : ONum) (s : State) : KeepsQueue s (execSlacDecision o s) := by
  refine keepsQueue_onlyIf.mpr fun _ => ?_
  split <;> simp

@[simp] theorem keepsQueue_execCmValidateReq (o : ONum) (window : Bool) (n : Nat) (s : State) :
    KeepsQueue s (execCmValidateReq o window n s) := by
  simp [execCmValidateReq]

@[simp] theorem keepsQueue_execCmSlacMatchReq (o : ONum) (runid mac : Nat) (s : State) :
    KeepsQueue s (execCmSlacMatchReq o runid mac s) := by
  refine keepsQueue_onlyIf.mpr fun _ => ?_
  split <;> simp

@[simp] theorem keepsQueue_execSlacInitExpiry (o : ONum) (s : State) : KeepsQueue s (execSlacInitExpiry o s) := by
  simp [execSlacInitExpiry]

@[simp] theorem keepsQueue_execSessionSetupTimeout (o : ONum) (s : State) : KeepsQueue s (execSessionSetupTimeout o s) := by
  simp [execSessionSetupTimeout]

@[simp] theorem keepsQueue_execV2gSessionLost (o : ONum) (s : State) : KeepsQueue s (execV2gSessionLost o s) := by
  simp [execV2gSessionLost]

@[simp] theorem hlcAnswer_pending (s : State) (o : ONum) (r : V2gRes) : (s.hlcAnswer o r).pending = s.pending := by
  simp [State.hlcAnswer]

@[simp] theorem keepsQueue_execSdpRequest (o : ONum) (tls : Bool) (s : State) : KeepsQueue s (execSdpRequest o tls s) := by
  simp [execSdpRequest]

@[simp] theorem chooseProto_pending (s : State) (o : ONum) (p : Nat) (c : Option TlsConn) :
    (s.chooseProto o p c).pending = s.pending := by
  simp [State.chooseProto]

@[simp] theorem keepsQueue_execSupportedAppProtocol (o : ONum) (hello : Option Hello) (offers20 offers2 : Bool) (s : State) :
    KeepsQueue s (execSupportedAppProtocol o hello offers20 offers2 s) := by
  grind [execSupportedAppProtocol, keepsQueue_onlyIf, chooseProto_pending, hlcAnswer_pending]

@[simp] theorem v2gSetup_pending (s : State) (o : ONum) : (s.v2gSetup o).pending = s.pending := by
  simp [State.v2gSetup]

@[simp] theorem v2gParameters_pending (s : State) (o : ONum) (current charge discharge : Nat) :
    (s.v2gParameters o current charge discharge).pending = s.pending := by
  simp [State.v2gParameters]

@[simp] theorem v2gSchedule_pending (s : State) (o : ONum) : (s.v2gSchedule o).pending = s.pending := by
  simp [State.v2gSchedule]

@[simp] theorem v2gAuthorised_pending (s : State) (o : ONum) : (s.v2gAuthorised o).pending = s.pending := by
  simp [State.v2gAuthorised]

@[simp] theorem v2gContract_pending (s : State) (o : ONum) (emaid : Bytes) (chain : List Cert) :
    (s.v2gContract o emaid chain).pending = s.pending := by
  simp [State.v2gContract]

@[simp] theorem v2gServe_pending (s : State) (o : ONum) (m : V2gMsg) : (s.v2gServe o m).pending = s.pending := by
  unfold State.v2gServe
  split <;> simp

@[simp] theorem keepsQueue_execV2gRequest (o : ONum) (m : V2gMsg) (s : State) : KeepsQueue s (execV2gRequest o m s) := by
  simp [execV2gRequest]

@[simp] theorem keepsQueue_execServiceSelectionReq (o : ONum) (service : Nat) (dynamic : Bool) (s : State) :
    KeepsQueue s (execServiceSelectionReq o service dynamic s) := by
  simp [execServiceSelectionReq]

@[simp] theorem keepsQueue_execV2gStopRequest (o : ONum) (kind : Nat) (s : State) : KeepsQueue s (execV2gStopRequest o kind s) := by
  unfold execV2gStopRequest
  split <;> simp

@[simp] theorem keepsQueue_execCertReq (o : ONum) (kind : Nat) (exi : Bytes) (s : State) :
    KeepsQueue s (execCertReq o kind exi s) := by
  simp [execCertReq]

@[simp] theorem keepsQueue_execCertReplyTimeout (o : ONum) (s : State) : KeepsQueue s (execCertReplyTimeout o s) := by
  simp [execCertReplyTimeout]

@[simp] theorem pilOff_pending (s : State) (l : List ONum) : (s.pilOff l).pending = s.pending := by
  induction l generalizing s with
  | nil => rfl
  | cons a l ih => simp [State.pilOff, ih]

@[simp] theorem v2gRevoked_pending (s : State) (n : Nat) : (s.v2gRevoked n).pending = s.pending := by
  simp [State.v2gRevoked]

@[simp] theorem keepsQueue_execHlcConfigSet (q : Req) (s : State) : KeepsQueue s (execHlcConfigSet q s) := by
  simp [execHlcConfigSet]

@[simp] theorem keepsQueue_execHlcConfigGet (q : Req) (s : State) : KeepsQueue s (execHlcConfigGet q s) := by
  simp [execHlcConfigGet]

@[simp] theorem keepsQueue_execHlcSlacSet (q : Req) (s : State) : KeepsQueue s (execHlcSlacSet q s) := by
  simp [execHlcSlacSet]

@[simp] theorem keepsQueue_execHlcStatusGet (q : Req) (s : State) : KeepsQueue s (execHlcStatusGet q s) := by
  simp [execHlcStatusGet]

@[simp] theorem keepsQueue_execHlcExportSet (q : Req) (s : State) : KeepsQueue s (execHlcExportSet q s) := by
  simp [execHlcExportSet]

@[simp] theorem keepsQueue_execHlcCertFetch (q : Req) (s : State) : KeepsQueue s (execHlcCertFetch q s) := by
  grind [execHlcCertFetch, keepsQueue_mail, no_pending, bulkPut_pending]

@[simp] theorem keepsQueue_execHlcCertReply (q : Req) (s : State) : KeepsQueue s (execHlcCertReply q s) := by
  simp [execHlcCertReply]

@[simp] theorem keepsQueue_execHlcStatsGet (q : Req) (s : State) : KeepsQueue s (execHlcStatsGet q s) := by
  simp [execHlcStatsGet]

/-! ### The line -/

@[simp] theorem modPeer_pending (s : State) (a : Nat) (f : LinePeer → LinePeer) : (s.modPeer a f).pending = s.pending := by
  simp [State.modPeer]

@[simp] theorem hear_pending (s : State) (a : Nat) (f : LinePeer → LinePeer) : (s.hear a f).pending = s.pending := by
  simp [State.hear]

@[simp] theorem lineStat_pending (s : State) (k : Nat) : (s.lineStat k).pending = s.pending := by
  simp [State.lineStat]

@[simp] theorem evtMap_pending (s : State) (peer ev setno offset sectors : Nat) :
    (s.evtMap peer ev setno offset sectors).pending = s.pending := by
  simp [State.evtMap]

@[simp] theorem evtLineSec_pending (s : State) (kind peer fcnt : Nat) : (s.evtLineSec kind peer fcnt).pending = s.pending := by
  simp [State.evtLineSec]

@[simp] theorem issueSet_pending (s : State) (a flags sectors : Nat) : (s.issueSet a flags sectors).pending = s.pending := by
  simp [State.issueSet]

@[simp] theorem issueAll_pending (s : State) (l : List LinePeer) : (s.issueAll l).pending = s.pending := by
  induction l generalizing s with
  | nil => rfl
  | cons a l ih => simp [State.issueAll, ih]

@[simp] theorem requestSet_pending (s : State) (a : Nat) : (s.requestSet a).pending = s.pending := by
  simp [State.requestSet]

@[simp] theorem endMapRequest_pending (s : State) (a status : Nat) (payload : Bytes) :
    (s.endMapRequest a status payload).pending = s.pending := by
  unfold State.endMapRequest
  split <;> simp

@[simp] theorem requestFailed_pending (s : State) (a : Nat) : (s.requestFailed a).pending = s.pending := by
  simp [State.requestFailed]

@[simp] theorem keepsQueue_execMapRequestTimeout (a : Nat) (s : State) : KeepsQueue s (execMapRequestTimeout a s) := by
  simp [execMapRequestTimeout]

@[simp] theorem keepsQueue_execRobustHoldEnd (a : Nat) (s : State) : KeepsQueue s (execRobustHoldEnd a s) := by
  simp [execRobustHoldEnd]

@[simp] theorem keepsQueue_execMapExpiry (a : Nat) (gone : Bool) (s : State) : KeepsQueue s (execMapExpiry a gone s) := by
  refine keepsQueue_onlyIf.mpr fun _ => ?_
  split <;> simp

@[simp] theorem realign_pending (s : State) (a : Nat) : (s.realign a).pending = s.pending := by
  simp [State.realign]

@[simp] theorem takeDelta_pending (s : State) (a : Nat) (f : LineFrame) : (s.takeDelta a f).pending = s.pending := by
  simp [State.takeDelta]

@[simp] theorem refTurned_pending (s : State) (ang : Nat) : (s.refTurned ang).pending = s.pending := by
  simp [State.refTurned]

@[simp] theorem keepsQueue_execZeroCrossing (c : Nat) (rising : Bool) (period since : Nat) (s : State) :
    KeepsQueue s (execZeroCrossing c rising period since s) := by
  grind [execZeroCrossing, keepsQueue_onlyIf, zeroCross_pending, modMet_pending, refTurned_pending, emit_pending, modLine_pending]

@[simp] theorem keepsQueue_execSectorTimingLost (s : State) : KeepsQueue s (execSectorTimingLost s) := by
  simp [execSectorTimingLost]

@[simp] theorem modTx_pending (s : State) (i : Nat) (f : LineTx → LineTx) : (s.modTx i f).pending = s.pending := by
  simp [State.modTx]

@[simp] theorem endTx_pending (s : State) (i status : Nat) : (s.endTx i status).pending = s.pending := by
  unfold State.endTx
  split
  · simp
  · split <;> simp

@[simp] theorem dropTx_pending (s : State) (i : Nat) : (s.dropTx i).pending = s.pending := by
  unfold State.dropTx
  split <;> simp

@[simp] theorem retryTx_pending (s : State) (i : Nat) : (s.retryTx i).pending = s.pending := by
  unfold State.retryTx
  split <;> simp

@[simp] theorem failTx_pending (s : State) (i : Nat) : (s.failTx i).pending = s.pending := by
  unfold State.failTx
  split <;> simp

@[simp] theorem keepsQueue_execLineContentionSlot (pre : Bool) (level draw : Nat) (s : State) :
    KeepsQueue s (execLineContentionSlot pre level draw s) := by
  grind [execLineContentionSlot, keepsQueue_onlyIf, modTx_pending, retryTx_pending]

@[simp] theorem takeFcnt_pending (s : State) : s.takeFcnt.2.pending = s.pending := by
  unfold State.takeFcnt
  dsimp only
  split <;> simp

@[simp] theorem onAir_pending (s : State) (air : LineAir) : (s.onAir air).pending = s.pending := by
  simp [State.onAir]

@[simp] theorem sendTx_pending (s : State) (i ang : Nat) (f : LineTx) : (s.sendTx i ang f).pending = s.pending := by
  simp [State.sendTx]

@[simp] theorem keepsQueue_execLineFrameTx (ang : Nat) (s : State) : KeepsQueue s (execLineFrameTx ang s) := by
  grind [execLineFrameTx, keepsQueue_onlyIf, endTx_pending, evtLineSec_pending, raise_pending, modLine_pending, sendTx_pending,
    requestSet_pending]

@[simp] theorem keepsQueue_execLineAckWaitExpiry (s : State) : KeepsQueue s (execLineAckWaitExpiry s) := by
  refine keepsQueue_onlyIf.mpr fun _ => ?_
  split <;> simp

@[simp] theorem keepsQueue_execLineAckTx (ang : Nat) (s : State) : KeepsQueue s (execLineAckTx ang s) := by
  refine keepsQueue_onlyIf.mpr fun _ => ?_
  split <;> simp

@[simp] theorem gotAck_pending (s : State) (f : LineFrame) : (s.gotAck f).pending = s.pending := by
  grind [State.gotAck, takeDelta_pending, modPeer_pending, lineStat_pending, transient_pending, endTx_pending, requestSet_pending,
    failTx_pending]

@[simp] theorem badFrame_pending (s : State) (kind src fcnt : Nat) : (s.badFrame kind src fcnt).pending = s.pending := by
  simp [State.badFrame]

@[simp] theorem takeSeen_pending (s : State) (src fcnt : Nat) : (s.takeSeen src fcnt).pending = s.pending := by
  simp [State.takeSeen]

@[simp] theorem gotSet_pending (s : State) (src : Nat) (b : Bytes) : (s.gotSet src b).pending = s.pending := by
  simp [State.gotSet]

@[simp] theorem lineRx_pending (s : State) (f : LineFrame) : (s.lineRx f).pending = s.pending := by
  simp [State.lineRx]

@[simp] theorem lineContent_pending (s : State) (f : LineFrame) : (s.lineContent f).pending = s.pending := by
  unfold State.lineContent
  split <;> simp

@[simp] theorem ackDue_pending (s : State) (f : LineFrame) : (s.ackDue f).pending = s.pending := by
  simp [State.ackDue]

@[simp] theorem acceptFrame_pending (s : State) (f : LineFrame) : (s.acceptFrame f).pending = s.pending := by
  simp [State.acceptFrame]
  split <;> simp

@[simp] theorem gotData_pending (s : State) (f : LineFrame) : (s.gotData f).pending = s.pending := by
  grind [State.gotData, issueSet_pending, modLine_pending, modPeer_pending, ackDue_pending, lineStat_pending, badFrame_pending,
    acceptFrame_pending]

@[simp] theorem lineReceive_pending (s : State) (f : LineFrame) : (s.lineReceive f).pending = s.pending := by
  simp [State.lineReceive]

@[simp] theorem keepsQueue_execLineFrameRx (f : LineFrame) (s : State) : KeepsQueue s (execLineFrameRx f s) := by
  refine keepsQueue_onlyIf.mpr fun _ => ?_
  dsimp only
  split <;> simp

@[simp] theorem dropProtected_pending (s : State) (l : List LineTx) : (s.dropProtected l).pending = s.pending := by
  induction l generalizing s with
  | nil => rfl
  | cons f l ih =>
    rw [State.dropProtected, ih]
    split
    · split <;> simp
    · rfl

@[simp] theorem lineRevoked_pending (s : State) (n : Nat) : (s.lineRevoked n).pending = s.pending := by
  simp [State.lineRevoked]

@[simp] theorem stopSends_pending (s : State) (l : List LineTx) : (s.stopSends l).pending = s.pending := by
  induction l generalizing s with
  | nil => rfl
  | cons a l ih =>
    rw [State.stopSends]
    split <;> simp [ih]

@[simp] theorem stopRequests_pending (s : State) (l : List LinePeer) : (s.stopRequests l).pending = s.pending := by
  induction l generalizing s with
  | nil => rfl
  | cons a l ih => simp [State.stopRequests, ih]

@[simp] theorem lineStop_pending (s : State) : s.lineStop.pending = s.pending := by
  simp [State.lineStop]

@[simp] theorem keepsQueue_execLineConfigSet (q : Req) (s : State) : KeepsQueue s (execLineConfigSet q s) := by
  simp [execLineConfigSet]

@[simp] theorem keepsQueue_execLineConfigGet (q : Req) (s : State) : KeepsQueue s (execLineConfigGet q s) := by
  simp [execLineConfigGet]

@[simp] theorem keepsQueue_lineMail {c : Cmd} {q : Req} {s : State} {fits : Bool} {body : State → Ans}
    (h : (body s).st.pending = s.pending) : KeepsQueue s (lineMail c q s fits body) := by
  simp [lineMail, h]

@[simp] theorem keepsQueue_execLineStatusGet (q : Req) (s : State) : KeepsQueue s (execLineStatusGet q s) := by
  simp [execLineStatusGet]

@[simp] theorem keepsQueue_execLinePeers (q : Req) (s : State) : KeepsQueue s (execLinePeers q s) := by
  simp [execLinePeers]

@[simp] theorem keepsQueue_execLineSend (q : Req) (s : State) : KeepsQueue s (execLineSend q s) := by
  simp [execLineSend]

@[simp] theorem keepsQueue_execLineMapGet (q : Req) (s : State) : KeepsQueue s (execLineMapGet q s) := by
  grind [execLineMapGet, keepsQueue_lineMail, sized_pending, no_pending, bulkPut_pending]

@[simp] theorem keepsQueue_execLineMapRequest (q : Req) (s : State) : KeepsQueue s (execLineMapRequest q s) := by
  simp [execLineMapRequest]

@[simp] theorem keepsQueue_execLineStatsGet (q : Req) (s : State) : KeepsQueue s (execLineStatsGet q s) := by
  simp [execLineStatsGet]

/-! ### Load switches -/

@[simp] theorem modLswCh_pending (s : State) (c : Nat) (f : LswCh → LswCh) : (s.modLswCh c f).pending = s.pending := by
  simp [State.modLswCh]

@[simp] theorem modLswBank_pending (s : State) (k : Nat) (f : LswBank → LswBank) : (s.modLswBank k f).pending = s.pending := by
  simp [State.modLswBank]

@[simp] theorem evtLsw_pending (s : State) (c kind : Nat) : (s.evtLsw c kind).pending = s.pending := by
  simp [State.evtLsw]

@[simp] theorem evtBank_pending (s : State) (k ev : Nat) : (s.evtBank k ev).pending = s.pending := by
  simp [State.evtBank]

@[simp] theorem lswApply_pending (s : State) (c : Nat) : (s.lswApply c).pending = s.pending := by
  simp [State.lswApply]

@[simp] theorem lswOn_pending (s : State) (c : Nat) : (s.lswOn c).pending = s.pending := by
  simp [State.lswOn]

@[simp] theorem lswOff_pending (s : State) (c : Nat) : (s.lswOff c).pending = s.pending := by
  simp [State.lswOff]

@[simp] theorem lswFollow_pending (s : State) (c : Nat) : (s.lswFollow c).pending = s.pending := by
  simp [State.lswFollow]

@[simp] theorem limpFollow_pending (s : State) (l : List Nat) : (s.limpFollow l).pending = s.pending := by
  induction l generalizing s with
  | nil => rfl
  | cons a l ih => simp [State.limpFollow, ih]

@[simp] theorem setLimp_pending (s : State) (pin wdg : Bool) : (s.setLimp pin wdg).pending = s.pending := by
  simp [State.setLimp]

@[simp] theorem keepsQueue_execLimpHomeInput (low : Bool) (s : State) : KeepsQueue s (execLimpHomeInput low s) := by
  simp [execLimpHomeInput]

@[simp] theorem keepsQueue_execCcWatchdogExpiry (s : State) : KeepsQueue s (execCcWatchdogExpiry s) := by
  simp [execCcWatchdogExpiry]

@[simp] theorem keepsQueue_execLhinChange (n : Nat) (high : Bool) (s : State) : KeepsQueue s (execLhinChange n high s) := by
  simp [execLhinChange]

@[simp] theorem limitSample_pending (s : State) (k : Nat) : (s.limitSample k).pending = s.pending := by
  simp [State.limitSample]

@[simp] theorem keepsQueue_execLswCurrentLimit (ch ma : Nat) (s : State) : KeepsQueue s (execLswCurrentLimit ch ma s) := by
  simp [execLswCurrentLimit]

@[simp] theorem lswTripOff_pending (s : State) (c : Nat) : (s.lswTripOff c).pending = s.pending := by
  simp [State.lswTripOff]

@[simp] theorem keepsQueue_execLswBlankEnd (ch : Nat) (s : State) : KeepsQueue s (execLswBlankEnd ch s) := by
  simp [execLswBlankEnd]

@[simp] theorem keepsQueue_execLswOvercurrent (ch : Nat) (s : State) : KeepsQueue s (execLswOvercurrent ch s) := by
  simp [execLswOvercurrent]

@[simp] theorem keepsQueue_execLswRetry (ch : Nat) (s : State) : KeepsQueue s (execLswRetry ch s) := by
  simp [execLswRetry]

@[simp] theorem keepsQueue_execLswRetryConfirm (ch : Nat) (s : State) : KeepsQueue s (execLswRetryConfirm ch s) := by
  simp [execLswRetryConfirm]

@[simp] theorem lswLatch_pending (s : State) (kind c : Nat) : (s.lswLatch kind c).pending = s.pending := by
  simp [State.lswLatch]

@[simp] theorem keepsQueue_execLswThermalTrip (bank : Bool) (k : Nat) (t : Int) (s : State) :
    KeepsQueue s (execLswThermalTrip bank k t s) := by
  simp [execLswThermalTrip]

@[simp] theorem keepsQueue_execLswThermalRelease (bank : Bool) (k : Nat) (t : Int) (s : State) :
    KeepsQueue s (execLswThermalRelease bank k t s) := by
  simp [execLswThermalRelease]

@[simp] theorem keepsQueue_execLswOpenLoad (ch : Nat) (s : State) : KeepsQueue s (execLswOpenLoad ch s) := by
  simp [execLswOpenLoad]

@[simp] theorem cutPulses_pending (s : State) (l : List ONum) : (s.cutPulses l).pending = s.pending := by
  induction l generalizing s with
  | nil => rfl
  | cons a l ih => simp [State.cutPulses, ih]

@[simp] theorem keepsQueue_execBankUndervoltage (k mv10 : Nat) (s : State) : KeepsQueue s (execBankUndervoltage k mv10 s) := by
  simp [execBankUndervoltage]

@[simp] theorem keepsQueue_execBankRecover (k mv10 : Nat) (s : State) : KeepsQueue s (execBankRecover k mv10 s) := by
  simp [execBankRecover]

@[simp] theorem keepsQueue_execPwmPeriod (v cur : List Nat) (temp : List Int) (bcur : List Nat) (btemp : List Int) (s : State) :
    KeepsQueue s (execPwmPeriod v cur temp bcur btemp s) := by
  simp [execPwmPeriod]

@[simp] theorem lswShed_pending (s : State) : s.lswShed.pending = s.pending := by
  simp [State.lswShed]

@[simp] theorem keepsQueue_execLswChanSet (q : Req) (s : State) : KeepsQueue s (execLswChanSet q s) := by
  simp [execLswChanSet]

@[simp] theorem keepsQueue_execLswChanGet (q : Req) (s : State) : KeepsQueue s (execLswChanGet q s) := by
  simp [execLswChanGet]

@[simp] theorem keepsQueue_execLswOut (q : Req) (s : State) : KeepsQueue s (execLswOut q s) := by
  simp [execLswOut]

@[simp] theorem keepsQueue_execLswStatusGet (q : Req) (s : State) : KeepsQueue s (execLswStatusGet q s) := by
  simp [execLswStatusGet]

@[simp] theorem keepsQueue_execLswBankGet (q : Req) (s : State) : KeepsQueue s (execLswBankGet q s) := by
  simp [execLswBankGet]

@[simp] theorem keepsQueue_execLswClear (q : Req) (s : State) : KeepsQueue s (execLswClear q s) := by
  simp [execLswClear]

/-! ### The lattice -/

@[simp] theorem modLat_pending (s : State) (f : Lattice → Lattice) : (s.modLat f).pending = s.pending := by
  simp [State.modLat]

@[simp] theorem evtMember_pending (s : State) (event id : Nat) : (s.evtMember event id).pending = s.pending := by
  simp [State.evtMember]

@[simp] theorem evtFloor_pending (s : State) (st : Nat) : (s.evtFloor st).pending = s.pending := by
  simp [State.evtFloor]

@[simp] theorem toFloor_pending (s : State) : s.toFloor.pending = s.pending := by
  simp [State.toFloor]

@[simp] theorem launchPort_pending (s : State) (p : Nat) (x : Launch) : (s.launchPort p x).pending = s.pending := by
  simp [State.launchPort]

@[simp] theorem launchOn_pending (s : State) (sec ns type round : Nat) (body : Bytes) :
    (s.launchOn sec ns type round body).pending = s.pending := by
  simp [State.launchOn]

@[simp] theorem leadRound_pending (s : State) : s.leadRound.pending = s.pending := by
  simp [State.leadRound]

@[simp] theorem lostEvents_pending (s : State) (l : List Nat) : (s.lostEvents l).pending = s.pending := by
  induction l generalizing s with
  | nil => rfl
  | cons a l ih => simp [State.lostEvents, ih]

@[simp] theorem putMember_pending (s : State) (m : Member) : (s.putMember m).pending = s.pending := by
  simp [State.putMember]

@[simp] theorem takeReport_pending (s : State) (f : LatFrame) : (s.takeReport f).pending = s.pending := by
  simp [State.takeReport]

@[simp] theorem newLeader_pending (s : State) (id : Nat) : (s.newLeader id).pending = s.pending := by
  simp [State.newLeader]

@[simp] theorem takeShare_pending (s : State) (f : LatFrame) : (s.takeShare f).pending = s.pending := by
  unfold State.takeShare
  split <;> simp

@[simp] theorem latStep_pending (s : State) : s.latStep.pending = s.pending := by
  unfold State.latStep
  split <;> simp

@[simp] theorem keepsQueue_execStepInstant (s : State) : KeepsQueue s (execStepInstant s) := by
  simp [execStepInstant]

@[simp] theorem keepsQueue_execLatFrameRx (frame : Bytes) (s : State) : KeepsQueue s (execLatFrameRx frame s) := by
  refine keepsQueue_onlyIf.mpr fun _ => ?_
  split <;> simp

@[simp] theorem keepsQueue_execLatReportTx (s : State) : KeepsQueue s (execLatReportTx s) := by
  simp [execLatReportTx]

@[simp] theorem closeRound_pending (s : State) : s.closeRound.pending = s.pending := by
  simp [State.closeRound]

@[simp] theorem keepsQueue_execLatRoundClose (s : State) : KeepsQueue s (execLatRoundClose s) := by
  simp [execLatRoundClose]

@[simp] theorem shareOut_pending (s : State) (round : Nat) (body : Bytes) : (s.shareOut round body).pending = s.pending := by
  simp [State.shareOut]

@[simp] theorem keepsQueue_execLatShareTx (s : State) : KeepsQueue s (execLatShareTx s) := by
  unfold execLatShareTx
  split <;> simp

@[simp] theorem keepsQueue_execLatConfigSet (q : Req) (s : State) : KeepsQueue s (execLatConfigSet q s) := by
  simp [execLatConfigSet]

@[simp] theorem keepsQueue_execLatConfigGet (q : Req) (s : State) : KeepsQueue s (execLatConfigGet q s) := by
  simp [execLatConfigGet]

@[simp] theorem keepsQueue_execLatStatusGet (q : Req) (s : State) : KeepsQueue s (execLatStatusGet q s) := by
  simp [execLatStatusGet]

/-! ### The network -/

@[simp] theorem modNet_pending (s : State) (f : Net → Net) : (s.modNet f).pending = s.pending := by
  simp [State.modNet]

@[simp] theorem netStat_pending (s : State) (k : Nat) : (s.netStat k).pending = s.pending := by
  simp [State.netStat]

@[simp] theorem keepsQueue_execEthFrameRx (port : Nat) (f : EthFrame) (residence : Nat) (s : State) :
    KeepsQueue s (execEthFrameRx port f residence s) := by
  simp [execEthFrameRx]

@[simp] theorem keepsQueue_execAddressAgeing (mac : Nat) (s : State) : KeepsQueue s (execAddressAgeing mac s) := by
  simp [execAddressAgeing]

@[simp] theorem keepsQueue_execPhyLinkChange (port : Nat) (up fast : Bool) (s : State) :
    KeepsQueue s (execPhyLinkChange port up fast s) := by
  simp [execPhyLinkChange]

@[simp] theorem evtSync_pending (s : State) (src dst : Nat) (step : Int) : (s.evtSync src dst step).pending = s.pending := by
  simp [State.evtSync]

@[simp] theorem setSync_pending (s : State) (k : Nat) : (s.setSync k).pending = s.pending := by
  simp [State.setSync]

@[simp] theorem lateFrames_pending (s : State) (p : Nat) (l : List Launch) : (s.lateFrames p l).pending = s.pending := by
  induction l generalizing s p with
  | nil => rfl
  | cons a l ih => simp [State.lateFrames, ih]

@[simp] theorem clockStep_pending (s : State) (d : Int) (dst : Nat) : (s.clockStep d dst).pending = s.pending := by
  simp [State.clockStep]

@[simp] theorem loseLock_pending (s : State) : s.loseLock.pending = s.pending := by
  simp [State.loseLock]

@[simp] theorem ptpOffset_pending (s : State) (offset : Int) : (s.ptpOffset offset).pending = s.pending := by
  grind [State.ptpOffset, modNet_pending, loseLock_pending, setSync_pending, clockStep_pending]

@[simp] theorem chooseParent_pending (s : State) : s.chooseParent.pending = s.pending := by
  grind [State.chooseParent, modNet_pending, setSync_pending]

@[simp] theorem syncTaken_pending (s : State) (d : Int) : (s.syncTaken d).pending = s.pending := by
  simp [State.syncTaken]

@[simp] theorem takeStamps_pending (s : State) : s.takeStamps.pending = s.pending := by
  simp [State.takeStamps]

@[simp] theorem answerPeer_pending (s : State) : s.answerPeer.pending = s.pending := by
  simp [State.answerPeer]

@[simp] theorem ptpHandle_pending (s : State) (x : PtpRx) (rx : Nat) : (s.ptpHandle x rx).pending = s.pending := by
  grind [State.ptpHandle, chooseParent_pending, modNet_pending, syncTaken_pending, answerPeer_pending]

@[simp] theorem keepsQueue_execPtpMessage (x : PtpRx) (s : State) : KeepsQueue s (execPtpMessage x s) := by
  simp [execPtpMessage]

@[simp] theorem keepsQueue_execPtpSyncTimeout (s : State) : KeepsQueue s (execPtpSyncTimeout s) := by
  simp [execPtpSyncTimeout]

@[simp] theorem keepsQueue_execNetHoldover (s : State) : KeepsQueue s (execNetHoldover s) := by
  simp [execNetHoldover]

@[simp] theorem keepsQueue_execTxTimestamp (port ident sec ns : Nat) (s : State) :
    KeepsQueue s (execTxTimestamp port ident sec ns s) := by
  simp [execTxTimestamp]

@[simp] theorem keepsQueue_execLaunchTime (port : Nat) (s : State) : KeepsQueue s (execLaunchTime port s) := by
  refine keepsQueue_onlyIf.mpr fun _ => ?_
  split <;> simp

@[simp] theorem keepsQueue_execToutEdge (k : Nat) (s : State) : KeepsQueue s (execToutEdge k s) := by
  simp [execToutEdge]

@[simp] theorem keepsQueue_execTcapEdge (k : Nat) (rising : Bool) (frac : Nat) (s : State) :
    KeepsQueue s (execTcapEdge k rising frac s) := by
  simp [execTcapEdge]

@[simp] theorem snapshot_pending (s : State) : s.snapshot.pending = s.pending := by
  simp [State.snapshot]

@[simp] theorem keepsQueue_execSysTimeSnapshot (q : Req) (s : State) : KeepsQueue s (execSysTimeSnapshot q s) := by
  simp [execSysTimeSnapshot]

@[simp] theorem ptpRestart_pending (s : State) : s.ptpRestart.pending = s.pending := by
  grind [State.ptpRestart, modNet_pending, loseLock_pending, setSync_pending]

@[simp] theorem keepsQueue_execNetConfigSet (q : Req) (s : State) : KeepsQueue s (execNetConfigSet q s) := by
  simp [execNetConfigSet]

@[simp] theorem keepsQueue_execNetConfigGet (q : Req) (s : State) : KeepsQueue s (execNetConfigGet q s) := by
  simp [execNetConfigGet]

@[simp] theorem keepsQueue_netMail {c : Cmd} {q : Req} {s : State} {fits : Bool} {body : State → Ans}
    (h : (body s).st.pending = s.pending) : KeepsQueue s (netMail c q s fits body) := by
  simp [netMail, h]

@[simp] theorem keepsQueue_execNetStatusGet (q : Req) (s : State) : KeepsQueue s (execNetStatusGet q s) := by
  simp [execNetStatusGet]

@[simp] theorem keepsQueue_execNetToutSet (q : Req) (s : State) : KeepsQueue s (execNetToutSet q s) := by
  simp [execNetToutSet]

@[simp] theorem keepsQueue_execNetToutGet (q : Req) (s : State) : KeepsQueue s (execNetToutGet q s) := by
  simp [execNetToutGet]

@[simp] theorem keepsQueue_execNetTcapSet (q : Req) (s : State) : KeepsQueue s (execNetTcapSet q s) := by
  simp [execNetTcapSet]

@[simp] theorem keepsQueue_execNetTcapRead (q : Req) (s : State) : KeepsQueue s (execNetTcapRead q s) := by
  simp [execNetTcapRead]

@[simp] theorem keepsQueue_execNetTimeSet (q : Req) (s : State) : KeepsQueue s (execNetTimeSet q s) := by
  simp [execNetTimeSet]

@[simp] theorem keepsQueue_execNetStats (q : Req) (s : State) : KeepsQueue s (execNetStats q s) := by
  simp [execNetStats]

/-! ### NFC -/

@[simp] theorem modNfc_pending (s : State) (f : Nfc → Nfc) : (s.modNfc f).pending = s.pending := by
  simp [State.modNfc]

@[simp] theorem modTag_pending (s : State) (f : Tag → Tag) : (s.modTag f).pending = s.pending := by
  simp [State.modTag]

@[simp] theorem evtCard_pending (s : State) (count type outlet result : Nat) (id : Bytes) :
    (s.evtCard count type outlet result id).pending = s.pending := by
  simp [State.evtCard]

@[simp] theorem oneCard_pending (s : State) (type : Nat) (id : Bytes) : (s.oneCard type id).pending = s.pending := by
  grind [State.oneCard, evtCard_pending, modNfc_pending, askEmergency_pending, identify_pending]

@[simp] theorem keepsQueue_execNfcPoll (field : Nat) (typeA : List Card) (typeB : List (List (List Bytes))) (s : State) :
    KeepsQueue s (execNfcPoll field typeA typeB s) := by
  grind [execNfcPoll, keepsQueue_onlyIf, openGates_pending, modNfc_pending, oneCard_pending, evtCard_pending]

@[simp] theorem keepsQueue_execNfcPollResume (s : State) : KeepsQueue s (execNfcPollResume s) := by
  simp [execNfcPollResume]

@[simp] theorem evtTag_pending (s : State) (ev page : Nat) : (s.evtTag ev page).pending = s.pending := by
  simp [State.evtTag]

@[simp] theorem tagUid_pending (s : State) : s.tagUid.pending = s.pending := by
  simp [State.tagUid]

@[simp] theorem tagSay_pending (s : State) (sw : Nat) (data : Bytes) : (s.tagSay sw data).pending = s.pending := by
  simp [State.tagSay]

@[simp] theorem keepsQueue_execTagFieldOn (h : Nat) (s : State) : KeepsQueue s (execTagFieldOn h s) := by
  simp [execTagFieldOn]

@[simp] theorem keepsQueue_execTagGuardEnd (s : State) : KeepsQueue s (execTagGuardEnd s) := by
  simp [execTagGuardEnd]

@[simp] theorem tagDown_pending (s : State) : s.tagDown.pending = s.pending := by
  simp [State.tagDown]

@[simp] theorem fieldDown_pending (s : State) : s.fieldDown.pending = s.pending := by
  simp [State.fieldDown]

@[simp] theorem keepsQueue_execTagFieldOff (s : State) : KeepsQueue s (execTagFieldOff s) := by
  simp [execTagFieldOff]

@[simp] theorem keepsQueue_execTagReqa (wupa : Bool) (s : State) : KeepsQueue s (execTagReqa wupa s) := by
  simp [execTagReqa]

@[simp] theorem keepsQueue_execTagAnticollision (nvb : Nat) (bits : Bytes) (s : State) :
    KeepsQueue s (execTagAnticollision nvb bits s) := by
  simp [execTagAnticollision]

@[simp] theorem keepsQueue_execTagSelect (uid : Bytes) (s : State) : KeepsQueue s (execTagSelect uid s) := by
  simp [execTagSelect]

@[simp] theorem keepsQueue_execTagRats (s : State) : KeepsQueue s (execTagRats s) := by
  simp [execTagRats]

@[simp] theorem keepsQueue_execTagHalt (s : State) : KeepsQueue s (execTagHalt s) := by
  simp [execTagHalt]

@[simp] theorem keepsQueue_execTagHello (rndr : Bytes) (s : State) : KeepsQueue s (execTagHello rndr s) := by
  simp [execTagHello]
  split <;> simp

@[simp] theorem tagAuthCheck_pending (s : State) : s.tagAuthCheck.pending = s.pending := by
  simp [State.tagAuthCheck]

@[simp] theorem tagWrong_pending (s : State) : s.tagWrong.pending = s.pending := by
  simp [State.tagWrong]

@[simp] theorem keepsQueue_execTagProve (pr : Bytes) (s : State) : KeepsQueue s (execTagProve pr s) := by
  refine keepsQueue_onlyIf.mpr fun _ => ?_
  split <;> simp

@[simp] theorem keepsQueue_execTagAuthLockEnd (s : State) : KeepsQueue s (execTagAuthLockEnd s) := by
  simp [execTagAuthLockEnd]

@[simp] theorem tagSecured_pending (s : State) (sw : Nat) (data : Bytes) : (s.tagSecured sw data).pending = s.pending := by
  simp [State.tagSecured]

@[simp] theorem tagAnswer_pending (s : State) (sw : Nat) (data : Bytes) : (s.tagAnswer sw data).pending = s.pending := by
  simp [State.tagAnswer]

@[simp] theorem tagGate_pending {s : State} {apdu mac : Bytes} {f : State → State} (hf : ∀ s, (f s).pending = s.pending) :
    (s.tagGate apdu mac f).pending = s.pending := by
  simp [State.tagGate, hf]

@[simp] theorem keepsQueue_execPageRead (page off le : Nat) (mac : Bytes) (s : State) :
    KeepsQueue s (execPageRead page off le mac s) := by
  simp [execPageRead]

@[simp] theorem keepsQueue_execPageWrite (page off : Nat) (data mac : Bytes) (s : State) :
    KeepsQueue s (execPageWrite page off data mac s) := by
  simp [execPageWrite]

@[simp] theorem keepsQueue_execTagPageCommit (ok retried : Bool) (s : State) : KeepsQueue s (execTagPageCommit ok retried s) := by
  unfold execTagPageCommit
  split
  · simp
  · refine keepsQueue_next.mpr ?_
    split <;> simp

@[simp] theorem keepsQueue_execTagHostLockTimeout (s : State) : KeepsQueue s (execTagHostLockTimeout s) := by
  unfold execTagHostLockTimeout
  split
  · simp
  · split <;> simp

@[simp] theorem keepsQueue_execLastStateUpdate (s : State) : KeepsQueue s (execLastStateUpdate s) := by
  unfold execLastStateUpdate onlyIf
  split <;> simp

@[simp] theorem tagRevoked_pending (s : State) (n : Nat) : (s.tagRevoked n).pending = s.pending := by
  unfold State.tagRevoked
  split <;> simp

@[simp] theorem tagStart_pending (s : State) : s.tagStart.pending = s.pending := by
  simp [State.tagStart]

@[simp] theorem keepsQueue_execNfcConfigSet (q : Req) (s : State) : KeepsQueue s (execNfcConfigSet q s) := by
  simp [execNfcConfigSet]

@[simp] theorem keepsQueue_execNfcConfigGet (q : Req) (s : State) : KeepsQueue s (execNfcConfigGet q s) := by
  simp [execNfcConfigGet]

@[simp] theorem keepsQueue_nfcMail {c : Cmd} {q : Req} {s : State} {fits : Bool} {body : State → Ans}
    (h : (body s).st.pending = s.pending) : KeepsQueue s (nfcMail c q s fits body) := by
  simp [nfcMail, h]

@[simp] theorem keepsQueue_execNfcTagRead (q : Req) (s : State) : KeepsQueue s (execNfcTagRead q s) := by
  simp [execNfcTagRead]

@[simp] theorem keepsQueue_execNfcTagWrite (q : Req) (s : State) : KeepsQueue s (execNfcTagWrite q s) := by
  simp [execNfcTagWrite]

@[simp] theorem keepsQueue_execNfcTagKey (q : Req) (s : State) : KeepsQueue s (execNfcTagKey q s) := by
  simp [execNfcTagKey]

@[simp] theorem keepsQueue_execNfcTagStatus (q : Req) (s : State) : KeepsQueue s (execNfcTagStatus q s) := by
  simp [execNfcTagStatus]

/-! ### The panel -/

@[simp] theorem modPanel_pending (s : State) (f : Panel → Panel) : (s.modPanel f).pending = s.pending := by
  simp [State.modPanel]

@[simp] theorem integrate_pending (s : State) : s.integrate.pending = s.pending := by
  simp [State.integrate]

@[simp] theorem buildMap_pending (s : State) : s.buildMap.pending = s.pending := by
  simp [State.buildMap]

@[simp] theorem keepsQueue_execStressSave (s : State) : KeepsQueue s (execStressSave s) := by
  simp [execStressSave]

@[simp] theorem loadStress_pending (s : State) : s.loadStress.pending = s.pending := by
  unfold State.loadStress
  dsimp only
  split <;> simp

@[simp] theorem panelUp_pending (s : State) : s.panelUp.pending = s.pending := by
  simp [State.panelUp]

@[simp] theorem keepsQueue_execPanelFrame (s : State) : KeepsQueue s (execPanelFrame s) := by
  simp [execPanelFrame]
  split <;> simp

@[simp] theorem keepsQueue_execVpanLow (v : Nat) (s : State) : KeepsQueue s (execVpanLow v s) := by
  simp [execVpanLow]

@[simp] theorem keepsQueue_execVpanRecover (v : Nat) (s : State) : KeepsQueue s (execVpanRecover v s) := by
  simp [execVpanRecover]

@[simp] theorem keepsQueue_execPanelConfigSet (q : Req) (s : State) : KeepsQueue s (execPanelConfigSet q s) := by
  simp [execPanelConfigSet]

@[simp] theorem keepsQueue_execPanelConfigGet (q : Req) (s : State) : KeepsQueue s (execPanelConfigGet q s) := by
  simp [execPanelConfigGet]

@[simp] theorem keepsQueue_panelMail {c : Cmd} {q : Req} {s : State} {fits : Bool} {body : State → Ans}
    (h : (body s).st.pending = s.pending) : KeepsQueue s (panelMail c q s fits body) := by
  simp [panelMail, h]

@[simp] theorem keepsQueue_execPanelWrite (q : Req) (s : State) : KeepsQueue s (execPanelWrite q s) := by
  simp [execPanelWrite]

@[simp] theorem keepsQueue_execPanelFlip (q : Req) (s : State) : KeepsQueue s (execPanelFlip q s) := by
  simp [execPanelFlip]

@[simp] theorem keepsQueue_execPanelCurveSet (q : Req) (s : State) : KeepsQueue s (execPanelCurveSet q s) := by
  simp [execPanelCurveSet]

@[simp] theorem keepsQueue_execPanelCurveGet (q : Req) (s : State) : KeepsQueue s (execPanelCurveGet q s) := by
  simp [execPanelCurveGet]

@[simp] theorem keepsQueue_execPanelStatusGet (q : Req) (s : State) : KeepsQueue s (execPanelStatusGet q s) := by
  simp [execPanelStatusGet]

@[simp] theorem keepsQueue_execPanelStressRead (q : Req) (s : State) : KeepsQueue s (execPanelStressRead q s) := by
  simp [execPanelStressRead]

/-! ### Power domains -/

@[simp] theorem metaDown_pending (s : State) : s.metaDown.pending = s.pending := by
  simp [State.metaDown]

@[simp] theorem panelDown_pending (s : State) : s.panelDown.pending = s.pending := by
  unfold State.panelDown
  split <;> simp

@[simp] theorem domainDown_pending (s : State) (d : Nat) : (s.domainDown d).pending = s.pending := by
  unfold State.domainDown
  split <;> simp

@[simp] theorem domainsDown_pending (s : State) (l : List Nat) : (s.domainsDown l).pending = s.pending := by
  induction l generalizing s with
  | nil => rfl
  | cons a l ih => simp [State.domainsDown, ih]

@[simp] theorem setDomains_pending (s : State) (on : Nat) : (s.setDomains on).pending = s.pending := by
  simp [State.setDomains]

@[simp] theorem keepsQueue_execSysPowerGet (q : Req) (s : State) : KeepsQueue s (execSysPowerGet q s) := by
  simp [execSysPowerGet]

@[simp] theorem toQuiet_pending (s : State) (net : Bool) : (s.toQuiet net).pending = s.pending := by
  simp [State.toQuiet]

@[simp] theorem keepsQueue_execSysPowerSet (q : Req) (s : State) : KeepsQueue s (execSysPowerSet q s) := by
  refine keepsQueue_ite.mpr ⟨fun _ => by simp, fun _ => keepsQueue_mail ?_⟩
  split <;> simp

@[simp] theorem keepsQueue_execSysDomainSet (q : Req) (s : State) : KeepsQueue s (execSysDomainSet q s) := by
  grind [execSysDomainSet, keepsQueue_mail, no_pending, setDomains_pending, ok_pending, evtDomain_pending, wait_pending]

@[simp] theorem keepsQueue_execDomainSwitchTimeout (d : Nat) (s : State) : KeepsQueue s (execDomainSwitchTimeout d s) := by
  unfold execDomainSwitchTimeout
  split <;> simp

@[simp] theorem domainFailed_pending (s : State) (d : Nat) : (s.domainFailed d).pending = s.pending := by
  simp [State.domainFailed]

@[simp] theorem keepsQueue_execDomainPgLoss (d : Nat) (back : Bool) (s : State) : KeepsQueue s (execDomainPgLoss d back s) := by
  simp [execDomainPgLoss]

@[simp] theorem keepsQueue_execPilotRail (vpn : Bool) (v : Int) (s : State) : KeepsQueue s (execPilotRail vpn v s) := by
  simp [execPilotRail]

@[simp] theorem keepsQueue_execBakSwitchover (vbak : Bool) (s : State) : KeepsQueue s (execBakSwitchover vbak s) := by
  simp [execBakSwitchover]

@[simp] theorem keepsQueue_execVbakLow (mv : Nat) (s : State) : KeepsQueue s (execVbakLow mv s) := by
  simp [execVbakLow]

@[simp] theorem pfCfgWrite_pending (s : State) (v : Nat) : (pfCfgWrite s v).pending = s.pending := by
  simp [pfCfgWrite]

/-! ### Power states and resets -/

@[simp] theorem gasp1_pending (s : State) : s.gasp1.pending = s.pending := by
  simp [State.gasp1]

@[simp] theorem closePq_pending (s : State) (l : List PqRec) : (s.closePq l).pending = s.pending := by
  induction l generalizing s with
  | nil => rfl
  | cons a l ih => simp [State.closePq, ih]

@[simp] theorem gasp2_pending (s : State) : s.gasp2.pending = s.pending := by
  simp [State.gasp2]

@[simp] theorem gasp3_pending (s : State) : s.gasp3.pending = s.pending := by
  simp [State.gasp3]

@[simp] theorem gasp4_pending (s : State) : s.gasp4.pending = s.pending := by
  simp [State.gasp4]

@[simp] theorem gasp5_pending (s : State) : s.gasp5.pending = s.pending := by
  simp [State.gasp5]

@[simp] theorem gasp6_pending (s : State) : s.gasp6.1.pending = s.pending := by
  simp [State.gasp6]

@[simp] theorem lastGasp_pending (s : State) (upto : Nat) (fail : Bool) : (s.lastGasp upto fail).pending = s.pending := by
  simp [State.lastGasp]

@[simp] theorem afterReset_pending (s : State) (awaiting : Option Nat) : (s.afterReset awaiting).pending = s.pending := by
  simp [State.afterReset]

@[simp] theorem resetTo_pending (s : State) (cause : Nat) : (s.resetTo cause).pending = s.pending := by
  simp [State.resetTo]

@[simp] theorem powerless_pending (s : State) (p : PowerState) (fell : Bool) : (s.powerless p fell).pending = s.pending := by
  simp [State.powerless]

@[simp] theorem keepsQueue_execHrst (low : Bool) (s : State) : KeepsQueue s (execHrst low s) := by
  simp [execHrst]

@[simp] theorem keepsQueue_execPowerFail (t : Nat) (s : State) : KeepsQueue s (execPowerFail t s) := by
  simp [execPowerFail]

@[simp] theorem keepsQueue_execPowerfailRecovery (s : State) : KeepsQueue s (execPowerfailRecovery s) := by
  simp [execPowerfailRecovery]

@[simp] theorem keepsQueue_execVsupMinFall (mv : Nat) (s : State) : KeepsQueue s (execVsupMinFall mv s) := by
  simp [execVsupMinFall]

@[simp] theorem por_pending (s : State) : s.por.pending = s.pending := by
  simp [State.por]

@[simp] theorem keepsQueue_execVsupReturn (s : State) : KeepsQueue s (execVsupReturn s) := by
  simp [execVsupReturn]

@[simp] theorem keepsQueue_execDormantEntry (s : State) : KeepsQueue s (execDormantEntry s) := by
  simp [execDormantEntry]

@[simp] theorem keepsQueue_execWatchdogReset (s : State) : KeepsQueue s (execWatchdogReset s) := by
  simp [execWatchdogReset]

@[simp] theorem keepsQueue_execLpddrEccError (addr : Nat) (s : State) : KeepsQueue s (execLpddrEccError addr s) := by
  simp [execLpddrEccError]

@[simp] theorem keepsQueue_execSafeStateReset (s : State) : KeepsQueue s (execSafeStateReset s) := by
  simp [execSafeStateReset]

/-! ### The Base-Note Window -/

@[simp] theorem bnwLateUp_pending (s : State) : s.bnwLateUp.pending = s.pending := by
  simp [State.bnwLateUp]

@[simp] theorem driveHio_pending (s : State) (v : Nat) : (s.driveHio v).pending = s.pending := by
  simp [State.driveHio]

@[simp] theorem bnwAnswer_pending (s : State) (off : Nat) (late : Bool) (nth : Nat) :
    (s.bnwAnswer off late nth).pending = s.pending := by
  unfold State.bnwAnswer
  split <;> simp

@[simp] theorem setHostcap_pending (s : State) (o : ONum) (v : Nat) : (s.setHostcap o v).pending = s.pending := by
  simp [State.setHostcap]

@[simp] theorem bnwPut_pending (s : State) (off v nth : Nat) : (s.bnwPut off v nth).pending = s.pending := by
  simp [State.bnwPut]

@[simp] theorem keepsQueue_execBnwRead (off : Nat) (late : Bool) (nth : Nat) (s : State) :
    KeepsQueue s (execBnwRead off late nth s) := by
  simp [execBnwRead]

@[simp] theorem keepsQueue_execBnwEnergy0Read (late : Bool) (s : State) : KeepsQueue s (execBnwEnergy0Read late s) := by
  simp [execBnwEnergy0Read]

@[simp] theorem keepsQueue_execBnwWrite (off v nth : Nat) (s : State) : KeepsQueue s (execBnwWrite off v nth s) := by
  simp [execBnwWrite]

@[simp] theorem keepsQueue_execBnwSetpointWrite (v : Nat) (s : State) : KeepsQueue s (execBnwSetpointWrite v s) := by
  simp [execBnwSetpointWrite]

@[simp] theorem keepsQueue_execBnwEnergyRefresh (s : State) : KeepsQueue s (execBnwEnergyRefresh s) := by
  simp [execBnwEnergyRefresh]

@[simp] theorem bnwSelect_pending (s : State) (v : Nat) : (s.bnwSelect v).pending = s.pending := by
  simp [State.bnwSelect]

/-! ### The fault collector -/

@[simp] theorem openOccs_pending (s : State) (src : Nat) (l : List Occ) : (openOccs s src l).pending = s.pending := by
  induction l generalizing s src with
  | nil => rfl
  | cons a l ih => simp [openOccs, ih]

@[simp] theorem setSev_pending (s : State) (src new : Nat) : (setSev s src new).pending = s.pending := by
  simp [setSev]

@[simp] theorem sevWrite_pending (s : State) (m v k : Nat) : (sevWrite s m v k).pending = s.pending := by
  induction k generalizing s m v with
  | zero => rfl
  | succ k ih => simp [sevWrite, ih]

@[simp] theorem forceWrite_pending (s : State) (m v k : Nat) : (forceWrite s m v k).pending = s.pending := by
  induction k generalizing s m v with
  | zero => rfl
  | succ k ih => simp [forceWrite, ih]

@[simp] theorem unreadAck_pending (s : State) (m v : Nat) : (unreadAck s m v).pending = s.pending := by
  simp [unreadAck]

@[simp] theorem fltWrite_pending (s : State) (off v : Nat) : (fltWrite s off v).pending = s.pending := by
  simp [fltWrite]

@[simp] theorem relocked_pending (s : State) (k : Nat) : (s.relocked k).pending = s.pending := by
  simp [State.relocked]

@[simp] theorem keepsQueue_execFaultRetry (src qual data : Nat) (ok : Bool) (s : State) :
    KeepsQueue s (execFaultRetry src qual data ok s) := by
  simp [execFaultRetry]

@[simp] theorem keepsQueue_execFltSeveritySet (q : Req) (s : State) : KeepsQueue s (execFltSeveritySet q s) := by
  simp [execFltSeveritySet]

@[simp] theorem keepsQueue_execFltLogRead (q : Req) (s : State) : KeepsQueue s (execFltLogRead q s) := by
  simp [execFltLogRead]

/-! ### Clearing faults -/

@[simp] theorem keepsQueue_execFaultOccurrence (src qual data : Nat) (s : State) :
    KeepsQueue s (execFaultOccurrence src qual data s) := by
  simp [execFaultOccurrence]

@[simp] theorem afterClear_pending (s : State) (x : Occ) : (s.afterClear x).pending = s.pending := by
  simp [State.afterClear]

@[simp] theorem clearList_pending (s : State) (l : List Occ) : (s.clearList l).pending = s.pending := by
  induction l generalizing s with
  | nil => rfl
  | cons a l ih => simp [State.clearList, ih]

@[simp] theorem keepsQueue_execFltClear (q : Req) (s : State) : KeepsQueue s (execFltClear q s) := by
  simp [execFltClear]

/-! ### Clocks -/

@[simp] theorem markStep_pending (s : State) (step code : Nat) : (s.markStep step code).pending = s.pending := by
  simp [State.markStep]

@[simp] theorem nonMaskable_pending (s : State) : s.nonMaskable.pending = s.pending := by
  simp [State.nonMaskable]

@[simp] theorem emergency_pending (s : State) (islands : Nat) : (s.emergency islands).pending = s.pending := by
  simp [State.emergency]

@[simp] theorem keepsQueue_execClkmonWindow (clk count : Nat) (lockLow : Bool) (s : State) :
    KeepsQueue s (execClkmonWindow clk count lockLow s) := by
  simp [execClkmonWindow]

@[simp] theorem relockAll_pending (s : State) (was : Nat) : (s.relockAll was).pending = s.pending := by
  simp [State.relockAll]

@[simp] theorem keepsQueue_execClockTrip (clk : Nat) (s : State) : KeepsQueue s (execClockTrip clk s) := by
  simp [execClockTrip]

@[simp] theorem toSpare_pending (s : State) : s.toSpare.pending = s.pending := by
  simp [State.toSpare]

@[simp] theorem primaryStopped_pending (s : State) : s.primaryStopped.pending = s.pending := by
  simp [State.primaryStopped]

@[simp] theorem keepsQueue_execRc48Stop (s : State) : KeepsQueue s (execRc48Stop s) := by
  simp [execRc48Stop]

@[simp] theorem keepsQueue_execClockSelfcheck (prim spare : Int) (s : State) : KeepsQueue s (execClockSelfcheck prim spare s) := by
  simp [execClockSelfcheck]

@[simp] theorem keepsQueue_execRc48StartTimeout (spare : Bool) (s : State) : KeepsQueue s (execRc48StartTimeout spare s) := by
  simp [execRc48StartTimeout]

@[simp] theorem keepsQueue_execLfxoLoss (s : State) : KeepsQueue s (execLfxoLoss s) := by
  simp [execLfxoLoss]

@[simp] theorem keepsQueue_execPilotPeriodTrim (s : State) : KeepsQueue s (execPilotPeriodTrim s) := by
  simp [execPilotPeriodTrim]

@[simp] theorem selWrite_pending (s : State) (v : Nat) : (selWrite s v).pending = s.pending := by
  simp [selWrite]

@[simp] theorem keepsQueue_execClkSwitchDone (i : Nat) (s : State) : KeepsQueue s (execClkSwitchDone i s) := by
  simp [execClkSwitchDone]

@[simp] theorem keepsQueue_execClkSwhang (i : Nat) (s : State) : KeepsQueue s (execClkSwhang i s) := by
  simp [execClkSwhang]

@[simp] theorem forceClkWrite_pending (s : State) (v : Nat) : (forceClkWrite s v).pending = s.pending := by
  simp [forceClkWrite]

@[simp] theorem zeroAccess_pending (s : State) (addr : Nat) : (s.zeroAccess addr).pending = s.pending := by
  simp [State.zeroAccess]

@[simp] theorem meterWrite_pending (s : State) (v : Nat) : (meterWrite s v).pending = s.pending := by
  simp [meterWrite]

@[simp] theorem keepsQueue_execClkMeterDone (count : Nat) (stopped : Bool) (s : State) :
    KeepsQueue s (execClkMeterDone count stopped s) := by
  simp [execClkMeterDone]

@[simp] theorem gateWrite_pending (s : State) (v : Nat) : (gateWrite s v).pending = s.pending := by
  simp [gateWrite]

/-! ### Credit and vouchers -/

@[simp] theorem modCr_pending (s : State) (f : Credit → Credit) : (s.modCr f).pending = s.pending := by
  simp [State.modCr]

@[simp] theorem projected_pending (s : State) : s.projected.pending = s.pending := by
  simp [State.projected]

@[simp] theorem queueCredit_pending (s : State) (op : CreditOp) (cmd : Option (Nat × Nat)) :
    (s.queueCredit op cmd).pending = s.pending := by
  simp [State.queueCredit]

@[simp] theorem evaluateAll_pending (s : State) : s.evaluateAll.pending = s.pending := by
  simp [State.evaluateAll]

@[simp] theorem keepsQueue_execCreditEvaluate (s : State) : KeepsQueue s (execCreditEvaluate s) := by
  simp [execCreditEvaluate]

@[simp] theorem keepsQueue_execGraceExpiry (a : Nat) (s : State) : KeepsQueue s (execGraceExpiry a s) := by
  simp [execGraceExpiry]

@[simp] theorem keepsQueue_execFriendlyWindowEnd (s : State) : KeepsQueue s (execFriendlyWindowEnd s) := by
  simp [execFriendlyWindowEnd]

@[simp] theorem keepsQueue_execCreditEpochCheck (s : State) : KeepsQueue s (execCreditEpochCheck s) := by
  simp [execCreditEpochCheck]

@[simp] theorem badEntry_pending (s : State) : s.badEntry.pending = s.pending := by
  simp [State.badEntry]

@[simp] theorem evtVoucher_pending (s : State) (result route : Nat) (v : Option Voucher) :
    (s.evtVoucher result route v).pending = s.pending := by
  unfold State.evtVoucher
  split <;> simp

@[simp] theorem enterVoucher_pending (s : State) (digits : List Nat) (route : Nat) (cmd : Option (Nat × Nat)) :
    (s.enterVoucher digits route cmd).2.2.pending = s.pending := by
  unfold State.enterVoucher
  dsimp only
  split <;> simp

@[simp] theorem keepsQueue_execKeypadScan (cols : Nat) (s : State) : KeepsQueue s (execKeypadScan cols s) := by
  simp [execKeypadScan]
  split <;> simp

@[simp] theorem dropEntry_pending (s : State) : s.dropEntry.pending = s.pending := by
  simp [State.dropEntry]

@[simp] theorem enterPin_pending (s : State) (ds : List Nat) (ec : Bool) : (s.enterPin ds ec).pending = s.pending := by
  grind [State.enterPin, modCr_pending, badEntry_pending, askEmergency_pending, identify_pending]

@[simp] theorem keyEnter_pending (s : State) : s.keyEnter.pending = s.pending := by
  simp [State.keyEnter]

@[simp] theorem keepsQueue_execKeyAccept (key : Nat) (s : State) : KeepsQueue s (execKeyAccept key s) := by
  simp [execKeyAccept]

@[simp] theorem keepsQueue_execKeypadEntryTimeout (s : State) : KeepsQueue s (execKeypadEntryTimeout s) := by
  simp [execKeypadEntryTimeout]

@[simp] theorem keepsQueue_execOutletSelectExpiry (s : State) : KeepsQueue s (execOutletSelectExpiry s) := by
  simp [execOutletSelectExpiry]

@[simp] theorem keepsQueue_execKeypadLockoutEnd (s : State) : KeepsQueue s (execKeypadLockoutEnd s) := by
  simp [execKeypadLockoutEnd]

@[simp] theorem keepsQueue_execKeypadQuietWake (s : State) : KeepsQueue s (execKeypadQuietWake s) := by
  simp [execKeypadQuietWake]

@[simp] theorem keepsQueue_execCreditAccountSet (q : Req) (s : State) : KeepsQueue s (execCreditAccountSet q s) := by
  simp [execCreditAccountSet]

@[simp] theorem keepsQueue_execCreditAccountGet (q : Req) (s : State) : KeepsQueue s (execCreditAccountGet q s) := by
  simp [execCreditAccountGet]

@[simp] theorem keepsQueue_execCreditAdjust (q : Req) (s : State) : KeepsQueue s (execCreditAdjust q s) := by
  simp [execCreditAdjust]

@[simp] theorem keepsQueue_execCreditBind (q : Req) (s : State) : KeepsQueue s (execCreditBind q s) := by
  simp [execCreditBind]

@[simp] theorem keepsQueue_execCreditConfigSet (q : Req) (s : State) : KeepsQueue s (execCreditConfigSet q s) := by
  simp [execCreditConfigSet]

@[simp] theorem keepsQueue_execCreditConfigGet (q : Req) (s : State) : KeepsQueue s (execCreditConfigGet q s) := by
  simp [execCreditConfigGet]

@[simp] theorem keepsQueue_execVoucherEnter (q : Req) (s : State) : KeepsQueue s (execVoucherEnter q s) := by
  grind [execVoucherEnter, keepsQueue_mail, enterVoucher_pending, wait_pending, no_pending, ok_pending, draw_pending]

@[simp] theorem keepsQueue_execVoucherStatus (q : Req) (s : State) : KeepsQueue s (execVoucherStatus q s) := by
  simp [execVoucherStatus]

/-! ### The DLMS server -/

@[simp] theorem keepsQueue_apdu {s : State} {i : Instr} {f : State → State} (hf : (f s).pending = s.pending) :
    KeepsQueue s (s.apdu i f) := by
  simp [State.apdu, hf]

@[simp] theorem evtAssoc_pending (s : State) (ev client server transport channel : Nat) :
    (s.evtAssoc ev client server transport channel).pending = s.pending := by
  simp [State.evtAssoc]

@[simp] theorem evtSecurity_pending (s : State) (kind client : Nat) : (s.evtSecurity kind client).pending = s.pending := by
  simp [State.evtSecurity]

@[simp] theorem rejectAarq_pending (s : State) (client server transport channel result : Nat) :
    (s.rejectAarq client server transport channel result).pending = s.pending := by
  simp [State.rejectAarq]

@[simp] theorem aarq_pending (s : State) (client server transport channel : Nat) (hls : Hls) :
    (s.aarq client server transport channel hls).pending = s.pending := by
  simp [State.aarq]
  split <;> simp

@[simp] theorem keepsQueue_execDlmsAarq (client server transport channel : Nat) (h : Hls) (s : State) :
    KeepsQueue s (execDlmsAarq client server transport channel h s) := by
  simp [execDlmsAarq]

@[simp] theorem endAssoc_pending (s : State) (a ev : Nat) : (s.endAssoc a ev).pending = s.pending := by
  unfold State.endAssoc
  split <;> simp

@[simp] theorem keepsQueue_execDlmsRlrq (a : Nat) (s : State) : KeepsQueue s (execDlmsRlrq a s) := by
  refine keepsQueue_apdu ?_
  split <;> simp

@[simp] theorem dlRevoked_pending (s : State) (n : Nat) : (s.dlRevoked n).pending = s.pending := by
  simp [State.dlRevoked]

@[simp] theorem keepsQueue_execDlmsIdleRelease (a : Nat) (s : State) : KeepsQueue s (execDlmsIdleRelease a s) := by
  simp [execDlmsIdleRelease]

@[simp] theorem keepsQueue_execDlmsLockoutEnd (client : Nat) (s : State) : KeepsQueue s (execDlmsLockoutEnd client s) := by
  unfold execDlmsLockoutEnd
  split <;> simp

/-- A request that the server serves keeps the queue where what serves it does. -/
@[simp] theorem request_pending {s : State} {a prot ivc : Nat} {f : Nat → Assoc → State → State}
    (hf : ∀ r x s, (f r x s).pending = s.pending) : (s.request a prot ivc f).pending = s.pending := by
  unfold State.request
  split
  · split <;> simp
  · simp [hf]

@[simp] theorem answer_pending (s : State) (x : Assoc) (result : Nat) (vals : List Int) :
    (s.answer x result vals).pending = s.pending := by
  simp [State.answer]

@[simp] theorem commitIvc_pending (s : State) (x : Assoc) : (s.commitIvc x).pending = s.pending := by
  simp [State.commitIvc]

@[simp] theorem setBlocks_pending (s : State) (a n : Nat) (l : List Bytes) : (s.setBlocks a n l).pending = s.pending := by
  simp [State.setBlocks]

@[simp] theorem answerAll_pending (s : State) (a : Nat) (x : Assoc) (l : List (Nat × List Int)) :
    (s.answerAll a x l).pending = s.pending := by
  simp [State.answerAll]

@[simp] theorem nextBlock_pending (s : State) (a : Nat) (x : Assoc) (n : Nat) : (s.nextBlock a x n).pending = s.pending := by
  unfold State.nextBlock
  split <;> simp

@[simp] theorem keepsQueue_execDlmsGet (a : Nat) (g : DlGet) (prot ivc : Nat) (s : State) :
    KeepsQueue s (execDlmsGet a g prot ivc s) := by
  refine keepsQueue_apdu (request_pending fun r x s => ?_)
  split <;> simp

@[simp] theorem dlSet_pending (s : State) (a : Nat) (x : Assoc) (ic ob attr : Nat) (val : Bytes) :
    (s.dlSet a x ic ob attr val).2.pending = s.pending := by
  unfold State.dlSet
  split <;> simp

@[simp] theorem dlSets_pending (s : State) (a r : Nat) (x : Assoc) (l : List DlWrite) : (s.dlSets a r x l).2.pending = s.pending := by
  refine foldl_snd_pending (fun y w => ?_) l _
  dsimp only
  split
  · rfl
  · split <;> simp

@[simp] theorem keepsQueue_execDlmsSet (a : Nat) (l : List DlWrite) (prot ivc : Nat) (s : State) :
    KeepsQueue s (execDlmsSet a l prot ivc s) := by
  simp [execDlmsSet]

@[simp] theorem dlAct_pending (s : State) (x : Assoc) (ic ob method : Nat) (val : Bytes) :
    (s.dlAct x ic ob method val).2.pending = s.pending := by
  unfold State.dlAct
  dsimp only
  split
  · simp
  · split
    · rfl
    · split
      · simp
      · split <;> simp
  · simp
    intros
    split <;> simp
  all_goals simp

@[simp] theorem keepsQueue_execDlmsAction (a ic ob method : Nat) (val : Bytes) (prot ivc : Nat) (s : State) :
    KeepsQueue s (execDlmsAction a ic ob method val prot ivc s) := by
  refine keepsQueue_apdu (request_pending fun r x s => ?_)
  split <;> simp

@[simp] theorem keepsQueue_execDlmsTunnel (q : Req) (s : State) : KeepsQueue s (execDlmsTunnel q s) := by
  simp [execDlmsTunnel]

@[simp] theorem keepsQueue_execDlmsConfigSet (q : Req) (s : State) : KeepsQueue s (execDlmsConfigSet q s) := by
  simp [execDlmsConfigSet]

@[simp] theorem keepsQueue_execDlmsConfigGet (q : Req) (s : State) : KeepsQueue s (execDlmsConfigGet q s) := by
  simp [execDlmsConfigGet]

@[simp] theorem keepsQueue_execDlmsAssocList (q : Req) (s : State) : KeepsQueue s (execDlmsAssocList q s) := by
  simp [execDlmsAssocList]

@[simp] theorem keepsQueue_execDlmsAssocAbort (q : Req) (s : State) : KeepsQueue s (execDlmsAssocAbort q s) := by
  simp [execDlmsAssocAbort]

/-! ### Maintenance -/

@[simp] theorem evtMaint_pending (s : State) (a : MaAct) (st : Nat) : (s.evtMaint a st).pending = s.pending := by
  simp [State.evtMaint]

@[simp] theorem maBegin_pending (s : State) (a : MaAct) : (s.maBegin a).pending = s.pending := by
  simp [State.maBegin]

@[simp] theorem maReply_pending (s : State) (a : MaAct) (status : Nat) (head data : Bytes) :
    (s.maReply a status head data).pending = s.pending := by
  unfold State.maReply
  split <;> simp

@[simp] theorem maFinish_pending (s : State) (a : MaAct) (result cause : Nat) (data : Bytes) :
    (s.maFinish a result cause data).pending = s.pending := by
  simp [State.maFinish]

@[simp] theorem maReject_pending (s : State) (a : MaAct) (status : Nat) : (s.maReject a status).pending = s.pending := by
  simp [State.maReject]

@[simp] theorem maAbortAll_pending (s : State) (cause : Nat) (l : List MaAct) : (s.maAbortAll cause l).pending = s.pending := by
  induction l generalizing s cause with
  | nil => rfl
  | cons a l ih => simp [State.maAbortAll, ih]

@[simp] theorem maTerms_pending (s : State) (l : List (Nat × Int × Int)) : (s.maTerms l).pending = s.pending := by
  induction l generalizing s with
  | nil => rfl
  | cons a l ih => simp [State.maTerms, ih]

@[simp] theorem maEffect_pending (s : State) (a : MaAct) (m : MaMeas) : (s.maEffect a m).pending = s.pending := by
  unfold State.maEffect
  split
  · split <;> simp
  all_goals simp

@[simp] theorem keepsQueue_execMaActivityEnd (tag : Nat) (m : MaMeas) (s : State) : KeepsQueue s (execMaActivityEnd tag m s) := by
  unfold execMaActivityEnd
  split
  · simp
  · split <;> simp

@[simp] theorem keepsQueue_execMaActivityStart (s : State) : KeepsQueue s (execMaActivityStart s) := by
  unfold execMaActivityStart
  split
  · simp
  · split <;> simp

@[simp] theorem keepsQueue_execMaQueueTimeout (tag : Nat) (s : State) : KeepsQueue s (execMaQueueTimeout tag s) := by
  unfold execMaQueueTimeout
  split <;> simp

@[simp] theorem keepsQueue_execMaStart (q : Req) (s : State) : KeepsQueue s (execMaStart q s) := by
  unfold execMaStart
  dsimp only
  split <;> simp

@[simp] theorem keepsQueue_execMaAbort (q : Req) (s : State) : KeepsQueue s (execMaAbort q s) := by
  refine keepsQueue_mail ?_
  split <;> simp

@[simp] theorem maEntries_pending (s : State) (l : List MaAct) : (s.maEntries l).2.pending = s.pending := by
  induction l generalizing s with
  | nil => rfl
  | cons a l ih => simp [State.maEntries, ih]

@[simp] theorem keepsQueue_execMaStatus (q : Req) (s : State) : KeepsQueue s (execMaStatus q s) := by
  simp [execMaStatus]

/-! ### Keys -/

@[simp] theorem modKey_pending (s : State) (f : Keys → Keys) : (s.modKey f).pending = s.pending := by
  simp [State.modKey]

@[simp] theorem evtKey_pending (s : State) (n kind root : Nat) : (s.evtKey n kind root).pending = s.pending := by
  simp [State.evtKey]

@[simp] theorem keyRevoked_pending (s : State) (n : Nat) : (s.keyRevoked n).pending = s.pending := by
  simp [State.keyRevoked]

@[simp] theorem revokeSlot_pending (s : State) (n : Nat) : (s.revokeSlot n).pending = s.pending := by
  simp [State.revokeSlot]

@[simp] theorem revokeTree_pending (s : State) (n kind : Nat) : (s.revokeTree n kind).pending = s.pending := by
  simp [State.revokeTree]

@[simp] theorem keyCommit_pending (s : State) : s.keyCommit.pending = s.pending := by
  simp [State.keyCommit]

@[simp] theorem revokeQuiet_pending (s : State) (n : Nat) (l : List Nat) : (s.revokeQuiet n l).pending = s.pending := by
  simp [State.revokeQuiet]

@[simp] theorem installKey_pending (s : State) (n kind : Nat) (x : Slot) : (s.installKey n kind x).pending = s.pending := by
  simp [State.installKey]

@[simp] theorem applyKeyMsg_pending (s : State) (m : KeyMsg) (mat : Bytes) (tag : Nat) :
    (s.applyKeyMsg m mat tag).pending = s.pending := by
  unfold State.applyKeyMsg
  split <;> simp

@[simp] theorem keepsQueue_execKeyUpdate (q : Req) (s : State) : KeepsQueue s (execKeyUpdate q s) := by
  unfold execKeyUpdate
  refine keepsQueue_mailQ ?_
  simp
  intros
  split <;> simp

@[simp] theorem keepsQueue_execKeyInfo (q : Req) (s : State) : KeepsQueue s (execKeyInfo q s) := by
  simp [execKeyInfo]

@[simp] theorem keepsQueue_execKeyDerive (q : Req) (s : State) : KeepsQueue s (execKeyDerive q s) := by
  grind [execKeyDerive, keepsQueue_mail, no_pending, openGates_pending, installKey_pending, ok_pending, effect_pending,
    keyCommit_pending]

@[simp] theorem keepsQueue_execKeyRevoke (q : Req) (s : State) : KeepsQueue s (execKeyRevoke q s) := by
  simp [execKeyRevoke]

@[simp] theorem keepsQueue_execKeyPublicRead (q : Req) (s : State) : KeepsQueue s (execKeyPublicRead q s) := by
  simp [execKeyPublicRead]

@[simp] theorem keepsQueue_execKeyStatus (q : Req) (s : State) : KeepsQueue s (execKeyStatus q s) := by
  simp [execKeyStatus]

@[simp] theorem keepsQueue_execTrngHealthFail (again : Bool) (test : Nat) (s : State) :
    KeepsQueue s (execTrngHealthFail again test s) := by
  simp [execTrngHealthFail]

@[simp] theorem remask_pending (s : State) (l : List Nat) : (s.remask l).pending = s.pending := by
  induction l generalizing s with
  | nil => rfl
  | cons a l ih => simp [State.remask, ih]

@[simp] theorem keepsQueue_execKeyRemask (s : State) : KeepsQueue s (execKeyRemask s) := by
  simp [execKeyRemask]

/-! ### The replay of the ledger -/

@[simp] theorem gapRecs_pending (s : State) (m o : Option Bank) : (s.gapRecs m o).1.pending = s.pending := by
  unfold State.gapRecs
  extract_lets cut rec_
  split
  · rfl
  · split
    · rfl
    · extract_lets dt one
      refine foldl_fst_pending (fun x k => ?_) _ _
      simp only [one]
      split <;> simp

@[simp] theorem evtGap_pending (s : State) (recs : List LRec) : (s.evtGap recs).pending = s.pending := by
  unfold State.evtGap
  split <;> simp

@[simp] theorem chainBreak_pending (s : State) (brk : Nat) : (s.chainBreak brk).pending = s.pending := by
  simp [State.chainBreak]

@[simp] theorem reread_pending (s : State) (gen : Nat) : (s.reread gen).pending = s.pending := by
  simp [State.reread]

@[simp] theorem loadLedger_pending (s : State) (l : List LRec) : (s.loadLedger l).pending = s.pending := by
  simp [State.loadLedger]

@[simp] theorem closeOpen_pending (s : State) (fin : Nat) : (s.closeOpen fin).pending = s.pending := by
  simp [State.closeOpen]

@[simp] theorem replayPlan_pending (s : State) (p : BPlan) : (s.replayPlan p).1.pending = s.pending := by
  simp [State.replayPlan]

@[simp] theorem planEvents_pending (s : State) (p : Option BPlan) (src gen : Nat) : (s.planEvents p src gen).pending = s.pending := by
  unfold State.planEvents
  split <;> simp

@[simp] theorem loadAccumulators_pending (s : State) (lseq newest : Nat) : (s.loadAccumulators lseq newest).pending = s.pending := by
  simp [State.loadAccumulators]

@[simp] theorem replayEnd_pending (s : State) (newest : Option LRec) (p1 : Option BPlan) (src1 : Nat) (recs : List LRec)
    (segs : List (List (List Nat) × Nat)) (v : List (List Nat)) (lseq fin : Nat) :
    (s.replayEnd newest p1 src1 recs segs v lseq fin).pending = s.pending := by
  unfold State.replayEnd
  simp
  split <;> simp

@[simp] theorem replay_pending (s : State) (brk : Nat) : (s.replay brk).pending = s.pending := by
  simp [State.replay]
  split <;> simp

@[simp] theorem firstLoad_pending (s : State) : s.firstLoad.pending = s.pending := by
  simp [State.firstLoad]

@[simp] theorem replayAll_pending (s : State) (brk : Nat) : (s.replayAll brk).pending = s.pending := by
  simp [State.replayAll]

@[simp] theorem outageRecord_pending (s : State) : s.outageRecord.pending = s.pending := by
  unfold State.outageRecord
  split <;> simp

/-! ### The start -/

@[simp] theorem run_pending {b : Boot} {k : Nat} {f : Boot → StepEnd} (hf : ∀ b, (f b).st.pending = b.st.pending) :
    (b.run k f).st.pending = b.st.pending := by
  unfold Boot.run
  split <;> simp [hf]

@[simp] theorem mandatoryEnd_pending (s : State) : (mandatoryEnd s).st.pending = s.pending := by
  simp [mandatoryEnd]

@[simp] theorem stepRails_pending (b : Boot) : (stepRails b).st.pending = b.st.pending := by
  simp [stepRails]

@[simp] theorem stepRc_pending (b : Boot) : (stepRc b).st.pending = b.st.pending := by
  simp [stepRc]

@[simp] theorem stepXtal_pending (b : Boot) : (stepXtal b).st.pending = b.st.pending := by
  simp [stepXtal]

@[simp] theorem stepPlls_pending (b : Boot) : (stepPlls b).st.pending = b.st.pending := by
  simp [stepPlls]

@[simp] theorem stepLpddr_pending (b : Boot) : (stepLpddr b).st.pending = b.st.pending := by
  simp [stepLpddr]

@[simp] theorem stepMount_pending (b : Boot) : (stepMount b).st.pending = b.st.pending := by
  simp [stepMount]

@[simp] theorem stepImage_pending (b : Boot) : (stepImage b).st.pending = b.st.pending := by
  simp [stepImage]

@[simp] theorem stepKeys_pending (b : Boot) : (stepKeys b).st.pending = b.st.pending := by
  simp [stepKeys]
  split <;> simp

@[simp] theorem stepSafe_pending (b : Boot) : (stepSafe b).st.pending = b.st.pending := by
  simp [stepSafe]

@[simp] theorem takeCal_pending (s : State) (c : CalCopy) : (s.takeCal c).pending = s.pending := by
  simp [State.takeCal]

@[simp] theorem stepCal_pending (b : Boot) : (stepCal b).st.pending = b.st.pending := by
  simp [stepCal]

@[simp] theorem stepPilot_pending (b : Boot) : (stepPilot b).st.pending = b.st.pending := by
  simp [stepPilot]

@[simp] theorem stepLedger_pending (b : Boot) : (stepLedger b).st.pending = b.st.pending := by
  simp [stepLedger]

@[simp] theorem stepPhy_pending (b : Boot) : (stepPhy b).st.pending = b.st.pending := by
  simp [stepPhy]

@[simp] theorem stepModem_pending (b : Boot) : (stepModem b).st.pending = b.st.pending := by
  simp [stepModem]

@[simp] theorem stepField_pending (b : Boot) : (stepField b).st.pending = b.st.pending := by
  simp [stepField]

@[simp] theorem latchPowerFail_pending (s : State) : s.latchPowerFail.pending = s.pending := by
  unfold State.latchPowerFail
  dsimp only
  split <;> simp

@[simp] theorem keepOut_pending (s : State) (l : List ONum) : (s.keepOut l).pending = s.pending := by
  induction l generalizing s with
  | nil => rfl
  | cons a l ih => simp [State.keepOut, ih]

@[simp] theorem testAll_pending (s : State) (l : List (RcdMeas × RcdMeas)) : (s.testAll l).pending = s.pending := by
  simp [State.testAll]

@[simp] theorem started15_pending (s : State) (gap boundary : Bool) : (s.started15 gap boundary).pending = s.pending := by
  simp [State.started15]

@[simp] theorem enterRom_pending (s : State) (noSeal : Bool) : (s.enterRom noSeal).pending = s.pending := by
  simp [State.enterRom]

@[simp] theorem beginStart_pending (s : State) (cause : Nat) (svcboot : Bool) : (s.beginStart cause svcboot).pending = s.pending := by
  simp [State.beginStart]

@[simp] theorem start_pending (s : State) (cause : Nat) (r : StartInput) : (s.start cause r).pending = s.pending := by
  simp [State.start]
  split <;> simp

@[simp] theorem keepsQueue_execStartSequence (r : StartInput) (s : State) : KeepsQueue s (execStartSequence r s) := by
  unfold execStartSequence
  split <;> simp

/-! ### Firmware -/

@[simp] theorem evtStage_pending (s : State) (st vstep route : Nat) : (s.evtStage st vstep route).pending = s.pending := by
  simp [State.evtStage]

@[simp] theorem stageBegin_pending (s : State) (route total : Nat) : (s.stageBegin route total).2.pending = s.pending := by
  simp [State.stageBegin]

@[simp] theorem stageData_pending (s : State) (route off : Nat) (d : Bytes) : (s.stageData route off d).2.pending = s.pending := by
  unfold State.stageData
  split <;> simp

@[simp] theorem stageVerify_pending (s : State) (route : Nat) (tag : Option Nat) :
    (s.stageVerify route tag).2.pending = s.pending := by
  unfold State.stageVerify
  split <;> simp

@[simp] theorem verified_pending (s : State) (x : FwRx) : (s.verified x).2.2.pending = s.pending := by
  simp [State.verified]

@[simp] theorem stageAbort_pending (s : State) (route : Nat) : (s.stageAbort route).2.pending = s.pending := by
  grind [State.stageAbort, evtStage_pending, finish_pending]

@[simp] theorem activate_pending (s : State) (route : Nat) : (s.activate route).pending = s.pending := by
  simp [State.activate]

@[simp] theorem keepsQueue_execFwStatus (q : Req) (s : State) : KeepsQueue s (execFwStatus q s) := by
  simp [execFwStatus]

@[simp] theorem keepsQueue_execFwStageBegin (q : Req) (s : State) : KeepsQueue s (execFwStageBegin q s) := by
  simp [execFwStageBegin]

@[simp] theorem keepsQueue_execFwStageData (q : Req) (s : State) : KeepsQueue s (execFwStageData q s) := by
  simp [execFwStageData]

@[simp] theorem keepsQueue_execFwStageVerify (q : Req) (s : State) : KeepsQueue s (execFwStageVerify q s) := by
  simp [execFwStageVerify]

@[simp] theorem keepsQueue_execFwVerifyDone (s : State) : KeepsQueue s (execFwVerifyDone s) := by
  unfold execFwVerifyDone
  split
  · simp
  · split <;> simp

@[simp] theorem keepsQueue_execFwActivate (q : Req) (s : State) : KeepsQueue s (execFwActivate q s) := by
  unfold execFwActivate
  extract_lets c
  split
  · simp
  · refine keepsQueue_mail ?_
    split <;> simp

@[simp] theorem keepsQueue_execFwStageAbort (q : Req) (s : State) : KeepsQueue s (execFwStageAbort q s) := by
  simp [execFwStageAbort]

@[simp] theorem keepsQueue_execStagingTimeout (s : State) : KeepsQueue s (execStagingTimeout s) := by
  unfold execStagingTimeout
  split <;> simp

@[simp] theorem keepsQueue_execHandoverRestart (s : State) : KeepsQueue s (execHandoverRestart s) := by
  unfold execHandoverRestart
  split <;> simp

@[simp] theorem keepsQueue_execImageCopyDone (copyok loadok : Bool) (s : State) :
    KeepsQueue s (execImageCopyDone copyok loadok s) := by
  unfold execImageCopyDone
  split <;> simp

@[simp] theorem keepsQueue_execHandoverRollback (step : Nat) (s : State) : KeepsQueue s (execHandoverRollback step s) := by
  unfold execHandoverRollback
  split <;> simp

@[simp] theorem takeSlot_pending (s : State) : s.takeSlot.pending = s.pending := by
  simp [State.takeSlot]

@[simp] theorem evtHandover_pending (s : State) (pause : Nat) : (s.evtHandover pause).pending = s.pending := by
  simp [State.evtHandover]

@[simp] theorem applyFwActs_pending (s : State) (l : List FwAct) : (s.applyFwActs l).pending = s.pending := by
  induction l generalizing s with
  | nil => rfl
  | cons a l ih => simp [State.applyFwActs, ih]

@[simp] theorem catchPilots_pending (s : State) (l : List ONum) : (s.catchPilots l).pending = s.pending := by
  induction l generalizing s with
  | nil => rfl
  | cons a l ih => simp [State.catchPilots, ih]

@[simp] theorem endExport_pending (s : State) : s.endExport.pending = s.pending := by
  unfold State.endExport
  split <;> simp

@[simp] theorem resume_pending (s : State) (h : Handover) (dropped : List Nat) : (s.resume h dropped).pending = s.pending := by
  unfold State.resume
  split <;> simp

@[simp] theorem svcReply_pending (s : State) (seq status : Nat) (payload : Bytes) :
    (s.svcReply seq status payload).pending = s.pending := by
  simp [State.svcReply]

@[simp] theorem keepsQueue_execSvcFrame (b : Bytes) (s : State) : KeepsQueue s (execSvcFrame b s) := by
  simp [execSvcFrame]

@[simp] theorem svcRun_pending {s : State} {cmd : Nat} {payload : Bytes} {f : State → Nat × Bytes × State}
    (hf : (f s).2.2.pending = s.pending) : (s.svcRun cmd payload f).pending = s.pending := by
  unfold State.svcRun
  split
  · rfl
  · simp [hf]

@[simp] theorem keepsQueue_execSvcInfo (s : State) : KeepsQueue s (execSvcInfo s) := by
  simp [execSvcInfo]

@[simp] theorem keepsQueue_execSvcStageBegin (total : Nat) (s : State) : KeepsQueue s (execSvcStageBegin total s) := by
  simp [execSvcStageBegin]

@[simp] theorem keepsQueue_execSvcStageData (offset : Nat) (data : Bytes) (s : State) :
    KeepsQueue s (execSvcStageData offset data s) := by
  simp [execSvcStageData]

@[simp] theorem keepsQueue_execSvcVerify (s : State) : KeepsQueue s (execSvcVerify s) := by
  refine keepsQueue_next.mpr (svcRun_pending ?_)
  split <;> simp

@[simp] theorem install_pending (s : State) (slots : Nat) : (s.install slots).2.pending = s.pending := by
  simp [State.install]
  split <;> simp

@[simp] theorem keepsQueue_execSvcActivate (slots : Nat) (s : State) : KeepsQueue s (execSvcActivate slots s) := by
  unfold execSvcActivate
  refine keepsQueue_next.mpr ?_
  dsimp only
  split
  · rfl
  · refine svcRun_pending ?_
    split
    · split <;> simp
    · split
      · rfl
      · split <;> simp

@[simp] theorem keepsQueue_execSvcAbort (s : State) : KeepsQueue s (execSvcAbort s) := by
  simp [execSvcAbort]

@[simp] theorem keepsQueue_execSvcExit (s : State) : KeepsQueue s (execSvcExit s) := by
  simp [execSvcExit]

/-! ### Rings -/

@[simp] theorem ringCfgWrite_pending (s : State) (n : PNum) (v : Nat) : (ringCfgWrite s n v).pending = s.pending := by
  simp [ringCfgWrite]

@[simp] theorem ringBaseWrite_pending (s : State) (n : PNum) (v : Nat) : (ringBaseWrite s n v).pending = s.pending := by
  simp [ringBaseWrite]

@[simp] theorem doorbell_pending (s : State) (n : PNum) (v : Nat) : (doorbell s n v).pending = s.pending := by
  simp [doorbell]

@[simp] theorem headWrite_pending (s : State) (n : PNum) (v : Nat) : (headWrite s n v).pending = s.pending := by
  simp [headWrite]

@[simp] theorem ringWrite_pending (s : State) (off v : Nat) : (ringWrite s off v).pending = s.pending := by
  simp [ringWrite]
  split <;> simp

@[simp] theorem parityRetries_pending (s : State) (n : PNum) (par l : List Nat) : (parityRetries s n par l).pending = s.pending := by
  induction l generalizing s n par with
  | nil => rfl
  | cons a l ih => simp [parityRetries, ih]

@[simp] theorem fetch_pending (s : State) (n : PNum) (par : List Nat) : (fetch s n par).pending = s.pending := by
  unfold fetch
  dsimp only
  split
  · rfl
  · split
    · simp
    · split <;> simp

@[simp] theorem drainHeld_pending (s : State) (n : PNum) (k : Nat) : (drainHeld s n k).pending = s.pending := by
  induction k generalizing s n with
  | zero => rfl
  | succ k ih =>
    rw [drainHeld]
    split <;> simp [ih]

@[simp] theorem drainEnd_pending (s : State) (n : PNum) : (drainEnd s n).pending = s.pending := by
  simp [drainEnd]

@[simp] theorem keepsQueue_execPairDrainEnd (n : PNum) (s : State) : KeepsQueue s (execPairDrainEnd n s) := by
  simp [execPairDrainEnd]

@[simp] theorem keepsQueue_execSubmissionFetch (n : PNum) (par : List Nat) (s : State) :
    KeepsQueue s (execSubmissionFetch n par s) := by
  simp [execSubmissionFetch]

@[simp] theorem keepsQueue_execEventQueueDrain (n : PNum) (s : State) : KeepsQueue s (execEventQueueDrain n s) := by
  simp [execEventQueueDrain]

/-! ### System commands -/

@[simp] theorem keepsQueue_execSysVersion (q : Req) (s : State) : KeepsQueue s (execSysVersion q s) := by
  simp [execSysVersion]

@[simp] theorem keepsQueue_execSysIdentity (q : Req) (s : State) : KeepsQueue s (execSysIdentity q s) := by
  simp [execSysIdentity]

@[simp] theorem keepsQueue_execSysSeqQuery (q : Req) (s : State) : KeepsQueue s (execSysSeqQuery q s) := by
  simp [execSysSeqQuery]

@[simp] theorem keepsQueue_execSysLoopback (q : Req) (s : State) : KeepsQueue s (execSysLoopback q s) := by
  unfold execSysLoopback
  split <;> simp

@[simp] theorem remap_pending (s : State) : s.remap.pending = s.pending := by
  simp [State.remap]

@[simp] theorem sevPut_pending (s : State) (m v : Nat) : (s.sevPut m v).pending = s.pending := by
  simp [State.sevPut]

@[simp] theorem tmrPut_pending (s : State) (addr v : Nat) : (s.tmrPut addr v).pending = s.pending := by
  simp [State.tmrPut]

@[simp] theorem tmrFollow_pending (s was : State) (addr : Nat) : (s.tmrFollow was addr).pending = s.pending := by
  simp [State.tmrFollow]

@[simp] theorem scrubFields_pending (s : State) (addr : Nat) : (s.scrubFields addr).pending = s.pending := by
  unfold State.scrubFields
  split <;> simp

@[simp] theorem reloadImage_pending (s : State) : s.reloadImage.pending = s.pending := by
  unfold State.reloadImage
  split <;> simp

@[simp] theorem strike_pending (s : State) (addr : Nat) (x : List Nat) : (s.strike addr x).pending = s.pending := by
  simp [State.strike]

@[simp] theorem keepsQueue_execTmrScrub (addr : Nat) (x : List Nat) (s : State) : KeepsQueue s (execTmrScrub addr x s) := by
  simp [execTmrScrub]

@[simp] theorem proto_pending (s : State) (cause addr : Nat) : (s.proto cause addr).pending = s.pending := by
  simp [State.proto]

@[simp] theorem postStr_pending (s : State) (addr v : Nat) : (s.postStr addr v).pending = s.pending := by
  simp [State.postStr]

@[simp] theorem keepsQueue_execStrPostComplete (s : State) : KeepsQueue s (execStrPostComplete s) := by
  unfold execStrPostComplete
  split <;> simp

/-! ### The host port -/

@[simp] theorem hpcWrite_pending (s : State) (off v : Nat) : (s.hpcWrite off v).pending = s.pending := by
  unfold State.hpcWrite
  split <;> simp

@[simp] theorem clkWrite_pending (s : State) (off v : Nat) : (s.clkWrite off v).pending = s.pending := by
  unfold State.clkWrite
  split <;> simp

@[simp] theorem lswWrite_pending (s : State) (off v : Nat) : (s.lswWrite off v).pending = s.pending := by
  unfold State.lswWrite
  split <;> simp

@[simp] theorem regWrite_pending (s : State) (addr v : Nat) : (s.regWrite addr v).pending = s.pending := by
  simp [State.regWrite]
  split <;> simp

@[simp] theorem readWord_pending (s : State) (addr : Nat) : (s.readWord addr).2.pending = s.pending := by
  simp [State.readWord]

@[simp] theorem writeWord_pending (s : State) (addr v : Nat) : (s.writeWord addr v).pending = s.pending := by
  simp [State.writeWord]

@[simp] theorem readWords_pending (s : State) (ahead : Option Nat) (k k' : Nat) : (s.readWords ahead k k').pending = s.pending := by
  induction k generalizing s ahead k' with
  | zero => rfl
  | succ k ih => simp [State.readWords, ih]

@[simp] theorem keepsQueue_writeWords {s s' : State} (l : List Nat) (k : Nat) (h : s'.pending = s.pending) :
    KeepsQueue s (s'.writeWords l k) := by
  induction l generalizing s' k with
  | nil => simp [State.writeWords, h]
  | cons v l ih => simp [State.writeWords, h, ih]

@[simp] theorem keepsQueue_goOn {s s' : State} (x : Xact) (b : Bool) (h : s'.pending = s.pending) : KeepsQueue s (s'.goOn x b) := by
  simp [State.goOn, h]

@[simp] theorem closeWaiting_pending (s : State) : s.closeWaiting.pending = s.pending := by
  simp [State.closeWaiting]

@[simp] theorem windowReads_pending (s : State) (off i k : Nat) : (s.windowReads off i k).pending = s.pending := by
  induction k generalizing s off i with
  | zero => rfl
  | succ k ih => simp [State.windowReads, ih]

@[simp] theorem windowWrites_pending (s : State) (off i : Nat) (l : List Nat) : (s.windowWrites off i l).pending = s.pending := by
  induction l generalizing s off i with
  | nil => rfl
  | cons a l ih => simp [State.windowWrites, ih]

@[simp] theorem keepsQueue_execHostTransaction (cmd : Nat) (addr : List Nat) (wr : List (List Nat)) (nrd : Nat) (s : State) :
    KeepsQueue s (execHostTransaction cmd addr wr nrd s) := by
  simp [execHostTransaction]

@[simp] theorem keepsQueue_serveWord {s s' : State} (x : Xact) (h : s'.pending = s.pending) : KeepsQueue s (s'.serveWord x) := by
  simp [State.serveWord, h]

@[simp] theorem keepsQueue_execIslandCrossingDone (s : State) : KeepsQueue s (execIslandCrossingDone s) := by
  unfold execIslandCrossingDone
  split <;> simp

@[simp] theorem keepsQueue_serveHeld {s s' : State} (h : s'.pending = s.pending) : KeepsQueue s s'.serveHeld := by
  unfold State.serveHeld
  split <;> simp [h]

@[simp] theorem dropWord_pending (s : State) (x : Xact) : (s.dropWord x).pending = s.pending := by
  simp [State.dropWord]

@[simp] theorem keepsQueue_execStallLimit (s : State) : KeepsQueue s (execStallLimit s) := by
  unfold execStallLimit
  split <;> simp

@[simp] theorem keepsQueue_execGateForceClose (g : Nat) (s : State) : KeepsQueue s (execGateForceClose g s) := by
  unfold execGateForceClose
  split
  · simp
  · dsimp only
    split <;> simp

@[simp] theorem keepsQueue_execHcsRise (cut : Bool) (s : State) : KeepsQueue s (execHcsRise cut s) := by
  simp [execHcsRise]

@[simp] theorem keepsQueue_hostWrite {s s' : State} (addr v : Nat) (h : s'.pending = s.pending) :
    KeepsQueue s (s'.hostWrite addr v) := by
  simp [State.hostWrite, h]

@[simp] theorem keepsQueue_execRegisterWrite (addr v : Nat) (s : State) : KeepsQueue s (execRegisterWrite addr v s) := by
  simp [execRegisterWrite]

@[simp] theorem keepsQueue_execBnwOutletWrite (v : Nat) (s : State) : KeepsQueue s (execBnwOutletWrite v s) := by
  simp [execBnwOutletWrite]

@[simp] theorem keepsQueue_execDoorbellWrite (n : PNum) (t : Nat) (s : State) : KeepsQueue s (execDoorbellWrite n t s) := by
  simp [execDoorbellWrite]

@[simp] theorem keepsQueue_execCqHeadWrite (n : PNum) (h : Nat) (s : State) : KeepsQueue s (execCqHeadWrite n h s) := by
  simp [execCqHeadWrite]

@[simp] theorem keepsQueue_execRingCfgWrite (n : PNum) (base : Bool) (v : Nat) (s : State) :
    KeepsQueue s (execRingCfgWrite n base v s) := by
  simp [execRingCfgWrite]

@[simp] theorem keepsQueue_execFltUnreadAck (m v : Nat) (s : State) : KeepsQueue s (execFltUnreadAck m v s) := by
  simp [execFltUnreadAck]

@[simp] theorem keepsQueue_execFltForce (m v : Nat) (s : State) : KeepsQueue s (execFltForce m v s) := by
  simp [execFltForce]

@[simp] theorem keepsQueue_execFltSevWrite (m v : Nat) (s : State) : KeepsQueue s (execFltSevWrite m v s) := by
  simp [execFltSevWrite]

@[simp] theorem keepsQueue_execClkSelWrite (v : Nat) (s : State) : KeepsQueue s (execClkSelWrite v s) := by
  simp [execClkSelWrite]

@[simp] theorem keepsQueue_execClkForceWrite (v : Nat) (s : State) : KeepsQueue s (execClkForceWrite v s) := by
  simp [execClkForceWrite]

@[simp] theorem keepsQueue_execClkMeterStart (v : Nat) (s : State) : KeepsQueue s (execClkMeterStart v s) := by
  simp [execClkMeterStart]

@[simp] theorem keepsQueue_execClkGateWrite (v : Nat) (s : State) : KeepsQueue s (execClkGateWrite v s) := by
  simp [execClkGateWrite]

@[simp] theorem keepsQueue_execPwrPfCfgWrite (v : Nat) (s : State) : KeepsQueue s (execPwrPfCfgWrite v s) := by
  simp [execPwrPfCfgWrite]

@[simp] theorem keepsQueue_execStrRecover (s : State) : KeepsQueue s (execStrRecover s) := by
  simp [execStrRecover]

@[simp] theorem keepsQueue_execStrRetryPrimary (s : State) : KeepsQueue s (execStrRetryPrimary s) := by
  simp [execStrRetryPrimary]

@[simp] theorem keepsQueue_execTimeSnapWrite (v : Nat) (s : State) : KeepsQueue s (execTimeSnapWrite v s) := by
  simp [execTimeSnapWrite]

/-! ### Handover -/

@[simp] theorem keepsQueue_afterPause {s : State} {c : Bool} {f : State → State} (hf : (f s).pending = s.pending) :
    KeepsQueue s (s.afterPause c f) := by
  simp [State.afterPause, hf]

@[simp] theorem keepsQueue_execHandoverAccept (dropped : List Nat) (s : State) : KeepsQueue s (execHandoverAccept dropped s) := by
  unfold execHandoverAccept
  split <;> simp

@[simp] theorem keepsQueue_execPauseLimit (s : State) : KeepsQueue s (execPauseLimit s) := by
  simp [execPauseLimit]

/-! ### Every row -/

/-- No row touches the queue. -/
theorem keepsQueue_exec (c : Instr) (s : State) : KeepsQueue s (exec c s) := by
  unfold exec
  split <;> simp

end Sys2Proof.Machine

namespace Sys2Proof.Proofs

open Sys2Proof.Machine

/-- Settles O7: each row keeps the queue (`keepsQueue_exec`), since every operation that it is built of does. -/
theorem execKeepsQueue : Obligations.ExecKeepsQueue := fun c s t h => keepsQueue_exec c s t h

end Sys2Proof.Proofs
end
